-- ==== Sys2Proof/Word.lean ====
section
/-! DEFINITION. The octet of the two links. Every other quantity of the manual is an integer in a stated
unit (R1), so powers and temperatures are `Int`, energies, counts and minutes `Nat`. -/

namespace Sys2Proof

/-- One octet of a telegram or of a stored row (R202). -/
abbrev Byte := BitVec 8

end Sys2Proof
end

