-- ==== Sys2Proof/Machine/Codes.lean ====
section
/-! DEFINITION. The fixed codes of the telegrams: start byte, stations, kinds (R202) and MGMT operation codes
(R208). -/

namespace Sys2Proof.Machine

/-- The start byte A5h (R202). -/
def startByte : Byte := 0xA5
/-- The part's own station (00_scope.md, Placement and links). -/
def ownStation : Byte := 100
/-- The scheduler's station. -/
def schedulerStation : Byte := 102
/-- The aggregator's station. -/
def aggregatorStation : Byte := 103
/-- The operator's station. -/
def operatorStation : Byte := 105

/-! Kind codes, R202's second table. -/

def kindMeter : Byte := 0x10
def kindTime : Byte := 0x11
def kindSetreq : Byte := 0x20
def kindSetreqReply : Byte := 0x21
def kindDispatch : Byte := 0x30
def kindCancel : Byte := 0x31
def kindMgmt : Byte := 0x40
def kindMgmtReply : Byte := 0x41
def kindMaint : Byte := 0x50
def kindStatusFwd : Byte := 0x60
def kindReadiness : Byte := 0x61
def kindCapability : Byte := 0x62
def kindDispReply : Byte := 0x63
def kindOutcome : Byte := 0x64
def kindNotice : Byte := 0x65
def kindStorage : Byte := 0x66
def kindExchange : Byte := 0x70
def kindCurtail : Byte := 0x71
def kindPool : Byte := 0x72
def kindStatus : Byte := 0x80
def kindWait : Byte := 0x81
def kindPoolAck : Byte := 0x82

/-- Every kind code of R202, for the PASSAGE row check of R191. -/
def kindCodes : List Byte :=
  [kindMeter, kindTime, kindSetreq, kindSetreqReply, kindDispatch, kindCancel, kindMgmt, kindMgmtReply,
   kindMaint, kindStatusFwd, kindReadiness, kindCapability, kindDispReply, kindOutcome, kindNotice,
   kindStorage, kindExchange, kindCurtail, kindPool, kindStatus, kindWait, kindPoolAck]

/-! MGMT operation codes (R208). -/

def opStage : Byte := 1
def opCommit : Byte := 2
def opDiscard : Byte := 3
def opRead : Byte := 4
def opStatus : Byte := 5
def opLock : Byte := 6
def opRelease : Byte := 7
def opSetCode : Byte := 8
def opClearStatus : Byte := 9
def opWithdraw : Byte := 10
def opReturn : Byte := 11
def opSubstitute : Byte := 12
def opSeason : Byte := 13
def opRestart : Byte := 14

/-- Does R208 list the operation code? -/
def knownOp (op : Byte) : Bool := decide (1 ≤ op.toNat ∧ op.toNat ≤ 14)

/-- The confirm code of COMMIT, 5Ah (R190). -/
def confirmCommit : Byte := 0x5A
/-- The confirm code of RELEASE and RESTART, A5h (R194, R198). -/
def confirmA5 : Byte := 0xA5

/-- The longest payload a telegram may have (R202). -/
def maxPayload : Nat := 200

end Sys2Proof.Machine
end

