-- ==== Sys2Proof/Syntax.lean ====
section
/-! DEFINITION. The commands of the part: one constructor of `Instr` for each row of spec/opcode_table.json.
A command that is the arrival of a telegram carries the telegram's fields with its raw payload (R202, R205 to
R208), so that a payload that does not fit is a command too, and its owner's rule judges it. -/

namespace Sys2Proof

/-- A telegram that a framer has passed or that the part sends (R202), less its start byte, length and CRC,
which follow from these fields. -/
structure Telegram where
  dst     : Byte
  src     : Byte
  kind    : Byte
  seq     : Byte
  payload : List Byte
  deriving DecidableEq, Repr

/-- The two links (00_scope.md, Placement and links). -/
inductive LinkName where
  | site
  | yard
  deriving DecidableEq, Repr

/-- The commands, in the order of spec/opcode_table.json. `src` and `seq` are a telegram's source station and
sender's sequence; a telegram named by its row has that row's kind, and, when it is addressed to the part,
destination 100. `access` is the 8-byte access field of a MGMT and `fields` the bytes after it (R208). -/
inductive Instr where
  /-- POWER_ON (R200). -/
  | powerOn
  /-- END_OF_STARTING (R199). -/
  | endOfStarting
  /-- PART_RESTART (R198). -/
  | partRestart
  /-- FRAMER_DISCARD (R203): the bytes received on a link. -/
  | framerDiscard (link : LinkName) (bytes : List Byte)
  /-- SITE_TELEGRAM_DISCARDED (R171). -/
  | siteTelegramDiscarded (t : Telegram)
  /-- METER (R61). -/
  | meter (src seq : Byte) (payload : List Byte)
  /-- TIME (R80). -/
  | time (src seq : Byte) (payload : List Byte)
  /-- DISPATCH (R138). -/
  | dispatch (src seq : Byte) (payload : List Byte)
  /-- CANCEL (R150). -/
  | cancel (src seq : Byte) (payload : List Byte)
  /-- STAGE (R188). -/
  | stage (src seq : Byte) (access fields : List Byte)
  /-- COMMIT (R190). -/
  | commit (src seq : Byte) (access fields : List Byte)
  /-- DISCARD (R189). -/
  | discard (src seq : Byte) (access fields : List Byte)
  /-- READ (R196). -/
  | read (src seq : Byte) (access fields : List Byte)
  /-- STATUS (R196). -/
  | status (src seq : Byte) (access fields : List Byte)
  /-- LOCK (R194). -/
  | lock (src seq : Byte) (access fields : List Byte)
  /-- RELEASE (R194). -/
  | release (src seq : Byte) (access fields : List Byte)
  /-- SET_CODE (R195). -/
  | setCode (src seq : Byte) (access fields : List Byte)
  /-- CLEAR_STATUS (R196). -/
  | clearStatus (src seq : Byte) (access fields : List Byte)
  /-- WITHDRAW (R6). -/
  | withdraw (src seq : Byte) (access fields : List Byte)
  /-- RETURN (R6). -/
  | returnBus (src seq : Byte) (access fields : List Byte)
  /-- SUBSTITUTE (R99). -/
  | substitute (src seq : Byte) (access fields : List Byte)
  /-- SEASON (R197). -/
  | season (src seq : Byte) (access fields : List Byte)
  /-- RESTART (R198). -/
  | restart (src seq : Byte) (access fields : List Byte)
  /-- MGMT_UNKNOWN_OP (R187). -/
  | mgmtUnknownOp (src seq op : Byte) (access fields : List Byte)
  /-- PASS_THROUGH (R174). -/
  | passThrough (t : Telegram)
  /-- SETREQ (R175), with its destination station. -/
  | setreq (dst src seq : Byte) (payload : List Byte)
  /-- SITE_SEND_DONE (R181). -/
  | siteSendDone
  /-- SILENCE_TIMEOUT (R183). -/
  | silenceTimeout
  /-- ROUND_TIMER_EXPIRY (R27). -/
  | roundTimerExpiry
  /-- YARD_STATUS (R32). -/
  | yardStatus (src seq : Byte) (payload : List Byte)
  /-- EXCHANGE_WAIT (R37). -/
  | exchangeWait (src seq : Byte) (payload : List Byte)
  /-- WAIT_HOLD_OFF_EXPIRY (R37). -/
  | waitHoldOffExpiry
  /-- REPLY_TIMEOUT (R33). -/
  | replyTimeout
  /-- YARD_TELEGRAM_DISCARDED (R31). -/
  | yardTelegramDiscarded (t : Telegram)
  /-- CURTAIL_SENT (R41). -/
  | curtailSent
  /-- POOL_SENT (R54). -/
  | poolSent
  /-- POOL_ACK (R55). -/
  | poolAck (src seq : Byte) (payload : List Byte)
  /-- POOL_WAIT (R55). -/
  | poolWait (src seq : Byte) (payload : List Byte)
  /-- POOL_REPLY_TIMEOUT (R55). -/
  | poolReplyTimeout
  /-- QUIESCE_TIMEOUT (R52), of a cabinet's sequencer. -/
  | quiesceTimeout (station : Nat)
  /-- FORWARD_REPLY (R177). -/
  | forwardReply (t : Telegram)
  /-- FORWARD_REPLY_TIMEOUT (R43). -/
  | forwardReplyTimeout
  /-- FORWARD_BROADCAST_SENT (R43). -/
  | forwardBroadcastSent
  /-- ANSWER_AGE_FALLBACK (R44), of a cabinet. -/
  | answerAgeFallback (station : Nat)
  /-- METER_STALE (R63). -/
  | meterStale
  /-- METER_FALLBACK (R63). -/
  | meterFallback
  /-- MINUTE_ADVANCE (R79). -/
  | minuteAdvance
  /-- PASS_TIMER_EXPIRY (R105). -/
  | passTimerExpiry
  /-- PASS_COMPLETION (R109). -/
  | passCompletion
  /-- ARMED_START (R142). -/
  | armedStart
  /-- DISPATCH_EXPIRY (R149). -/
  | dispatchExpiry
  /-- STORE_WRITE_DONE (R192). -/
  | storeWriteDone
  /-- STORE_WRITE_FAULT (R192). -/
  | storeWriteFault
  /-- SUPPLY_FAILURE (R192). -/
  | supplyFailure
  deriving DecidableEq, Repr

end Sys2Proof
end

