-- ==== Sys2Proof/WellFormed.lean ====
section
/-! DEFINITION. Which commands can occur: payload lengths, access field lengths, the destinations and kinds of
the rows that carry a whole telegram, station numbers. A payload that does not fit its kind is well formed:
its owner's rule judges it (R205). -/

namespace Sys2Proof

/-- A payload is 0 to 200 bytes long (R202). -/
def payloadFits (p : List Byte) : Bool := decide (p.length ≤ Machine.maxPayload)

/-- The access field is 8 bytes and the whole MGMT payload (operation code, access, fields) fits (R202, R208). -/
def mgmtFits (access fields : List Byte) : Bool :=
  decide (access.length = 8) && decide (fields.length + 9 ≤ Machine.maxPayload)

/-- A cabinet's station number (00_scope.md, identifiers). -/
def isCabinetStation (n : Nat) : Bool := decide (1 ≤ n ∧ n ≤ 16)

/-- Is a valid site telegram one that no block owns and no path forwards: a station that is no party of the
yard (R171), a kind to station 100 outside R172's table, or a MGMT too short for its operation code and
access field (R187)? -/
def noOwner (t : Telegram) : Bool :=
  decide (17 ≤ t.dst.toNat ∧ t.dst.toNat ≠ 100) ||
  (decide (t.dst = Machine.ownStation) &&
    (!([Machine.kindMeter, Machine.kindTime, Machine.kindDispatch, Machine.kindCancel, Machine.kindMgmt].contains t.kind) ||
      (decide (t.kind = Machine.kindMgmt) && decide (t.payload.length < 9))))

/-- The well-formed commands. -/
def Instr.wf : Instr → Bool
  | .powerOn | .endOfStarting | .partRestart | .siteSendDone | .silenceTimeout | .roundTimerExpiry
  | .waitHoldOffExpiry | .replyTimeout | .curtailSent | .poolSent | .poolReplyTimeout | .forwardReplyTimeout
  | .forwardBroadcastSent | .meterStale | .meterFallback | .minuteAdvance | .passTimerExpiry
  | .passCompletion | .armedStart | .dispatchExpiry | .storeWriteDone | .storeWriteFault
  | .supplyFailure => true
  | .framerDiscard _ _ => true
  | .siteTelegramDiscarded t => payloadFits t.payload && noOwner t
  | .meter _ _ p | .time _ _ p | .dispatch _ _ p | .cancel _ _ p => payloadFits p
  | .stage _ _ a f | .commit _ _ a f | .discard _ _ a f | .read _ _ a f | .status _ _ a f | .lock _ _ a f
  | .release _ _ a f | .setCode _ _ a f | .clearStatus _ _ a f | .withdraw _ _ a f | .returnBus _ _ a f
  | .substitute _ _ a f | .season _ _ a f | .restart _ _ a f => mgmtFits a f
  | .mgmtUnknownOp _ _ op a f => !Machine.knownOp op && mgmtFits a f
  | .passThrough t => payloadFits t.payload && decide (t.dst.toNat ≤ 16) && decide (t.kind ≠ Machine.kindSetreq)
  | .setreq dst _ _ p => decide (dst.toNat ≤ 16) && payloadFits p
  | .yardStatus src _ p | .exchangeWait src _ p | .poolAck src _ p | .poolWait src _ p =>
      isCabinetStation src.toNat && payloadFits p
  | .yardTelegramDiscarded t => payloadFits t.payload
  | .quiesceTimeout st | .answerAgeFallback st => isCabinetStation st
  | .forwardReply t => payloadFits t.payload && isCabinetStation t.src.toNat && decide (t.dst ≠ Machine.ownStation)

end Sys2Proof
end

