-- ==== Sys2Proof/Config.lean ====
section
/-! DEFINITION. The free values: what the manual leaves open, as constants without a body. Nothing can
evaluate them, so whatever is proved holds for every value. -/

namespace Sys2Proof

/-- The order in which timers that reach their limit at one tick are carried out (R142, R150, R168 allow
either order). Applied to `State.freeCount`; read as a choice among the due events (log 2). DESIGN CHOICE. Safe. -/
opaque Config.tickOrder : Nat → Nat

/-- The sequence byte of a telegram the part sends on the yard link: R202 gives the field, no rule gives
YLC a counter (log 8). Applied to `State.freeCount`. DESIGN CHOICE. Safe. -/
opaque Config.yardSequence : Nat → Byte

/-- The start slot a DISP-REPLY carries while the minute clock is NOT_SET: R139 finds it from the clock
(log 12). Applied to `State.freeCount`. DESIGN CHOICE. Safe. -/
opaque Config.startSlotWithoutClock : Nat → Fin 48

/-- The 16 bits a payload carries for a power outside −3,276.8 to +3,276.7 kW where the manual names no
saturation (the baseline of an OUTCOME; log 11). DESIGN CHOICE. Safe. -/
opaque Config.powerOutOfRange : Int → BitVec 16

/-- Does the OUT_OVERFLOW notice take the place an entry frees ahead of another telegram of that tick? R181 gives both
orders (log 51). Applied to `Sli.orderCount`. DESIGN CHOICE. Safe. -/
opaque Config.noticeFirst : Nat → Bool

/-- Does TSM leave ISLAND before the telegram that ends a silence is handled? R172 and R184 allow either order
(log 37). Applied to `Sli.orderCount`. DESIGN CHOICE. Safe. -/
opaque Config.exitFirst : Nat → Bool

end Sys2Proof
end

