-- ==== Sys2Proof/Machine/State.lean ====
section
/-! DEFINITION. The state of the part as plain data: one record per block, as 00_scope.md's block table has
them, and the queue of commands. Powers are counts of 0.1 kW, energies of 0.1 kWh, timers of ticks (R1). -/

namespace Sys2Proof.Machine

/-! ### Segments and their rows (R186, R191, R208) -/

/-- The seven segments (R186). -/
inductive Segment where
  | fleet | route | yard | commitment | tariff | passage | settings
  deriving DecidableEq, Repr

/-- One value for each segment. -/
structure SegTable (α : Type) where
  fleet      : α
  route      : α
  yard       : α
  commitment : α
  tariff     : α
  passage    : α
  settings   : α
  deriving DecidableEq, Repr

/-- The content state of a stored segment (R186). -/
inductive ContentState where
  | empty | valid | incomplete
  deriving DecidableEq, Repr

/-- A FLEET row as its bytes give it (R208), not judged yet (R188). `target` 0 is the absent charge target. -/
structure FleetRow where
  fleetNo  : Nat
  tag      : List Byte
  capacity : Nat
  v2g      : Bool
  cls      : Nat
  target   : Nat
  deriving DecidableEq, Repr

/-- A ROUTE row (R208). `assigned` 0 is the absent bus; bit d of `dayMask` is weekday d. -/
structure RouteRow where
  legNo     : Nat
  assigned  : Nat
  dayMask   : Byte
  recess    : Bool
  departure : Nat
  ret       : Nat
  base      : Nat
  coldCoef  : Nat
  preMin    : Nat
  prePower  : Nat
  deriving DecidableEq, Repr

/-- A YARD row (R208). Bits 2m+1 and 2m of `map` hold the position fed by module m. -/
structure YardRow where
  station : Nat
  bidir   : Bool
  ratings : List Int
  map     : Byte
  deriving DecidableEq, Repr

/-- A COMMITMENT row, the slot record of its row index (R132, R208). -/
structure CommitRow where
  up      : Int
  down    : Int
  resp    : Nat
  enabled : Bool
  deriving DecidableEq, Repr

/-- A TARIFF row (R208). -/
structure TariffRow where
  dayType : Nat
  start   : Nat
  stop    : Nat
  cls     : Nat
  cap     : Option Int
  deriving DecidableEq, Repr

/-- A PASSAGE row (R173, R208). `kind` 00h is ANY. -/
structure PassageRow where
  direction : Nat
  kind      : Byte
  srcLow    : Nat
  srcHigh   : Nat
  dstLow    : Nat
  dstHigh   : Nat
  action    : Nat
  deriving DecidableEq, Repr

/-- The SETTINGS row, in the order of R201's table. -/
structure Settings where
  importLimit    : Int
  exportLimit    : Int
  safetyMargin   : Int
  staleMargin    : Int
  fallbackBudget : Int
  pMin           : Int
  rampStep       : Int
  passPre        : Nat
  turn           : Nat
  fallbackTime   : Nat
  replyTimeout   : Nat
  waitLimit      : Nat
  holdOff        : Nat
  missLimit      : Nat
  guestCap       : Int
  chargeTarget   : Nat
  holdMargin     : Nat
  v2gMargin      : Nat
  coldRef        : Int
  defaultAmbient : Int
  grace          : Nat
  earlyWindow    : Nat
  sLo            : Nat
  sHi            : Nat
  sFloor         : Nat
  sCeiling       : Nat
  tolerance      : Nat
  minTemp        : Int
  season         : Nat
  deriving DecidableEq, Repr

/-- The built-in defaults of R201. -/
def Settings.defaults : Settings where
  importLimit := 5000
  exportLimit := 0
  safetyMargin := 200
  staleMargin := 300
  fallbackBudget := 1000
  pMin := 30
  rampStep := 200
  passPre := 19
  turn := 14
  fallbackTime := 5
  replyTimeout := 20
  waitLimit := 3
  holdOff := 20
  missLimit := 3
  guestCap := 70
  chargeTarget := 90
  holdMargin := 150
  v2gMargin := 100
  coldRef := 10
  defaultAmbient := -10
  grace := 15
  earlyWindow := 30
  sLo := 40
  sHi := 60
  sFloor := 25
  sCeiling := 80
  tolerance := 5
  minTemp := -10
  season := 0

/-- A row of some segment. -/
inductive Row where
  | fleet (r : FleetRow)
  | route (r : RouteRow)
  | yard (r : YardRow)
  | commitment (r : CommitRow)
  | tariff (r : TariffRow)
  | passage (r : PassageRow)
  | settings (r : Settings)
  deriving DecidableEq, Repr

/-- A segment as the nonvolatile store holds it (R186). A segment that is not VALID holds no rows (log 42). -/
structure StoredSeg where
  content : ContentState
  lock    : Bool
  rows    : List Row
  deriving DecidableEq, Repr

/-! ### Fleet records (01_fleet_records.md) -/

/-- Service class (R2). -/
inductive ServiceClass where
  | route | spare | parked
  deriving DecidableEq, Repr

/-- The state of a bus (R5). -/
inductive BusState where
  | unseen | yard | plugged | onRoute | withdrawn
  deriving DecidableEq, Repr

/-- RDU's verdicts (R95). -/
inductive Verdict where
  | ready | onTrack | atRisk | short | noPost | noLeg | unknown
  deriving DecidableEq, Repr

/-- The tiers of a pass (R115). -/
inductive Tier where
  | urgent | belowFloor | topUp | store | idle
  deriving DecidableEq, Repr

/-- A bus's held energy with its age in seconds; `sub` counts the ticks within the second (R3, log 34). -/
structure Held where
  energy : Nat
  age    : Nat
  sub    : Nat
  deriving DecidableEq, Repr

/-- An occupied bus slot (R2, R3). `nextDay` is the weekday of the run that `nextLeg` stands for, where it was found
as a leg of tomorrow (R87 step 2, log 50). -/
structure Bus where
  fleetNo  : Nat
  tag      : List Byte
  capacity : Nat
  v2g      : Bool
  cls      : ServiceClass
  target   : Option Nat
  state    : BusState
  post     : Option Nat
  held     : Option Held
  nextLeg  : Option Nat
  nextDay  : Option Nat
  floor    : Nat
  dischargeFloor : Nat
  verdict  : Verdict
  tier     : Tier
  deriving DecidableEq, Repr

/-- The state of a post (R10). -/
inductive PostState where
  | unknown | empty | plugged | guest | held | faulted | disabled | offline
  deriving DecidableEq, Repr

/-- The last report of a post (R9). -/
structure Report where
  occupied : Bool
  measured : Int
  held     : Option Nat
  accept   : Int
  deliver  : Int
  temp     : Option Int
  fault    : Nat
  deriving DecidableEq, Repr

/-- A post record (R9). -/
structure Post where
  state      : PostState
  bus        : Option Nat
  rating     : Int
  report     : Option Report
  mismatch   : Nat
  grant      : Int
  prevGrant  : Int
  sentGrant  : Int
  requestCap : Option Int
  boost      : Bool
  precond    : Bool
  deriving DecidableEq, Repr

/-- The kinds of plug events (R13). -/
inductive PlugKind where
  | plugged | unplugged | fault | faultClear
  deriving DecidableEq, Repr

/-- An entry of the plug event queue (R13). `tag` is present for PLUGGED only; `seq` is absent for a
synthesised UNPLUGGED (R21). -/
structure PlugEvent where
  cabinet  : Nat
  position : Nat
  kind     : PlugKind
  tag      : List Byte
  seq      : Option Nat
  deriving DecidableEq, Repr

/-- The Fleet Record Tables. `buses` are the occupied slots, slot k at place k; `posts` holds post number
p at place p − 4. -/
structure Frt where
  buses  : List Bus
  tagMap : List (List Byte × Nat)
  posts  : List Post
  plugQ  : List PlugEvent
  deriving DecidableEq, Repr

/-! ### Yard survey and pooling (02_yard_survey.md, 03_cabinet_module_pooling.md) -/

/-- The five pooling modes (R48). -/
inductive Mode where
  | split | pairA | pairB | pairAB | quad
  deriving DecidableEq, Repr

/-- A cabinet's link state (R26). -/
inductive LinkState where
  | unconfigured | unseen | online | missing | offline
  deriving DecidableEq, Repr

/-- The states of a pooling sequencer (R50). -/
inductive SeqState where
  | done | quiesce | sent | await | failed
  deriving DecidableEq, Repr

/-- Why a pooling attempt or change failed (R50). -/
inductive PoolCause where
  | rejected (reason : Nat)
  | noReply
  | offline
  deriving DecidableEq, Repr

/-- A pooling sequencer (R50). `quiesce` and `quiet` hold positions 0 to 3. -/
structure Sequencer where
  state    : SeqState
  inForce  : Option Mode
  target   : Option Mode
  pending  : Option Mode
  attempts : Nat
  quiesce  : List Nat
  quiet    : List Nat
  timer    : Nat
  cause    : Option PoolCause
  deriving DecidableEq, Repr

/-- A cabinet record (R25). -/
structure Cabinet where
  configured : Bool
  link       : LinkState
  misses     : Nat
  age        : Nat
  lastSeq    : Option Nat
  restartAck : Bool
  bidir      : Bool
  ratings    : List Int
  desired    : Option Mode
  reported   : Option Mode
  pool       : Sequencer
  deriving DecidableEq, Repr

/-- Where a visit stands: its EXCHANGE awaits a reply, it holds off after a WAIT, or its hold-off has ended
while the link was taken by a CURTAIL and the EXCHANGE is to be re-sent (R29, R37). -/
inductive VisitPhase where
  | awaiting | holdOff | resend
  deriving DecidableEq, Repr

/-- The survey round (R28): none, at a cabinet with the WAITs counted (R37), or between two visits, after
the one to `last`. -/
inductive Round where
  | idle
  | visit (station waits : Nat) (phase : VisitPhase)
  | between (last : Nat)
  deriving DecidableEq, Repr

/-- What the yard link carries (R29): the transaction in progress, with the telegram sent. An EXCHANGE also
holds the four grants it carried, which become the sent grants (R32). -/
inductive Link where
  | free
  | exchange (tel : Telegram) (grants : List Int)
  | curtail (tel : Telegram)
  | poolSending (station : Nat) (tel : Telegram)
  | poolAwait (station : Nat)
  | forward (tel : Telegram)
  deriving DecidableEq, Repr

/-- The Yard Link Controller. `cabinets` holds station c at place c − 1. -/
structure Ylc where
  framer      : List Byte
  cabinets    : List Cabinet
  roundTimer  : Option Nat
  roundDue    : Bool
  roundWanted : Bool
  round       : Round
  link        : Link
  poolClaim   : Option Nat
  fwdClaim    : Bool
  fwdQ        : List Telegram
  curtailReq  : Bool
  refusal     : Bool
  deriving DecidableEq, Repr

/-! ### Site budget (04_site_budget.md) -/

/-- The meter state (R63). -/
inductive MeterState where
  | none | fresh | stale | fallback
  deriving DecidableEq, Repr

/-- The tariff classes (R73). -/
inductive TariffClass where
  | offpeak | shoulder | peak | critical
  deriving DecidableEq, Repr

/-- The day types of the tariff (R73). -/
inductive DayType where
  | school | other
  deriving DecidableEq, Repr

/-- A tariff window (R73, R191). -/
structure Window where
  day   : DayType
  start : Nat
  stop  : Nat
  cls   : TariffClass
  cap   : Option Int
  deriving DecidableEq, Repr

/-- The tariff in force (R73). The day type is absent while the weekday is not known. -/
structure Tariff where
  day    : Option DayType
  window : Option Window
  cls    : TariffClass
  cap    : Option Int
  deriving DecidableEq, Repr

/-- The Site Budget Unit. -/
structure Sbu where
  meter    : MeterState
  age      : Nat
  imp      : Option Int
  building : Option Int
  gridCap  : Option Int
  ambient  : Option Int
  breach   : Nat
  windows  : List Window
  tariff   : Tariff
  deriving DecidableEq, Repr

/-! ### Readiness (05_route_readiness.md) -/

/-- The minute clock (R79). -/
structure Clock where
  set     : Bool
  weekday : Nat
  minute  : Nat
  second  : Nat
  tick    : Nat
  deriving DecidableEq, Repr

/-- A clock reading carried in a telegram or a record. -/
structure Reading where
  weekday : Nat
  minute  : Nat
  second  : Nat
  deriving DecidableEq, Repr

/-- A leg's outcome of today (R85). -/
inductive LegOutcome where
  | pending | departedReady | departedShort | notDeparted | notToday
  deriving DecidableEq, Repr

/-- A route leg: the row and today's fields (R85). -/
structure Leg where
  row        : RouteRow
  substitute : Option Nat
  outcome    : LegOutcome
  unassigned : Bool
  infeasible : Bool
  deriving DecidableEq, Repr

/-- An entry of the departure list (R90): WAITING, or DUE with its due verdict. -/
structure DepEntry where
  legNo : Nat
  due   : Option Verdict
  deriving DecidableEq, Repr

/-- A bus's last outcome: the leg and how it ended. -/
structure LastOutcome where
  legNo   : Nat
  outcome : LegOutcome
  deriving DecidableEq, Repr

/-- The Readiness Unit. `lastOutcomes` runs parallel to the bus slots. -/
structure Rdu where
  clock        : Clock
  legs         : List Leg
  list         : List DepEntry
  lastOutcomes : List (Option LastOutcome)
  deriving DecidableEq, Repr

/-! ### Grid reserve (07_grid_reserve.md) -/

/-- The direction of reserve (R137). -/
inductive Direction where
  | up | down
  deriving DecidableEq, Repr

/-- How a dispatch ended (R151). -/
inductive EndState where
  | complete | cancelled | superseded | abandoned
  deriving DecidableEq, Repr

/-- A dispatch record (R140). `start` is the planned start while ARMED, the actual one once ACTIVE. -/
structure Dispatch where
  id         : Nat
  dir        : Direction
  power      : Int
  start      : Option Reading
  stop       : Option Reading
  resp       : Nat
  countdown  : Nat
  duration   : Nat
  remaining  : Nat
  baseline   : Int
  timer      : Nat
  stopped    : Bool
  outOfBand  : Nat
  interval   : Nat
  delivered  : Int
  late       : Bool
  notReached : Bool
  shortfall  : Bool
  noticed    : Bool
  deriving DecidableEq, Repr

/-- Which side of its commitment a capability stands on (R135). -/
inductive Side where
  | atOrAbove | below
  deriving DecidableEq, Repr

/-- The result of a DISPATCH (R139). -/
inductive DispResult where
  | accept | partly | decline
  deriving DecidableEq, Repr

/-- The reason in a DISP-REPLY (R207). -/
inductive DispReason where
  | none | commitment | capability | safe | noClock | staleId | badField | notCommitted | noCapability
  deriving DecidableEq, Repr

/-- A DISP-REPLY (R139, R207). -/
structure DispReply where
  id        : Nat
  result    : DispResult
  reason    : DispReason
  dir       : Byte
  requested : Int
  accepted  : Int
  delay     : Nat
  duration  : Nat
  slot      : Nat
  deriving DecidableEq, Repr

/-- The last reply record (R137, R139). -/
structure LastReply where
  id    : Nat
  src   : Byte
  seq   : Byte
  reply : DispReply
  deriving DecidableEq, Repr

/-- Why a pass could not bring the fleet to the dispatch target (R152). -/
inductive ShortCause where
  | exportFloor | dischargeExhausted | siteBudget | absorptionExhausted
  deriving DecidableEq, Repr

/-- Why an ARMED dispatch was dropped (R141, R153). -/
inductive DropCause where
  | superseded | island | safe
  deriving DecidableEq, Repr

/-- The Reserve Unit. -/
structure Rsu where
  slots     : List CommitRow
  upCap     : Int
  downCap   : Int
  slot      : Option Nat
  upSide    : Option Side
  downSide  : Option Side
  highId    : Option Nat
  lastReply : Option LastReply
  active    : Option Dispatch
  armed     : Option Dispatch
  deriving DecidableEq, Repr

/-! ### Fleet storage (08_fleet_storage.md) -/

/-- The season (R157). -/
inductive Season where
  | term | recess
  deriving DecidableEq, Repr

/-- The storage band in percent (R159). -/
structure Band where
  floor   : Nat
  lo      : Nat
  hi      : Nat
  ceiling : Nat
  deriving DecidableEq, Repr

/-- The parked class of a bus (R160). -/
inductive ParkedClass where
  | notParked | cls | noDuty | recess
  deriving DecidableEq, Repr

/-- An entry of the storage table (R159, R160). -/
structure StorageEntry where
  cls     : ParkedClass
  floor   : Nat
  lo      : Nat
  hi      : Nat
  ceiling : Nat
  deriving DecidableEq, Repr

/-- The storage view (R166). -/
structure View where
  asOf          : Option (Nat × Nat)
  discharge     : Nat
  absorb        : Nat
  dischargePow  : Int
  absorbPow     : Int
  parked        : Nat
  parkedPlugged : Nat
  plugged       : Nat
  withdrawn     : Nat
  cold          : Nat
  unreported    : Nat
  deriving DecidableEq, Repr

/-- The Storage Planner. `table` runs parallel to the bus slots. -/
structure Stp where
  season  : Season
  band    : Band
  table   : List StorageEntry
  viewDue : Bool
  view    : Option View
  deriving DecidableEq, Repr

/-! ### The allocation pass (06_the_allocation_pass.md) -/

/-- The ACTIVE dispatch as RSU hands it to a snapshot (R155). -/
structure SnapDispatch where
  id        : Nat
  dir       : Direction
  power     : Int
  baseline  : Int
  remaining : Nat
  deriving DecidableEq, Repr

/-- The pass snapshot (R106). `quiesced` lists the post numbers in quiesce sets, `preDraw` the precondition
draw of each post (R69), `bidir` the stations whose bidirectional field is yes. -/
structure Snapshot where
  posts    : List Post
  quiesced : List Nat
  bidir    : List Nat
  buses    : List Bus
  legs     : List Leg
  clockSet : Bool
  minute   : Nat
  preDraw  : List Int
  limit    : Int
  fSite    : Int
  fLo      : Int
  pPre     : Int
  cls      : TariffClass
  measured : Int
  dispatch : Option SnapDispatch
  season   : Season
  storage  : List StorageEntry
  settings : Settings
  ring     : List Nat
  turn     : Nat
  deriving DecidableEq, Repr

/-- The pass state (R103). -/
inductive PassState where
  | idle | running
  deriving DecidableEq, Repr

/-- The Allocation Engine. `tiers` holds post number p at place p − 4; `timer` is absent while stopped. -/
structure Ale where
  pass      : PassState
  pending   : Bool
  timer     : Option Nat
  snap      : Option Snapshot
  tiers     : List Tier
  ring      : List Nat
  turn      : Nat
  overLimit : Bool
  deriving DecidableEq, Repr

/-! ### Table store and management (10_table_store_and_management.md) -/

/-- The operating states (R199). -/
inductive OpState where
  | starting | coordinating | island | safe
  deriving DecidableEq, Repr

/-- The result codes of a MGMT (R187). -/
inductive MgmtResult where
  | done | access | sequence | range | locked | busy | content | storeFault | unknownOp | withdrawn | closed
  deriving DecidableEq, Repr

/-- The reasons of CONTENT (R191). -/
inductive ContentReason where
  | field | duplicate | order | map | count | overlap | band | timing
  deriving DecidableEq, Repr

/-- What a store write does (R192). A SEASON's write is a COMMIT write of SETTINGS (R197). -/
inductive WriteJob where
  | commit (seg : Segment) (rows : List Row)
  | release (seg : Segment)
  | lock (seg : Segment)
  | setCode (code : List Byte)
  deriving DecidableEq, Repr

/-- The store write in flight, with the MGMT it answers when it ends (R187, R192). -/
structure Write where
  job : WriteJob
  op  : Byte
  src : Byte
  seq : Byte
  deriving DecidableEq, Repr

/-- An activation that is ready (R193): new content, or the leaving of VALID when there is none. -/
structure Activation where
  seg     : Segment
  content : Option (List Row)
  deriving DecidableEq, Repr

/-- The last result (R187). -/
structure LastResult where
  op      : Byte
  result  : MgmtResult
  content : Option (Nat × ContentReason)
  deriving DecidableEq, Repr

/-- Table Store and Management. `staging` is in ascending row index, no index twice. -/
structure Tsm where
  store           : SegTable StoredSeg
  active          : SegTable (Option (List Row))
  settings        : Settings
  code            : List Byte
  staged          : Option Segment
  staging         : List (Nat × Row)
  write           : Option Write
  waiting         : List Activation
  lastResult      : Option LastResult
  outOverflow     : Bool
  plugFull        : Bool
  op              : OpState
  silenceStanding : Bool
  restartPending  : Bool
  deriving DecidableEq, Repr

/-! ### Telegrams toward the site (09_site_traffic_and_the_passage_table.md) -/

/-- Why a leg is unassigned (R86). -/
inductive UnassignedReason where
  | noBus | notInFleet | withdrawn
  deriving DecidableEq, Repr

/-- The NOTICE codes with their detail fields (R207 and the rule of each code). -/
inductive Notice where
  | breach (imp limit : Int)
  | curtailed
  | cabinetOffline (station : Nat)
  | cabinetOnline
  | cabinetRestarted (station : Nat)
  | poolingDone (station : Nat) (mode : Mode) (attempts : Nat)
  | poolingFailed (station : Nat) (target : Mode) (attempts : Nat) (cause : PoolCause)
  | locationConflict (fleetNo old new : Nat)
  | meterStale (building : Int)
  | meterFallback (budget : Int)
  | clockJump (oldWeekday oldMinute newWeekday newMinute : Nat)
  | clockRejected (minute weekday second : Nat)
  | legUnassigned (legNo : Nat) (fleetNo : Option Nat) (reason : UnassignedReason)
  | legInfeasible (legNo fleetNo floor capacity : Nat)
  | dispatchShortfall (id : Nat) (cause : ShortCause) (power : Int)
  | overLimit (budget pPre : Int)
  | outOverflow (count : Nat)
  | plugQueueFull
  | armedDropped (id : Nat) (cause : DropCause)
  | cancelUnmatched (id : Nat)
  | forwardRefused (kind dst seq : Byte)
  deriving DecidableEq, Repr

/-- A READINESS telegram's content (R97). `phase` is absent for a next leg not listed, and holds the due
verdict when DUE. -/
structure Readiness where
  fleetNo   : Nat
  verdict   : Verdict
  tier      : Tier
  nextLeg   : Option (Nat × Nat × Nat × Nat)
  phase     : Option (Option Verdict)
  floor     : Nat
  held      : Option (Nat × Nat)
  post      : Option Nat
  last      : Option LastOutcome
  deriving DecidableEq, Repr

/-- A dispatch as a CAPABILITY names it (R135). -/
structure DispatchRef where
  id    : Nat
  dir   : Direction
  power : Int
  deriving DecidableEq, Repr

/-- A CAPABILITY telegram's content (R135). -/
structure Capability where
  slot       : Nat
  left       : Nat
  upCap      : Int
  downCap    : Int
  upCommit   : Int
  downCommit : Int
  active     : Option DispatchRef
  armed      : Option DispatchRef
  deriving DecidableEq, Repr

/-- A STORAGE telegram's content (R167). -/
structure Storage where
  season : Season
  band   : Band
  view   : Option View
  deriving DecidableEq, Repr

/-- An OUTCOME telegram's content (R151). -/
structure Outcome where
  id         : Nat
  dir        : Direction
  endState   : EndState
  power      : Int
  baseline   : Int
  start      : Option Reading
  stop       : Option Reading
  response   : Nat
  outOfBand  : Nat
  delivered  : Int
  late       : Bool
  notReached : Bool
  shortfall  : Bool
  deriving DecidableEq, Repr

/-- The result of a SETREQ (R175). -/
inductive SetreqResult where
  | granted (value : Int)
  | dropped
  | badPost
  | notPlugged
  | linkBusy
  deriving DecidableEq, Repr

/-- A SETREQ-REPLY (R176, R207). -/
structure SetreqReply where
  cabinet  : Byte
  position : Byte
  seq      : Byte
  result   : SetreqResult
  cap      : Option Int
  deriving DecidableEq, Repr

/-- What became of an event of a STATUS (R178). -/
inductive Judgement where
  | accepted | duplicate | refused | ignored
  deriving DecidableEq, Repr

/-- An event as a STATUS carries it (R206). -/
structure RawEvent where
  position : Byte
  kind     : Byte
  seq      : Byte
  tag      : List Byte
  deriving DecidableEq, Repr

/-- A STATUS-FWD copy (R178). -/
structure StatusFwd where
  cabinet   : Nat
  restarted : Bool
  mode      : Byte
  reports   : List (Option Report)
  states    : List PostState
  sent      : List Int
  events    : List (RawEvent × Judgement)
  deriving DecidableEq, Repr

/-- The status record (R196). -/
structure StatusRecord where
  op          : OpState
  silence     : Bool
  write       : Option (Byte × Option Segment)
  lastResult  : Option LastResult
  staged      : Option Segment
  stagedRows  : Nat
  segments    : List (ContentState × Bool × Nat)
  outOverflow : Bool
  plugFull    : Bool
  clockSet    : Bool
  clock       : Option (Nat × Nat)
  online      : Nat
  located     : Nat
  deriving DecidableEq, Repr

/-- The details of a MGMT-REPLY (R208). -/
inductive MgmtDetails where
  | none
  | staged (seg : Option Segment) (count : Nat)
  | content (row : Nat) (reason : ContentReason)
  | read (seg : Segment) (index : Nat) (row : Row) (defaults : Bool)
  | status (r : StatusRecord)
  deriving DecidableEq, Repr

/-- What a telegram toward the site carries (R179). A forwarded yard telegram is held whole (R177). -/
inductive OutBody where
  | statusFwd (c : StatusFwd)
  | readiness (r : Readiness)
  | capability (c : Capability)
  | storage (v : Storage)
  | setreqReply (r : SetreqReply)
  | mgmtReply (op seq : Byte) (result : MgmtResult) (details : MgmtDetails)
  | dispReply (r : DispReply)
  | outcome (o : Outcome)
  | notice (n : Notice) (at_ : Option Reading)
  | forwarded (t : Telegram)
  deriving DecidableEq, Repr

/-- An entry of the site outbound queue (R179): built at queueing; the own sequence is written in when its
sending begins (R182). -/
structure OutMsg where
  dst  : Byte
  body : OutBody
  deriving DecidableEq, Repr

/-- The Site Link Interface. `orderCount` is the model's own: how often an order that the manual leaves open was taken, at a
freed place of the outbound queue (`Config.noticeFirst`, log 51) or at the end of a silence (`Config.exitFirst`, log 37). -/
structure Sli where
  framer     : List Byte
  passage    : List PassageRow
  out        : List OutMsg
  tx         : Option Telegram
  overflow   : Bool
  dropCount  : Nat
  ownSeq     : Byte
  silence    : Nat
  silentMark : Bool
  orderCount : Nat
  deriving DecidableEq, Repr

/-! ### The whole part -/

/-- The state of the part and the queue of commands. -/
structure State where
  power     : Bool
  sli       : Sli
  ylc       : Ylc
  frt       : Frt
  sbu       : Sbu
  rdu       : Rdu
  ale       : Ale
  rsu       : Rsu
  stp       : Stp
  tsm       : Tsm
  freeCount : Nat
  pending   : List Instr
  deriving DecidableEq, Repr

/-- No rule of the manual stops the part: there is no fault. -/
inductive Fault where
  deriving DecidableEq, Repr

/-- Why a step gives no meaning. -/
inductive Refusal where
  /-- Raised by an arm of `exec` whose row has no meaning yet. Safe: nothing is claimed of it. -/
  | notModelled (mnemonic : String)
  deriving DecidableEq, Repr

/-! ### Values after power-on -/

/-- A sequencer without a change in flight (R50). -/
def Sequencer.initial (inForce : Option Mode) : Sequencer where
  state := .done
  inForce := inForce
  target := none
  pending := none
  attempts := 0
  quiesce := []
  quiet := []
  timer := 0
  cause := none

/-- A station without a YARD row (R25, R50). The static fields stand at no rating and no mode (log 33). -/
def Cabinet.unconfigured : Cabinet where
  configured := false
  link := .unconfigured
  misses := 0
  age := 65535
  lastSeq := none
  restartAck := false
  bidir := false
  ratings := [0, 0, 0, 0]
  desired := none
  reported := none
  pool := Sequencer.initial none

/-- A post record after power-on, of a cabinet not configured (R9). -/
def Post.initial : Post where
  state := .offline
  bus := none
  rating := 0
  report := none
  mismatch := 0
  grant := 0
  prevGrant := 0
  sentGrant := 0
  requestCap := none
  boost := false
  precond := false

/-- The tariff before it is first evaluated: SHOULDER, no cap, no window (R73). -/
def Tariff.initial : Tariff where
  day := none
  window := none
  cls := .shoulder
  cap := none

/-- FRT after power-on (R24). -/
def Frt.initial : Frt where
  buses := []
  tagMap := []
  posts := List.replicate 64 Post.initial
  plugQ := []

/-- YLC after power-on, before a YARD segment is loaded (R47). -/
def Ylc.initial : Ylc where
  framer := []
  cabinets := List.replicate 16 Cabinet.unconfigured
  roundTimer := none
  roundDue := false
  roundWanted := false
  round := .idle
  link := .free
  poolClaim := none
  fwdClaim := false
  fwdQ := []
  curtailReq := false
  refusal := false

/-- SBU after power-on and RESTART (R78), with no tariff window. -/
def Sbu.initial : Sbu where
  meter := .none
  age := 0
  imp := none
  building := none
  gridCap := none
  ambient := none
  breach := 0
  windows := []
  tariff := Tariff.initial

/-- RDU after power-on (R102). -/
def Rdu.initial : Rdu where
  clock := ⟨false, 0, 0, 0, 0⟩
  legs := []
  list := []
  lastOutcomes := []

/-- ALE after power-on and RESTART (R131). -/
def Ale.initial : Ale where
  pass := .idle
  pending := false
  timer := none
  snap := none
  tiers := List.replicate 64 .idle
  ring := []
  turn := 0
  overLimit := false

/-- RSU after power-on and RESTART (R156), with no commitment slot. -/
def Rsu.initial : Rsu where
  slots := []
  upCap := 0
  downCap := 0
  slot := none
  upSide := none
  downSide := none
  highId := none
  lastReply := none
  active := none
  armed := none

/-- STP after power-on while SETTINGS is not VALID (R170). -/
def Stp.initial : Stp where
  season := .term
  band := ⟨25, 40, 60, 80⟩
  table := []
  viewDue := false
  view := none

/-- SLI after power-on (R185). -/
def Sli.initial : Sli where
  framer := []
  passage := []
  out := []
  tx := none
  overflow := false
  dropCount := 0
  ownSeq := 0
  silence := 0
  silentMark := false
  orderCount := 0

/-- A segment never written (R186). -/
def StoredSeg.blank : StoredSeg where
  content := .empty
  lock := false
  rows := []

/-- TSM after power-on over a stored content, before the loading ends (R200). -/
def Tsm.initial (store : SegTable StoredSeg) (code : List Byte) : Tsm where
  store := store
  active := ⟨none, none, none, none, none, none, none⟩
  settings := Settings.defaults
  code := code
  staged := none
  staging := []
  write := none
  waiting := []
  lastResult := none
  outOverflow := false
  plugFull := false
  op := .starting
  silenceStanding := false
  restartPending := false

/-- The part after a power-on over a stored content (R24, R47, R78, R102, R131, R156, R170, R185, R200). -/
def State.afterPowerOn (store : SegTable StoredSeg) (code : List Byte) (freeCount : Nat) (pending : List Instr) :
    State where
  power := true
  sli := Sli.initial
  ylc := Ylc.initial
  frt := Frt.initial
  sbu := Sbu.initial
  rdu := Rdu.initial
  ale := Ale.initial
  rsu := Rsu.initial
  stp := Stp.initial
  tsm := Tsm.initial store code
  freeCount := freeCount
  pending := pending

/-- A store never written: every segment EMPTY and unlocked (R186). -/
def blankStore : SegTable StoredSeg :=
  ⟨StoredSeg.blank, StoredSeg.blank, StoredSeg.blank, StoredSeg.blank, StoredSeg.blank, StoredSeg.blank,
   StoredSeg.blank⟩

/-- The access code of a store never written: all FFh (10_table_store_and_management.md, state table). -/
def blankCode : List Byte := List.replicate 8 0xFF

/-- The machine right after reset: the power-on of a part whose store was never written (log 6). -/
def State.reset : State := State.afterPowerOn blankStore blankCode 0 []

end Sys2Proof.Machine
end

