-- ==== Sys2Proof/Machine/Arith.lean ====
section
/-! DEFINITION. The arithmetic of 00_scope.md's conventions: saturation, rounding up, sums, and the stable
ordering that every order of the manual is read through. -/

namespace Sys2Proof.Machine

/-- Saturation to the range of a power, −3,276.8 to +3,276.7 kW (R1). -/
def sat16 (x : Int) : Int := max (-32768) (min 32767 x)

/-- Saturation to signed 32 bits (R148). -/
def sat32 (x : Int) : Int := max (-2147483648) (min 2147483647 x)

/-- A value brought into a range. -/
def clampInt (lo hi x : Int) : Int := max lo (min hi x)

/-- Division rounding up (00_scope.md, "ceil"). -/
def ceilDiv (a b : Nat) : Nat := (a + b - 1) / b

/-- The smallest of a value and a list of further ones. -/
def minOf (x : Int) (l : List Int) : Int := l.foldl min x

/-- Insertion by an ascending key, before the first larger key or an equal one. -/
def insertOn {α : Type} (key : α → Int) (a : α) : List α → List α
  | [] => [a]
  | b :: l => if key a ≤ key b then a :: b :: l else b :: insertOn key a l

/-- The list in ascending key, equal keys in their order before. -/
def sortOn {α : Type} (key : α → Int) : List α → List α
  | [] => []
  | a :: l => insertOn key a (sortOn key l)

/-- A function applied a number of times. -/
def timesDo {α : Type} (f : α → α) : Nat → α → α
  | 0, a => a
  | n + 1, a => timesDo f n (f a)

/-- The sixteen stations of cabinets (00_scope.md, identifiers). -/
def stations : List Nat := [1, 2, 3, 4, 5, 6, 7, 8, 9, 10, 11, 12, 13, 14, 15, 16]

/-- The four positions of a cabinet. -/
def positions : List Nat := [0, 1, 2, 3]

/-- The 64 post numbers, 4 to 67. -/
def postNos : List Nat := List.range' 4 64

/-- Post number: cabinet × 4 + position (00_scope.md, identifiers). -/
def postNo (station position : Nat) : Nat := station * 4 + position

end Sys2Proof.Machine
end

