-- ==== Sys2Proof/Machine/Flags.lean ====
section
/-! DEFINITION. Flags bytes and enumerated codes (R205 to R208): bit positions, and the code of each value that
a telegram names. -/

namespace Sys2Proof.Machine

/-- Is bit i of a byte 1? -/
def flagAt (b : Byte) (i : Nat) : Bool := b.getLsbD i

/-- A flags byte with its flags in bits 0 upward (R205). -/
def flagByte : List Bool → Byte
  | [] => 0
  | b :: l => (flagByte l <<< 1) ||| (if b then 1 else 0)

/-- A pooling mode from its STATUS code (R206). A code outside the five names no mode (R205). -/
def modeOfCode (b : Byte) : Option Mode :=
  if b = 0 then some .split else if b = 1 then some .pairA else if b = 2 then some .pairB
  else if b = 3 then some .pairAB else if b = 4 then some .quad else none

/-- The code of a pooling mode (R206). -/
def Mode.code : Mode → Byte
  | .split => 0 | .pairA => 1 | .pairB => 2 | .pairAB => 3 | .quad => 4

/-- An event's kind from its code (R206). -/
def plugKindOfCode (b : Byte) : Option PlugKind :=
  if b = 1 then some .plugged else if b = 2 then some .unplugged else if b = 3 then some .fault
  else if b = 4 then some .faultClear else none

/-- A segment from its code (R208). -/
def segmentOfCode (b : Byte) : Option Segment :=
  if b = 1 then some .fleet else if b = 2 then some .route else if b = 3 then some .yard
  else if b = 4 then some .commitment else if b = 5 then some .tariff else if b = 6 then some .passage
  else if b = 7 then some .settings else none

/-- The code of a segment (R208). -/
def Segment.code : Segment → Byte
  | .fleet => 1 | .route => 2 | .yard => 3 | .commitment => 4 | .tariff => 5 | .passage => 6 | .settings => 7

/-- A dispatch direction from its code (R207). -/
def directionOfCode (b : Byte) : Option Direction :=
  if b = 1 then some .up else if b = 2 then some .down else none

/-- The code of a direction in DISPATCH and DISP-REPLY is as received; in the reports that R205 encodes by
position, UP is 0 (log 9). -/
def Direction.position : Direction → Byte
  | .up => 0 | .down => 1

/-- Service class from the FLEET row's byte (R208). -/
def serviceClassOf (n : Nat) : ServiceClass :=
  if n = 1 then .spare else if n = 2 then .parked else .route

/-- Tariff class from the TARIFF row's byte (R208). -/
def tariffClassOf (n : Nat) : TariffClass :=
  if n = 0 then .offpeak else if n = 2 then .peak else if n = 3 then .critical else .shoulder

/-- Day type from the TARIFF row's byte (R208). -/
def dayTypeOf (n : Nat) : DayType := if n = 0 then .school else .other

/-- Season from the SETTINGS row's byte (R208). -/
def seasonOf (n : Nat) : Season := if n = 1 then .recess else .term

/-- Positions in the lists of values that define each enumerated field (R205). -/
def Verdict.code : Verdict → Byte
  | .ready => 0 | .onTrack => 1 | .atRisk => 2 | .short => 3 | .noPost => 4 | .noLeg => 5 | .unknown => 6

def Tier.code : Tier → Byte
  | .urgent => 0 | .belowFloor => 1 | .topUp => 2 | .store => 3 | .idle => 4

def LegOutcome.code : LegOutcome → Byte
  | .pending => 0 | .departedReady => 1 | .departedShort => 2 | .notDeparted => 3 | .notToday => 4

def PostState.code : PostState → Byte
  | .unknown => 0 | .empty => 1 | .plugged => 2 | .guest => 3 | .held => 4 | .faulted => 5 | .disabled => 6
  | .offline => 7

def Judgement.code : Judgement → Byte
  | .accepted => 0 | .duplicate => 1 | .refused => 2 | .ignored => 3

def EndState.code : EndState → Byte
  | .complete => 0 | .cancelled => 1 | .superseded => 2 | .abandoned => 3

def ShortCause.code : ShortCause → Byte
  | .exportFloor => 0 | .dischargeExhausted => 1 | .siteBudget => 2 | .absorptionExhausted => 3

/-- No rule lists the causes of ARMED_DROPPED together; they stand in the order of R141 and R153 (log 9). -/
def DropCause.code : DropCause → Byte
  | .superseded => 0 | .island => 1 | .safe => 2

def UnassignedReason.code : UnassignedReason → Byte
  | .noBus => 0 | .notInFleet => 1 | .withdrawn => 2

def Season.code : Season → Byte
  | .term => 0 | .recess => 1

def OpState.code : OpState → Byte
  | .starting => 0 | .coordinating => 1 | .island => 2 | .safe => 3

def ContentState.code : ContentState → Byte
  | .empty => 0 | .valid => 1 | .incomplete => 2

/-- The results of a MGMT-REPLY (R208). -/
def MgmtResult.code : MgmtResult → Byte
  | .done => 0 | .access => 1 | .sequence => 2 | .range => 3 | .locked => 4 | .busy => 5 | .content => 6
  | .storeFault => 7 | .unknownOp => 8 | .withdrawn => 9 | .closed => 10

/-- The reasons of CONTENT (R208). -/
def ContentReason.code : ContentReason → Byte
  | .field => 1 | .duplicate => 2 | .order => 3 | .map => 4 | .count => 5 | .overlap => 6 | .band => 7
  | .timing => 8

/-- The results of a DISP-REPLY (R207). -/
def DispResult.code : DispResult → Byte
  | .accept => 0 | .partly => 1 | .decline => 2

/-- The reasons of a DISP-REPLY (R207). -/
def DispReason.code : DispReason → Byte
  | .none => 0 | .commitment => 1 | .capability => 2 | .safe => 3 | .noClock => 4 | .staleId => 5
  | .badField => 6 | .notCommitted => 7 | .noCapability => 8

/-- The code of a failure cause, with its reason when it carries one. The absent of R50's list takes no place: REJECTED 0,
NO_REPLY 1, OFFLINE 2 (DEDUCED, log 9). -/
def PoolCause.code : PoolCause → Byte × Option Nat
  | .rejected r => (0, some r)
  | .noReply => (1, none)
  | .offline => (2, none)

/-- The code of a NOTICE (R207). -/
def Notice.code : Notice → Byte
  | .breach .. => 1 | .curtailed => 2 | .cabinetOffline .. => 3 | .cabinetOnline => 4
  | .cabinetRestarted .. => 5 | .poolingDone .. => 6 | .poolingFailed .. => 7 | .locationConflict .. => 8
  | .meterStale .. => 9 | .meterFallback .. => 10 | .clockJump .. => 11 | .clockRejected .. => 12
  | .legUnassigned .. => 13 | .legInfeasible .. => 14 | .dispatchShortfall .. => 15 | .overLimit .. => 16
  | .outOverflow .. => 17 | .plugQueueFull => 18 | .armedDropped .. => 19 | .cancelUnmatched .. => 20
  | .forwardRefused .. => 21

end Sys2Proof.Machine
end

