-- ==== Sys2Proof/Machine/Operands.lean ====
section
/-! DEFINITION. The operands of the commands: reading a payload's fields by R205 to R208, the segment rows in
both directions, and the byte forms of numbers. -/

namespace Sys2Proof.Machine

/-! ### Numbers (R205: most significant byte first) -/

def byteAt (p : List Byte) (i : Nat) : Byte := p.getD i 0

def nat8At (p : List Byte) (i : Nat) : Nat := (byteAt p i).toNat

def nat16At (p : List Byte) (i : Nat) : Nat := nat8At p i * 256 + nat8At p (i + 1)

def nat32At (p : List Byte) (i : Nat) : Nat := nat16At p i * 65536 + nat16At p (i + 2)

/-- A 16-bit two's complement number. -/
def int16At (p : List Byte) (i : Nat) : Int := (byteAt p i ++ byteAt p (i + 1)).toInt

/-- An 8-bit two's complement number. -/
def int8At (p : List Byte) (i : Nat) : Int := (byteAt p i).toInt

def bytes8 (n : Nat) : List Byte := [BitVec.ofNat 8 n]

def bytes16 (n : Nat) : List Byte := [BitVec.ofNat 8 (n / 256), BitVec.ofNat 8 n]

def bytes32 (n : Nat) : List Byte := bytes16 (n / 65536) ++ bytes16 (n % 65536)

/-- The two bytes of a 16-bit vector. -/
def bytesOfBits16 (v : BitVec 16) : List Byte := [v.extractLsb' 8 8, v.extractLsb' 0 8]

/-- A power in a payload. A value outside 16 bits has no form in the manual (log 11). -/
def bytesPower (x : Int) : List Byte :=
  bytesOfBits16 (if -32768 ≤ x ∧ x ≤ 32767 then BitVec.ofInt 16 x else Config.powerOutOfRange x)

def bytesInt8 (x : Int) : List Byte := [BitVec.ofInt 8 x]

/-- A signed 32-bit number. -/
def bytesInt32 (x : Int) : List Byte := bytes32 (BitVec.ofInt 32 x).toNat

/-- A field that may be absent, behind its own presence byte; its value bytes are 0 when absent (R205). -/
def bytesOpt {α : Type} (width : Nat) (f : α → List Byte) : Option α → List Byte
  | none => 0 :: List.replicate width 0
  | some a => 1 :: f a

/-! ### Site telegrams to the part (R207) -/

/-- METER: import, grid cap, ambient. -/
def parseMeter (p : List Byte) : Option (Int × Option Int × Option Int) :=
  if p.length = 6 then
    some (int16At p 0, if flagAt (byteAt p 5) 1 then some (int16At p 2) else none,
      if flagAt (byteAt p 5) 0 then some (int8At p 4) else none)
  else none

/-- TIME: minute, weekday, second. -/
def parseTime (p : List Byte) : Option (Nat × Nat × Nat) :=
  if p.length = 4 then some (nat16At p 0, nat8At p 2, nat8At p 3) else none

/-- The fields of a DISPATCH (R137). -/
structure DispatchFields where
  id        : Nat
  dir       : Byte
  requested : Int
  delay     : Nat
  duration  : Nat
  deriving DecidableEq, Repr

def parseDispatch (p : List Byte) : Option DispatchFields :=
  if p.length = 11 then
    some { id := nat32At p 0, dir := byteAt p 4, requested := int16At p 5, delay := nat16At p 7, duration := nat16At p 9 }
  else none

def parseCancel (p : List Byte) : Option Nat := if p.length = 4 then some (nat32At p 0) else none

/-- SETREQ: position, requested power (absent: the clearing marker FFFFh), boost (R175). -/
def parseSetreq (p : List Byte) : Option (Nat × Option Int × Bool) :=
  if p.length = 4 then
    some (nat8At p 0, if nat16At p 1 = 0xFFFF then none else some (int16At p 1), flagAt (byteAt p 3) 0)
  else none

/-! ### STATUS and POOL-ACK (R206) -/

/-- A post report as a STATUS carries it, before clamping. -/
structure RawReport where
  occupied : Bool
  measured : Int
  held     : Option Nat
  accept   : Int
  deliver  : Int
  temp     : Option Int
  fault    : Nat
  deriving DecidableEq, Repr

/-- A complete STATUS. -/
structure StatusMsg where
  restarted : Bool
  mode      : Byte
  reports   : List RawReport
  events    : List RawEvent
  deriving DecidableEq, Repr

/-- The report of position i, at offset 2 + 11i. -/
def parseReport (p : List Byte) (i : Nat) : RawReport :=
  let o := 2 + 11 * i
  { occupied := flagAt (byteAt p o) 0
    measured := int16At p (o + 1)
    held := if flagAt (byteAt p o) 1 then some (nat16At p (o + 3)) else none
    accept := int16At p (o + 5)
    deliver := int16At p (o + 7)
    temp := if flagAt (byteAt p o) 2 then some (int8At p (o + 9)) else none
    fault := nat8At p (o + 10) }

/-- Event e, at offset 47 + 11e. -/
def parseEvent (p : List Byte) (e : Nat) : RawEvent :=
  let o := 47 + 11 * e
  { position := byteAt p o, kind := byteAt p (o + 1), seq := byteAt p (o + 2), tag := (p.drop (o + 3)).take 8 }

/-- A STATUS is complete when its event count lies from 0 to 12 and its length is 47 + 11 × count (R205). -/
def parseStatus (p : List Byte) : Option StatusMsg :=
  if 47 ≤ p.length ∧ nat8At p 46 ≤ 12 ∧ p.length = 47 + 11 * nat8At p 46 then
    some { restarted := flagAt (byteAt p 0) 0, mode := byteAt p 1, reports := positions.map (parseReport p),
           events := (List.range (nat8At p 46)).map (parseEvent p) }
  else none

/-- POOL-ACK: the result and the reason of 2 bytes (R206, log 15). -/
def parsePoolAck (p : List Byte) : Option (Byte × Nat) :=
  if p.length = 3 then some (byteAt p 0, nat16At p 1) else none

/-! ### Segment rows (R208) -/

/-- The bytes of a row of each segment. -/
def rowBytes : Segment → Nat
  | .fleet => 15 | .route => 15 | .yard => 11 | .commitment => 6 | .tariff => 8 | .passage => 7 | .settings => 39

def parseFleetRow (p : List Byte) : FleetRow where
  fleetNo := nat16At p 0
  tag := (p.drop 2).take 8
  capacity := nat16At p 10
  v2g := flagAt (byteAt p 12) 0
  cls := nat8At p 13
  target := nat8At p 14

def parseRouteRow (p : List Byte) : RouteRow where
  legNo := nat16At p 0
  assigned := nat16At p 2
  dayMask := byteAt p 4 &&& 0x7F
  recess := flagAt (byteAt p 5) 0
  departure := nat16At p 6
  ret := nat16At p 8
  base := nat16At p 10
  coldCoef := nat8At p 12
  preMin := nat8At p 13
  prePower := nat8At p 14

def parseYardRow (p : List Byte) : YardRow where
  station := nat8At p 0
  bidir := flagAt (byteAt p 1) 0
  ratings := [int16At p 2, int16At p 4, int16At p 6, int16At p 8]
  map := byteAt p 10

def parseCommitRow (p : List Byte) : CommitRow where
  up := int16At p 0
  down := int16At p 2
  resp := nat8At p 4
  enabled := flagAt (byteAt p 5) 0

def parseTariffRow (p : List Byte) : TariffRow where
  dayType := nat8At p 0
  start := nat16At p 1
  stop := nat16At p 3
  cls := nat8At p 5
  cap := if nat16At p 6 = 0xFFFF then none else some (int16At p 6)

def parsePassageRow (p : List Byte) : PassageRow where
  direction := nat8At p 0
  kind := byteAt p 1
  srcLow := nat8At p 2
  srcHigh := nat8At p 3
  dstLow := nat8At p 4
  dstHigh := nat8At p 5
  action := nat8At p 6

def parseSettings (p : List Byte) : Settings where
  importLimit := int16At p 0
  exportLimit := int16At p 2
  safetyMargin := int16At p 4
  staleMargin := int16At p 6
  fallbackBudget := int16At p 8
  pMin := int16At p 10
  rampStep := int16At p 12
  passPre := nat8At p 14
  turn := nat8At p 15
  fallbackTime := nat8At p 16
  replyTimeout := nat8At p 17
  waitLimit := nat8At p 18
  holdOff := nat8At p 19
  missLimit := nat8At p 20
  guestCap := int16At p 21
  chargeTarget := nat8At p 23
  holdMargin := nat16At p 24
  v2gMargin := nat16At p 26
  coldRef := int8At p 28
  defaultAmbient := int8At p 29
  grace := nat8At p 30
  earlyWindow := nat8At p 31
  sLo := nat8At p 32
  sHi := nat8At p 33
  sFloor := nat8At p 34
  sCeiling := nat8At p 35
  tolerance := nat8At p 36
  minTemp := int8At p 37
  season := nat8At p 38

/-- The row that a STAGE carries, of the segment's length exactly. -/
def parseRow (g : Segment) (p : List Byte) : Option Row :=
  if p.length = rowBytes g then
    some (match g with
      | .fleet => .fleet (parseFleetRow p)
      | .route => .route (parseRouteRow p)
      | .yard => .yard (parseYardRow p)
      | .commitment => .commitment (parseCommitRow p)
      | .tariff => .tariff (parseTariffRow p)
      | .passage => .passage (parsePassageRow p)
      | .settings => .settings (parseSettings p))
  else none

/-- The bytes of a SETTINGS row, in the order of R201's table. -/
def settingsBytes (r : Settings) : List Byte :=
  bytesPower r.importLimit ++ bytesPower r.exportLimit ++ bytesPower r.safetyMargin ++ bytesPower r.staleMargin ++
  bytesPower r.fallbackBudget ++ bytesPower r.pMin ++ bytesPower r.rampStep ++ bytes8 r.passPre ++ bytes8 r.turn ++
  bytes8 r.fallbackTime ++ bytes8 r.replyTimeout ++ bytes8 r.waitLimit ++ bytes8 r.holdOff ++ bytes8 r.missLimit ++
  bytesPower r.guestCap ++ bytes8 r.chargeTarget ++ bytes16 r.holdMargin ++ bytes16 r.v2gMargin ++
  bytesInt8 r.coldRef ++ bytesInt8 r.defaultAmbient ++ bytes8 r.grace ++ bytes8 r.earlyWindow ++ bytes8 r.sLo ++
  bytes8 r.sHi ++ bytes8 r.sFloor ++ bytes8 r.sCeiling ++ bytes8 r.tolerance ++ bytesInt8 r.minTemp ++
  bytes8 r.season

/-- The layout of a STAGE row, in which READ returns it (R196, R208). -/
def Row.bytes : Row → List Byte
  | .fleet r => bytes16 r.fleetNo ++ r.tag ++ bytes16 r.capacity ++ [flagByte [r.v2g]] ++ bytes8 r.cls ++
      bytes8 r.target
  | .route r => bytes16 r.legNo ++ bytes16 r.assigned ++ [r.dayMask] ++ [flagByte [r.recess]] ++
      bytes16 r.departure ++ bytes16 r.ret ++ bytes16 r.base ++ bytes8 r.coldCoef ++ bytes8 r.preMin ++
      bytes8 r.prePower
  | .yard r => bytes8 r.station ++ [flagByte [r.bidir]] ++ r.ratings.flatMap bytesPower ++ [r.map]
  | .commitment r => bytesPower r.up ++ bytesPower r.down ++ bytes8 r.resp ++ [flagByte [r.enabled]]
  | .tariff r => bytes8 r.dayType ++ bytes16 r.start ++ bytes16 r.stop ++ bytes8 r.cls ++
      (match r.cap with | none => bytes16 0xFFFF | some c => bytesPower c)
  | .passage r => bytes8 r.direction ++ [r.kind] ++ bytes8 r.srcLow ++ bytes8 r.srcHigh ++ bytes8 r.dstLow ++
      bytes8 r.dstHigh ++ bytes8 r.action
  | .settings r => settingsBytes r

end Sys2Proof.Machine
end

