-- ==== Sys2Proof/Machine/Codec.lean ====
section
/-! DEFINITION. The envelope of 11_telegram_formats_and_terminals.md: the CRC, a telegram's bytes, the receive
framer, and the payloads the part sends (R202 to R208). -/

namespace Sys2Proof.Machine

/-! ### The CRC (R204) -/

/-- One shift of the CRC register. -/
def crcShift (r : BitVec 16) : BitVec 16 := if r.getLsbD 15 then (r <<< 1) ^^^ 0x1021 else r <<< 1

/-- The CRC register after one byte. -/
def crcByte (r : BitVec 16) (b : Byte) : BitVec 16 :=
  timesDo crcShift 8 (r ^^^ (b ++ (0 : BitVec 8)))

/-- The CRC over bytes, from the initial value FFFFh. -/
def crc (l : List Byte) : BitVec 16 := l.foldl crcByte 0xFFFF

/-- The bytes the CRC covers, destination through payload. -/
def telegramCovered (t : Telegram) : List Byte :=
  [t.dst, t.src, t.kind, t.seq, BitVec.ofNat 8 t.payload.length] ++ t.payload

/-- A telegram's bytes on a link (R202). -/
def telegramBytes (t : Telegram) : List Byte :=
  startByte :: (telegramCovered t ++ bytesOfBits16 (crc (telegramCovered t)))

/-! ### The receive framer (R203) -/

/-- What a framer makes of the bytes it holds: a telegram and the bytes after it, or the bytes it still keeps. -/
inductive Framed where
  | telegram (t : Telegram) (rest : List Byte)
  | keep (rest : List Byte)
  deriving DecidableEq, Repr

/-- Read the bytes after a start byte: none asks for more bytes, `some none` discards the telegram. -/
def readAfterStart (l : List Byte) : Option (Option (Telegram × List Byte)) :=
  if l.length < 5 then none
  else
    let n := nat8At l 4
    if maxPayload < n then some none
    else if l.length < 5 + n + 2 then none
    else if bytesOfBits16 (crc (l.take (5 + n))) = (l.drop (5 + n)).take 2 then
      some (some (⟨byteAt l 0, byteAt l 1, byteAt l 2, byteAt l 3, (l.drop 5).take n⟩, l.drop (7 + n)))
    else some none

/-- Hunt for the next telegram. After a discard, hunting resumes at the byte that follows the start byte. -/
def hunt : List Byte → Framed
  | [] => .keep []
  | b :: l =>
    if b = startByte then
      match readAfterStart l with
      | none => .keep (b :: l)
      | some (some (t, rest)) => .telegram t rest
      | some none => hunt l
    else hunt l

/-- Every telegram in the bytes, in order, and the bytes kept. Each telegram takes at least one byte. -/
def frameAll : Nat → List Byte → List Telegram × List Byte
  | 0, l => ([], l)
  | n + 1, l =>
    match hunt l with
    | .keep rest => ([], rest)
    | .telegram t rest => ((t :: (frameAll n rest).1), (frameAll n rest).2)

/-! ### Payloads of the telegrams toward the site (R205, R207, R208) -/

/-- Weekday, minute and second. -/
def readingBytes (r : Reading) : List Byte := bytes8 r.weekday ++ bytes16 r.minute ++ bytes8 r.second

/-- A clock reading, weekday FFh without one (R207). -/
def readingOrAbsent : Option Reading → List Byte
  | none => [0xFF, 0, 0, 0]
  | some r => readingBytes r

/-- A post report in a STATUS-FWD, its fields in the order of R9 (log 9). -/
def reportBytes (r : Report) : List Byte :=
  [flagByte [r.occupied]] ++ bytesPower r.measured ++ bytesOpt 2 bytes16 r.held ++ bytesPower r.accept ++
  bytesPower r.deliver ++ bytesOpt 1 bytesInt8 r.temp ++ bytes8 r.fault

def eventBytes (e : RawEvent × Judgement) : List Byte :=
  [e.1.position, e.1.kind, e.1.seq] ++ e.1.tag ++ [e.2.code]

/-- R178's fields in order. A post without a report has 13 zero bytes. -/
def StatusFwd.bytes (c : StatusFwd) : List Byte :=
  bytes8 c.cabinet ++ [flagByte [c.restarted], c.mode] ++
  c.reports.flatMap (fun r => match r with | none => List.replicate 13 0 | some r => reportBytes r) ++
  c.states.map PostState.code ++ c.sent.flatMap bytesPower ++ c.events.flatMap eventBytes

/-- The phase of R97: WAITING 0, DUE 1, not listed 2, then the due verdict (log 9). -/
def phaseBytes : Option (Option Verdict) → List Byte
  | none => [2, 0, 0]
  | some none => [0, 0, 0]
  | some (some v) => [1, 1, v.code]

def lastOutcomeBytes (l : LastOutcome) : List Byte := bytes16 l.legNo ++ [l.outcome.code]

/-- R97's fields in order. That held energy and held age have a presence byte each, and the fields of a next leg one
together, is the model's choice (log 65). -/
def Readiness.bytes (r : Readiness) : List Byte :=
  bytes16 r.fleetNo ++ [r.verdict.code, r.tier.code] ++
  bytesOpt 8 (fun q => bytes16 q.1 ++ bytes16 q.2.1 ++ bytes16 q.2.2.1 ++ bytes16 q.2.2.2) r.nextLeg ++
  phaseBytes r.phase ++ bytes16 r.floor ++ bytesOpt 2 bytes16 (r.held.map Prod.fst) ++
  bytesOpt 2 bytes16 (r.held.map Prod.snd) ++ bytesOpt 1 bytes8 r.post ++ bytesOpt 3 lastOutcomeBytes r.last

def dispatchRefBytes (d : DispatchRef) : List Byte := bytes32 d.id ++ [d.dir.position] ++ bytesPower d.power

/-- R135's fields in order. The minutes left, 1 to 30, take 1 byte (log 9). -/
def Capability.bytes (c : Capability) : List Byte :=
  bytes8 c.slot ++ bytes8 c.left ++ bytesPower c.upCap ++ bytesPower c.downCap ++ bytesPower c.upCommit ++
  bytesPower c.downCommit ++ bytesOpt 7 dispatchRefBytes c.active ++ bytesOpt 7 dispatchRefBytes c.armed

/-- The view's part of a STORAGE; zeros and no as-of reading while there is no view (R167). -/
def viewBytes : Option View → List Byte
  | none => List.replicate 22 0
  | some v => bytesOpt 3 (fun q => bytes8 q.1 ++ bytes16 q.2) v.asOf ++ bytes32 v.discharge ++ bytes32 v.absorb ++
      bytesPower v.dischargePow ++ bytesPower v.absorbPow ++ bytes8 v.parked ++ bytes8 v.parkedPlugged ++
      bytes8 v.plugged ++ bytes8 v.withdrawn ++ bytes8 v.cold ++ bytes8 v.unreported

/-- R167's fields in order. -/
def Storage.bytes (v : Storage) : List Byte :=
  [v.season.code] ++ bytes8 v.band.floor ++ bytes8 v.band.lo ++ bytes8 v.band.hi ++ bytes8 v.band.ceiling ++
  viewBytes v.view

/-- R151's fields in order. -/
def Outcome.bytes (o : Outcome) : List Byte :=
  bytes32 o.id ++ [o.dir.position, o.endState.code] ++ bytesPower o.power ++ bytesPower o.baseline ++
  readingOrAbsent o.start ++ readingOrAbsent o.stop ++ bytes16 o.response ++ bytes32 o.outOfBand ++
  bytesInt32 o.delivered ++ [flagByte [o.late, o.notReached, o.shortfall]]

/-- DISP-REPLY (R207). -/
def DispReply.bytes (r : DispReply) : List Byte :=
  bytes32 r.id ++ [r.result.code, r.reason.code, r.dir] ++ bytesPower r.requested ++ bytesPower r.accepted ++
  bytes16 r.delay ++ bytes16 r.duration ++ bytes8 r.slot

/-- The result, reason and clamped value of a SETREQ-REPLY (R207). -/
def SetreqResult.bytes : SetreqResult → List Byte
  | .granted v => [0, 0] ++ bytesPower v
  | .dropped => [1, 1, 0, 0]
  | .badPost => [1, 2, 0, 0]
  | .notPlugged => [1, 3, 0, 0]
  | .linkBusy => [1, 4, 0, 0]

/-- SETREQ-REPLY (R207). -/
def SetreqReply.bytes (r : SetreqReply) : List Byte :=
  [r.cabinet, r.position, r.seq] ++ r.result.bytes ++
  (match r.cap with | none => bytes16 0xFFFF | some c => bytesPower c)

/-- The detail fields of each NOTICE code, those its own rule lists and in that order (R182, R207). R26 and R32 list
none for CABINET_ONLINE. CLOCK_JUMP carries the old weekday and minute, then the new (log 55). -/
def Notice.details : Notice → List Byte
  | .breach imp limit => bytesPower imp ++ bytesPower limit
  | .curtailed => []
  | .cabinetOffline c => bytes8 c
  | .cabinetOnline => []
  | .cabinetRestarted c => bytes8 c
  | .poolingDone c mode n => bytes8 c ++ [mode.code] ++ bytes8 n
  | .poolingFailed c target n cause =>
      bytes8 c ++ [target.code] ++ bytes8 n ++ [cause.code.1] ++ bytesOpt 2 bytes16 cause.code.2
  | .locationConflict n old new => bytes16 n ++ bytes8 old ++ bytes8 new
  | .meterStale b => bytesPower b
  | .meterFallback b => bytesPower b
  | .clockJump d m d' m' => bytes8 d ++ bytes16 m ++ bytes8 d' ++ bytes16 m'
  | .clockRejected m d s => bytes16 m ++ bytes8 d ++ bytes8 s
  | .legUnassigned l n why => bytes16 l ++ bytesOpt 2 bytes16 n ++ [why.code]
  | .legInfeasible l n f c => bytes16 l ++ bytes16 n ++ bytes16 f ++ bytes16 c
  | .dispatchShortfall i cause d => bytes32 i ++ [cause.code] ++ bytesPower d
  | .overLimit f p => bytesPower f ++ bytesPower p
  | .outOverflow n => bytes16 n
  | .plugQueueFull => []
  | .armedDropped i cause => bytes32 i ++ [cause.code]
  | .cancelUnmatched i => bytes32 i
  | .forwardRefused k d s => [k, d, s]

/-- The last result of R196: operation, result, and the row index and reason of a CONTENT. That the last two share one
presence byte is the model's choice (log 65). -/
def lastResultBytes (l : LastResult) : List Byte :=
  [l.op, l.result.code] ++ bytesOpt 3 (fun c => bytes16 c.1 ++ [c.2.code]) l.content

/-- R196's status record in the order of its table (log 9). Which of its fields share a presence byte is the model's
choice (log 65). -/
def StatusRecord.bytes (r : StatusRecord) : List Byte :=
  [r.op.code, flagByte [r.silence]] ++
  [if r.write.isSome then 1 else 0] ++ bytesOpt 1 (fun w => [w]) (r.write.map Prod.fst) ++
  bytesOpt 1 (fun g => [g]) ((r.write.bind Prod.snd).map Segment.code) ++
  bytesOpt 6 lastResultBytes r.lastResult ++ bytesOpt 1 (fun g => [g]) (r.staged.map Segment.code) ++
  bytes16 r.stagedRows ++
  r.segments.flatMap (fun g => [g.1.code, flagByte [g.2.1]] ++ bytes16 g.2.2) ++
  [flagByte [r.outOverflow, r.plugFull]] ++ [if r.clockSet then 1 else 0] ++
  bytesOpt 3 (fun q => bytes8 q.1 ++ bytes16 q.2) r.clock ++ bytes8 r.online ++ bytes8 r.located

/-- The details of a MGMT-REPLY (R208). The staged segment may be absent, so a flags byte goes before it (R205). -/
def MgmtDetails.bytes : MgmtDetails → List Byte
  | .none => []
  | .staged g n => bytesOpt 1 (fun c => [c]) (g.map Segment.code) ++ bytes16 n
  | .content row why => bytes16 row ++ [why.code]
  | .read g i row d => [g.code] ++ bytes16 i ++ row.bytes ++ [if d then 1 else 0]
  | .status r => r.bytes

/-- The kind of a telegram toward the site. -/
def OutBody.kind : OutBody → Byte
  | .statusFwd _ => kindStatusFwd
  | .readiness _ => kindReadiness
  | .capability _ => kindCapability
  | .storage _ => kindStorage
  | .setreqReply _ => kindSetreqReply
  | .mgmtReply .. => kindMgmtReply
  | .dispReply _ => kindDispReply
  | .outcome _ => kindOutcome
  | .notice .. => kindNotice
  | .forwarded t => t.kind

/-- The payload of a telegram toward the site. -/
def OutBody.payload : OutBody → List Byte
  | .statusFwd c => c.bytes
  | .readiness r => r.bytes
  | .capability c => c.bytes
  | .storage v => v.bytes
  | .setreqReply r => r.bytes
  | .mgmtReply op seq result details => [op, seq, result.code] ++ details.bytes
  | .dispReply r => r.bytes
  | .outcome o => o.bytes
  | .notice n r => [n.code] ++ readingOrAbsent r ++ n.details
  | .forwarded t => t.payload

/-- The telegram an outbound entry is sent as, with the own sequence where the part is its origin (R182). -/
def OutMsg.telegram (m : OutMsg) (own : Byte) : Telegram :=
  match m.body with
  | .forwarded t => t
  | b => ⟨m.dst, ownStation, b.kind, own, b.payload⟩

/-! ### Payloads of the telegrams toward the yard (R206) -/

/-- EXCHANGE: the four grants, the flags and the acknowledged sequence. -/
def exchangePayload (grants : List Int) (pre : List Bool) (restartAck : Bool) (ack : Option Nat) : List Byte :=
  grants.flatMap bytesPower ++ [flagByte (pre ++ [restartAck, ack.isSome])] ++ bytes8 (ack.getD 0)

/-- POOL: the target mode and the attempt number of 2 bytes (R206, log 15). -/
def poolPayload (target : Mode) (attempt : Nat) : List Byte := [target.code] ++ bytes16 attempt

/-- SETREQ with its requested power replaced (R176). -/
def setreqPayload (position : Nat) (power : Int) (boost : Bool) : List Byte :=
  bytes8 position ++ bytesPower power ++ [flagByte [boost]]

end Sys2Proof.Machine
end

