-- ==== Sys2Proof/Machine/Ops.lean ====
section
/-! DEFINITION. The named operations over the records: one update for each block, and reading and changing one
post, bus slot, cabinet, leg or segment. Every meaning changes the state through these. -/

namespace Sys2Proof.Machine

/-! ### One update for each block -/

def modSli (f : Sli → Sli) (s : State) : State := { s with sli := f s.sli }
def modYlc (f : Ylc → Ylc) (s : State) : State := { s with ylc := f s.ylc }
def modFrt (f : Frt → Frt) (s : State) : State := { s with frt := f s.frt }
def modSbu (f : Sbu → Sbu) (s : State) : State := { s with sbu := f s.sbu }
def modRdu (f : Rdu → Rdu) (s : State) : State := { s with rdu := f s.rdu }
def modAle (f : Ale → Ale) (s : State) : State := { s with ale := f s.ale }
def modRsu (f : Rsu → Rsu) (s : State) : State := { s with rsu := f s.rsu }
def modStp (f : Stp → Stp) (s : State) : State := { s with stp := f s.stp }
def modTsm (f : Tsm → Tsm) (s : State) : State := { s with tsm := f s.tsm }

/-- One more free value has been read. -/
def countFree (s : State) : State := { s with freeCount := s.freeCount + 1 }

/-! ### Posts (R9). Post p stands at place p − 4. -/

/-- The record of post p. -/
def postAt (s : State) (p : Nat) : Post := s.frt.posts.getD (p - 4) Post.initial

/-- A change of the record of post p; a number below 4 names no post. -/
def updPost (p : Nat) (f : Post → Post) (s : State) : State :=
  if p < 4 then s else modFrt (fun t => { t with posts := t.posts.modify (p - 4) f }) s

/-- Each post record changed, by its number. -/
def mapPosts (f : Nat → Post → Post) (s : State) : State :=
  modFrt (fun t => { t with posts := t.posts.mapIdx (fun i q => f (i + 4) q) }) s

/-! ### Buses (R2, R3) -/

/-- The bus in slot k, if the slot is occupied. -/
def busAt (s : State) (k : Nat) : Option Bus := s.frt.buses[k]?

/-- A change of the bus in slot k. -/
def updBus (k : Nat) (f : Bus → Bus) (s : State) : State :=
  modFrt (fun t => { t with buses := t.buses.modify k f }) s

/-- The slot that carries a fleet number. -/
def slotOf (s : State) (fleetNo : Nat) : Option Nat := s.frt.buses.findIdx? (fun b => b.fleetNo = fleetNo)

/-- The numbers of the occupied slots. -/
def slots (s : State) : List Nat := List.range s.frt.buses.length

/-- A bus's held energy; an absent one counts as 0 (R3). -/
def Bus.heldOr0 (b : Bus) : Nat :=
  match b.held with
  | none => 0
  | some h => h.energy

/-! ### Cabinets (R25). Station c stands at place c − 1. -/

/-- The record of station c; a number that is no station reads as not configured. -/
def cabAt (s : State) (c : Nat) : Cabinet :=
  if c = 0 then Cabinet.unconfigured else s.ylc.cabinets.getD (c - 1) Cabinet.unconfigured

/-- A change of the record of station c. -/
def updCab (c : Nat) (f : Cabinet → Cabinet) (s : State) : State :=
  if c = 0 then s else modYlc (fun y => { y with cabinets := y.cabinets.modify (c - 1) f }) s

/-- A change of station c's pooling sequencer. -/
def updPool (c : Nat) (f : Sequencer → Sequencer) (s : State) : State :=
  updCab c (fun r => { r with pool := f r.pool }) s

/-- The four posts of station c. -/
def postsOf (c : Nat) : List Nat := positions.map (postNo c)

/-- Is post p in a quiesce set (R52)? -/
def inQuiesce (s : State) (p : Nat) : Bool := (cabAt s (p / 4)).pool.quiesce.contains (p % 4)

/-! ### Legs (R85) -/

/-- The leg of a number. -/
def findLeg (legs : List Leg) (n : Nat) : Option Leg := legs.find? (fun l => l.row.legNo = n)

/-- A change of the leg of a number. -/
def updLeg (n : Nat) (f : Leg → Leg) (s : State) : State :=
  modRdu (fun r => { r with legs := r.legs.map (fun l => if l.row.legNo = n then f l else l) }) s

/-- A bus slot's last outcome. -/
def setLastOutcome (k : Nat) (l : LastOutcome) (s : State) : State :=
  modRdu (fun r => { r with lastOutcomes := r.lastOutcomes.modify k (fun _ => some l) }) s

/-! ### Segments (R186) -/

/-- The entry of a segment. -/
def SegTable.get {α : Type} (t : SegTable α) : Segment → α
  | .fleet => t.fleet
  | .route => t.route
  | .yard => t.yard
  | .commitment => t.commitment
  | .tariff => t.tariff
  | .passage => t.passage
  | .settings => t.settings

/-- The table with the entry of a segment replaced. -/
def SegTable.set {α : Type} (t : SegTable α) (g : Segment) (a : α) : SegTable α :=
  match g with
  | .fleet => { t with fleet := a }
  | .route => { t with route := a }
  | .yard => { t with yard := a }
  | .commitment => { t with commitment := a }
  | .tariff => { t with tariff := a }
  | .passage => { t with passage := a }
  | .settings => { t with settings := a }

/-- The seven segments in the order of R186. -/
def segments : List Segment := [.fleet, .route, .yard, .commitment, .tariff, .passage, .settings]

/-- The capacity of each segment in rows (R186). -/
def Segment.capacity : Segment → Nat
  | .fleet => 96
  | .route => 256
  | .yard => 16
  | .commitment => 48
  | .tariff => 24
  | .passage => 16
  | .settings => 1

/-- A change of a stored segment. -/
def updStored (g : Segment) (f : StoredSeg → StoredSeg) (s : State) : State :=
  modTsm (fun t => { t with store := t.store.set g (f (t.store.get g)) }) s

/-! ### The clock -/

/-- The clock reading, absent while the clock is NOT_SET (R182). -/
def clockReading (s : State) : Option Reading :=
  if s.rdu.clock.set then some ⟨s.rdu.clock.weekday, s.rdu.clock.minute, s.rdu.clock.second⟩ else none

/-- An allocation pass is asked for: the pending trigger is set, but for STARTING (R103, R104). Where no pass
runs, `runTriggers` then starts it. -/
def wantPass (s : State) : State :=
  if s.tsm.op = .starting then s else modAle (fun a => { a with pending := true }) s

end Sys2Proof.Machine
end

