-- ==== Sys2Proof/Machine/Outbound.lean ====
section
/-! DEFINITION. The site outbound queue (R179 to R182): joining, replacing, making room, dropping, and the
sending of the head. -/

namespace Sys2Proof.Machine

/-- The coalescing keys (R179). -/
inductive Key where
  | statusFwd (station : Nat)
  | readiness (fleetNo : Nat)
  | capability
  | storage
  deriving DecidableEq, Repr

/-- The key of a telegram, none for the kinds that are not coalesced. -/
def OutMsg.key (m : OutMsg) : Option Key :=
  match m.body with
  | .statusFwd c => some (.statusFwd c.cabinet)
  | .readiness r => some (.readiness r.fleetNo)
  | .capability _ => some .capability
  | .storage _ => some .storage
  | _ => none

def OutMsg.isStatusFwd (m : OutMsg) : Bool :=
  match m.body with
  | .statusFwd _ => true
  | _ => false

def OutMsg.isReadiness (m : OutMsg) : Bool :=
  match m.body with
  | .readiness _ => true
  | _ => false

/-- The queue holds 32 telegrams (R179). -/
def outCapacity : Nat := 32

/-- Does a telegram that is not coalesced find neither a free place nor an entry to remove (R180)? -/
def outDropped (q : List OutMsg) : Bool :=
  decide (outCapacity ≤ q.length) && !q.any OutMsg.isStatusFwd && !q.any OutMsg.isReadiness

/-- The queue after a telegram has come to it (R179, R180). -/
def joinQueue (m : OutMsg) (q : List OutMsg) : List OutMsg :=
  match m.key with
  | some k =>
    if q.any (fun e => e.key = some k) then q.map (fun e => if e.key = some k then m else e)
    else if q.length < outCapacity then q ++ [m]
    else q
  | none =>
    if q.length < outCapacity then q ++ [m]
    else if q.any OutMsg.isStatusFwd then q.eraseP OutMsg.isStatusFwd ++ [m]
    else if q.any OutMsg.isReadiness then q.eraseP OutMsg.isReadiness ++ [m]
    else q

/-- A drop raises the drop count to at most 65,535 and sets the marker and the OUT_OVERFLOW flag (R180). -/
def countDrop (s : State) : State :=
  modTsm (fun t => { t with outOverflow := true })
    (modSli (fun i => { i with overflow := true, dropCount := min 65535 (i.dropCount + 1) }) s)

/-- A telegram comes to the queue. -/
def putOut (m : OutMsg) (s : State) : State :=
  let s' := modSli (fun i => { i with out := joinQueue m i.out }) s
  if m.key = none ∧ outDropped s.sli.out = true then countDrop s' else s'

/-- Is sending open (R181)? -/
def sendOpen (s : State) : Bool := s.tsm.op = .coordinating || s.tsm.op = .safe

/-- The head's sending begins: it leaves the queue and takes the own sequence unless it is forwarded (R182). -/
def beginSend (m : OutMsg) (rest : List OutMsg) (s : State) : State :=
  modSli (fun i => { i with
    out := rest
    tx := some (m.telegram i.ownSeq)
    ownSeq := match m.body with
      | .forwarded _ => i.ownSeq
      | _ => i.ownSeq + 1 }) s

/-- With the overflow marker set the OUT_OVERFLOW notice is queued, and marker and count clear; a notice dropped at a full
queue leaves the marker set and raises the count (R181). -/
def reportOverflow (s : State) : State :=
  if s.sli.overflow then
    let m : OutMsg := ⟨operatorStation, .notice (.outOverflow s.sli.dropCount) (clockReading s)⟩
    if outDropped s.sli.out then putOut m s
    else modSli (fun i => { i with overflow := false, dropCount := 0 }) (putOut m s)
  else s

/-- Does the OUT_OVERFLOW notice wait for another telegram of the tick to take the freed place? The marker is set at a full
queue, so that room under a set marker says that an entry has left since (R181, log 51). -/
def noticeWaits (s : State) : Bool := s.sli.overflow && decide (s.sli.out.length < outCapacity)

/-- An entry has left the queue. Under a set marker the notice takes the freed place, or waits for another telegram of the
tick, as a free value picks; one that has waited since an earlier entry left waits no more (R181, log 51). -/
def placeFreed (waited : Bool) (s : State) : State :=
  if s.sli.overflow && !waited then
    let s1 := modSli (fun i => { i with orderCount := i.orderCount + 1 }) s
    if Config.noticeFirst s.sli.orderCount then reportOverflow s1 else s1
  else reportOverflow s

/-- SLI sends the head whenever the transmitter is idle and sending is open (R181). -/
def trySend (s : State) : State :=
  if sendOpen s && s.sli.tx.isNone then
    match s.sli.out with
    | [] => s
    | m :: rest => placeFreed (noticeWaits s) (beginSend m rest s)
  else s

/-- The OUT_OVERFLOW notice, where it waits, is queued. -/
def reportWaiting (waits : Bool) (s : State) : State := if waits then reportOverflow s else s

/-- A telegram is queued to the site, and sent at once where the transmitter is idle. It takes a freed place ahead of an
OUT_OVERFLOW notice that waits, which then follows it (R181). -/
def queueOut (m : OutMsg) (s : State) : State := trySend (reportWaiting (noticeWaits s) (putOut m s))

/-- The destination of a NOTICE by its code (R182). FORWARD_REFUSED has the source it answers. -/
def Notice.destination : Notice → Byte
  | .dispatchShortfall .. | .armedDropped .. | .cancelUnmatched .. => aggregatorStation
  | .legUnassigned .. | .legInfeasible .. => schedulerStation
  | _ => operatorStation

/-- A NOTICE is queued, with the clock reading of this moment. -/
def notice (n : Notice) (s : State) : State := queueOut ⟨n.destination, .notice n (clockReading s)⟩ s

end Sys2Proof.Machine
end

