-- ==== Sys2Proof/Machine/Budget.lean ====
section
/-! DEFINITION. The site budget of 04_site_budget.md: what SBU computes from its own state and from the records
at the moment of reading (R62 to R70), the tariff in force (R73, R74), and the minutes to a recorded leg's
departure (R114). -/

namespace Sys2Proof.Machine

/-! ### The fleet's measured power (R62) -/

/-- Does a cabinet's link state count in the fleet measured net power (R26)? -/
def countsMeasured (c : Cabinet) : Bool := c.link = .online || c.link = .missing

/-- The measured power in a post's last report, 0.0 without one. -/
def measuredOf (p : Post) : Int := (p.report.map Report.measured).getD 0

/-- The fleet measured net power (R62). -/
def fleetMeasured (s : State) : Int :=
  ((stations.filter (fun c => countsMeasured (cabAt s c))).flatMap
    (fun c => (postsOf c).map (fun p => measuredOf (postAt s p)))).sum

/-! ### The limit in force, the charge-back, the budget and the export floor -/

/-- The limit in force L (R65). -/
def limitInForce (s : State) : Int :=
  minOf s.tsm.settings.importLimit
    (s.sbu.tariff.cap.toList ++ (if s.sbu.meter = .fresh then s.sbu.gridCap.toList else []))

/-- The cabinet fallback time in ticks (R44). -/
def fallbackTicks (s : State) : Nat := s.tsm.settings.fallbackTime * 10

/-- Does a cabinet's charge-back stand (R44)? -/
def chargeBackStands (s : State) (c : Cabinet) : Bool := c.link = .offline && decide (c.age < fallbackTicks s)

/-- The offline charge-back C_off (R66). -/
def chargeBack (s : State) : Int :=
  ((stations.filter (fun c => chargeBackStands s (cabAt s c))).flatMap
    (fun c => (postsOf c).map (fun p => max 0 (postAt s p).sentGrant))).sum

/-- Is the budget the fallback budget (R67)? -/
def onFallback (s : State) : Bool :=
  s.tsm.op = .island || s.sbu.meter = .none || s.sbu.meter = .fallback

/-- The held building load; an absent one counts as 0. -/
def buildingOr0 (s : State) : Int := s.sbu.building.getD 0

/-- The site budget F_site (R67). -/
def fSite (s : State) : Int :=
  let g := s.tsm.settings
  sat16 (if onFallback s then g.fallbackBudget
    else if s.sbu.meter = .stale then
      limitInForce s - (buildingOr0 s + g.staleMargin) - g.safetyMargin - chargeBack s
    else limitInForce s - buildingOr0 s - g.safetyMargin - chargeBack s)

/-- The export floor F_lo (R68). -/
def fLo (s : State) : Int :=
  let g := s.tsm.settings
  sat16 (if onFallback s then -g.exportLimit + g.safetyMargin
    else -(g.exportLimit + buildingOr0 s) + g.safetyMargin)

/-! ### Minutes to departure and preconditioning (R69, R114) -/

/-- The close minute of a leg under a departure grace (R85). -/
def Leg.close (l : Leg) (grace : Nat) : Nat := l.row.departure + grace

/-- The minutes to departure of a recorded next leg (R114): 120 while the clock is NOT_SET. -/
def legMinutes (clockSet : Bool) (minute grace : Nat) (l : Leg) : Nat :=
  if clockSet then
    if l.outcome = .pending ∧ minute < l.close grace then l.row.departure - minute
    else 1440 - minute + l.row.departure
  else 120

/-- The precondition draw of the bus at a post (R69). -/
def preDraw (s : State) (p : Nat) : Int :=
  match (postAt s p).bus.bind (busAt s) with
  | none => 0
  | some b =>
    match b.nextLeg.bind (findLeg s.rdu.legs) with
    | none => 0
    | some l =>
      if s.rdu.clock.set = true ∧ b.state = .plugged ∧ (postAt s p).state = .plugged ∧ inQuiesce s p = false ∧
          legMinutes true s.rdu.clock.minute s.tsm.settings.grace l ≤ l.row.preMin then l.row.prePower
      else 0

/-- The precondition draw of each post, post p at place p − 4. -/
def preDraws (s : State) : List Int := postNos.map (preDraw s)

/-- The precondition total P_pre (R69). -/
def pPre (s : State) : Int := (preDraws s).sum

/-! ### The tariff in force (R73, R74) -/

/-- The day type (R73 step 1). -/
def dayTypeFor (season : Season) (weekday : Nat) : DayType :=
  if season = .term ∧ weekday ≤ 4 then .school else .other

/-- Does a window cover a minute (R73 step 2)? -/
def Window.covers (w : Window) (m : Nat) : Bool :=
  if w.start < w.stop then decide (w.start ≤ m ∧ m < w.stop) else decide (w.start ≤ m ∨ m < w.stop)

/-- The tariff in force as the clock, the season and the windows give it (R73). -/
def tariffNow (s : State) : Tariff :=
  if s.rdu.clock.set then
    let day := dayTypeFor s.stp.season s.rdu.clock.weekday
    match s.sbu.windows.find? (fun w => w.day = day && w.covers s.rdu.clock.minute) with
    | none => ⟨some day, none, .shoulder, none⟩
    | some w => ⟨some day, some w, w.cls, w.cap⟩
  else Tariff.initial

/-- The tariff is evaluated; a change of class or cap is an edge and asks for a pass (R74). -/
def evalTariff (s : State) : State :=
  let t := tariffNow s
  let s' := modSbu (fun b => { b with tariff := t }) s
  if t.cls = s.sbu.tariff.cls ∧ t.cap = s.sbu.tariff.cap then s' else wantPass s'

/-- A TARIFF row as a window. -/
def windowOf (r : TariffRow) : Window := ⟨dayTypeOf r.dayType, r.start, r.stop, tariffClassOf r.cls, r.cap⟩

end Sys2Proof.Machine
end

