-- ==== Sys2Proof/Machine/Fleet.lean ====
section
/-! DEFINITION. Location and post states of 01_fleet_records.md: a change of a post's state with its effects
(R10), locating and unlocating (R11), settling (R12), and taking a held value (R4). Also the module map that
settling reads (R48). -/

namespace Sys2Proof.Machine

/-! ### Modules (R48) -/

/-- The modules that feed a position under a mode (R48's table). -/
def feeds : Mode → Nat → List Nat
  | .split, 0 => [0] | .split, 1 => [1] | .split, 2 => [2] | .split, 3 => [3]
  | .pairA, 0 => [0, 1] | .pairA, 2 => [2] | .pairA, 3 => [3]
  | .pairB, 0 => [0] | .pairB, 1 => [1] | .pairB, 2 => [2, 3]
  | .pairAB, 0 => [0, 1] | .pairAB, 2 => [2, 3]
  | .quad, 0 => [0, 1, 2, 3]
  | _, _ => []

/-- The modules that feed a position while the mode in force may be absent. -/
def feedsInForce (m : Option Mode) (i : Nat) : List Nat :=
  match m with
  | none => []
  | some m => feeds m i

/-- The pooled rating: the sum of the ratings of the modules that feed the post (R48). -/
def pooledRating (ratings : List Int) (m : Option Mode) (i : Nat) : Int :=
  ((feedsInForce m i).map (fun k => ratings.getD k 0)).sum

/-- Does a module feed post p under its cabinet's mode in force? -/
def isFed (s : State) (p : Nat) : Bool := !(feedsInForce (cabAt s (p / 4)).pool.inForce (p % 4)).isEmpty

/-! ### Post states (R10) -/

/-- The holding states (R10). -/
def PostState.holding : PostState → Bool
  | .unknown | .faulted | .disabled | .offline => true
  | _ => false

/-- PLUGGED and GUEST, the states a pass takes (R112). -/
def PostState.served : PostState → Bool
  | .plugged | .guest => true
  | _ => false

/-- EMPTY, UNKNOWN and HELD, on which the previous grant becomes 0.0 (R10). -/
def PostState.clearsPrev : PostState → Bool
  | .empty | .unknown | .held => true
  | _ => false

/-- The record of a post that enters another state, with the effects of R10 on its own fields. -/
def Post.enter (q : Post) (st : PostState) : Post :=
  { q with
    state := st
    grant := if st.served then q.grant else 0
    prevGrant := if st.clearsPrev then 0 else q.prevGrant
    requestCap := if st.served then q.requestCap else none
    boost := if st.served then q.boost else false
    mismatch := 0 }

/-- A post leaves the rotation ring and takes tier IDLE in the table (R130). -/
def leaveRing (p : Nat) (s : State) : State :=
  modAle (fun a => { a with ring := a.ring.filter (· ≠ p), tiers := a.tiers.set (p - 4) .idle }) s

/-- A post's state becomes another one (R10, R130). A post already in it is left as it is. -/
def setPostState (p : Nat) (st : PostState) (s : State) : State :=
  if (postAt s p).state = st then s
  else
    let s' := updPost p (fun q => q.enter st) s
    if (postAt s p).state.served ∧ ¬ st.served then leaveRing p s' else s'

/-! ### Location (R11) -/

/-- A post's bus field becomes absent, and its precondition flag no (R10). -/
def clearBusField (p : Nat) (s : State) : State := updPost p (fun q => { q with bus := none, precond := false }) s

/-- A bus state that an event gives, unless the bus is WITHDRAWN (R5). -/
def BusState.orWithdrawn (now next : BusState) : BusState := if now = .withdrawn then .withdrawn else next

/-- Both sides of a post's pairing are cleared, and the bus takes a state (R11). -/
def unlocate (p : Nat) (next : BusState) (s : State) : State :=
  match (postAt s p).bus with
  | none => s
  | some k => updBus k (fun b => { b with post := none, state := b.state.orWithdrawn next }) (clearBusField p s)

/-- A bus takes the held value of a post's last report, clamped to its capacity, with age 0 (R4, R35). -/
def takeHeld (k p : Nat) (s : State) : State :=
  match (postAt s p).report.bind Report.held with
  | none => s
  | some h => updBus k (fun b => { b with held := some ⟨min h b.capacity, 0, 0⟩ }) s

/-- A bus is located at a post: both fields are written, the held value taken, the state PLUGGED (R15 step 4). -/
def locate (k p : Nat) (s : State) : State :=
  takeHeld k p
    (updBus k (fun b => { b with post := some p, state := b.state.orWithdrawn .plugged })
      (updPost p (fun q => { q with bus := some k }) s))

/-! ### Settling (R12) -/

/-- The settled state; `faultTest` is skipped on FAULT_CLEAR. -/
def settledState (s : State) (p : Nat) (faultTest : Bool) : PostState :=
  let q := postAt s p
  if isFed s p = false then .disabled
  else if faultTest = true ∧ 0 < (q.report.map Report.fault).getD 0 then .faulted
  else if q.bus.isSome then .plugged
  else if (q.report.map Report.occupied).getD false then .guest
  else .empty

/-- A post is settled. -/
def settle (p : Nat) (faultTest : Bool) (s : State) : State := setPostState p (settledState s p faultTest) s

/-! ### The mode in force (R49) -/

/-- One post of a cabinet after a change of its mode in force or of its ratings (R49). A post in UNKNOWN or
OFFLINE keeps its state until it is settled (log 19). -/
def refeed (c i : Nat) (s : State) : State :=
  let p := postNo c i
  let s' := updPost p (fun q => { q with rating := pooledRating (cabAt s c).ratings (cabAt s c).pool.inForce i }) s
  let st := (postAt s p).state
  if st = .unknown ∨ st = .offline then s'
  else if isFed s p = false then setPostState p .disabled s'
  else if st = .disabled then settle p true s'
  else s'

/-- The four posts of a cabinet after a change of its mode in force or of its ratings. -/
def refeedAll (c : Nat) (s : State) : State := positions.foldl (fun s i => refeed c i s) s

/-- The mode in force becomes another mode (R49). -/
def setModeInForce (c : Nat) (m : Option Mode) (s : State) : State :=
  if (cabAt s c).pool.inForce = m then s else refeedAll c (updPool c (fun q => { q with inForce := m }) s)

end Sys2Proof.Machine
end

