-- ==== Sys2Proof/Machine/Readiness.lean ====
section
/-! DEFINITION. The legs, floors and departure list of 05_route_readiness.md: effective bus (R86), next leg
(R87), floors (R88), READINESS (R97), the list (R90 to R93), the departure judgement (R94), the day change (R84)
and the writing of the readiness fields at a pass completion (R86, R89, R95, R96). -/

namespace Sys2Proof.Machine

/-! ### Legs and their buses -/

/-- Does a leg run on a weekday in a season (R85)? -/
def RouteRow.runs (r : RouteRow) (weekday : Nat) (season : Season) : Bool :=
  flagAt r.dayMask weekday && (decide (season = .term) || r.recess)

/-- The outcome of a leg not yet judged today: PENDING or NOT_TODAY (R84 step 3). PENDING while the clock is
NOT_SET (log 25). -/
def todayOutcome (s : State) (r : RouteRow) : LegOutcome :=
  if s.rdu.clock.set = false ∨ r.runs s.rdu.clock.weekday s.stp.season = true then .pending else .notToday

/-- A leg's effective bus by fleet number (R86). -/
def Leg.effective (l : Leg) : Option Nat :=
  match l.substitute with
  | some n => some n
  | none => if l.row.assigned = 0 then none else some l.row.assigned

/-- The leg with today's substitute taken as absent (R87 step 2). -/
def Leg.tomorrow (l : Leg) : Leg := { l with substitute := none }

/-- Why a leg is unassigned, if it is (R86). -/
def unassignedReason (s : State) (l : Leg) : Option UnassignedReason :=
  match l.effective with
  | none => some .noBus
  | some n =>
    match (slotOf s n).bind (busAt s) with
    | none => some .notInFleet
    | some b => if b.state = .withdrawn then some .withdrawn else none

/-- The slot of the bus a leg belongs to; none while it is unassigned (R86). -/
def legSlot (s : State) (l : Leg) : Option Nat :=
  if (unassignedReason s l).isSome then none else l.effective.bind (slotOf s)

/-! ### Floors (R88) -/

/-- The ambient temperature RDU reads (R64). -/
def ambientNow (s : State) : Int := s.sbu.ambient.getD s.tsm.settings.defaultAmbient

/-- The floor of a leg, not capped (R88). -/
def legFloor (s : State) (r : RouteRow) : Nat :=
  r.base + r.coldCoef * (max 0 (s.tsm.settings.coldRef - ambientNow s)).toNat + s.tsm.settings.holdMargin

/-! ### The next leg (R87, R89) -/

/-- Is a leg of today still open: PENDING with its close minute ahead (R87 step 1)? -/
def openToday (s : State) (l : Leg) : Bool :=
  l.outcome = .pending && decide (s.rdu.clock.minute < l.close s.tsm.settings.grace)

/-- Does a leg run tomorrow within 1440 minutes (R87 step 2)? -/
def withinTomorrow (s : State) (l : Leg) : Bool :=
  l.row.runs ((s.rdu.clock.weekday + 1) % 7) s.stp.season && decide (l.row.departure ≤ s.rdu.clock.minute)

/-- A next leg as found now: the leg, its minutes to departure, and whether it is one of tomorrow. -/
structure NextLeg where
  leg      : Leg
  mins     : Nat
  tomorrow : Bool
  deriving DecidableEq, Repr

/-- The leg of the largest floor, the first in ROUTE order among equals (R89, log 35). -/
def largestFloor (s : State) : List Leg → Option Leg
  | [] => none
  | l :: ls =>
    match largestFloor s ls with
    | none => some l
    | some m => if legFloor s m.row ≤ legFloor s l.row then some l else some m

/-- The next leg of the bus in slot k (R87), and by R89 while the clock is NOT_SET. -/
def findNextLeg (s : State) (k : Nat) : Option NextLeg :=
  if s.rdu.clock.set then
    match s.rdu.legs.find? (fun l => openToday s l && (legSlot s l == some k)) with
    | some l => some ⟨l, l.row.departure - s.rdu.clock.minute, false⟩
    | none =>
      match s.rdu.legs.find? (fun l => withinTomorrow s l && (legSlot s l.tomorrow == some k)) with
      | some l => some ⟨l, 1440 - s.rdu.clock.minute + l.row.departure, true⟩
      | none => none
  else (largestFloor s (s.rdu.legs.filter (fun l => legSlot s l == some k))).map (fun l => ⟨l, 120, false⟩)

/-! ### READINESS (R97) -/

/-- The phase of a leg on the departure list. -/
def phaseOf (s : State) (legNo : Nat) : Option (Option Verdict) :=
  (s.rdu.list.find? (fun e => e.legNo = legNo)).map DepEntry.due

/-- Is the recorded next leg a leg of tomorrow (R87 step 2, log 50)? -/
def nextIsTomorrow (s : State) (b : Bus) : Bool :=
  s.rdu.clock.set && decide (b.nextDay = some ((s.rdu.clock.weekday + 1) % 7))

/-- The minutes to departure of the recorded next leg (R87). A leg of today that has departed or closed since it was
recorded is counted at its next running, as R114 counts it (log 50). -/
def nextMinutes (s : State) (b : Bus) (l : Leg) : Nat :=
  if nextIsTomorrow s b then 1440 - s.rdu.clock.minute + l.row.departure
  else legMinutes s.rdu.clock.set s.rdu.clock.minute s.tsm.settings.grace l

/-- The content of a READINESS for the bus in slot k, as its state stands. The list holds legs of today, so a leg of
tomorrow is not listed. A recorded next leg that a ROUTE activation has removed is sent as absent (DESIGN CHOICE, log 69). -/
def readinessOf (s : State) (k : Nat) (b : Bus) : Readiness :=
  let leg := b.nextLeg.bind (findLeg s.rdu.legs)
  { fleetNo := b.fleetNo
    verdict := b.verdict
    tier := b.tier
    nextLeg := leg.map (fun l => (l.row.legNo, l.row.departure, l.row.ret, nextMinutes s b l))
    phase := if nextIsTomorrow s b then none else leg.bind (fun l => phaseOf s l.row.legNo)
    floor := b.floor
    held := b.held.map (fun h => (h.energy, h.age))
    post := b.post
    last := (s.rdu.lastOutcomes.getD k none) }

/-- A READINESS is queued for the bus in slot k. -/
def queueReadiness (k : Nat) (s : State) : State :=
  match busAt s k with
  | none => s
  | some b => queueOut ⟨schedulerStation, .readiness (readinessOf s k b)⟩ s

/-! ### The departure list -/

/-- The list holds 8 entries (R90). -/
def listCapacity : Nat := 8

/-- A leg's outcome is written, with its bus's last outcome and a READINESS (R92, R93, R94). -/
def writeOutcome (legNo k : Nat) (o : LegOutcome) (s : State) : State :=
  queueReadiness k (setLastOutcome k ⟨legNo, o⟩ (updLeg legNo (fun l => { l with outcome := o }) s))

/-- An entry is taken off the list. -/
def dropEntry (legNo : Nat) (s : State) : State :=
  modRdu (fun r => { r with list := r.list.filter (fun e => e.legNo ≠ legNo) }) s

/-- The verdict an entry falling due takes: the effective bus's, NO_LEG for an unassigned leg (R92 step 1). -/
def dueVerdict (s : State) (l : Leg) : Verdict :=
  match (legSlot s l).bind (busAt s) with
  | none => .noLeg
  | some b => b.verdict

/-- The provisional judgement of R92: the entry becomes DUE with its verdict. Yes says that the leg's outcome
was written, so that its entry leaves. -/
def judgeDue (l : Leg) (s : State) : State × Bool :=
  let v := dueVerdict s l
  let s1 := modRdu (fun r => { r with list := r.list.map (fun e => if e.legNo = l.row.legNo then { e with due := some v } else e) }) s
  match legSlot s l with
  | none => (s1, false)
  | some k =>
    if (busAt s k).map Bus.state = some .onRoute then
      (writeOutcome l.row.legNo k (if v = .ready then .departedReady else .departedShort) s1, true)
    else (queueReadiness k s1, false)

/-- The close of an entry's leg (R93): a PENDING leg becomes NOT_DEPARTED, reported for its bus if it has one. -/
def closeLeg (l : Leg) (s : State) : State :=
  if l.outcome = .pending then
    match legSlot s l with
    | none => updLeg l.row.legNo (fun l => { l with outcome := .notDeparted }) s
    | some k => writeOutcome l.row.legNo k .notDeparted s
  else s

/-- Has the close of a leg been reached? At the end of the day every close has (R84 step 1). -/
def closeReached (s : State) (endOfDay : Bool) (l : Leg) : Bool :=
  endOfDay || decide (l.close s.tsm.settings.grace ≤ s.rdu.clock.minute)

/-- The refill (R91) over the legs after the anchor. -/
def refillFrom (endOfDay : Bool) : List Leg → State → State
  | [], s => s
  | l :: ls, s =>
    if l.outcome ≠ .pending ∨ s.rdu.list.any (fun e => e.legNo = l.row.legNo) = true then refillFrom endOfDay ls s
    else
      let s1 := modRdu (fun r => { r with list := r.list ++ [⟨l.row.legNo, none⟩] }) s
      if endOfDay = false ∧ s.rdu.clock.minute < l.row.departure then s1
      else
        let j := judgeDue l s1
        if j.2 then refillFrom endOfDay ls (dropEntry l.row.legNo j.1)
        else if closeReached s endOfDay l then refillFrom endOfDay ls (dropEntry l.row.legNo (closeLeg l j.1))
        else j.1

/-- The legs after a leg, in ROUTE order. -/
def legsAfter (n : Nat) (legs : List Leg) : List Leg := (legs.dropWhile (fun l => l.row.legNo ≠ n)).drop 1

/-- An entry leaves the list and the list is refilled, after its last entry or after the leg that left (R91). -/
def leaveList (endOfDay : Bool) (legNo : Nat) (s : State) : State :=
  let s1 := dropEntry legNo s
  let anchor := ((s1.rdu.list.getLast?).map DepEntry.legNo).getD legNo
  refillFrom endOfDay (legsAfter anchor s1.rdu.legs) s1

/-- An entry that falls due at this moment is judged, and leaves where its outcome is written (R92). -/
def fallDue (when : Leg → Bool) (legNo : Nat) (s : State) : State :=
  match s.rdu.list.find? (fun e => e.legNo = legNo), findLeg s.rdu.legs legNo with
  | some e, some l =>
    if e.due = none ∧ when l = true then
      let j := judgeDue l s
      if j.2 then leaveList false legNo j.1 else j.1
    else s
  | _, _ => s

/-- An entry closes where its close minute has been reached (R93). -/
def closeEntry (endOfDay : Bool) (legNo : Nat) (s : State) : State :=
  match s.rdu.list.find? (fun e => e.legNo = legNo), findLeg s.rdu.legs legNo with
  | some _, some l => if closeReached s endOfDay l then leaveList endOfDay legNo (closeLeg l s) else s
  | _, _ => s

/-- The leg numbers on the list, in list order. -/
def listed (s : State) : List Nat := s.rdu.list.map DepEntry.legNo

/-- Every WAITING entry that meets the test falls due, in list order. -/
def fallDueAll (when : Leg → Bool) (s : State) : State := (listed s).foldl (fun s n => fallDue when n s) s

/-- Every entry whose close has been reached closes, in list order. -/
def closeAll (endOfDay : Bool) (s : State) : State := (listed s).foldl (fun s n => closeEntry endOfDay n s) s

/-- The minute processing of the departure list (R92, R93). -/
def processMinute (s : State) : State :=
  closeAll false (fallDueAll (fun l => l.row.departure = s.rdu.clock.minute) s)

/-- The entries the list takes in ROUTE order: the kept DUE entries at their places, and open legs of today
while there is room (R90, R100 step 4, log 28). -/
def takeEntries (s : State) (kept : List DepEntry) : Nat → List Leg → List DepEntry
  | _, [] => []
  | room, l :: ls =>
    match kept.find? (fun e => e.legNo = l.row.legNo) with
    | some e => e :: takeEntries s kept room ls
    | none =>
      if openToday s l then
        match room with
        | 0 => takeEntries s kept 0 ls
        | n + 1 => ⟨l.row.legNo, none⟩ :: takeEntries s kept n ls
      else takeEntries s kept room ls

/-- The list is formed around kept entries, and the legs whose minute has been reached are judged (R90). All the legs taken
are on the list before the first of them is judged, so that a leg refilled for one of them is judged before the rest
(DESIGN CHOICE, log 62). -/
def formList (kept : List DepEntry) (s : State) : State :=
  if s.rdu.clock.set then
    let s1 := modRdu (fun r => { r with list := takeEntries s kept (listCapacity - kept.length) s.rdu.legs }) s
    fallDueAll (fun l => l.row.departure ≤ s.rdu.clock.minute) s1
  else modRdu (fun r => { r with list := [] }) s

/-- The list is built afresh (R90). -/
def buildList (s : State) : State := formList [] s

/-- The DUE entries that stay DUE through a rebuild (R100 step 4). -/
def keptDue (s : State) : List DepEntry :=
  s.rdu.list.filter (fun e => e.due.isSome &&
    (match findLeg s.rdu.legs e.legNo with
     | none => false
     | some l => l.outcome = .pending && decide (l.row.departure ≤ s.rdu.clock.minute)))

/-- A kept entry whose new close minute has passed closes at once. The fill that follows is its refill (R100 step 4,
R93, log 61). -/
def closeKept (legNo : Nat) (s : State) : State :=
  match findLeg s.rdu.legs legNo with
  | none => s
  | some l => if closeReached s false l then dropEntry legNo (closeLeg l s) else s

/-- The list holds the kept DUE entries alone, at their new ROUTE places, and those closed by now close in that order
(R100 step 4, log 28). -/
def holdDue (s : State) : State :=
  let s1 := modRdu (fun r => { r with list := takeEntries s (keptDue s) 0 r.legs }) s
  (listed s1).foldl (fun s n => closeKept n s) s1

/-- The list is rebuilt: DUE entries stay DUE, those whose new close minute has passed close at once, and then the list
is filled (R100 step 4, R101). With the clock NOT_SET it is empty (R90). -/
def rebuildList (s : State) : State :=
  if s.rdu.clock.set then formList (holdDue s).rdu.list (holdDue s)
  else modRdu (fun r => { r with list := [] }) s

/-! ### Today's fields -/

/-- Today's outcome of every leg, for the current weekday and season (R84 step 3). -/
def resetOutcomes (s : State) : State :=
  modRdu (fun r => { r with legs := r.legs.map (fun l => { l with outcome := todayOutcome s l.row }) }) s

/-- Every unassigned and infeasible marker is cleared. -/
def clearMarkers (s : State) : State :=
  modRdu (fun r => { r with legs := r.legs.map (fun l => { l with unassigned := false, infeasible := false }) }) s

/-- Every substitute becomes absent. -/
def clearSubstitutes (s : State) : State :=
  modRdu (fun r => { r with legs := r.legs.map (fun l => { l with substitute := none }) }) s

/-- The outcomes that are PENDING or NOT_TODAY are set again (R101). -/
def resetOpenOutcomes (s : State) : State :=
  modRdu (fun r => { r with legs := r.legs.map (fun l =>
    if l.outcome = .pending ∨ l.outcome = .notToday then { l with outcome := todayOutcome s l.row } else l) }) s

/-- The day change, with the minute already 0 (R84, log 27). -/
def dayChange (s : State) : State :=
  let s1 := closeAll true s
  let s2 := modRdu (fun r => { r with clock := { r.clock with weekday := (r.clock.weekday + 1) % 7 } }) s1
  buildList (clearMarkers (clearSubstitutes (resetOutcomes s2)))

/-- The minute advances by one, with its processing; the second stands at 0 (R79, R84). -/
def advanceMinute (s : State) : State :=
  let m := s.rdu.clock.minute
  if m < 1439 then
    processMinute (modRdu (fun r => { r with clock := { r.clock with minute := m + 1, second := 0, tick := 0 } }) s)
  else dayChange (modRdu (fun r => { r with clock := { r.clock with minute := 0, second := 0, tick := 0 } }) s)

/-! ### The departure judgement (R94) -/

/-- Is the drain minute in the departure window of a next leg (R94 step 3)? -/
def inWindow (s : State) (n : NextLeg) : Bool := decide (n.mins ≤ s.tsm.settings.earlyWindow)

/-- RDU judges the unplug of the bus in slot k, which its post has let go (R94). -/
def judgeUnplug (k : Nat) (s : State) : State :=
  match busAt s k, findNextLeg s k with
  | some b, some n =>
    if s.rdu.clock.set = true ∧ inWindow s n = true then
      let s1 := updBus k (fun b => { b with state := .onRoute }) s
      if n.tomorrow then s1
      else
        let o := if min (legFloor s n.leg.row) b.capacity ≤ b.heldOr0 then LegOutcome.departedReady else .departedShort
        let held := s.rdu.list.any (fun e => e.legNo = n.leg.row.legNo)
        let s2 := setLastOutcome k ⟨n.leg.row.legNo, o⟩ (updLeg n.leg.row.legNo (fun l => { l with outcome := o }) s1)
        queueReadiness k (if held then leaveList false n.leg.row.legNo s2 else s2)
    else s
  | _, _ => s

/-! ### The readiness fields at a pass completion (R86, R89, R95, R96) -/

/-- Is a leg looked at for LEG_UNASSIGNED (R86), and with which substitute? -/
def reportedLeg (s : State) (l : Leg) : Option Leg :=
  if openToday s l then some l else if withinTomorrow s l then some l.tomorrow else none

/-- The unassigned marker of one leg (R86). -/
def reviewLeg (l : Leg) (s : State) : State :=
  match reportedLeg s l with
  | none => s
  | some m =>
    match unassignedReason s m with
    | none => updLeg l.row.legNo (fun l => { l with unassigned := false }) s
    | some why =>
      if l.unassigned then s
      else notice (.legUnassigned l.row.legNo m.effective why) (updLeg l.row.legNo (fun l => { l with unassigned := true }) s)

/-- Every leg that could be a next leg is looked at, in ROUTE order (log 66); none while the clock is NOT_SET (log 26). -/
def reviewLegs (s : State) : State :=
  if s.rdu.clock.set then s.rdu.legs.foldl (fun s l => reviewLeg l s) s else s

/-- The verdict of R95. -/
def verdictOf (s : State) (b : Bus) (next : Option NextLeg) (floor : Nat) : Verdict :=
  match s.rdu.clock.set, b.held, next with
  | false, _, _ => .unknown
  | true, none, _ => .unknown
  | true, some _, none => .noLeg
  | true, some h, some n =>
    if b.capacity < legFloor s n.leg.row then .short
    else if floor ≤ h.energy then .ready
    else
      match b.post with
      | none => .noPost
      | some p =>
        let q := postAt s p
        if (floor : Int) ≤ h.energy + q.grant * n.mins / 60 then .onTrack
        else if (floor : Int) ≤ h.energy + min ((q.report.map Report.accept).getD 0) q.rating * n.mins / 60 then .atRisk
        else .short

/-- The infeasible marker of a next leg, with its notice (R88). Of two buses that share the leg, the one taken last leaves the
marker (DESIGN CHOICE, log 66). -/
def reviewInfeasible (b : Bus) (next : Option NextLeg) (s : State) : State :=
  match next with
  | none => s
  | some n =>
    if b.capacity < legFloor s n.leg.row then
      if n.leg.infeasible then s
      else notice (.legInfeasible n.leg.row.legNo b.fleetNo (legFloor s n.leg.row) b.capacity)
        (updLeg n.leg.row.legNo (fun l => { l with infeasible := true }) s)
    else updLeg n.leg.row.legNo (fun l => { l with infeasible := false }) s

/-- The weekday that a next leg of tomorrow runs on; none for a leg of today (log 50). -/
def nextDayOf (s : State) (next : Option NextLeg) : Option Nat :=
  next.bind (fun n => if n.tomorrow then some ((s.rdu.clock.weekday + 1) % 7) else none)

/-- The readiness fields of one slot (R89): next leg, floor, discharge floor, verdict, and READINESS where the
verdict changes (R96). -/
def writeReadiness (k : Nat) (s : State) : State :=
  match busAt s k with
  | none => s
  | some b =>
    let next := findNextLeg s k
    let floor := (next.map (fun n => min (legFloor s n.leg.row) b.capacity)).getD 0
    let dfloor := (next.map (fun _ => min 65535 (floor + s.tsm.settings.v2gMargin))).getD 0
    let v := verdictOf s b next floor
    let s1 := updBus k (fun b => { b with
      nextLeg := next.map (fun n => n.leg.row.legNo), nextDay := nextDayOf s next, floor := floor, dischargeFloor := dfloor, verdict := v })
      (reviewInfeasible b next s)
    if v = b.verdict then s1 else queueReadiness k s1

/-- RDU's part of a pass completion (R109 step 4). R89 gives no order of the slots: they are taken in ascending order, which
settles the infeasible marker of a leg that is the next leg of two buses (R88; DESIGN CHOICE, log 66). -/
def completeReadiness (s : State) : State :=
  (slots s).foldl (fun s k => writeReadiness k s) (reviewLegs s)

end Sys2Proof.Machine
end

