-- ==== Sys2Proof/Machine/Drain.lean ====
section
/-! DEFINITION. The plug event queue of 01_fleet_records.md: joining (R13, R36, R38), the drain (R14), the
processing of each kind of event (R15 to R19), and the occupancy comparison (R20, R21). -/

namespace Sys2Proof.Machine

/-- The queue holds 32 entries (R13). -/
def plugCapacity : Nat := 32

/-- Is the plug event queue full? -/
def plugFull (s : State) : Bool := decide (plugCapacity ≤ s.frt.plugQ.length)

/-- An entry joins at the back. -/
def joinPlug (e : PlugEvent) (s : State) : State := modFrt (fun t => { t with plugQ := t.plugQ ++ [e] }) s

/-- An event refused for lack of space: marker, flag and notice at the first since the last pass start (R38). A further
refusal does not set again a flag that a CLEAR_STATUS has cleared meanwhile (log 49). -/
def refuseEvent (s : State) : State :=
  if s.ylc.refusal then s
  else notice .plugQueueFull
    (modTsm (fun t => { t with plugFull := true }) (modYlc (fun y => { y with refusal := true }) s))

/-! ### Processing -/

/-- The bus a tag identifies (R7). -/
def taggedBus (s : State) (tag : List Byte) : Option Nat := (s.frt.tagMap.find? (fun e => e.1 = tag)).map Prod.snd

/-- A location conflict: the bus in slot k is taken from post q, and the notice is queued (R16). -/
def resolveConflict (k q p : Nat) (s : State) : State :=
  let s1 := updBus k (fun b => { b with post := none }) (clearBusField q s)
  let s2 := if (postAt s q).state = .plugged then setPostState q .held s1 else s1
  notice (.locationConflict (((busAt s k).map Bus.fleetNo).getD 0) q p) s2

/-- The post's state after a mapped bus has been located at it (R15 step 5). -/
def plugPost (p : Nat) (s : State) : State :=
  let st := (postAt s p).state
  if st = .empty ∨ st = .guest ∨ st = .held then setPostState p .plugged s
  else if st = .plugged then updPost p (fun q => { q with prevGrant := 0 }) s
  else s

/-- A PLUGGED event whose tag is mapped to the bus in slot k (R15). -/
def plugMapped (k p : Nat) (s : State) : State :=
  if (postAt s p).bus = some k then takeHeld k p s
  else
    let s1 := unlocate p .yard s
    let s2 :=
      match (busAt s1 k).bind Bus.post with
      | none => s1
      | some q => resolveConflict k q p s1
    plugPost p (locate k p s2)

/-- A PLUGGED event whose tag is unmapped (R17). -/
def plugUnmapped (p : Nat) (s : State) : State :=
  let s1 := unlocate p .yard s
  let st := (postAt s1 p).state
  if st = .empty ∨ st = .held ∨ st = .plugged then setPostState p .guest s1 else s1

/-- A post's bus is unlocated and its unplug judged: ON_ROUTE or YARD; a WITHDRAWN bus is not judged (R18). -/
def unplugBus (p : Nat) (s : State) : State :=
  match (postAt s p).bus with
  | none => s
  | some k =>
    let s1 := unlocate p .yard s
    if (busAt s k).map Bus.state = some .withdrawn then s1 else judgeUnplug k s1

/-- An UNPLUGGED event (R18). -/
def unplugEvent (p : Nat) (s : State) : State :=
  match (postAt s p).state with
  | .plugged => setPostState p .empty (unplugBus p s)
  | .guest | .held => setPostState p .empty s
  | .empty => s
  | .unknown | .faulted | .disabled | .offline => unplugBus p s

/-- A FAULT event (R19). -/
def faultEvent (p : Nat) (s : State) : State :=
  if (postAt s p).state.holding then s else setPostState p .faulted s

/-- A FAULT_CLEAR event (R19). -/
def faultClearEvent (p : Nat) (s : State) : State :=
  if (postAt s p).state = .faulted then settle p false s else s

/-- One entry is processed; its post's mismatch count becomes 0 (R14). -/
def processEvent (e : PlugEvent) (s : State) : State :=
  let p := postNo e.cabinet e.position
  updPost p (fun q => { q with mismatch := 0 })
    (match e.kind with
     | .plugged =>
       match taggedBus s e.tag with
       | some k => plugMapped k p s
       | none => plugUnmapped p s
     | .unplugged => unplugEvent p s
     | .fault => faultEvent p s
     | .faultClear => faultClearEvent p s)

/-- The drain: every entry is taken out and processed in arrival order (R14). -/
def drain (s : State) : State :=
  s.frt.plugQ.foldl (fun s e => processEvent e s) (modFrt (fun t => { t with plugQ := [] }) s)

/-! ### Occupancy (R20, R21) -/

/-- Does a report disagree with the state the post held (R20)? -/
def disagrees (st : PostState) (occupied : Bool) : Bool :=
  match st with
  | .empty => occupied
  | .plugged | .guest | .held => !occupied
  | _ => false

/-- The third disagreeing report (R21). -/
def repairOccupancy (p : Nat) (s : State) : State :=
  match (postAt s p).state with
  | .empty => setPostState p .guest s
  | .held => setPostState p .empty s
  | .plugged | .guest =>
    if plugFull s then refuseEvent (updPost p (fun q => { q with mismatch := 3 }) s)
    else joinPlug ⟨p / 4, p % 4, .unplugged, [], none⟩ (updPost p (fun q => { q with mismatch := 0 }) s)
  | _ => s

/-- The comparison of an accepted report with the state the post held before the STATUS (R20, log 18). `spoken`
says that the STATUS carries an event for the post. -/
def compareOccupancy (p : Nat) (before : PostState) (occupied spoken : Bool) (s : State) : State :=
  if before.holding = true ∨ (postAt s p).state ≠ before then s
  else if disagrees before occupied then
    if spoken = true ∨ s.frt.plugQ.any (fun e => postNo e.cabinet e.position = p) = true then s
    else if 2 ≤ (postAt s p).mismatch then repairOccupancy p s
    else updPost p (fun q => { q with mismatch := q.mismatch + 1 }) s
  else updPost p (fun q => { q with mismatch := 0 }) s

/-- The queue's entries of a cabinet are removed, the others keeping their order (R22, R23). -/
def removeEvents (c : Nat) (s : State) : State :=
  modFrt (fun t => { t with plugQ := t.plugQ.filter (fun e => e.cabinet ≠ c) }) s

end Sys2Proof.Machine
end

