-- ==== Sys2Proof/Machine/Allocation.lean ====
section
/-! DEFINITION. The computation of an allocation pass, from the snapshot alone (06_the_allocation_pass.md, R111 to
R129): the budget, the bounds, tiers and orders, the six passes of the charge allocation, the discharge
allocation, and the findings. -/

namespace Sys2Proof.Machine

/-! ### The budget (R111) -/

/-- The dispatch's target of the fleet's power: P_base − D for UP, P_base + D for DOWN (R111, R145). -/
def dispatchTarget (dir : Direction) (baseline power : Int) : Int :=
  match dir with
  | .up => baseline - power
  | .down => baseline + power

/-- Is a dispatch of a direction ACTIVE in the snapshot? -/
def Snapshot.active (n : Snapshot) (dir : Direction) : Bool := (n.dispatch.map SnapDispatch.dir) = some dir

/-- The budget of the pass, F (R111). -/
def budget (n : Snapshot) : Int :=
  let f := match n.dispatch with
    | none => n.fSite
    | some d => min n.fSite (dispatchTarget d.dir d.baseline d.power)
  sat16 (min (max f n.fLo) n.fSite)

/-! ### The taken posts (R112 to R118) -/

/-- A taken post with its bounds. `mins`, `short` and `raw` are the need terms; `pct` and `surplus` order it. -/
structure Claim where
  post    : Nat
  bus     : Option Bus
  guest   : Bool
  share   : Int
  head    : Int
  mins    : Nat
  tier    : Tier
  need    : Int
  give    : Int
  pct     : Nat
  surplus : Int
  absorbs : Bool
  deriving DecidableEq, Repr

/-- Post p's record in the snapshot. -/
def Snapshot.post (n : Snapshot) (p : Nat) : Post := n.posts.getD (p - 4) Post.initial

/-- Is post p taken (R112)? -/
def Snapshot.takes (n : Snapshot) (p : Nat) : Bool :=
  ((n.post p).state = .plugged || (n.post p).state = .guest) && !n.quiesced.contains p

/-- The precondition draw of a taken post; 0.0 for a GUEST (R112). -/
def Snapshot.draw (n : Snapshot) (p : Nat) : Int :=
  if (n.post p).state = .guest then 0 else n.preDraw.getD (p - 4) 0

/-- Accept max of the last report, 0.0 without one. -/
def acceptOf (q : Post) : Int := (q.report.map Report.accept).getD 0

/-- Deliver max of the last report, 0.0 without one. -/
def deliverOf (q : Post) : Int := (q.report.map Report.deliver).getD 0

/-- The charge bound up_p (R113). -/
def chargeBound (g : Settings) (q : Post) (capped : Bool) : Int :=
  minOf (acceptOf q)
    ([q.rating] ++ q.requestCap.toList ++ [max q.prevGrant 0 + g.rampStep] ++ (if capped then [g.guestCap] else []))

/-- The recorded next leg of a bus, if the table holds it (log 24). -/
def recordedLeg (legs : List Leg) (b : Bus) : Option Leg := b.nextLeg.bind (findLeg legs)

/-- Energy short of the floor (R114). -/
def energyShort (b : Bus) : Nat := b.floor - b.heldOr0

/-- The raw rate (R114). -/
def rawRate (b : Bus) (mins : Nat) : Nat := ceilDiv (energyShort b * 60) (max 1 mins)

/-- The target energy of a bus with a next leg (R116). -/
def targetEnergy (g : Settings) (b : Bus) : Nat := max b.floor (b.target.getD g.chargeTarget * b.capacity / 100)

/-- The storage test (R116, R162). -/
def storageTier (n : Snapshot) (b : Bus) (e : StorageEntry) : Tier :=
  if b.heldOr0 < e.lo then .store
  else if (n.cls = .offpeak ∨ n.active .down = true) ∧ b.heldOr0 < e.hi then .store
  else .idle

/-- The tier of a taken post's bus (R115). -/
def busTier (n : Snapshot) (q : Post) (b : Bus) (e : StorageEntry) (next : Option Leg) (mins : Nat) : Tier :=
  if b.state = .withdrawn then (if b.heldOr0 < e.hi then .store else .idle)
  else if e.cls ≠ .notParked then storageTier n b e
  else
    match next with
    | none => .idle
    | some _ =>
      if 0 < energyShort b then
        if mins ≤ 60 ∨ 8 * min (acceptOf q) q.rating ≤ (rawRate b mins * 10 : Nat) ∨ q.boost = true then .urgent
        else .belowFloor
      else if b.heldOr0 < targetEnergy n.settings b then .topUp
      else .idle

/-- The storage entry of a slot without one: not parked. -/
def StorageEntry.none : StorageEntry := ⟨.notParked, 0, 0, 0, 0⟩

/-- The conditions of R118 for discharge, but for the battery temperature. -/
def dischargeBarTemp (q : Post) (b : Bus) (bidir : Bool) (draw : Int) (tier : Tier) : Bool :=
  q.state = .plugged && !(b.state = .withdrawn) && b.v2g && bidir && draw = 0 &&
    !(tier = .urgent || tier = .belowFloor) && decide (b.dischargeFloor < b.heldOr0)

/-- The battery temperature test (R118, R165). -/
def warmEnough (g : Settings) (q : Post) : Bool :=
  match q.report.bind Report.temp with
  | none => false
  | some t => decide (g.minTemp ≤ t)

/-- The discharge bound dn_p of an eligible post (R118). -/
def dischargeBound (g : Settings) (q : Post) (b : Bus) (remaining : Nat) : Int :=
  minOf (deliverOf q)
    [q.rating, max (-q.prevGrant) 0 + g.rampStep,
     (((b.heldOr0 - b.dischargeFloor) * 60 / max 1 (ceilDiv remaining 60) : Nat) : Int)]

/-- Held percent (R119). -/
def heldPercent (b : Bus) : Nat := b.heldOr0 * 100 / b.capacity

/-- The absorption ceiling: the storage ceiling of a parked bus, the usable capacity of any other. A WITHDRAWN bus is
not parked, whatever class its entry still holds (R124, R160, R163). -/
def absorptionCeiling (b : Bus) (e : StorageEntry) : Nat :=
  if b.state = .withdrawn ∨ e.cls = .notParked then b.capacity else e.ceiling

/-- The claim of a GUEST post, or of a post without a bus (R112 to R119). -/
def guestClaim (n : Snapshot) (p : Nat) : Claim :=
  let q := n.post p
  { post := p, bus := none, guest := true, share := 0
    head := chargeBound n.settings q true, mins := 0
    tier := if q.state = .guest then .store else .idle
    need := 0, give := 0, pct := 0, surplus := 0, absorbs := false }

/-- The claim of a taken post with a bus (R112 to R119). -/
def busClaim (n : Snapshot) (p k : Nat) (b : Bus) : Claim :=
  let q := n.post p
  let e := n.storage.getD k StorageEntry.none
  let up := chargeBound n.settings q (q.state = .guest || b.state = .withdrawn)
  let draw := n.draw p
  let share := min draw up
  let head := up - share
  let next := recordedLeg n.legs b
  let mins := (next.map (legMinutes n.clockSet n.minute n.settings.grace)).getD 0
  let tier := if q.state = .guest then .store else busTier n q b e next mins
  let remaining := (n.dispatch.map SnapDispatch.remaining).getD 0
  { post := p, bus := some b, guest := q.state = .guest, share := share, head := head, mins := mins, tier := tier
    need := min head (max n.settings.pMin (rawRate b mins))
    give := if n.active .up && dischargeBarTemp q b (n.bidir.contains (p / 4)) draw tier && warmEnough n.settings q
      then dischargeBound n.settings q b remaining else 0
    pct := heldPercent b
    surplus := (b.heldOr0 : Int) - b.dischargeFloor
    absorbs := q.state = .plugged && decide (b.heldOr0 < absorptionCeiling b e) }

/-- The claim of a taken post. -/
def claimOf (n : Snapshot) (p : Nat) : Claim :=
  match (n.post p).bus with
  | none => guestClaim n p
  | some k =>
    match n.buses[k]? with
    | none => guestClaim n p
    | some b => busClaim n p k b

/-- The claims of the taken posts, in post number order. -/
def claims (n : Snapshot) : List Claim := (postNos.filter n.takes).map (claimOf n)

/-! ### Orders (R119) -/

/-- Ascending minutes to departure, then post number. -/
def byMinutes (l : List Claim) : List Claim := sortOn (fun c => (c.mins : Int)) l

/-- Ascending held percent, then post number; every GUEST after every bus. -/
def byPercent (l : List Claim) : List Claim :=
  sortOn (fun c => (c.pct : Int)) (l.filter (fun c => !c.guest)) ++ l.filter Claim.guest

/-- Descending surplus, then post number. -/
def bySurplus (l : List Claim) : List Claim := sortOn (fun c => -c.surplus) l

/-- The claims of a tier, in the tier's order. -/
def tierOrder (t : Tier) (l : List Claim) : List Claim :=
  let m := l.filter (fun c => c.tier = t)
  if t = .store then byPercent m else byMinutes m

/-! ### Sharing a budget -/

/-- A part of the budget given to posts, with what is left. -/
abbrev Given := List (Nat × Int) × Int

/-- Each in order takes the smaller of its wish and what remains. -/
def serve : List (Nat × Int) → Int → Given
  | [], r => ([], r)
  | (p, w) :: l, r =>
    let a := min w r
    ((p, a) :: (serve l (r - a)).1, (serve l (r - a)).2)

/-- One unit each, in order, while the budget lasts (R122 step 4). -/
def units (l : List (Nat × Int)) (r : Int) : Given := serve (l.map (fun q => (q.1, 1))) r

/-- The water-fill (R122). Each return to step 1 has lost a member, so one round more than the members ends it. -/
def waterFill : Nat → List (Nat × Int) → Int → Given
  | 0, _, r => ([], r)
  | n + 1, m, r =>
    if m.isEmpty = true ∨ r ≤ 0 then ([], r)
    else if r < m.length then units m r
    else
      let s := r / m.length
      let small := m.filter (fun q => q.2 ≤ s)
      if small.isEmpty then
        let u := units m (r - s * m.length)
        (m.map (fun q => (q.1, s)) ++ u.1, u.2)
      else
        let rest := waterFill n (m.filter (fun q => ¬ q.2 ≤ s)) (r - (small.map Prod.snd).sum)
        (small ++ rest.1, rest.2)

/-- The water-fill over claims with their headrooms; a member without headroom is not placed in the set. -/
def fill (m : List (Nat × Int)) (r : Int) : Given :=
  let s := m.filter (fun q => 0 < q.2)
  waterFill (s.length + 1) s r

/-- The amount a post was given. -/
def givenTo (l : List (Nat × Int)) (p : Nat) : Int := ((l.filter (fun q => q.1 = p)).map Prod.snd).sum

/-- A tier's fill with its rotation cut: what was given and left, whether the set was cut, and the posts served
under the cut (R123). -/
structure TierFill where
  given  : List (Nat × Int)
  left   : Int
  cut    : Bool
  served : List Nat
  deriving DecidableEq, Repr

/-- The posts of a set in ring order, those not yet in the ring after every ring member in the tier's order. -/
def ringOrder (ring set : List Nat) : List Nat :=
  ring.filter set.contains ++ set.filter (fun p => !ring.contains p)

/-- A TOP_UP or STORE pass: the rotation cut, then the water-fill in the tier's order (R121, R123). -/
def rotateFill (n : Snapshot) (order : List Claim) (r : Int) : TierFill :=
  let set := (order.map (fun c => (c.post, c.head))).filter (fun q => 0 < q.2)
  if set.isEmpty then ⟨[], r, false, []⟩
  else if r / set.length < n.settings.pMin then
    let kept := (ringOrder n.ring (set.map Prod.fst)).take (r / n.settings.pMin).toNat
    let g := fill (set.filter (fun q => kept.contains q.1)) r
    ⟨g.1, g.2, true, kept⟩
  else
    let g := fill set r
    ⟨g.1, g.2, false, []⟩

/-- Is a tier suppressed (R120)? -/
def suppressed (n : Snapshot) (t : Tier) : Bool :=
  !n.active .down &&
  (match n.cls, t with
   | .peak, .topUp => true
   | .peak, .store => true
   | .critical, .belowFloor => true
   | .critical, .topUp => true
   | .critical, .store => true
   | _, _ => false)

/-- The members of a tier in its order; none of a suppressed tier. -/
def servedTier (n : Snapshot) (cs : List Claim) (t : Tier) : List Claim :=
  if suppressed n t then [] else tierOrder t cs

/-! ### The result -/

/-- What a pass hands to its completion. `grants` and `draws` hold each taken post. -/
structure AllocResult where
  grants    : List (Nat × Int)
  tiers     : List (Nat × Tier)
  topUp     : List Nat
  store     : List Nat
  cut       : Bool
  served    : List Nat
  shortfall : Option ShortCause
  overLimit : Option (Int × Int)
  deriving DecidableEq, Repr

/-- The minimum-run test (R125). -/
def minRun (g : Settings) (a : Int) : Int := if 1 ≤ a ∧ a < g.pMin then 0 else a

/-- The charge allocation: the six passes (R121), with what is left after the last. -/
structure ChargeResult where
  given  : List (Nat × Int)
  left   : Int
  cut    : Bool
  served : List Nat
  deriving DecidableEq, Repr

def chargeAllocation (n : Snapshot) (cs : List Claim) (a : Int) : ChargeResult :=
  let urgent := serve ((servedTier n cs .urgent).map (fun c => (c.post, c.head))) a
  let below := servedTier n cs .belowFloor
  let need := serve (below.map (fun c => (c.post, c.need))) urgent.2
  let more := fill (below.map (fun c => (c.post, c.head - givenTo need.1 c.post))) need.2
  let topUp := rotateFill n (servedTier n cs .topUp) more.2
  let store := rotateFill n (servedTier n cs .store) topUp.left
  let five := urgent.1 ++ need.1 ++ more.1 ++ topUp.given ++ store.given
  let down :=
    if n.active .down then
      fill ((byPercent (cs.filter Claim.absorbs)).map (fun c => (c.post, c.head - givenTo five c.post))) store.left
    else ([], store.left)
  ⟨five ++ down.1, down.2, topUp.cut || store.cut, topUp.served ++ store.served⟩

/-- The discharge allocation of an UP dispatch: what each post gives, and the export left (R127). -/
def dischargeAllocation (cs : List Claim) (x : Int) : Given :=
  serve ((bySurplus (cs.filter (fun c => 0 < c.give))).map (fun c => (c.post, c.give))) x

/-- The shortfall of a pass, the first cause of R128's table that holds (log 31). -/
def shortfallOf (n : Snapshot) (f a exportLeft budgetLeft : Int) : Option ShortCause :=
  match n.dispatch with
  | none => none
  | some d =>
    let target := dispatchTarget d.dir d.baseline d.power
    match d.dir with
    | .up =>
      if target < n.fLo ∧ target < f then some .exportFloor
      else if a < 0 ∧ 0 < exportLeft then some .dischargeExhausted
      else none
    | .down =>
      if n.fSite < target then some .siteBudget
      else if 0 ≤ a ∧ 0 < budgetLeft then some .absorptionExhausted
      else none

/-- The computation of a pass (R111 to R129). -/
def allocate (n : Snapshot) : AllocResult :=
  let cs := claims n
  let f := budget n
  let a := f - n.pPre
  let charge := if 0 ≤ a then chargeAllocation n cs a else ⟨[], 0, false, []⟩
  let give : Given := if a < 0 ∧ n.active .up = true then dischargeAllocation cs (-a) else ([], 0)
  { grants := cs.map (fun c =>
      (c.post, sat16 (c.share + minRun n.settings (givenTo charge.given c.post) - givenTo give.1 c.post)))
    tiers := cs.map (fun c => (c.post, c.tier))
    topUp := (tierOrder .topUp cs).map Claim.post
    store := (tierOrder .store cs).map Claim.post
    cut := charge.cut
    served := charge.served
    shortfall := shortfallOf n f a give.2 charge.left
    overLimit := if a < 0 ∧ n.active .up = false then some (f, n.pPre) else none }

end Sys2Proof.Machine
end

