-- ==== Sys2Proof/Machine/Storage.lean ====
section
/-! DEFINITION. Fleet storage (08_fleet_storage.md): the band energies (R159), the parked class (R160), discharge
floors (R161), the view (R166) and the STORAGE telegram (R167, R168). Also the eligibility for discharge as it
is tested at a completion (R133, R165). -/

namespace Sys2Proof.Machine

/-! ### The storage table -/

/-- A band energy: percent × capacity ÷ 100, floored (R159). -/
def bandEnergy (percent capacity : Nat) : Nat := percent * capacity / 100

/-- An entry of the storage table (R159). -/
def storageEntryFor (band : Band) (capacity : Nat) (parked : ParkedClass) : StorageEntry where
  cls := parked
  floor := bandEnergy band.floor capacity
  lo := bandEnergy band.lo capacity
  hi := bandEnergy band.hi capacity
  ceiling := bandEnergy band.ceiling capacity

/-- The class an entry takes at once when it is built (R160). -/
def firstClass (b : Bus) : ParkedClass := if b.cls = .parked ∧ b.state ≠ .withdrawn then .cls else .notParked

/-- The table of a FLEET activation or a reset (R160, R170). -/
def buildStorage (s : State) : State :=
  modStp (fun t => { t with table := s.frt.buses.map (fun b => storageEntryFor t.band b.capacity (firstClass b)) }) s

/-- The band energies computed again, the classes kept (R159). -/
def reband (s : State) : State :=
  modStp (fun t => { t with table := s.frt.buses.mapIdx (fun k b =>
    storageEntryFor t.band b.capacity (t.table.getD k StorageEntry.none).cls) }) s

/-- The entry of slot k. -/
def storageAt (s : State) (k : Nat) : StorageEntry := s.stp.table.getD k StorageEntry.none

/-! ### Parked classes and discharge floors (R160, R161) -/

/-- Does the RECESS row hold (R160)? While the clock is NOT_SET it asks that none of the bus's legs runs in
recess. -/
def recessParked (s : State) (k : Nat) (l : Leg) : Bool :=
  decide (s.stp.season = .recess) &&
    (if s.rdu.clock.set then !l.row.recess
     else !(s.rdu.legs.any (fun m => (legSlot s m == some k) && m.row.recess)))

/-- The parked class of the bus in slot k (R160). -/
def parkedClass (s : State) (k : Nat) (b : Bus) : ParkedClass :=
  if b.state = .withdrawn then .notParked
  else if b.cls = .parked then .cls
  else
    match recordedLeg s.rdu.legs b with
    | none => .noDuty
    | some l => if recessParked s k l then .recess else .notParked

/-- The discharge floor of a parked bus: its storage floor, or the larger of it and the leg's (R161). -/
def parkedFloor (s : State) (e : StorageEntry) (b : Bus) : Nat :=
  match recordedLeg s.rdu.legs b with
  | none => e.floor
  | some _ => max e.floor b.dischargeFloor

/-- One slot is classified, and a parked bus takes its discharge floor (R160, R161). -/
def classify (k : Nat) (s : State) : State :=
  match busAt s k with
  | none => s
  | some b =>
    let c := parkedClass s k b
    let s1 := modStp (fun t => { t with table := t.table.modify k (fun e => { e with cls := c }) }) s
    if c = .notParked then s1
    else updBus k (fun b => { b with dischargeFloor := parkedFloor s (storageAt s k) b }) s1

/-! ### Eligibility at a completion (R118, R133, R165) -/

/-- What a completion knows of its pass: the posts it took, its precondition draws, and whether it is a safe
pass (R110). -/
structure PassFacts where
  taken : List Nat
  draws : List Int
  safe  : Bool
  deriving DecidableEq, Repr

/-- Is a post still to be tested at the completion: taken by the pass and not quiesced now (log 30)? -/
def testedPost (s : State) (f : PassFacts) (p : Nat) : Bool := f.taken.contains p && !inQuiesce s p

/-- The conditions of R118 but for the temperature, on the records as they stand. -/
def eligibleBarTemp (s : State) (f : PassFacts) (p : Nat) : Bool :=
  testedPost s f p &&
    (match (postAt s p).bus.bind (busAt s) with
     | none => false
     | some b => dischargeBarTemp (postAt s p) b (cabAt s (p / 4)).bidir (f.draws.getD (p - 4) 0)
         (s.ale.tiers.getD (p - 4) .idle))

/-- Is a post eligible for discharge at this completion? None is at a safe pass (R169). -/
def eligible (s : State) (f : PassFacts) (p : Nat) : Bool :=
  !f.safe && eligibleBarTemp s f p && warmEnough s.tsm.settings (postAt s p)

/-- Would the bus at a post be eligible but for the temperature (R165)? -/
def coldExcluded (s : State) (f : PassFacts) (p : Nat) : Bool :=
  eligibleBarTemp s f p && !warmEnough s.tsm.settings (postAt s p)

/-! ### The view (R166) -/

/-- The bus located at a post in post state PLUGGED. -/
def pluggedBus (s : State) (p : Nat) : Option (Nat × Bus) :=
  if (postAt s p).state = .plugged then (postAt s p).bus.bind (fun k => (busAt s k).map (fun b => (k, b))) else none

/-- The room a plugged bus with a held value has below its absorption ceiling; none without a held value. -/
def roomAt (s : State) (p : Nat) : Option Nat :=
  (pluggedBus s p).bind (fun q => q.2.held.map (fun h => absorptionCeiling q.2 (storageAt s q.1) - h.energy))

/-- The surplus of the bus at a post above its discharge floor. -/
def surplusAt (s : State) (p : Nat) : Nat :=
  match (postAt s p).bus.bind (busAt s) with
  | none => 0
  | some b => b.heldOr0 - b.dischargeFloor

/-- The storage view of a completion (R166). -/
def viewOf (s : State) (f : PassFacts) : View :=
  let give := postNos.filter (eligible s f)
  let plugged := postNos.filter (fun p => (pluggedBus s p).isSome)
  { asOf := (clockReading s).map (fun r => (r.weekday, r.minute))
    discharge := (give.map (surplusAt s)).sum
    absorb := (postNos.map (fun p => (roomAt s p).getD 0)).sum
    dischargePow := min 32767 (give.map (fun p => min (deliverOf (postAt s p)) (postAt s p).rating)).sum
    absorbPow := min 32767 ((postNos.filter (fun p => decide (0 < (roomAt s p).getD 0))).map
      (fun p => min (acceptOf (postAt s p)) (postAt s p).rating)).sum
    parked := ((slots s).filter (fun k => (storageAt s k).cls ≠ .notParked)).length
    parkedPlugged := (plugged.filter (fun p => match pluggedBus s p with
      | none => false
      | some q => (storageAt s q.1).cls ≠ .notParked)).length
    plugged := plugged.length
    withdrawn := (s.frt.buses.filter (fun b => b.state = .withdrawn)).length
    cold := (postNos.filter (coldExcluded s f)).length
    unreported := (plugged.filter (fun p => match pluggedBus s p with
      | none => false
      | some q => q.2.held.isNone)).length }

/-- A STORAGE is queued with the last view, the season and the band in force (R167). -/
def queueStorage (s : State) : State :=
  queueOut ⟨aggregatorStation, .storage ⟨s.stp.season, s.stp.band, s.stp.view⟩⟩ s

/-- STP's part of a pass completion: classes, discharge floors, the view, and the STORAGE a season change has
left due (R109 step 5, R168). -/
def completeStorage (f : PassFacts) (s : State) : State :=
  let s1 := (slots s).foldl (fun s k => classify k s) s
  let s2 := modStp (fun t => { t with view := some (viewOf s1 f) }) s1
  if s2.stp.viewDue then queueStorage (modStp (fun t => { t with viewDue := false }) s2) else s2

end Sys2Proof.Machine
end

