-- ==== Sys2Proof/Machine/Reserve.lean ====
section
/-! DEFINITION. The reserve of 07_grid_reserve.md: commitment (R132), capability (R133 to R136), dispatch
judgement (R138, R139), the dispatch list (R140 to R144), measurement (R145 to R148), and endings (R149 to
R153). -/

namespace Sys2Proof.Machine

/-! ### Commitment and capability -/

/-- The commitment in force for a direction in a slot: the enabled slot's power, 0.0 otherwise (R132). -/
def commitmentIn (s : State) (slot : Nat) (dir : Direction) : Int :=
  match s.rsu.slots[slot]? with
  | none => 0
  | some r => if r.enabled then (match dir with | .up => r.up | .down => r.down) else 0

/-- The capability of a direction as last computed. -/
def capabilityIn (s : State) (dir : Direction) : Int :=
  match dir with
  | .up => s.rsu.upCap
  | .down => s.rsu.downCap

/-- The minutes left in the current slot, 30 while the clock is NOT_SET (R133). -/
def slotLeft (s : State) : Nat := if s.rdu.clock.set then 30 - s.rdu.clock.minute % 30 else 30

/-- The capability bound of an eligible post (R133). -/
def capabilityBound (s : State) (p : Nat) : Int :=
  minOf (deliverOf (postAt s p)) [(postAt s p).rating, ((surplusAt s p * 60 / slotLeft s : Nat) : Int)]

/-- Curtailable charging (R133). -/
def curtailable (s : State) (f : PassFacts) : Int :=
  ((f.taken.filter (fun p => s.ale.tiers.getD (p - 4) .idle ≠ .urgent)).map
    (fun p => max 0 ((postAt s p).grant - f.draws.getD (p - 4) 0))).sum

/-- The UP capability (R133); 0.0 at a safe pass (R134). -/
def upCapability (s : State) (f : PassFacts) : Int :=
  if f.safe then 0
  else min 32767 (curtailable s f + ((postNos.filter (eligible s f)).map (capabilityBound s)).sum)

/-- Does the bus at a taken post in PLUGGED hold less than its absorption ceiling (R134)? -/
def hasRoom (s : State) (p : Nat) : Bool :=
  match pluggedBus s p with
  | none => false
  | some q => decide (q.2.heldOr0 < absorptionCeiling q.2 (storageAt s q.1))

/-- Absorption room (R134). A post that the pass took counts, one that has joined a quiesce set since among them, at its
grant of 0.0 (R53 against R112; DESIGN CHOICE, log 57). -/
def absorptionRoom (s : State) (f : PassFacts) : Int :=
  ((f.taken.filter (hasRoom s)).map
    (fun p => max 0 (min (acceptOf (postAt s p)) (postAt s p).rating - (postAt s p).grant))).sum

/-- The sum of all grants. -/
def grantSum (s : State) : Int := (s.frt.posts.map Post.grant).sum

/-- The DOWN capability (R134); 0.0 at a safe pass. It stays inside its range, 0.0 to 3,276.7 kW. -/
def downCapability (s : State) (f : PassFacts) : Int :=
  if f.safe then 0 else clampInt 0 32767 (min (fSite s - grantSum s) (absorptionRoom s f))

/-- The side of its commitment a direction stands on (R135). -/
def sideOf (s : State) (slot : Nat) (dir : Direction) : Side :=
  if commitmentIn s slot dir ≤ capabilityIn s dir then .atOrAbove else .below

/-- A dispatch as a CAPABILITY names it. -/
def dispatchRef (d : Dispatch) : DispatchRef := ⟨d.id, d.dir, d.power⟩

/-- A CAPABILITY is queued for a slot (R135). -/
def queueCapability (slot : Nat) (s : State) : State :=
  queueOut ⟨aggregatorStation, .capability
    { slot := slot, left := slotLeft s, upCap := s.rsu.upCap, downCap := s.rsu.downCap
      upCommit := commitmentIn s slot .up, downCommit := commitmentIn s slot .down
      active := s.rsu.active.map dispatchRef, armed := s.rsu.armed.map dispatchRef }⟩ s

/-- Both commitment sides are recorded for a slot. -/
def recordSides (slot : Nat) (s : State) : State :=
  modRsu (fun r => { r with upSide := some (sideOf s slot .up), downSide := some (sideOf s slot .down) }) s

/-- A slot start: the current slot, the sides, CAPABILITY (R135), then STP's STORAGE (R168). -/
def slotStart (slot : Nat) (s : State) : State :=
  queueStorage (queueCapability slot (recordSides slot (modRsu (fun r => { r with slot := some slot }) s)))

/-- RSU takes a change of the minute; no slot start in STARTING (R135, R169). -/
def takeSlot (s : State) : State :=
  let slot := s.rdu.clock.minute / 30
  if s.tsm.op = .starting ∨ s.rdu.clock.set = false ∨ s.rsu.slot = some slot then s else slotStart slot s

/-- The sides are compared at a completion; one CAPABILITY however many crossed (R136). -/
def compareSides (s : State) : State :=
  match s.rsu.slot with
  | none => s
  | some slot =>
    if s.rdu.clock.set = true ∧
        (s.rsu.upSide ≠ some (sideOf s slot .up) ∨ s.rsu.downSide ≠ some (sideOf s slot .down)) then
      queueCapability slot (recordSides slot s)
    else s

/-! ### Measurement (R145 to R148, R152) -/

/-- A change of the ACTIVE record. -/
def updActive (f : Dispatch → Dispatch) (s : State) : State := modRsu (fun r => { r with active := r.active.map f }) s

/-- The band half-width (R145). -/
def halfWidth (s : State) (d : Dispatch) : Int := max 10 (d.power * s.tsm.settings.tolerance / 100)

/-- Is the round in band (R145)? -/
def inBand (s : State) (d : Dispatch) : Bool :=
  let e := fleetMeasured s - dispatchTarget d.dir d.baseline d.power
  decide (-halfWidth s d ≤ e ∧ e ≤ halfWidth s d)

/-- The ACTIVE record after a round completion (R146, R147). -/
def afterRound (band : Bool) (d : Dispatch) : Dispatch :=
  if d.stopped then
    { d with outOfBand := if band then d.outOfBand else min 4294967295 (d.outOfBand + d.interval), interval := 0 }
  else if band then { d with stopped := true, late := decide (d.resp * 10 < d.timer) || d.late, interval := 0 }
  else { d with interval := 0 }

/-- RSU evaluates the band at a round completion (R145). -/
def evalBand (s : State) : State := updActive (fun d => afterRound (inBand s d) d) s

/-- The delivery accumulator at a pass completion (R148). -/
def accumulate (s : State) : State :=
  let m := fleetMeasured s
  updActive (fun d => { d with delivered := sat32 (d.delivered +
    (match d.dir with | .up => d.baseline - m | .down => m - d.baseline) * (s.tsm.settings.passPre + 1)) }) s

/-- A shortfall finding is applied to the dispatch of the snapshot, or discarded (R152). -/
def takeShortfall (found : Option (Nat × ShortCause)) (s : State) : State :=
  match found, s.rsu.active with
  | some (id, cause), some d =>
    if d.id = id then
      let s1 := updActive (fun d => { d with shortfall := true, noticed := true }) s
      if d.noticed then s1 else notice (.dispatchShortfall id cause d.power) s1
    else s
  | _, _ => s

/-- RSU takes a pass completion (R155). -/
def completeReserve (f : PassFacts) (found : Option (Nat × ShortCause)) (s : State) : State :=
  let s1 := takeShortfall found (accumulate s)
  compareSides (modRsu (fun r => { r with upCap := upCapability s1 f, downCap := downCapability s1 f }) s1)

/-! ### Endings (R149 to R153) -/

/-- The OUTCOME of a dispatch (R151). -/
def outcomeOf (d : Dispatch) (e : EndState) (stop : Option Reading) : Outcome where
  id := d.id
  dir := d.dir
  endState := e
  power := d.power
  baseline := d.baseline
  start := d.start
  stop := stop
  response := d.timer
  outOfBand := d.outOfBand
  delivered := d.delivered.tdiv 36000
  late := d.late
  notReached := d.notReached || !d.stopped
  shortfall := d.shortfall

/-- The ACTIVE dispatch ends: end time, NOT_REACHED, OUTCOME, record removed (R146, R149 to R151). -/
def endActive (e : EndState) (s : State) : State :=
  match s.rsu.active with
  | none => s
  | some d =>
    modRsu (fun r => { r with active := none })
      (queueOut ⟨aggregatorStation, .outcome (outcomeOf d e (clockReading s))⟩ s)

/-- The ARMED dispatch is dropped with its notice (R141, R142, R153). -/
def dropArmed (cause : DropCause) (s : State) : State :=
  match s.rsu.armed with
  | none => s
  | some d => notice (.armedDropped d.id cause) (modRsu (fun r => { r with armed := none }) s)

/-- RSU on entry into ISLAND or SAFE (R153). The pass is asked for. -/
def abandonDispatches (cause : DropCause) (s : State) : State :=
  let s1 := if s.rsu.active.isSome then wantPass (endActive .abandoned s) else s
  dropArmed cause s1

/-! ### Start (R143, R144) -/

/-- The record of a starting dispatch. -/
def Dispatch.started (d : Dispatch) (baseline : Int) (now : Option Reading) : Dispatch :=
  { d with
    start := now, stop := none, countdown := 0, remaining := d.duration * 10, baseline := baseline, timer := 0
    stopped := false, outOfBand := 0, interval := 0, delivered := 0, late := false, notReached := false
    shortfall := false, noticed := false }

/-- A dispatch starts: an ACTIVE one ends SUPERSEDED first and leaves its baseline, an ARMED one is dropped, and
a pass is asked for (R141, R143, R144). -/
def startDispatch (d : Dispatch) (s : State) : State :=
  let baseline := (s.rsu.active.map Dispatch.baseline).getD (fleetMeasured s)
  let s1 := dropArmed .superseded (endActive .superseded s)
  wantPass (modRsu (fun r => { r with active := some (d.started baseline (clockReading s)) }) s1)

/-! ### Judgement (R138, R139) -/

/-- A duration above 14,400 s is taken as 14,400 s, a delay above 900 s as 900 s (R138). -/
def takenDuration (f : DispatchFields) : Nat := min 14400 f.duration
def takenDelay (f : DispatchFields) : Nat := min 900 f.delay

/-- A clock reading some seconds ahead, wrapping past midnight. -/
def Reading.plus (r : Reading) (seconds : Nat) : Reading :=
  let t := (r.weekday * 86400 + r.minute * 60 + r.second + seconds) % 604800
  ⟨t / 86400, t % 86400 / 60, t % 60⟩

/-- The accepted power and the two terms beside the request (R139). -/
structure Terms where
  commitment : Int
  capability : Int
  accepted   : Int
  deriving DecidableEq, Repr

def termsOf (s : State) (dir : Direction) (requested : Int) (slot : Nat) : Terms :=
  let commit := commitmentIn s slot dir
  let cap := capabilityIn s dir +
    (match s.rsu.active with
     | none => 0
     | some d => if d.dir = dir then d.power else 0)
  ⟨commit, cap, min requested (min commit cap)⟩

/-- The result and reason that an accepted power gives (R139). -/
def resultOf (requested : Int) (t : Terms) : DispResult × DispReason :=
  if t.accepted = requested then (.accept, .none)
  else if 0 < t.accepted then (.partly, if t.commitment ≤ t.capability then .commitment else .capability)
  else (.decline, if t.commitment = 0 then .notCommitted else .noCapability)

/-- A judged DISPATCH: its reply, and the record to place when it is accepted. -/
structure Judged where
  reply : DispReply
  place : Option Dispatch
  deriving DecidableEq, Repr

/-- A reply with the fields that every DISP-REPLY carries (R139, log 13). -/
def replyOf (f : DispatchFields) (slot : Nat) (result : DispResult) (reason : DispReason) (accepted : Int) : DispReply :=
  ⟨f.id, result, reason, f.dir, f.requested, accepted, takenDelay f, takenDuration f, slot⟩

/-- The check of R138 that fails first, if one does. -/
def failedCheck (s : State) (f : DispatchFields) : Option DispReason :=
  if s.tsm.op = .safe ∨ s.tsm.op = .island then some .safe
  else if s.rdu.clock.set = false then some .noClock
  else if s.rsu.highId.isSome = true ∧ f.id ≤ s.rsu.highId.getD 0 then some .staleId
  else if (directionOfCode f.dir).isNone = true ∨ f.requested ≤ 0 ∨ f.duration = 0 then some .badField
  else none

/-- The start slot of a DISPATCH; a free value while the clock is NOT_SET (R139, log 12). -/
def startSlot (s : State) (f : DispatchFields) : Nat :=
  match clockReading s with
  | none => Config.startSlotWithoutClock s.freeCount
  | some r => (r.plus (takenDelay f)).minute / 30

/-- The record of an accepted dispatch, as it waits or is about to start (R140). -/
def newDispatch (s : State) (f : DispatchFields) (dir : Direction) (accepted : Int) (slot : Nat) : Dispatch where
  id := f.id
  dir := dir
  power := accepted
  start := (clockReading s).map (fun r => r.plus (takenDelay f))
  stop := none
  resp := (s.rsu.slots[slot]?.map CommitRow.resp).getD 0
  countdown := takenDelay f * 10
  duration := takenDuration f
  remaining := 0
  baseline := 0
  timer := 0
  stopped := false
  outOfBand := 0
  interval := 0
  delivered := 0
  late := false
  notReached := false
  shortfall := false
  noticed := false

/-- A DISPATCH is judged (R138, R139). -/
def judgeDispatch (s : State) (f : DispatchFields) : Judged :=
  let slot := startSlot s f
  match failedCheck s f with
  | some why => ⟨replyOf f slot .decline why 0, none⟩
  | none =>
    match directionOfCode f.dir with
    | none => ⟨replyOf f slot .decline .badField 0, none⟩
    | some dir =>
      let t := termsOf s dir f.requested slot
      let r := resultOf f.requested t
      if r.1 = .decline then ⟨replyOf f slot r.1 r.2 0, none⟩
      else ⟨replyOf f slot r.1 r.2 t.accepted, some (newDispatch s f dir t.accepted slot)⟩

/-- An accepted dispatch takes its place: it starts at once, or becomes ARMED in place of an earlier one, which
is dropped (R141, R142). -/
def placeDispatch (d : Dispatch) (s : State) : State :=
  if d.countdown = 0 then startDispatch d s
  else modRsu (fun r => { r with armed := some d }) (dropArmed .superseded s)

/-- The ARMED dispatch leaves its place and starts (R142). -/
def startArmed (s : State) : State :=
  match s.rsu.armed with
  | none => s
  | some d => startDispatch d (modRsu (fun r => { r with armed := none }) s)

/-- The highest dispatch id after a judged DISPATCH (R138). -/
def raiseHighId (id : Nat) (s : State) : State :=
  modRsu (fun r => { r with highId := some (match r.highId with | none => id | some h => max h id) }) s

end Sys2Proof.Machine
end

