-- ==== Sys2Proof/Machine/Pass.lean ====
section
/-! DEFINITION. A pass from its start to its completion writes (06_the_allocation_pass.md, R106, R109, R110,
R130). The boundary that follows a pass stands in Activation.lean. -/

namespace Sys2Proof.Machine

/-! ### Start (R106) -/

/-- The snapshot, taken from the records as they stand (R106). -/
def takeSnapshot (s : State) : Snapshot where
  posts := s.frt.posts
  quiesced := postNos.filter (inQuiesce s)
  bidir := stations.filter (fun c => (cabAt s c).bidir)
  buses := s.frt.buses
  legs := s.rdu.legs
  clockSet := s.rdu.clock.set
  minute := s.rdu.clock.minute
  preDraw := preDraws s
  limit := limitInForce s
  fSite := fSite s
  fLo := fLo s
  pPre := pPre s
  cls := s.sbu.tariff.cls
  measured := fleetMeasured s
  dispatch := s.rsu.active.map (fun d => ⟨d.id, d.dir, d.power, d.baseline, ceilDiv d.remaining 10⟩)
  season := s.stp.season
  storage := s.stp.table
  settings := s.tsm.settings
  ring := s.ale.ring
  turn := s.ale.turn

/-- The first step of a pass: the drain, and the refusal marker clears (R106, R38). -/
def drainForPass (s : State) : State := modYlc (fun y => { y with refusal := false }) (drain s)

/-- A pass starts running on its snapshot. -/
def beginPass (s : State) : State :=
  let s1 := drainForPass s
  modAle (fun a => { a with pass := .running, snap := some (takeSnapshot s1) }) s1

/-! ### Completion writes (R109 steps 1 to 3, R130) -/

/-- A value of a list of pairs, with a default. -/
def pairValue {α : Type} (l : List (Nat × α)) (p : Nat) (d : α) : α := ((l.find? (fun q => q.1 = p)).map Prod.snd).getD d

/-- May a pass completion write the post a grant: PLUGGED or GUEST and in no quiesce set now (R109 step 1)? -/
def writable (s : State) (p : Nat) : Bool := (postAt s p).state.served && !inQuiesce s p

/-- The grants, previous grants and precondition flags (R109 step 1). The flag follows the draw of the pass at every
post (log 29). -/
def writeGrants (n : Snapshot) (r : AllocResult) (s : State) : State :=
  mapPosts (fun p q =>
    let flag := n.takes p && decide (0 < n.draw p)
    if writable s p then
      let g := pairValue r.grants p 0
      { q with grant := g, prevGrant := g, precond := flag }
    else { q with grant := 0, precond := flag }) s

/-- The tier a post takes in the table: that of the pass; IDLE for a post not taken, or in another state than PLUGGED
and GUEST now (R109 step 2). -/
def newTier (r : AllocResult) (s : State) (p : Nat) : Tier :=
  if (postAt s p).state.served then pairValue r.tiers p .idle else .idle

/-- The post tier table of a completion, and each bus's tier (R109 step 2). -/
def writeTiers (tierOf : Nat → Tier) (s : State) : State :=
  let s1 := modAle (fun a => { a with tiers := postNos.map tierOf }) s
  modFrt (fun t => { t with buses := t.buses.map (fun b => { b with tier :=
    match b.post with
    | none => .idle
    | some p => tierOf p }) }) s1

/-- The ring after steps 1 and 2 of R130: a post whose tier changed leaves, a TOP_UP or STORE post joins. -/
def ringAfter (old new : Nat → Tier) (topUp store ring : List Nat) : List Nat :=
  let stay := ring.filter (fun p => old p = new p)
  let joining := topUp.filter (fun p => new p = .topUp) ++ store.filter (fun p => new p = .store)
  stay ++ joining.filter (fun p => !stay.contains p)

/-- The turn of R130 step 3: the posts served under the cut move to the back. -/
def turnRing (served ring : List Nat) : List Nat :=
  ring.filter (fun p => !served.contains p) ++ ring.filter served.contains

/-- The posts served under the cut, but for those that have left the ring since the snapshot (R130). -/
def stillServed (n : Snapshot) (r : AllocResult) (s : State) : List Nat :=
  r.served.filter (fun p => !n.ring.contains p || s.ale.ring.contains p)

/-- The ring and the turn count of a completion (R130). -/
def writeRing (old new : Nat → Tier) (n : Snapshot) (r : AllocResult) (s : State) : State :=
  let ring := ringAfter old new r.topUp r.store s.ale.ring
  if r.cut then
    if s.tsm.settings.turn + 1 ≤ s.ale.turn + 1 then
      modAle (fun a => { a with ring := turnRing (stillServed n r s) ring, turn := 0 }) s
    else modAle (fun a => { a with ring := ring, turn := a.turn + 1 }) s
  else modAle (fun a => { a with ring := ring, turn := 0 }) s

/-- The OVER_LIMIT notice and its marker (R126, R109 step 7). -/
def writeOverLimit (r : AllocResult) (s : State) : State :=
  match r.overLimit with
  | none => modAle (fun a => { a with overLimit := false }) s
  | some (f, p) =>
    if s.ale.overLimit then s else notice (.overLimit f p) (modAle (fun a => { a with overLimit := true }) s)

/-- The facts of a pass for STP and RSU. -/
def factsOf (n : Snapshot) : PassFacts := ⟨postNos.filter n.takes, postNos.map n.draw, false⟩

/-- The writes of a pass completion, in the order of R109. -/
def completeWrites (n : Snapshot) (s : State) : State :=
  let r := allocate n
  let old := fun p => s.ale.tiers.getD (p - 4) .idle
  let new := newTier r s
  let s1 := writeRing old new n r (writeTiers new (writeGrants n r s))
  let s2 := completeStorage (factsOf n) (completeReadiness s1)
  let found := match n.dispatch, r.shortfall with
    | some d, some cause => some (d.id, cause)
    | _, _ => none
  writeOverLimit r (completeReserve (factsOf n) found s2)

/-! ### The safe pass (R110) -/

/-- The facts of a safe pass: the posts that would be tested for discharge are read from the records as they
stand (log 30). -/
def safeFacts (s : State) : PassFacts :=
  ⟨postNos.filter (fun p => (postAt s p).state.served), preDraws s, true⟩

/-- A safe pass: the drain, and a completion with every grant 0.0 and every tier IDLE (R110). -/
def safePass (s : State) : State :=
  let s1 := drainForPass s
  let s2 := mapPosts (fun _ q => { q with grant := 0, prevGrant := 0, precond := false }) s1
  let s3 := modAle (fun a => { a with ring := [], turn := 0, overLimit := false }) (writeTiers (fun _ => .idle) s2)
  let s4 := completeReadiness s3
  let f := safeFacts s4
  completeReserve f none (completeStorage f s4)

/-- A trigger starts a pass, or in SAFE a safe pass, which ends in the same step (R103, R110). -/
def startPass (s : State) : State := if s.tsm.op = .safe then safePass s else beginPass s

end Sys2Proof.Machine
end

