-- ==== Sys2Proof/Machine/Pooling.lean ====
section
/-! DEFINITION. The pooling sequencer of 03_cabinet_module_pooling.md: comparing (R51), the quiesce set (R52,
R57), the ends of a change (R55, R56, R58) and a report of the mode (R59). -/

namespace Sys2Proof.Machine

/-- A change is in flight (R50). -/
def SeqState.inFlight : SeqState → Bool
  | .quiesce | .sent | .await => true
  | _ => false

/-- The posts whose set of feeding modules differs between the mode in force and the target (R52). -/
def quiesceSet (inForce : Option Mode) (target : Mode) : List Nat :=
  positions.filter (fun i => feedsInForce inForce i ≠ feeds target i)

/-- The grant and previous grant of some positions become 0.0 (R52, R57). -/
def zeroGrants (c : Nat) (l : List Nat) (s : State) : State :=
  l.foldl (fun s i => updPost (postNo c i) (fun q => { q with grant := 0, prevGrant := 0 }) s) s

/-- A change begins: entry into QUIESCE (R51, R52). -/
def beginChange (c : Nat) (target : Mode) (s : State) : State :=
  let set := quiesceSet (cabAt s c).pool.inForce target
  zeroGrants c set (updPool c (fun q => { q with
    state := .quiesce, target := some target, attempts := 0, cause := none, quiesce := set, quiet := [], timer := 0 }) s)

/-- A mode is compared with the reported mode; a difference begins a change (R51, R57). -/
def compareMode (c : Nat) (wanted : Option Mode) (s : State) : State :=
  match (cabAt s c).reported, wanted with
  | some r, some d => if r = d then s else beginChange c d s
  | _, _ => s

/-- The quiesce set is formed again, against the mode in force and a target (R57). Where the posts that stay are
all marked quiet, QUIESCE is left for SENT (R52). -/
def reformSet (c : Nat) (target : Mode) (s : State) : State :=
  let q := (cabAt s c).pool
  let set := quiesceSet q.inForce target
  let joined := set.filter (fun i => !q.quiesce.contains i)
  let quiet := q.quiet.filter set.contains
  zeroGrants c joined (updPool c (fun q => { q with
    state := if quiet = set then .sent else q.state, target := some target, quiesce := set, quiet := quiet,
    timer := if joined.isEmpty then q.timer else 0 }) s)

/-- The sequencer returns to DONE without a target, and a pending target is taken up (R55 step 4, R57). -/
def takePending (c : Nat) (s : State) : State :=
  let w := (cabAt s c).pool.pending
  let s1 := updPool c (fun q => { q with state := .done, target := none, pending := none }) s
  if w.isSome then compareMode c w s1 else s1

/-- The end of a change as done, but for the mode in force (R55 steps 2 to 4). -/
def endDone (c : Nat) (s : State) : State :=
  match (cabAt s c).pool.target with
  | none => s
  | some m =>
    takePending c
      (notice (.poolingDone c m (cabAt s c).pool.attempts)
        (updPool c (fun q => { q with quiesce := [], quiet := [] }) s))

/-- A POOL-ACK accepting the target: the change ends as done (R55). -/
def acceptTarget (c : Nat) (s : State) : State :=
  match (cabAt s c).pool.target with
  | none => s
  | some m => endDone c (setModeInForce c (some m) (updCab c (fun r => { r with reported := some m }) s))

/-- A failed attempt (R55, R56). -/
def failAttempt (c : Nat) (cause : PoolCause) (s : State) : State :=
  let q := (cabAt s c).pool
  if q.attempts < 3 then updPool c (fun q => { q with state := .sent, cause := some cause }) s
  else
    match q.target with
    | none => s
    | some m =>
      let s1 := notice (.poolingFailed c m q.attempts cause)
        (updPool c (fun q => { q with quiesce := [], quiet := [], cause := some cause }) s)
      if q.pending.isSome then takePending c (updPool c (fun q => { q with cause := none }) s1)
      else updPool c (fun q => { q with state := .failed, target := none }) s1

/-- The cabinet enters OFFLINE with a change in flight (R58). -/
def failOffline (c : Nat) (s : State) : State :=
  let q := (cabAt s c).pool
  if q.state.inFlight then
    let s1 := updPool c (fun q => { q with
      state := .failed, target := none, pending := none, quiesce := [], quiet := [], cause := some .offline }) s
    match q.target with
    | none => s1
    | some m => notice (.poolingFailed c m q.attempts .offline) s1
  else s

/-- A new restart of the cabinet (R58). -/
def restartPool (c : Nat) (s : State) : State :=
  updPool c (fun q => { q with
    state := .done, target := none, pending := none, attempts := 0, quiesce := [], quiet := [], cause := none }) s

/-- The posts that a new mode in force adds to the set join it at grant 0.0 (R59, SENT). -/
def joinSet (c : Nat) (target : Mode) (s : State) : State :=
  let q := (cabAt s c).pool
  let joined := (quiesceSet q.inForce target).filter (fun i => !q.quiesce.contains i)
  zeroGrants c joined (updPool c (fun q => { q with quiesce := q.quiesce ++ joined }) s)

/-- The sequencer after the cabinet has reported a mode; `moved` says that the mode in force followed it (R51,
R54, R59). -/
def afterReport (c : Nat) (m : Mode) (moved : Bool) (s : State) : State :=
  match (cabAt s c).pool.state, (cabAt s c).pool.target with
  | .done, _ => compareMode c (cabAt s c).desired s
  | .quiesce, some t => if moved then (if m = t then endDone c s else reformSet c t s) else s
  | .sent, some t => if m = t then endDone c s else if moved then joinSet c t s else s
  | _, _ => s

/-- A STATUS reports a pooling mode (R32 step 3, R49). A code outside the five changes nothing. -/
def reportMode (c : Nat) (code : Byte) (s : State) : State :=
  match modeOfCode code with
  | none => s
  | some m =>
    let moved := decide ((cabAt s c).pool.inForce ≠ some m)
    afterReport c m moved (setModeInForce c (some m) (updCab c (fun r => { r with reported := some m }) s))

/-- Does a position's report count as quiet (R52)? -/
def isQuiet (s : State) (p : Nat) : Bool :=
  (postAt s p).sentGrant = 0 && decide (-5 ≤ measuredOf (postAt s p) ∧ measuredOf (postAt s p) ≤ 5)

/-- The quiet marks after a STATUS of a change in flight, and the move from QUIESCE to SENT when every post of the set
has one (R52). -/
def markQuiet (c : Nat) (s : State) : State :=
  let q := (cabAt s c).pool
  if q.state.inFlight then
    let quiet := q.quiesce.filter (fun i => q.quiet.contains i || isQuiet s (postNo c i))
    updPool c (fun q => { q with
      quiet := quiet, state := if q.state = .quiesce ∧ quiet = q.quiesce then .sent else q.state }) s
  else s

/-- A YARD activation gives a configured cabinet its desired mode (R51, R57). -/
def wantMode (c : Nat) (d : Mode) (s : State) : State :=
  let q := (cabAt s c).pool
  match q.state, q.target with
  | .done, _ => compareMode c (some d) s
  | .failed, _ => compareMode c (some d) (updPool c (fun q => { q with state := .done, cause := none }) s)
  | .quiesce, some t =>
    if d = t then s
    else if q.inForce = some d then
      updPool c (fun q => { q with state := .done, target := none, quiesce := [], quiet := [] }) s
    else reformSet c d s
  | _, some t => updPool c (fun q => { q with pending := if d = t then none else some d }) s
  | _, none => s

end Sys2Proof.Machine
end

