-- ==== Sys2Proof/Machine/Activation.lean ====
section
/-! DEFINITION. Segment activations (R193): what each block does with new content, and with a segment leaving
VALID. An activation only asks for a pass; the boundary starts it (R108). -/

namespace Sys2Proof.Machine

/-! ### FLEET (R8) -/

/-- A bus slot as a row fills it (R2, R3). -/
def busOfRow (r : FleetRow) : Bus where
  fleetNo := r.fleetNo
  tag := r.tag
  capacity := r.capacity
  v2g := r.v2g
  cls := serviceClassOf r.cls
  target := if r.target = 0 then none else some r.target
  state := .unseen
  post := none
  held := none
  nextLeg := none
  nextDay := none
  floor := 0
  dischargeFloor := 0
  verdict := .unknown
  tier := .idle

/-- A new row inherits the dynamic fields of the slot its tag led to, the held energy clamped (R8 step 2). -/
def Bus.inherit (new old : Bus) : Bus :=
  { new with
    state := old.state, post := old.post
    held := old.held.map (fun h => { h with energy := min h.energy new.capacity })
    nextLeg := old.nextLeg, nextDay := old.nextDay, floor := old.floor, dischargeFloor := old.dischargeFloor, verdict := old.verdict
    tier := old.tier }

/-- The slot of a new row. -/
def fleetSlot (s : State) (r : FleetRow) : Bus :=
  match (taggedBus s r.tag).bind (busAt s) with
  | none => busOfRow r
  | some old => (busOfRow r).inherit old

/-- The last outcome that goes with a new row (R8 step 2). -/
def fleetOutcome (s : State) (r : FleetRow) : Option LastOutcome :=
  (taggedBus s r.tag).bind (fun k => s.rdu.lastOutcomes.getD k none)

/-- The new slot of the bus a post names: the row that carries its tag. -/
def movedSlot (s : State) (rows : List FleetRow) (k : Nat) : Option Nat :=
  match s.frt.tagMap.find? (fun e => e.2 = k) with
  | none => none
  | some e => rows.findIdx? (fun r => r.tag = e.1)

/-- A post whose bus has no row in the new content: PLUGGED becomes GUEST, a holding state stays (R8 step 4). -/
def loseBus (p : Nat) (s : State) : State :=
  let s1 := clearBusField p s
  if (postAt s p).state = .plugged then setPostState p .guest s1 else s1

/-- One post at a FLEET activation; `old` is the state before it. -/
def repost (old : State) (rows : List FleetRow) (p : Nat) (s : State) : State :=
  match (postAt old p).bus with
  | none => s
  | some k =>
    match movedSlot old rows k with
    | some j => updPost p (fun q => { q with bus := some j }) s
    | none => loseBus p s

/-- The FLEET rows of a content. -/
def fleetRows (rows : List Row) : List FleetRow := rows.filterMap (fun r => match r with | .fleet f => some f | _ => none)

/-- A FLEET activation, or FLEET leaving VALID with no rows (R8, R159, R101). -/
def activateFleet (content : Option (List Row)) (s : State) : State :=
  let rows := fleetRows (content.getD [])
  let s1 := modFrt (fun t => { t with
    buses := rows.map (fleetSlot s), tagMap := rows.mapIdx (fun k r => (r.tag, k)) }) s
  let s2 := modRdu (fun r => { r with
    lastOutcomes := rows.map (fleetOutcome s), legs := r.legs.map (fun l => { l with infeasible := false }) }) s1
  buildStorage (postNos.foldl (fun t p => repost s rows p t) s2)

/-! ### ROUTE (R100) -/

def routeRows (rows : List Row) : List RouteRow := rows.filterMap (fun r => match r with | .route f => some f | _ => none)

/-- A leg of the new table, with what its number inherits (R100 steps 2 and 3). -/
def legOfRow (s : State) (r : RouteRow) : Leg :=
  match findLeg s.rdu.legs r.legNo with
  | none => ⟨r, none, todayOutcome s r, false, false⟩
  | some old =>
    ⟨r, old.substitute,
     if old.outcome = .pending ∨ old.outcome = .notToday then todayOutcome s r else old.outcome, false, false⟩

/-- A ROUTE activation, or ROUTE leaving VALID with no legs (R100). -/
def activateRoute (content : Option (List Row)) (s : State) : State :=
  rebuildList (modRdu (fun r => { r with legs := (routeRows (content.getD [])).map (legOfRow s) }) s)

/-! ### YARD (R45, R49, R57) -/

def yardRows (rows : List Row) : List YardRow := rows.filterMap (fun r => match r with | .yard f => some f | _ => none)

/-- The position each module feeds under a mode, module 0 first (R48). -/
def moduleMap (m : Mode) : Byte :=
  match m with
  | .split => 0xE4 | .pairA => 0xE0 | .pairB => 0xA4 | .pairAB => 0xA0 | .quad => 0x00

/-- The mode a module map stands for; none for a map that is not one of the five (R48, R191). -/
def modeOfMap (b : Byte) : Option Mode :=
  [Mode.split, .pairA, .pairB, .pairAB, .quad].find? (fun m => moduleMap m = b)

/-- The static fields of a cabinet from its row (R25). -/
def Cabinet.withRow (c : Cabinet) (r : YardRow) : Cabinet :=
  { c with configured := true, bidir := r.bidir, ratings := r.ratings, desired := modeOfMap r.map }

/-- A cabinet that takes its first row: UNSEEN with the values of R25 and R50. -/
def Cabinet.fresh (r : YardRow) : Cabinet :=
  { Cabinet.unconfigured.withRow r with link := .unseen, pool := Sequencer.initial (modeOfMap r.map) }

/-- The four posts of a cabinet enter a state. -/
def enterAll (c : Nat) (st : PostState) (s : State) : State := (postsOf c).foldl (fun s p => setPostState p st s) s

/-- The four posts' buses are unlocated as YARD (R22, R23). -/
def unlocateAll (c : Nat) (s : State) : State := (postsOf c).foldl (fun s p => unlocate p .yard s) s

/-- The four sent grants of a cabinet become 0.0 (R44, R45). -/
def clearSent (c : Nat) (s : State) : State :=
  (postsOf c).foldl (fun s p => updPost p (fun q => { q with sentGrant := 0 }) s) s

/-- The visit to an unconfigured cabinet, or its POOL, is abandoned and the link freed (R45, R58). A CURTAIL or
a forwarded telegram keeps the link. -/
def abandonVisit (c : Nat) (s : State) : State :=
  let visiting := match s.ylc.round with
    | .visit st _ _ => decide (st = c)
    | _ => false
  modYlc (fun y => { y with
    round := if visiting then .between c else y.round
    link := match y.link with
      | .exchange t g => if visiting then .free else .exchange t g
      | .poolAwait st => if st = c then .free else .poolAwait st
      | l => l
    poolClaim := if y.poolClaim = some c then none else y.poolClaim
    fwdClaim := y.fwdClaim || visiting }) s

/-- A cabinet without a row any more (R45, R22, R58). -/
def unconfigure (c : Nat) (s : State) : State :=
  let stands := decide ((cabAt s c).age < fallbackTicks s)
  let s1 := updCab c (fun r => { r with
    configured := false, link := if stands then .offline else .unconfigured, bidir := false, ratings := [0, 0, 0, 0]
    desired := none, reported := none, pool := Sequencer.initial none }) (abandonVisit c s)
  let s2 := if stands then s1 else clearSent c s1
  let s3 := enterAll c .offline (unlocateAll c (removeEvents c s2))
  (postsOf c).foldl (fun s p => updPost p (fun q => { q with rating := 0 }) s) s3

/-- A configured cabinet keeps its dynamic fields and takes its new row (R45, R49, R51, R57). -/
def reconfigure (c : Nat) (r : YardRow) (s : State) : State :=
  let old := cabAt s c
  let s1 := updCab c (fun q => q.withRow r) s
  let s2 := if old.reported.isNone then setModeInForce c (modeOfMap r.map) s1 else s1
  let s3 := if old.ratings = r.ratings then s2 else refeedAll c s2
  match modeOfMap r.map with
  | none => s3
  | some d => wantMode c d s3

/-- An OFFLINE cabinet that had lost its row takes a new one and stays OFFLINE (R45). -/
def rejoin (c : Nat) (r : YardRow) (s : State) : State :=
  refeedAll c (updCab c (fun q => { q.withRow r with pool := Sequencer.initial (modeOfMap r.map) }) s)

/-- An UNCONFIGURED cabinet takes a row (R45). -/
def configure (c : Nat) (r : YardRow) (s : State) : State :=
  refeedAll c (enterAll c .unknown (updCab c (fun _ => Cabinet.fresh r) s))

/-- The lowest configured station above one. -/
def nextStation (s : State) (above : Nat) : Option Nat :=
  stations.find? (fun c => decide (above < c) && (cabAt s c).configured)

/-- No round is in progress any more, and the pass timer restarts (R28, R105). -/
def roundOver (s : State) : State :=
  modAle (fun a => { a with timer := a.timer.map (fun _ => 0) }) (modYlc (fun y => { y with round := .idle }) s)

/-- The round-due mark of a completed round: the next round is due at once (R27). -/
def applyRoundDue (s : State) : State :=
  if s.ylc.roundDue then modYlc (fun y => { y with roundDue := false, roundWanted := true }) s else s

/-- The round's completion at a YARD activation, where no configured station is left above the visit abandoned or last
ended (R28, R45, log 56). Its trigger joins the activation's (R108). -/
def closeRound (s : State) : State :=
  match s.ylc.round with
  | .between c => if (nextStation s c).isNone then applyRoundDue (evalBand (wantPass (roundOver s))) else s
  | _ => s

/-- One station at a YARD activation (R45). -/
def activateStation (rows : List YardRow) (c : Nat) (s : State) : State :=
  match rows.find? (fun r => r.station = c), (cabAt s c).configured, (cabAt s c).link with
  | none, true, _ => unconfigure c s
  | none, false, _ => s
  | some r, true, _ => reconfigure c r s
  | some r, false, .offline => rejoin c r s
  | some r, false, _ => configure c r s

/-! ### The operating state (R199) -/

/-- Entry into ISLAND: RSU acts before SBU (R199, R153, R75). -/
def enterIsland (s : State) : State :=
  let s1 := abandonDispatches .island (modTsm (fun t => { t with op := .island }) s)
  let before := s1.sbu.meter
  let s2 := modSbu (fun b => { b with
    imp := none, building := none, gridCap := none, breach := 0
    meter := if before = .fresh ∨ before = .stale then .fallback else before }) s1
  if before = .fresh ∨ before = .stale then notice (.meterFallback s2.tsm.settings.fallbackBudget) s2 else s2

/-- Entry into SAFE: CURTAIL requested, dispatches abandoned, and sending is open (R199, R40, R153, R181). -/
def enterSafe (s : State) : State :=
  trySend (abandonDispatches .safe
    (modYlc (fun y => { y with curtailReq := true }) (modTsm (fun t => { t with op := .safe }) s)))

/-- The operating state at a YARD activation (R199). -/
def yardArrived (s : State) : State :=
  if s.tsm.op = .safe then
    if s.tsm.silenceStanding then enterIsland s else modTsm (fun t => { t with op := .coordinating }) s
  else s

/-- The operating state at YARD leaving VALID (R199). -/
def yardLeft (s : State) : State :=
  if s.tsm.op = .coordinating ∨ s.tsm.op = .island then enterSafe s else s

/-- A YARD activation, or YARD leaving VALID, which leaves the cabinet records as they stand (R45, R199). -/
def activateYard (content : Option (List Row)) (s : State) : State :=
  match content with
  | none => yardLeft s
  | some rows => yardArrived (closeRound (stations.foldl (fun s c => activateStation (yardRows rows) c s) s))

/-! ### The other segments -/

def commitRows (rows : List Row) : List CommitRow := rows.filterMap (fun r => match r with | .commitment c => some c | _ => none)

def tariffRows (rows : List Row) : List TariffRow := rows.filterMap (fun r => match r with | .tariff w => some w | _ => none)

def passageRows (rows : List Row) : List PassageRow := rows.filterMap (fun r => match r with | .passage q => some q | _ => none)

/-- COMMITMENT (R132). -/
def activateCommitment (content : Option (List Row)) (s : State) : State :=
  modRsu (fun r => { r with slots := commitRows (content.getD []) }) s

/-- TARIFF (R73, R74). -/
def activateTariff (content : Option (List Row)) (s : State) : State :=
  evalTariff (modSbu (fun b => { b with windows := (tariffRows (content.getD [])).map windowOf }) s)

/-- PASSAGE (R173). -/
def activatePassage (content : Option (List Row)) (s : State) : State :=
  modSli (fun i => { i with passage := passageRows (content.getD []) }) s

/-- The SETTINGS row of a content, the built-in defaults without one (R201). -/
def settingsOf (content : Option (List Row)) : Settings :=
  match content with
  | some [.settings g] => g
  | _ => Settings.defaults

/-- The band of a SETTINGS row (R159). -/
def bandOf (g : Settings) : Band := ⟨g.sFloor, g.sLo, g.sHi, g.sCeiling⟩

/-- A season change as one step: the season, then RDU, SBU and STP (R158). -/
def changeSeason (season : Season) (s : State) : State :=
  if season = s.stp.season then s
  else
    let s1 := modStp (fun t => { t with season := season }) s
    modStp (fun t => { t with viewDue := true }) (evalTariff (rebuildList (resetOpenOutcomes s1)))

/-- SETTINGS (R77, R101, R157 to R159). -/
def activateSettings (content : Option (List Row)) (s : State) : State :=
  let g := settingsOf content
  let s1 := modTsm (fun t => { t with settings := g }) s
  changeSeason (seasonOf g.season) (reband (modStp (fun t => { t with band := bandOf g }) s1))

/-- The owner of a segment takes its content. -/
def handContent (g : Segment) (content : Option (List Row)) (s : State) : State :=
  match g with
  | .fleet => activateFleet content s
  | .route => activateRoute content s
  | .yard => activateYard content s
  | .commitment => activateCommitment content s
  | .tariff => activateTariff content s
  | .passage => activatePassage content s
  | .settings => activateSettings content s

/-- An activation is applied: the active segment changes, the owner acts, a pass is asked for (R193, R103). -/
def applyActivation (a : Activation) (s : State) : State :=
  wantPass (handContent a.seg a.content (modTsm (fun t => { t with active := t.active.set a.seg a.content }) s))

/-- Every waiting activation is applied, in the order they became ready (R108, R193). -/
def applyWaiting (s : State) : State :=
  s.tsm.waiting.foldl (fun s a => applyActivation a s) (modTsm (fun t => { t with waiting := [] }) s)

/-- An activation becomes ready: it takes the place at the back, and an earlier one of its segment leaves the
order (R193). -/
def makeReady (a : Activation) (s : State) : State :=
  modTsm (fun t => { t with waiting := t.waiting.filter (fun w => w.seg ≠ a.seg) ++ [a] }) s

/-! ### The pass boundary (R104, R108) -/

/-- A trigger that waits while no pass runs starts a pass at once. After a safe pass comes its boundary
(R103, R110). -/
def runTriggers (s : State) : State :=
  if s.ale.pass = .idle ∧ s.ale.pending = true then
    let s1 := startPass (modAle (fun a => { a with pending := false }) s)
    if s1.ale.pass = .idle then
      let s2 := applyWaiting s1
      if s2.ale.pending = true then startPass (modAle (fun a => { a with pending := false }) s2) else s2
    else s1
  else s

/-- A trigger at its place: it starts a pass or becomes the pending trigger (R103). -/
def trigger (s : State) : State := runTriggers (wantPass s)

/-- The pass boundary: every waiting activation, then the pending trigger (R104, R108). -/
def boundary (s : State) : State := runTriggers (applyWaiting s)

/-- The running pass ends, and its snapshot with it. -/
def endPass (s : State) : State := modAle (fun a => { a with pass := .idle, snap := none }) s

end Sys2Proof.Machine
end

