-- ==== Sys2Proof/Machine/Store.lean ====
section
/-! DEFINITION. Commit validation (R191), store writes and their ends (R192), and MGMT replies (R187) of
10_table_store_and_management.md. -/

namespace Sys2Proof.Machine

/-! ### Row fields (R191, R201) -/

def within (lo x hi : Nat) : Bool := decide (lo ≤ x ∧ x ≤ hi)

def withinInt (lo x hi : Int) : Bool := decide (lo ≤ x ∧ x ≤ hi)

def FleetRow.fieldsOk (r : FleetRow) : Bool :=
  within 1 r.fleetNo 9999 && within 200 r.capacity 6500 && decide (r.cls ≤ 2) &&
  (decide (r.target = 0) || within 50 r.target 100)

def RouteRow.fieldsOk (r : RouteRow) : Bool :=
  within 1 r.legNo 9999 && decide (r.assigned ≤ 9999) && decide (r.departure ≤ 1439) && decide (r.ret ≤ 1439) &&
  decide (r.base ≤ 6000) && decide (r.coldCoef ≤ 100) && decide (r.preMin ≤ 60) && decide (r.prePower ≤ 150)

def YardRow.fieldsOk (r : YardRow) : Bool := within 1 r.station 16 && r.ratings.all (fun x => withinInt 100 x 500)

def CommitRow.fieldsOk (r : CommitRow) : Bool :=
  withinInt 0 r.up 20000 && withinInt 0 r.down 20000 && within 1 r.resp 60

def TariffRow.fieldsOk (r : TariffRow) : Bool :=
  decide (r.dayType ≤ 1) && decide (r.start ≤ 1439) && decide (r.stop ≤ 1439) && decide (r.stop ≠ r.start) &&
  decide (r.cls ≤ 3) && (match r.cap with | none => true | some c => withinInt 0 c 30000)

def PassageRow.fieldsOk (r : PassageRow) : Bool :=
  decide (r.direction ≤ 1) && (decide (r.kind = 0) || kindCodes.contains r.kind) && decide (r.action ≤ 2)

/-- The ranges of R201. The bounds of S_hi, S_floor and S_ceiling that name another field are the band's order,
which has its own reason (log 32). -/
def Settings.fieldsOk (g : Settings) : Bool :=
  withinInt 1000 g.importLimit 30000 && withinInt 0 g.exportLimit 30000 && withinInt 0 g.safetyMargin 2000 &&
  withinInt 0 g.staleMargin 2000 && withinInt 0 g.fallbackBudget 30000 && withinInt 10 g.pMin 100 &&
  withinInt 10 g.rampStep 2000 && within 4 g.passPre 99 && within 0 g.turn 63 && within 1 g.fallbackTime 30 &&
  within 5 g.replyTimeout 100 && within 0 g.waitLimit 7 && within 5 g.holdOff 100 && within 1 g.missLimit 7 &&
  withinInt 0 g.guestCap 500 && within 50 g.chargeTarget 100 && within 0 g.holdMargin 1000 &&
  within 0 g.v2gMargin 1000 && withinInt (-20) g.coldRef 20 && withinInt (-40) g.defaultAmbient 20 &&
  within 5 g.grace 30 && within 5 g.earlyWindow 60 && within 10 g.sLo 90 && decide (g.sHi ≤ 95) &&
  decide (5 ≤ g.sFloor) && decide (g.sCeiling ≤ 100) && within 1 g.tolerance 20 && withinInt (-30) g.minTemp 10 &&
  decide (g.season ≤ 1)

/-! ### Checks between rows and on the whole (R191) -/

/-- Do two windows of one day type share a minute? Two cyclic windows do when one holds the other's start. -/
def overlap (a b : TariffRow) : Bool :=
  decide (a.dayType = b.dayType) &&
  ((windowOf a).covers b.start || (windowOf b).covers a.start)

/-- The first of some checks that fails. -/
def firstFailing : List (Bool × ContentReason) → Option ContentReason
  | [] => none
  | (ok, why) :: l => if ok then firstFailing l else some why

/-- One row against its own fields, then against the rows before it, the latest first. Of several checks between rows
that fail, the first in R191's listing gives the reason (log 54). -/
def checkRow (g : Segment) (before : List Row) (r : Row) : Option ContentReason :=
  match g, r with
  | .fleet, .fleet r =>
    let b := fleetRows before
    firstFailing [(r.fieldsOk, .field), (b.all (fun q => q.fleetNo ≠ r.fleetNo && q.tag ≠ r.tag), .duplicate)]
  | .route, .route r =>
    let b := routeRows before
    firstFailing [(r.fieldsOk, .field), (b.all (fun q => q.legNo ≠ r.legNo), .duplicate),
      (match b with
       | [] => true
       | q :: _ => decide (q.departure < r.departure ∨ (q.departure = r.departure ∧ q.legNo ≤ r.legNo)), .order)]
  | .yard, .yard r =>
    firstFailing [(r.fieldsOk, .field), ((modeOfMap r.map).isSome, .map),
      ((yardRows before).all (fun q => q.station ≠ r.station), .duplicate)]
  | .commitment, .commitment r => firstFailing [(r.fieldsOk, .field)]
  | .tariff, .tariff r =>
    let b := (tariffRows before).filter (fun q => q.dayType = r.dayType)
    firstFailing [(r.fieldsOk, .field), (decide (b.length < 12), .count), (b.all (fun q => !overlap q r), .overlap)]
  | .passage, .passage r => firstFailing [(r.fieldsOk, .field)]
  | .settings, .settings r =>
    firstFailing [(r.fieldsOk, .field), (decide (r.sFloor ≤ r.sLo ∧ r.sLo ≤ r.sHi ∧ r.sHi ≤ r.sCeiling), .band),
      (decide (2 * (r.passPre + 1) ≤ r.fallbackTime * 10), .timing)]
  | _, _ => some .field

/-- The rows in ascending index; the first failure gives its row and reason. -/
def checkRows (g : Segment) : Nat → List Row → List Row → Option (Nat × ContentReason)
  | _, _, [] => none
  | i, before, r :: l =>
    match checkRow g before r with
    | some why => some (i, why)
    | none => checkRows g (i + 1) (r :: before) l

/-- Validation (R191). A COMMITMENT of fewer than 48 rows fails with COUNT at its first missing row (log 32). -/
def validate (g : Segment) (rows : List Row) : Option (Nat × ContentReason) :=
  match checkRows g 0 [] rows with
  | some f => some f
  | none => if g = .commitment ∧ rows.length ≠ 48 then some (rows.length, .count) else none

/-- The first of n row indices that is not staged. -/
def firstMissing (staging : List (Nat × Row)) (n : Nat) : Option Nat :=
  (List.range n).find? (fun i => !staging.any (fun q => q.1 = i))

/-- The count test of COMMIT (R190 step 4): the row index it reports. -/
def countFailure (g : Segment) (staging : List (Nat × Row)) (n : Nat) : Option Nat :=
  if n = 0 ∨ g.capacity < n then
    some ((firstMissing staging n).getD (((staging.find? (fun q => decide (n ≤ q.1))).map Prod.fst).getD n))
  else
    match firstMissing staging n with
    | some i => some i
    | none => (staging.find? (fun q => decide (n ≤ q.1))).map Prod.fst

/-! ### Replies (R187) -/

/-- Who sent a MGMT, and which operation. -/
structure MgmtHead where
  src : Byte
  seq : Byte
  op  : Byte
  deriving DecidableEq, Repr

/-- A MGMT-REPLY is queued to the MGMT's source. -/
def mgmtReply (h : MgmtHead) (result : MgmtResult) (details : MgmtDetails) (s : State) : State :=
  queueOut ⟨h.src, .mgmtReply h.op h.seq result details⟩ s

/-- The row and reason that a reply's details give. -/
def MgmtDetails.contentPart : MgmtDetails → Option (Nat × ContentReason)
  | .content row why => some (row, why)
  | _ => Option.none

/-- An operation is answered, and it becomes the last result unless it is STATUS or CLEAR_STATUS (R187). -/
def answer (h : MgmtHead) (result : MgmtResult) (details : MgmtDetails) (s : State) : State :=
  let s1 := mgmtReply h result details s
  if h.op = opStatus ∨ h.op = opClearStatus then s1
  else modTsm (fun t => { t with lastResult := some ⟨h.op, result, details.contentPart⟩ }) s1

/-! ### Writes (R192) -/

/-- The segment that a write touches while it runs: INCOMPLETE for a COMMIT and a RELEASE (R192). -/
def markIncomplete (job : WriteJob) (s : State) : State :=
  match job with
  | .commit g _ | .release g => updStored g (fun e => { e with content := .incomplete, rows := [] }) s
  | _ => s

/-- A write begins (R192). -/
def beginWrite (h : MgmtHead) (job : WriteJob) (s : State) : State :=
  modTsm (fun t => { t with write := some ⟨job, h.op, h.src, h.seq⟩ }) (markIncomplete job s)

/-- The stored result of a write that was written (R192). -/
def storeWritten (job : WriteJob) (s : State) : State :=
  match job with
  | .commit g rows => updStored g (fun e => { e with content := .valid, rows := rows }) s
  | .release g => updStored g (fun _ => ⟨.empty, false, []⟩) s
  | .lock g => updStored g (fun e => { e with lock := true }) s
  | .setCode code => modTsm (fun t => { t with code := code }) s

/-- The stored result of a fault (R192). -/
def storeFaulted (job : WriteJob) (s : State) : State :=
  match job with
  | .commit g _ => updStored g (fun e => { e with content := .incomplete, rows := [] }) s
  | .release g => updStored g (fun _ => ⟨.incomplete, false, []⟩) s
  | .lock _ => s
  | .setCode _ => s

/-- Does the segment's leaving of VALID become ready: its active content is VALID, or new content for it waits
(R192)? -/
def leavingCounts (s : State) (g : Segment) : Bool :=
  (s.tsm.active.get g).isSome || s.tsm.waiting.any (fun a => decide (a.seg = g) && a.content.isSome)

/-- The activation that the end of a write makes ready (R192). -/
def readyAfter (job : WriteJob) (written : Bool) (s : State) : State :=
  match job with
  | .commit g rows =>
    if written then makeReady ⟨g, some rows⟩ s
    else if leavingCounts s g then makeReady ⟨g, none⟩ s else s
  | .release g => if leavingCounts s g then makeReady ⟨g, none⟩ s else s
  | _ => s

/-- An activation that is ready is applied at once when no pass is RUNNING (R193). With a RESTART waiting for the
write it is left for STARTING (R198, log 45). -/
def applyIfIdle (s : State) : State :=
  if s.ale.pass = .idle ∧ s.tsm.restartPending = false then boundary s else s

/-- A write ends: stored result, READY, reply and last result, activation (R192). -/
def endWrite (written : Bool) (s : State) : State :=
  match s.tsm.write with
  | none => s
  | some w =>
    let s1 := if written then storeWritten w.job s else storeFaulted w.job s
    let s2 := modTsm (fun t => { t with write := none }) s1
    let s3 := answer ⟨w.src, w.seq, w.op⟩ (if written then .done else .storeFault) .none s2
    applyIfIdle (readyAfter w.job written s3)

end Sys2Proof.Machine
end

