-- ==== Sys2Proof/Machine/Mgmt.lean ====
section
/-! DEFINITION. The management operations (10_table_store_and_management.md, R187 to R198; R6, R99). -/

namespace Sys2Proof.Machine

/-! ### The order of judgement (R187) -/

/-- Does the access field pass (R187 step 1)? -/
def accessPasses (s : State) (access : List Byte) : Bool := decide (s.tsm.code = blankCode) || decide (access = s.tsm.code)

/-- The tests that come before an operation's own rule: the result that ends the judgement (R187). `known` and
`fits` are steps 2's two tests. -/
def earlyResult (s : State) (op : Byte) (access : List Byte) (known fits : Bool) : Option MgmtResult :=
  if accessPasses s access = false then some .access
  else if known = false then some .unknownOp
  else if fits = false then some .range
  else if s.tsm.op = .starting ∧ op ≠ opStatus then some .busy
  else none

/-- A MGMT is judged: by the early tests, else by its operation's rule (R187). A STAGE that the early tests end is
answered without details (DESIGN CHOICE, log 52), and so is a READ or a STATUS (DESIGN CHOICE, log 67). -/
def judgeMgmt (h : MgmtHead) (access : List Byte) (known fits : Bool) (serve : State → State) (s : State) : State :=
  match earlyResult s h.op access known fits with
  | some r => answer h r .none s
  | none => serve s

/-! ### STAGE and DISCARD (R188, R189) -/

/-- The staging area's part of a STAGE's reply (R188). -/
def stagedDetails (s : State) : MgmtDetails := .staged s.tsm.staged s.tsm.staging.length

/-- A row put at its index; the list stays in ascending index. -/
def putRow (i : Nat) (r : Row) : List (Nat × Row) → List (Nat × Row)
  | [] => [(i, r)]
  | q :: l => if i < q.1 then (i, r) :: q :: l else if i = q.1 then (i, r) :: l else q :: putRow i r l

/-- The result of a STAGE for a segment and index (R188). A segment keeps its lock until the RELEASE write ends (R192), so a
STAGE for it during that write is LOCKED (DESIGN CHOICE, log 63). -/
def stageResult (s : State) (g : Segment) (i : Nat) : MgmtResult :=
  if (s.tsm.store.get g).lock then .locked
  else if s.tsm.staged.isSome ∧ s.tsm.staged ≠ some g then .sequence
  else if g.capacity ≤ i then .range
  else .done

/-- The row is written to the staging area (R188). -/
def stageRow (g : Segment) (i : Nat) (r : Row) (s : State) : State :=
  modTsm (fun t => { t with staged := some g, staging := putRow i r t.staging }) s

/-- STAGE's fields: segment, index, and a row of the segment's length. -/
def parseStage (f : List Byte) : Option (Segment × Nat × Row) :=
  match segmentOfCode (byteAt f 0) with
  | none => none
  | some g => if f.length < 3 then none else (parseRow g (f.drop 3)).map (fun r => (g, nat16At f 1, r))

/-- STAGE (R188). A segment code that names none of the seven is RANGE. -/
def serveStage (h : MgmtHead) (f : List Byte) (s : State) : State :=
  match parseStage f with
  | none => answer h .range (stagedDetails s) s
  | some (g, i, r) =>
    let result := stageResult s g i
    let s1 := if result = .done then stageRow g i r s else s
    answer h result (stagedDetails s1) s1

/-- The staging area empties. -/
def clearStaging (s : State) : State := modTsm (fun t => { t with staged := none, staging := [] }) s

/-- DISCARD (R189). -/
def serveDiscard (h : MgmtHead) (s : State) : State := answer h .done .none (clearStaging s)

/-! ### COMMIT (R190) -/

/-- What COMMIT's judgement gives: a refusal, or the segment and rows to write. -/
inductive CommitVerdict where
  | refuse (result : MgmtResult) (details : MgmtDetails)
  | write (g : Segment) (rows : List Row)
  deriving DecidableEq, Repr

/-- The judgement of COMMIT (R190). A code that names no segment is never the staged segment's. -/
def judgeCommit (s : State) (code confirm : Byte) (n : Nat) : CommitVerdict :=
  match segmentOfCode code with
  | none => .refuse .sequence .none
  | some g =>
    if confirm ≠ confirmCommit ∨ s.tsm.staged ≠ some g then .refuse .sequence .none
    else if (s.tsm.store.get g).lock then .refuse .locked .none
    else if s.tsm.write.isSome then .refuse .busy .none
    else
      match countFailure g s.tsm.staging n with
      | some i => .refuse .content (.content i .count)
      | none =>
        match validate g (s.tsm.staging.map Prod.snd) with
        | some (i, why) => .refuse .content (.content i why)
        | none => .write g (s.tsm.staging.map Prod.snd)

/-- COMMIT (R190, R192): the reply follows the write. -/
def serveCommit (h : MgmtHead) (f : List Byte) (s : State) : State :=
  match judgeCommit s (byteAt f 0) (byteAt f 1) (nat16At f 2) with
  | .refuse result details => answer h result details s
  | .write g rows => beginWrite h (.commit g rows) (clearStaging s)

/-! ### READ, STATUS, CLEAR_STATUS (R196) -/

/-- An active row of a segment, and whether it is the built-in defaults (R196). -/
def readRow (s : State) (g : Segment) (i : Nat) : Option (Row × Bool) :=
  match s.tsm.active.get g with
  | some rows => (rows[i]?).map (fun r => (r, false))
  | none => if g = .settings ∧ i = 0 then some (.settings Settings.defaults, true) else none

/-- READ (R196). R208 lists the details of a READ that is served; one answered RANGE carries none (DESIGN CHOICE, log 67). -/
def serveRead (h : MgmtHead) (f : List Byte) (s : State) : State :=
  match segmentOfCode (byteAt f 0) with
  | none => answer h .range .none s
  | some g =>
    match readRow s g (nat16At f 1) with
    | none => answer h .range .none s
    | some (r, defaults) => answer h .done (.read g (nat16At f 1) r defaults) s

/-- The segment of a write in flight. -/
def WriteJob.segment : WriteJob → Option Segment
  | .commit g _ => some g
  | .release g => some g
  | .lock g => some g
  | .setCode _ => none

/-- The status record, as it stands when it is answered (R196). A SETTINGS that is not VALID has the active row count 0
(DESIGN CHOICE, log 58), and the write of a SEASON goes under the operation SEASON (DESIGN CHOICE, log 59). -/
def statusRecord (s : State) : StatusRecord where
  op := s.tsm.op
  silence := s.tsm.silenceStanding
  write := s.tsm.write.map (fun w => (w.op, w.job.segment))
  lastResult := s.tsm.lastResult
  staged := s.tsm.staged
  stagedRows := s.tsm.staging.length
  segments := segments.map (fun g => ((s.tsm.store.get g).content, (s.tsm.store.get g).lock,
    ((s.tsm.active.get g).map List.length).getD 0))
  outOverflow := s.tsm.outOverflow
  plugFull := s.tsm.plugFull
  clockSet := s.rdu.clock.set
  clock := (clockReading s).map (fun r => (r.weekday, r.minute))
  online := (stations.filter (fun c => (cabAt s c).link = .online)).length
  located := (s.frt.buses.filter (fun b => b.post.isSome)).length

/-- STATUS (R196). -/
def serveStatus (h : MgmtHead) (s : State) : State := answer h .done (.status (statusRecord s)) s

/-- CLEAR_STATUS (R196). -/
def serveClearStatus (h : MgmtHead) (s : State) : State :=
  answer h .done .none (modTsm (fun t => { t with lastResult := none, outOverflow := false, plugFull := false }) s)

/-! ### LOCK, RELEASE, SET_CODE (R194, R195) -/

/-- LOCK (R194). -/
def serveLock (h : MgmtHead) (f : List Byte) (s : State) : State :=
  match segmentOfCode (byteAt f 0) with
  | none => answer h .range .none s
  | some g =>
    if s.tsm.write.isSome ∨ s.tsm.waiting.any (fun a => a.seg = g) = true then answer h .busy .none s
    else beginWrite h (.lock g) s

/-- RELEASE (R194). -/
def serveRelease (h : MgmtHead) (f : List Byte) (s : State) : State :=
  match segmentOfCode (byteAt f 0) with
  | none => answer h .range .none s
  | some g =>
    if byteAt f 1 ≠ confirmA5 then answer h .sequence .none s
    else if s.tsm.write.isSome then answer h .busy .none s
    else beginWrite h (.release g) s

/-- SET_CODE (R195). -/
def serveSetCode (h : MgmtHead) (f : List Byte) (s : State) : State :=
  if s.tsm.write.isSome then answer h .busy .none s else beginWrite h (.setCode f) s

/-! ### Day operations (R197, R6, R99) -/

/-- WITHDRAW (R6). -/
def serveWithdraw (h : MgmtHead) (f : List Byte) (s : State) : State :=
  match slotOf s (nat16At f 0) with
  | none => answer h .range .none s
  | some k => answer h .done .none (updBus k (fun b => { b with state := .withdrawn }) s)

/-- A WITHDRAWN bus returned: PLUGGED if located, YARD if not; any other is left (R6). -/
def Bus.returned (b : Bus) : Bus :=
  if b.state = .withdrawn then { b with state := if b.post.isSome then .plugged else .yard } else b

/-- RETURN (R6). -/
def serveReturn (h : MgmtHead) (f : List Byte) (s : State) : State :=
  match slotOf s (nat16At f 0) with
  | none => answer h .range .none s
  | some k => answer h .done .none (updBus k Bus.returned s)

/-- The substitute of a SUBSTITUTE; 0 is the clearing marker (R208). -/
def substituteOf (n : Nat) : Option Nat := if n = 0 then none else some n

/-- Why a fleet number cannot be a substitute (R99). -/
def substituteRefusal (s : State) (bus : Option Nat) : Option MgmtResult :=
  match bus with
  | none => none
  | some n =>
    match (slotOf s n).bind (busAt s) with
    | none => some .range
    | some b => if b.state = .withdrawn then some .withdrawn else none

/-- The cases of R99, the first that applies. -/
def substituteResult (s : State) (legNo : Nat) (bus : Option Nat) : MgmtResult :=
  match findLeg s.rdu.legs legNo with
  | none => .range
  | some l =>
    match substituteRefusal s bus with
    | some r => r
    | none => if l.outcome = .pending then .done else .closed

/-- A DUE entry's verdict is taken again from the new effective bus (R99, R92). -/
def rejudge (legNo : Nat) (s : State) : State :=
  match s.rdu.list.find? (fun e => e.legNo = legNo), findLeg s.rdu.legs legNo with
  | some e, some l =>
    if e.due.isSome then
      let j := judgeDue l s
      if j.2 then leaveList false legNo j.1 else j.1
    else s
  | _, _ => s

/-- Does a substitute leave the leg its effective bus (R86)? -/
def sameBus (s : State) (legNo : Nat) (bus : Option Nat) : Bool :=
  match findLeg s.rdu.legs legNo with
  | none => true
  | some l => decide (({ l with substitute := bus } : Leg).effective = l.effective)

/-- A leg's substitute is set or cleared (R99). A DUE entry is judged again for a new effective bus alone (R92). -/
def substitute (legNo : Nat) (bus : Option Nat) (s : State) : State :=
  let s1 := updLeg legNo (fun l => { l with substitute := bus }) s
  if sameBus s legNo bus then s1 else rejudge legNo s1

/-- SUBSTITUTE (R99). -/
def serveSubstitute (h : MgmtHead) (f : List Byte) (s : State) : State :=
  let bus := substituteOf (nat16At f 2)
  let r := substituteResult s (nat16At f 0) bus
  answer h r .none (if r = .done then substitute (nat16At f 0) bus s else s)

/-- The SETTINGS row that SEASON commits: the active one with its season, the defaults where SETTINGS is not
VALID (R197). -/
def seasonRow (s : State) (season : Nat) : Settings := { settingsOf (s.tsm.active.get .settings) with season := season }

/-- SEASON (R197). A value that names no season is RANGE before a lock or a write in flight is looked at (log 53). -/
def serveSeason (h : MgmtHead) (f : List Byte) (s : State) : State :=
  if 1 < nat8At f 0 then answer h .range .none s
  else if (s.tsm.store.get .settings).lock then answer h .locked .none s
  else if s.tsm.write.isSome then answer h .busy .none s
  else beginWrite h (.commit .settings [.settings (seasonRow s (nat8At f 0))]) s

/-! ### RESTART (R198) -/

/-- RESTART: the reply, and the RESTART that follows it (R198). -/
def serveRestart (h : MgmtHead) (f : List Byte) (s : State) : State :=
  if byteAt f 0 ≠ confirmA5 then answer h .sequence .none s
  else modTsm (fun t => { t with restartPending := true }) (answer h .done .none s)

/-! ### An operation by its code -/

/-- Do an operation's fields fill the payload exactly (R208)? A STAGE whose code names no segment has no row
length; R188 judges it (log 44). -/
def fieldsFit (op : Byte) (f : List Byte) : Bool :=
  if op = opStage then
    (match segmentOfCode (byteAt f 0) with
     | none => decide (3 ≤ f.length)
     | some g => decide (f.length = 3 + rowBytes g))
  else if op = opCommit then decide (f.length = 4)
  else if op = opRead then decide (f.length = 3)
  else if op = opLock ∨ op = opSeason ∨ op = opRestart then decide (f.length = 1)
  else if op = opRelease ∨ op = opWithdraw ∨ op = opReturn then decide (f.length = 2)
  else if op = opSetCode then decide (f.length = 8)
  else if op = opSubstitute then decide (f.length = 4)
  else f.isEmpty

/-- The operation's own rule. -/
def serveOp (h : MgmtHead) (f : List Byte) (s : State) : State :=
  if h.op = opStage then serveStage h f s
  else if h.op = opCommit then serveCommit h f s
  else if h.op = opDiscard then serveDiscard h s
  else if h.op = opRead then serveRead h f s
  else if h.op = opStatus then serveStatus h s
  else if h.op = opLock then serveLock h f s
  else if h.op = opRelease then serveRelease h f s
  else if h.op = opSetCode then serveSetCode h f s
  else if h.op = opClearStatus then serveClearStatus h s
  else if h.op = opWithdraw then serveWithdraw h f s
  else if h.op = opReturn then serveReturn h f s
  else if h.op = opSubstitute then serveSubstitute h f s
  else if h.op = opSeason then serveSeason h f s
  else serveRestart h f s

/-- TSM takes a MGMT (R187). -/
def takeMgmt (src seq op : Byte) (access fields : List Byte) (s : State) : State :=
  judgeMgmt ⟨src, seq, op⟩ access (knownOp op) (fieldsFit op fields) (serveOp ⟨src, seq, op⟩ fields) s

end Sys2Proof.Machine
end

