-- ==== Sys2Proof/Machine/Clock.lean ====
section
/-! DEFINITION. The minute clock of 05_route_readiness.md: handing on a change of minute (R79), TIME (R80 to
R83). -/

namespace Sys2Proof.Machine

/-- A change of minute is handed on: SBU's tariff, with the pass an edge triggers, then RSU's slot and STP's
STORAGE (R79, R74, R135, R168). -/
def handMinute (s : State) : State := takeSlot (runTriggers (evalTariff s))

/-- The clock takes a TIME's values, with tick 0. -/
def adoptClock (minute weekday second : Nat) (s : State) : State :=
  modRdu (fun r => { r with clock := ⟨true, weekday, minute, second, 0⟩ }) s

/-- The position of a clock reading in the week, in seconds (R80). -/
def weekPosition (weekday minute second : Nat) : Nat := weekday * 86400 + minute * 60 + second

/-- The difference of two positions, from −302,400 to +302,399 (R80). -/
def weekDifference (new old : Nat) : Int := ((new : Int) - old + 302400) % 604800 - 302400

/-- The first setting (R81). -/
def firstSetting (minute weekday second : Nat) (s : State) : State :=
  handMinute (buildList (clearMarkers (resetOutcomes (adoptClock minute weekday second s))))

/-- A jump (R83). -/
def jump (minute weekday second : Nat) (s : State) : State :=
  let old := s.rdu.clock
  let s1 := adoptClock minute weekday second s
  let s2 := if weekday = old.weekday then s1 else clearMarkers (clearSubstitutes (resetOutcomes s1))
  handMinute (notice (.clockJump old.weekday old.minute weekday minute) (buildList s2))

/-- The second of the clock, with tick 0. -/
def setSecond (second : Nat) (s : State) : State :=
  modRdu (fun r => { r with clock := { r.clock with second := second, tick := 0 } }) s

/-- A forward slew of some seconds: each minute boundary crossed is processed as an advance, then the second is
set, and one change is handed on (R82). -/
def slewForward (seconds second : Nat) (s : State) : State :=
  let crossed := (s.rdu.clock.second + seconds) / 60
  let s1 := setSecond second (timesDo advanceMinute crossed s)
  if crossed = 0 then s1 else handMinute s1

/-- A backward slew inside the day: the minute and second move back, and a changed minute is processed and
handed on (R82, R79). -/
def slewBackward (minute weekday second : Nat) (s : State) : State :=
  let s1 := adoptClock minute weekday second s
  if minute = s.rdu.clock.minute then s1 else handMinute (processMinute s1)

/-- A TIME with every field in range, on a SET clock (R80, R82). -/
def judgeTime (minute weekday second : Nat) (s : State) : State :=
  let c := s.rdu.clock
  let d := weekDifference (weekPosition weekday minute second) (weekPosition c.weekday c.minute c.second)
  if 0 ≤ d ∧ d ≤ 120 then slewForward d.toNat second s
  else if -120 ≤ d ∧ d < 0 ∧ weekday = c.weekday then slewBackward minute weekday second s
  else jump minute weekday second s

/-- RDU takes a TIME (R80). -/
def takeTime (payload : List Byte) (s : State) : State :=
  match parseTime payload with
  | none => s
  | some (minute, weekday, second) =>
    if s.tsm.op = .starting then s
    else if 1439 < minute ∨ 6 < weekday ∨ 59 < second then notice (.clockRejected minute weekday second) s
    else if s.rdu.clock.set then judgeTime minute weekday second s
    else firstSetting minute weekday second s

end Sys2Proof.Machine
end

