-- ==== Sys2Proof/Machine/Survey.lean ====
section
/-! DEFINITION. The yard link (02_yard_survey.md): who takes it (R29), rounds and visits (R27, R28), EXCHANGE
(R30), misses (R33), STATUS (R32, R34 to R36, R39), and the ends of CURTAIL and POOL (R41, R54). -/

namespace Sys2Proof.Machine

/-! ### Sending -/

/-- The part begins to send on the yard link: the link is taken, and the yard framer hunts from the end of the
telegram (R203). -/
def takeLink (l : Link) (s : State) : State := modYlc (fun y => { y with link := l, framer := [] }) s

/-- A telegram that the part originates toward a station. Its sequence byte is a free value (R202, log 8). -/
def yardTelegram (s : State) (station : Nat) (kind : Byte) (payload : List Byte) : Telegram :=
  ⟨BitVec.ofNat 8 station, ownStation, kind, Config.yardSequence s.freeCount, payload⟩

/-- The grants an EXCHANGE carries; 0.0 in SAFE (R30). -/
def exchangeGrants (s : State) (c : Nat) : List Int :=
  (postsOf c).map (fun p => if s.tsm.op = .safe then 0 else (postAt s p).grant)

/-- The precondition flags an EXCHANGE carries; no in SAFE and for posts of a quiesce set (R30, R52). -/
def exchangeFlags (s : State) (c : Nat) : List Bool :=
  (postsOf c).map (fun p => s.tsm.op ≠ .safe && (postAt s p).precond && !inQuiesce s p)

/-- An EXCHANGE is sent to cabinet c, with the records as they stand (R30). -/
def sendExchange (c waits : Nat) (s : State) : State :=
  let t := yardTelegram s c kindExchange
    (exchangePayload (exchangeGrants s c) (exchangeFlags s c) (cabAt s c).restartAck (cabAt s c).lastSeq)
  takeLink (.exchange t (exchangeGrants s c))
    (countFree (modYlc (fun y => { y with round := .visit c waits .awaiting }) s))

/-- The CURTAIL broadcast begins; the request clears (R40). -/
def sendCurtail (s : State) : State :=
  takeLink (.curtail (yardTelegram s 0 kindCurtail []))
    (countFree (modYlc (fun y => { y with curtailReq := false }) s))

/-- A POOL is sent with the target and the attempt number (R54). -/
def sendPool (c : Nat) (target : Mode) (s : State) : State :=
  takeLink (.poolSending c (yardTelegram s c kindPool (poolPayload target ((cabAt s c).pool.attempts + 1))))
    (countFree (modYlc (fun y => { y with poolClaim := none }) s))

/-- The oldest entry of the yard forward queue is sent (R29, R42). -/
def sendForward (t : Telegram) (rest : List Telegram) (s : State) : State :=
  takeLink (.forward t) (modYlc (fun y => { y with fwdQ := rest, fwdClaim := false }) s)

/-- The link becomes free. -/
def freeLink (s : State) : State := modYlc (fun y => { y with link := .free }) s

/-! ### Rounds (R27, R28) -/

/-- The round completes: ALE's trigger and timer, RSU's band, and the round-due mark (R28, R105). -/
def completeRound (s : State) : State := applyRoundDue (evalBand (trigger (roundOver s)))

/-- The round goes on to the next configured station, or completes (R28). -/
def continueRound (last : Nat) (s : State) : State :=
  match nextStation s last with
  | some c => sendExchange c 0 (modYlc (fun y => { y with poolClaim := none, fwdClaim := false }) s)
  | none => completeRound s

/-- A due round starts; over an empty survey set it completes in the same step (R27). -/
def startRound (s : State) : State :=
  continueRound 0
    (modYlc (fun y => { y with roundTimer := some 0, roundWanted := false, poolClaim := none, fwdClaim := false }) s)

/-- A visit ends: the link is free, the claims of R29 open, and where no configured station lies above the round
completes (R28, R29, R54). -/
def endVisit (c : Nat) (answered : Bool) (s : State) : State :=
  let s1 := modYlc (fun y => { y with
    link := .free, round := .between c, fwdClaim := true
    poolClaim := if answered = true ∧ (cabAt s c).pool.state = .sent then some c else none }) s
  if (nextStation s1 c).isNone then completeRound s1 else s1

/-! ### The arbiter (R29) -/

/-- What is given the free link next (R29). -/
inductive Grantee where
  | curtail
  | resend (c waits : Nat)
  | pool (c : Nat) (target : Mode)
  | forward (t : Telegram) (rest : List Telegram)
  | next (last : Nat)
  | round
  | none
  deriving DecidableEq, Repr

/-- The POOL that waits for the slot just opened. -/
def poolWaiting (s : State) : Option (Nat × Mode) :=
  match s.ylc.poolClaim with
  | none => none
  | some c =>
    if (cabAt s c).pool.state = .sent then (cabAt s c).pool.target.map (fun m => (c, m)) else none

/-- May the yard forward queue have the link: after a visit once, or outside a round when no round is due
(R29, log 16)? -/
def mayForward (s : State) : Bool :=
  s.ylc.fwdClaim || (decide (s.ylc.round = .idle) && !s.ylc.roundWanted)

/-- The claims behind CURTAIL and the visit in progress, in the order of R29. -/
def pickOther (s : State) : Grantee :=
  match poolWaiting s, mayForward s, s.ylc.fwdQ, s.ylc.round with
  | some (c, m), _, _, _ => .pool c m
  | none, true, t :: rest, _ => .forward t rest
  | none, _, _, .between last => .next last
  | none, _, _, .idle => if s.ylc.roundWanted then .round else .none
  | none, _, _, .visit _ _ _ => .none

/-- The first of R29's list that waits for the free link. A hold-off frees it for a CURTAIL alone. -/
def pick (s : State) : Grantee :=
  if s.ylc.curtailReq then .curtail
  else
    match s.ylc.round with
    | .visit c waits .resend => .resend c waits
    | .visit _ _ _ => .none
    | _ => pickOther s

/-- The grantee takes the link. -/
def giveLink (g : Grantee) (s : State) : State :=
  match g with
  | .curtail => sendCurtail s
  | .resend c waits => sendExchange c waits s
  | .pool c m => sendPool c m s
  | .forward t rest => sendForward t rest s
  | .next last => continueRound last s
  | .round => startRound s
  | .none => s

/-- The claims of a visit end where the free link finds nothing waiting (R29). -/
def closeClaims (s : State) : State := modYlc (fun y => { y with poolClaim := none, fwdClaim := false }) s

/-- Is the link free for the arbiter? In STARTING it carries nothing (R46). -/
def linkOpen (s : State) : Bool := decide (s.tsm.op ≠ .starting) && decide (s.ylc.link = .free)

/-- The link is given to what waits, again where an empty round has come and gone. -/
def settleLink : Nat → State → State
  | 0, s => s
  | n + 1, s =>
    if linkOpen s then
      if pick s = .none then closeClaims s else settleLink n (giveLink (pick s) s)
    else s

/-- The end of every step: the arbiter (R29), once also where a step hands on several telegrams (log 70). Three turns serve an
ended round, a due round and its first visit. -/
def finish (s : State) : State := settleLink 3 s

/-! ### A miss (R33) -/

/-- The cabinet enters OFFLINE: the notice, its posts, its sequencer (R33, R22, R58). -/
def goOffline (c : Nat) (s : State) : State :=
  failOffline c (enterAll c .offline
    (notice (.cabinetOffline c) (updCab c (fun r => { r with link := .offline }) s)))

/-- A miss (R33, R26). The count goes on to 7 in an OFFLINE cabinet too, as R33's text has it; the worked example of
spec/02 shows it kept at the miss limit (the model's choice, log 64). -/
def countMiss (c : Nat) (s : State) : State :=
  let n := min 7 ((cabAt s c).misses + 1)
  let s1 := updCab c (fun r => { r with misses := n }) s
  if (cabAt s c).link = .offline then s1
  else if s.tsm.settings.missLimit ≤ n then goOffline c s1
  else if (cabAt s c).link = .unseen then s1
  else updCab c (fun r => { r with link := .missing }) s1

/-- A visit ends in a miss. -/
def missVisit (c : Nat) (s : State) : State := endVisit c false (countMiss c s)

/-! ### STATUS (R32) -/

/-- A new restart of the cabinet (R39, R23). -/
def cabinetRestart (c : Nat) (s : State) : State :=
  let s1 := removeEvents c (updCab c (fun r => { r with lastSeq := none }) s)
  let s2 := restartPool c (unlocateAll c (enterAll c .unknown s1))
  updCab c (fun r => { r with restartAck := true }) (notice (.cabinetRestarted c) s2)

/-- Step 1: the restarted flag (R39). -/
def statusRestart (c : Nat) (restarted : Bool) (s : State) : State :=
  if restarted then (if (cabAt s c).restartAck then s else cabinetRestart c s)
  else updCab c (fun r => { r with restartAck := false }) s

/-- Step 2: miss count, answer age, sent grants, link state (R32). -/
def statusLink (c : Nat) (grants : List Int) (s : State) : State :=
  let s1 := updCab c (fun r => { r with misses := 0, age := 0, link := .online }) s
  let s2 := positions.foldl (fun s i => updPost (postNo c i) (fun q => { q with sentGrant := grants.getD i 0 }) s) s1
  if (cabAt s c).link = .offline then notice .cabinetOnline s2 else s2

/-- A report as it is written: clamped (R34, R35). The rating is the one in force at step 4, after the mode that the
same STATUS reports has taken effect (log 48). -/
def clampReport (s : State) (c i : Nat) (r : RawReport) : Report :=
  let q := postAt s (postNo c i)
  { occupied := r.occupied
    measured := r.measured
    held := r.held.map (fun h =>
      match q.bus.bind (busAt s) with
      | none => h
      | some b => min h b.capacity)
    accept := clampInt 0 q.rating r.accept
    deliver := if (cabAt s c).bidir then clampInt 0 q.rating r.deliver else 0
    temp := r.temp.map (clampInt (-50) 60)
    fault := r.fault }

/-- Does the STATUS carry an event for a position (R20)? A repeated event and one of an unknown kind count, as the post
is spoken of in the STATUS whatever its judgement (log 60). -/
def speaksOf (m : StatusMsg) (i : Nat) : Bool := m.events.any (fun e => e.position.toNat = i)

/-- Step 4 for one position: the report, the comparison, the located bus's held value (R32, R20, R4). -/
def statusReport (c : Nat) (m : StatusMsg) (before : List PostState) (i : Nat) (s : State) : State :=
  match m.reports[i]? with
  | none => s
  | some r =>
    let p := postNo c i
    let s1 := updPost p (fun q => { q with report := some (clampReport s c i r) }) s
    let s2 := compareOccupancy p (before.getD i .unknown) r.occupied (speaksOf m i) s1
    match (postAt s p).bus with
    | none => s2
    | some k => takeHeld k p s2

/-- Step 5 for one position: UNKNOWN, and OFFLINE of a cabinet just returned, are settled (R12, R32). -/
def statusSettle (c i : Nat) (s : State) : State :=
  let st := (postAt s (postNo c i)).state
  if st = .unknown ∨ st = .offline then settle (postNo c i) true s else s

/-- The judgement of an event's sequence (R36): is it new? -/
def isNewEvent (last : Option Nat) (seq : Byte) : Bool :=
  match last with
  | none => true
  | some n => let d := (seq.toNat + 256 - n % 256) % 256
    decide (1 ≤ d ∧ d ≤ 127)

/-- The queue entry of an event, if its position and kind are known (R36). -/
def entryOf (c : Nat) (e : RawEvent) : Option PlugEvent :=
  match plugKindOfCode e.kind with
  | none => none
  | some k =>
    if 3 < e.position.toNat then none
    else some ⟨c, e.position.toNat, k, if k = .plugged then e.tag else [], some e.seq.toNat⟩

/-- The events of a STATUS, in the order it lists them, with their judgements (R36, log 20). `refused` says that
an earlier one found the queue full. -/
def offerEvents (c : Nat) : Bool → List RawEvent → State → State × List Judgement
  | _, [], s => (s, [])
  | refused, e :: l, s =>
    let accepted := updCab c (fun r => { r with lastSeq := some e.seq.toNat }) s
    if refused then ((offerEvents c true l s).1, .refused :: (offerEvents c true l s).2)
    else if isNewEvent (cabAt s c).lastSeq e.seq = false then
      ((offerEvents c false l s).1, .duplicate :: (offerEvents c false l s).2)
    else
      match entryOf c e with
      | none => ((offerEvents c false l accepted).1, .ignored :: (offerEvents c false l accepted).2)
      | some entry =>
        if plugFull s then
          ((offerEvents c true l (refuseEvent s)).1, .refused :: (offerEvents c true l (refuseEvent s)).2)
        else
          ((offerEvents c false l (joinPlug entry accepted)).1,
           .accepted :: (offerEvents c false l (joinPlug entry accepted)).2)

/-! ### The passage table (R173) and STATUS-FWD (R178) -/

/-- The two directions of a passage row (R208). -/
inductive Toward where
  | yard
  | site
  deriving DecidableEq, Repr

def Toward.code : Toward → Nat
  | .yard => 0
  | .site => 1

/-- The actions of a passage row (R173). -/
inductive Action where
  | forward
  | clamp
  | drop
  deriving DecidableEq, Repr

def actionOf (n : Nat) : Action := if n = 0 then .forward else if n = 1 then .clamp else .drop

/-- Does a row match a telegram (R173)? -/
def PassageRow.fits (r : PassageRow) (d : Toward) (kind src dst : Byte) : Bool :=
  decide (r.direction = d.code) && (decide (r.kind = 0) || decide (r.kind = kind)) &&
  decide (r.srcLow ≤ src.toNat ∧ src.toNat ≤ r.srcHigh) && decide (r.dstLow ≤ dst.toNat ∧ dst.toNat ≤ r.dstHigh)

/-- The action a telegram takes: the first matching row's, DROP without one (R173). -/
def passageAction (s : State) (d : Toward) (kind src dst : Byte) : Action :=
  match s.sli.passage.find? (fun r => r.fits d kind src dst) with
  | none => .drop
  | some r => actionOf r.action

/-- The STATUS-FWD copy, annotated (R178). -/
def statusCopy (s : State) (c : Nat) (m : StatusMsg) (grants : List Int) (js : List Judgement) : StatusFwd where
  cabinet := c
  restarted := m.restarted
  mode := m.mode
  reports := (postsOf c).map (fun p => (postAt s p).report)
  states := (postsOf c).map (fun p => (postAt s p).state)
  sent := grants
  events := m.events.zip js

/-- Step 7: SLI makes a copy when the passage table allows (R32, R178). -/
def statusHandOff (c : Nat) (m : StatusMsg) (grants : List Int) (js : List Judgement) (s : State) : State :=
  match passageAction s .site kindStatus (BitVec.ofNat 8 c) ownStation with
  | .drop => s
  | _ => queueOut ⟨schedulerStation, .statusFwd (statusCopy s c m grants js)⟩ s

/-- A STATUS is applied, steps 1 to 5 (R32). A mode in force that follows it at step 3 gives the ratings that clamp its
own reports (log 48). -/
def applyReports (c : Nat) (m : StatusMsg) (grants : List Int) (s : State) : State :=
  let s1 := statusLink c grants (statusRestart c m.restarted s)
  let before := (postsOf c).map (fun p => (postAt s1 p).state)
  let s2 := reportMode c m.mode s1
  let s3 := positions.foldl (fun s i => statusReport c m before i s) s2
  positions.foldl (fun s i => statusSettle c i s) (markQuiet c s3)

/-- A STATUS taken as the reply to an EXCHANGE (R32). The visit ends with an answer. -/
def takeStatus (c : Nat) (m : StatusMsg) (grants : List Int) (s : State) : State :=
  let s1 := applyReports c m grants s
  let o := offerEvents c false m.events s1
  endVisit c true (statusHandOff c m grants o.2 o.1)

/-! ### CURTAIL sent (R41) -/

/-- The grants, previous grants and sent grants of all posts become 0.0 (R41). -/
def zeroAll (s : State) : State :=
  mapPosts (fun _ q => { q with grant := 0, prevGrant := 0, sentGrant := 0 }) s

/-- The CURTAIL has been sent (R41, R104, log 22). -/
def curtailDone (s : State) : State :=
  let s1 := modAle (fun a => { a with turn := 0 }) (zeroAll s)
  let s2 := if s1.ale.pass = .running then boundary (wantPass (endPass s1)) else trigger s1
  notice .curtailed s2

end Sys2Proof.Machine
end

