-- ==== Sys2Proof/Machine/Traffic.lean ====
section
/-! DEFINITION. Site traffic (09_site_traffic_and_the_passage_table.md): the silence timer and the site's return
(R183, R184), pass-through telegrams (R174), SETREQ (R175, R176), yard replies toward the site (R177); and what
SBU and RSU make of METER, DISPATCH and CANCEL (R61, R137, R150). -/

namespace Sys2Proof.Machine

/-! ### Silence and return -/

/-- Site silence is reported (R183, R199). -/
def siteSilent (s : State) : State :=
  let s1 := modSli (fun i => { i with silentMark := true }) s
  let s2 := modTsm (fun t => { t with silenceStanding := true }) s1
  if s2.tsm.op = .coordinating then runTriggers (enterIsland s2) else s2

/-- Site return is reported (R184, R199); sending reopens at the exit from ISLAND (R181). -/
def siteReturn (s : State) : State :=
  let s1 := modTsm (fun t => { t with silenceStanding := false }) s
  if s1.tsm.op = .island then trySend (modTsm (fun t => { t with op := .coordinating }) s1) else s1

/-- Does the telegram about to arrive bring TSM out of ISLAND (R184)? -/
def endsIsland (s : State) : Bool := s.sli.silentMark && decide (s.tsm.op = .island)

/-- Does TSM leave ISLAND only when the telegram that ends the silence has been handled? R172 and R184 allow either
order, which is a free value (log 37). -/
def exitWaits (s : State) : Bool := endsIsland s && !Config.exitFirst s.sli.orderCount

/-- A valid site telegram has arrived: the silence timer restarts, the mark clears, and site return is reported, but for
an exit from ISLAND that waits for the telegram's handling (R171, R183, R184). -/
def siteArrived (s : State) : State :=
  let s1 := modSli (fun i => { i with
    silence := 0, silentMark := false, orderCount := if endsIsland s then i.orderCount + 1 else i.orderCount }) s
  if s.sli.silentMark && !exitWaits s then siteReturn s1 else s1

/-- The exit from ISLAND that waited for the handling; `before` is the part before the telegram arrived. -/
def siteLeft (before s : State) : State := if exitWaits before then siteReturn s else s

/-- A valid site telegram arrives and is handled (R171, R184). -/
def siteHandled (f : State → State) (s : State) : State := siteLeft s (f (siteArrived s))

/-- The site framer has passed a whole telegram and hunts (R203). -/
def siteFramed (s : State) : State := modSli (fun i => { i with framer := [] }) s

/-! ### METER (R61, R71, R72) -/

/-- The judgement of a reading against the limit in force (R71, R72). -/
def judgeBreach (s : State) : State :=
  let imp := s.sbu.imp.getD 0
  if imp ≤ limitInForce s then modSbu (fun b => { b with breach := 0 }) s
  else if s.sbu.breach = 0 then
    trigger (notice (.breach imp (limitInForce s)) (modSbu (fun b => { b with breach := 1 }) s))
  else trigger (modYlc (fun y => { y with curtailReq := true }) (modSbu (fun b => { b with breach := 0 }) s))

/-- The values of a METER (R61 steps 1 to 5). -/
def readMeter (imp : Int) (cap ambient : Option Int) (s : State) : State :=
  modSbu (fun b => { b with
    imp := some imp
    building := some (sat16 (imp - fleetMeasured s))
    gridCap := cap.map (max 0)
    ambient := match ambient with
      | none => b.ambient
      | some a => some (clampInt (-50) 60 a)
    age := 0
    meter := .fresh }) s

/-- SBU takes a METER (R61). -/
def takeMeter (payload : List Byte) (s : State) : State :=
  match parseMeter payload with
  | none => s
  | some (imp, cap, ambient) => if s.tsm.op = .starting then s else judgeBreach (readMeter imp cap ambient s)

/-! ### DISPATCH and CANCEL (R137, R150) -/

/-- Is the DISPATCH a repeat of the one last answered (R137)? -/
def isRepeat (s : State) (src seq : Byte) (id : Nat) : Bool :=
  match s.rsu.lastReply with
  | none => false
  | some r => decide (r.id = id) && decide (r.src = src) && decide (r.seq = seq)

/-- A DISP-REPLY is queued to the source it answers. -/
def queueDispReply (src : Byte) (r : DispReply) (s : State) : State := queueOut ⟨src, .dispReply r⟩ s

/-- The last reply is queued again (R137). -/
def repeatReply (src : Byte) (s : State) : State :=
  match s.rsu.lastReply with
  | none => s
  | some r => queueDispReply src r.reply s

/-- A DISPATCH judged afresh: the highest id, the placement, the reply, the last reply record (R138, R139). -/
def answerDispatch (src seq : Byte) (f : DispatchFields) (s : State) : State :=
  let j := judgeDispatch s f
  let s1 := raiseHighId f.id (if s.rdu.clock.set then s else countFree s)
  let s2 := match j.place with
    | none => s1
    | some d => runTriggers (placeDispatch d s1)
  modRsu (fun r => { r with lastReply := some ⟨f.id, src, seq, j.reply⟩ }) (queueDispReply src j.reply s2)

/-- RSU takes a DISPATCH (R137). -/
def takeDispatch (src seq : Byte) (payload : List Byte) (s : State) : State :=
  match parseDispatch payload with
  | none => s
  | some f =>
    if s.tsm.op = .starting then s
    else if isRepeat s src seq f.id then repeatReply src s
    else answerDispatch src seq f s

/-- The effect of a CANCEL's id (R150). -/
def cancelDispatch (id : Nat) (s : State) : State :=
  if s.rsu.active.map Dispatch.id = some id then trigger (endActive .cancelled s)
  else if s.rsu.armed.map Dispatch.id = some id then modRsu (fun r => { r with armed := none }) s
  else notice (.cancelUnmatched id) s

/-- RSU takes a CANCEL (R150). -/
def takeCancel (payload : List Byte) (s : State) : State :=
  match parseCancel payload with
  | none => s
  | some id => if s.tsm.op = .starting then s else cancelDispatch id s

/-! ### Pass-through telegrams (R171, R174) -/

/-- The yard forward queue holds 8 telegrams (R42). -/
def fwdCapacity : Nat := 8

/-- Is the yard forward queue full? -/
def fwdFull (s : State) : Bool := decide (fwdCapacity ≤ s.ylc.fwdQ.length)

/-- A telegram joins the yard forward queue. -/
def joinForward (t : Telegram) (s : State) : State := modYlc (fun y => { y with fwdQ := y.fwdQ ++ [t] }) s

/-- FORWARD: the telegram joins the queue unchanged, or its source is told that it was refused (R174). -/
def forwardOrRefuse (t : Telegram) (s : State) : State :=
  if fwdFull s then queueOut ⟨t.src, .notice (.forwardRefused t.kind t.dst t.seq) (clockReading s)⟩ s
  else joinForward t s

/-- A pass-through telegram of any kind but SETREQ (R174); discarded in STARTING (R171). -/
def takePassThrough (t : Telegram) (s : State) : State :=
  if s.tsm.op = .starting then s
  else
    match passageAction s .yard t.kind t.src t.dst with
    | .drop => s
    | _ => forwardOrRefuse t s

/-! ### SETREQ (R175, R176) -/

/-- A SETREQ-REPLY is queued to the source it answers. -/
def queueSetreqReply (src : Byte) (r : SetreqReply) (s : State) : State := queueOut ⟨src, .setreqReply r⟩ s

/-- A position from 0 to 3 of a station from 1 to 16, as a post number (R175 step 3). -/
def setreqPost (dst : Byte) (position : Nat) : Option Nat :=
  if 1 ≤ dst.toNat ∧ dst.toNat ≤ 16 ∧ position ≤ 3 then some (postNo dst.toNat position) else none

/-- A refused SETREQ; the cap is that of the post it names, absent where it names none (log 14). -/
def refuseSetreq (dst src seq : Byte) (position : Nat) (why : SetreqResult) (s : State) : State :=
  queueSetreqReply src
    { cabinet := dst, position := BitVec.ofNat 8 position, seq := seq, result := why
      cap := (setreqPost dst position).bind (fun p => (postAt s p).requestCap) } s

/-- The clamped value of a SETREQ (R176 step 1). -/
def clampedValue (q : Post) (request : Option Int) : Int :=
  match request with
  | none => max 0 q.grant
  | some r => min (max 0 r) (max 0 q.grant)

/-- A SETREQ that is taken (R176). -/
def clampSetreq (dst src seq : Byte) (position p : Nat) (request : Option Int) (boost : Bool) (s : State) : State :=
  let v := clampedValue (postAt s p) request
  let cap := request.map (max 0)
  let s1 := updPost p (fun q => { q with requestCap := cap, boost := boost }) s
  let s2 := if boost = true ∧ (postAt s p).boost = false then trigger s1 else s1
  let s3 := joinForward ⟨dst, src, kindSetreq, seq, setreqPayload position v boost⟩ s2
  queueSetreqReply src
    { cabinet := dst, position := BitVec.ofNat 8 position, seq := seq, result := .granted v, cap := (postAt s3 p).requestCap } s3

/-- A SETREQ under CLAMP: the post and the space (R175 steps 3 to 5). -/
def judgeClamp (dst src seq : Byte) (position : Nat) (request : Option Int) (boost : Bool) (s : State) : State :=
  match setreqPost dst position with
  | none => refuseSetreq dst src seq position .badPost s
  | some p =>
    if (postAt s p).state.served = false then refuseSetreq dst src seq position .notPlugged s
    else if fwdFull s then refuseSetreq dst src seq position .linkBusy s
    else clampSetreq dst src seq position p request boost s

/-- A pass-through SETREQ (R175); discarded in STARTING (R171). -/
def takeSetreq (dst src seq : Byte) (payload : List Byte) (s : State) : State :=
  if s.tsm.op = .starting then s
  else
    match parseSetreq payload with
    | none => s
    | some (position, request, boost) =>
      match passageAction s .yard kindSetreq src dst with
      | .drop => refuseSetreq dst src seq position .dropped s
      | .forward => forwardOrRefuse ⟨dst, src, kindSetreq, seq, payload⟩ s
      | .clamp => judgeClamp dst src seq position request boost s

/-! ### Yard replies toward the site (R177) -/

/-- A yard telegram that answers a forwarded one (R177). -/
def takeForwardReply (t : Telegram) (s : State) : State :=
  match passageAction s .site t.kind t.src t.dst with
  | .drop => s
  | _ => queueOut ⟨t.dst, .forwarded t⟩ s

/-- The site transmitter has sent its telegram (R181). -/
def sendDone (s : State) : State :=
  if s.sli.tx.isSome then trySend (modSli (fun i => { i with tx := none }) s) else s

end Sys2Proof.Machine
end

