-- ==== Sys2Proof/Machine/Yard.lean ====
section
/-! DEFINITION. The replies on the yard link and their timeouts: to an EXCHANGE (R31, R33, R37), to a POOL (R54,
R55), and to a forwarded telegram (R43, R177). -/

namespace Sys2Proof.Machine

/-- The yard framer has passed a whole telegram and hunts (R203). -/
def yardFramed (s : State) : State := modYlc (fun y => { y with framer := [] }) s

/-- The visit whose EXCHANGE awaits its reply: the station, the WAITs counted, the grants carried. -/
def awaited (s : State) : Option (Nat × Nat × List Int) :=
  match s.ylc.link, s.ylc.round with
  | .exchange _ grants, .visit c waits .awaiting => some (c, waits, grants)
  | _, _ => none

/-- A STATUS from a station, destination 100 (R31, R32). -/
def replyStatus (src : Byte) (payload : List Byte) (s : State) : State :=
  match awaited s, parseStatus payload with
  | some (c, _, grants), some m => if src.toNat = c then takeStatus c m grants s else s
  | _, _ => s

/-- A WAIT answers the EXCHANGE of a visit: the hold-off starts, or the WAIT is a miss (R37). -/
def holdOff (c waits : Nat) (s : State) : State :=
  if waits < s.tsm.settings.waitLimit then
    modYlc (fun y => { y with round := .visit c (waits + 1) .holdOff, link := .free }) s
  else missVisit c s

/-- A WAIT from a station, destination 100, while an EXCHANGE awaits its reply (R31, R37). -/
def replyWait (src : Byte) (payload : List Byte) (s : State) : State :=
  match awaited s with
  | none => s
  | some (c, waits, _) => if src.toNat = c ∧ payload = [] then holdOff c waits s else s

/-- The hold-off expires: the EXCHANGE is to be sent again when the link is free (R37, R29). -/
def holdOffExpired (s : State) : State :=
  match s.ylc.round with
  | .visit c waits .holdOff => modYlc (fun y => { y with round := .visit c waits .resend }) s
  | _ => s

/-- The reply timeout of an EXCHANGE (R33). -/
def exchangeTimeout (s : State) : State :=
  match awaited s with
  | none => s
  | some (c, _, _) => missVisit c s

/-- The POOL that awaits its reply. -/
def poolAwaited (s : State) : Option Nat :=
  match s.ylc.link with
  | .poolAwait c => some c
  | _ => none

/-- The sending of a POOL has ended (R54). A sequencer that no longer stands in SENT has lost it (log 40). -/
def poolSendDone (s : State) : State :=
  match s.ylc.link with
  | .poolSending c _ =>
    if (cabAt s c).pool.state = .sent then
      updPool c (fun q => { q with state := .await, attempts := q.attempts + 1 })
        (modYlc (fun y => { y with link := .poolAwait c }) s)
    else freeLink s
  | _ => s

/-- The outcome of a POOL-ACK: 0 accepts the target, any other result rejects it (R55, log 15). -/
def poolAnswer (c : Nat) (result : Byte) (reason : Nat) (s : State) : State :=
  if result = 0 then acceptTarget c s else failAttempt c (.rejected reason) s

/-- A POOL-ACK from a station, destination 100 (R55). -/
def replyPoolAck (src : Byte) (payload : List Byte) (s : State) : State :=
  match poolAwaited s, parsePoolAck payload with
  | some c, some (result, reason) => if src.toNat = c then poolAnswer c result reason (freeLink s) else s
  | _, _ => s

/-- A WAIT from a station, destination 100, while a POOL awaits its reply (R55). -/
def replyPoolWait (src : Byte) (payload : List Byte) (s : State) : State :=
  match poolAwaited s with
  | none => s
  | some c => if src.toNat = c ∧ payload = [] then failAttempt c (.rejected 0) (freeLink s) else s

/-- The reply timeout of a POOL (R55). -/
def poolTimeout (s : State) : State :=
  match poolAwaited s with
  | none => s
  | some c => failAttempt c .noReply (freeLink s)

/-- The forwarded telegram in progress. -/
def forwarded (s : State) : Option Telegram :=
  match s.ylc.link with
  | .forward t => some t
  | _ => none

/-- The reply to a forwarded telegram: from the addressed station, to another destination than 100 (R43, R177). -/
def replyForward (t : Telegram) (s : State) : State :=
  match forwarded s with
  | none => s
  | some f =>
    if f.dst ≠ 0 ∧ t.src = f.dst ∧ t.dst ≠ ownStation then takeForwardReply t (freeLink s) else s

/-- The reply timeout of a forwarded telegram (R43). -/
def forwardTimeout (s : State) : State :=
  match forwarded s with
  | none => s
  | some f => if f.dst ≠ 0 then freeLink s else s

/-- The sending of a forwarded broadcast has ended (R43). -/
def broadcastDone (s : State) : State :=
  match forwarded s with
  | none => s
  | some f => if f.dst = 0 then freeLink s else s

/-- The sending of a CURTAIL has ended (R41). -/
def curtailSendDone (s : State) : State :=
  match s.ylc.link with
  | .curtail _ => curtailDone (freeLink s)
  | _ => s

/-- Does the part drive the yard line: a broadcast or a POOL being sent (R203)? The table has no row for the end of sending an
EXCHANGE or a forwarded telegram to one station: that sending ends in the step that begins it (DESIGN CHOICE, log 39). -/
def drivesYard (s : State) : Bool :=
  match s.ylc.link with
  | .curtail _ => true
  | .poolSending _ _ => true
  | .forward t => decide (t.dst = 0)
  | _ => false

end Sys2Proof.Machine
end

