-- ==== Sys2Proof/Machine/Receive.lean ====
section
/-! DEFINITION. The handling of a valid telegram by its destination and kind (R171, R172, R31, R43, R55), and the
bytes that come to a receive framer (R203). -/

namespace Sys2Proof.Machine

/-- A MGMT's payload: long enough for the operation code and the access field, else discarded (R187). -/
def handMgmt (t : Telegram) (s : State) : State :=
  if t.payload.length < 9 then s
  else takeMgmt t.src t.seq (byteAt t.payload 0) ((t.payload.drop 1).take 8) (t.payload.drop 9) s

/-- A telegram addressed to the part, by its kind (R172). -/
def handOwn (t : Telegram) (s : State) : State :=
  if t.kind = kindMeter then takeMeter t.payload s
  else if t.kind = kindTime then takeTime t.payload s
  else if t.kind = kindDispatch then takeDispatch t.src t.seq t.payload s
  else if t.kind = kindCancel then takeCancel t.payload s
  else if t.kind = kindMgmt then handMgmt t s
  else s

/-- A telegram toward the yard (R171). -/
def handThrough (t : Telegram) (s : State) : State :=
  if t.kind = kindSetreq then takeSetreq t.dst t.src t.seq t.payload s else takePassThrough t s

/-- A valid site telegram: arrival, then handling by its destination (R171). -/
def deliverSite (t : Telegram) (s : State) : State :=
  siteHandled (fun s => if t.dst = ownStation then handOwn t s else if t.dst.toNat ≤ 16 then handThrough t s else s) s

/-- A valid yard telegram: the reply that the transaction in progress awaits, else discarded (R31, R43, R55). -/
def deliverYard (t : Telegram) (s : State) : State :=
  if t.dst = ownStation then
    if t.kind = kindStatus then replyStatus t.src t.payload s
    else if t.kind = kindWait then replyPoolWait t.src t.payload (replyWait t.src t.payload s)
    else if t.kind = kindPoolAck then replyPoolAck t.src t.payload s
    else s
  else replyForward t s

/-- Bytes come to the site framer (R203). Every valid telegram found in the run is handled here, in one step, before the
arbiter of the yard link (R29) acts once at its end. Whether it acts between them the manual does not say (DESIGN CHOICE,
log 70). -/
def siteBytes (l : List Byte) (s : State) : State :=
  let buf := s.sli.framer ++ l
  let r := frameAll (buf.length + 1) buf
  r.1.foldl (fun s t => deliverSite t s) (modSli (fun i => { i with framer := r.2 }) s)

/-- Bytes come to the yard framer; it takes none while the part drives the line (R203). The arbiter acts once, when all the
telegrams of the run are handled, so that one behind the reply that ends a transaction answers none (DESIGN CHOICE, log 70). -/
def yardBytes (l : List Byte) (s : State) : State :=
  if drivesYard s then s
  else
    let buf := s.ylc.framer ++ l
    let r := frameAll (buf.length + 1) buf
    r.1.foldl (fun s t => deliverYard t s) (modYlc (fun y => { y with framer := r.2 }) s)

end Sys2Proof.Machine
end

