-- ==== Sys2Proof/Machine/Reset.lean ====
section
/-! DEFINITION. Power-on, the loading of the store, the end of STARTING, the RESTART and the loss of the supply
(R24, R47, R60, R78, R102, R131, R156, R170, R185, R192, R198 to R200). -/

namespace Sys2Proof.Machine

/-! ### Power (R192, R200) -/

/-- Every block takes its power-on values over the store as it stands; a write in flight is lost, its segment
left as the write's beginning marked it (R192, R200). -/
def powerUp (s : State) : State :=
  modSli (fun i => { i with orderCount := s.sli.orderCount })
    (State.afterPowerOn s.tsm.store s.tsm.code s.freeCount s.pending)

/-- The supply fails or RSTN goes low: every operation in flight stops (R192). What no store holds is lost (log 4). -/
def powerDown (s : State) : State := { powerUp s with power := false }

/-! ### Loading (R200) -/

/-- The active content that a stored segment gives: its rows when VALID, none otherwise. -/
def loadedContent (e : StoredSeg) : Option (List Row) := if e.content = .valid then some e.rows else none

/-- The order in which the segments are loaded (R200). -/
def loadOrder : List Segment := [.settings, .yard, .fleet, .route, .commitment, .tariff, .passage]

/-- One segment is loaded and handed to its owner. -/
def loadSegment (g : Segment) (s : State) : State :=
  let content := loadedContent (s.tsm.store.get g)
  handContent g content (modTsm (fun t => { t with active := t.active.set g content }) s)

/-- The store is loaded (R200). A season that differs from TERM leaves no STORAGE due (R170, log 7). -/
def loadStore (s : State) : State :=
  modStp (fun t => { t with viewDue := false }) (loadOrder.foldl (fun s g => loadSegment g s) s)

/-! ### The end of STARTING (R199) -/

/-- The operating state that follows STARTING; SAFE comes with a CURTAIL request (R199). -/
def leaveStarting (s : State) : State :=
  if s.tsm.active.yard.isSome then modTsm (fun t => { t with op := .coordinating }) s
  else modYlc (fun y => { y with curtailReq := true }) (modTsm (fun t => { t with op := .safe }) s)

/-- The timers that start when STARTING ends, and the first round (R27, R63, R105, R183). -/
def startTimers (s : State) : State :=
  modAle (fun a => { a with timer := some 0 })
    (modSbu (fun b => { b with age := 0 })
      (modSli (fun i => { i with silence := 0 }) (modYlc (fun y => { y with roundWanted := true }) s)))

/-- STARTING ends: the tariff is evaluated (R78) and the departure list built (R102), the state moves, sending
opens (R181), and the end is itself a trigger (R103, R104). -/
def endStarting (s : State) : State :=
  trigger (trySend (startTimers (leaveStarting (buildList (evalTariff s)))))

/-- The loading completes (R199, R200). -/
def endLoading (s : State) : State := if s.tsm.op = .starting then endStarting (loadStore s) else s

/-! ### RESTART (R198) -/

/-- SLI at a RESTART (R185). -/
def Sli.restart (i : Sli) : Sli := { i with framer := [], tx := none, silence := 0, silentMark := false }

/-- A cabinet at a reset, from the YARD rows in force (R47, R60). -/
def resetCabinet (rows : List YardRow) (c : Nat) : Cabinet :=
  match rows.find? (fun r => r.station = c) with
  | none => Cabinet.unconfigured
  | some r => Cabinet.fresh r

/-- YLC at a RESTART (R47). -/
def restartYlc (s : State) : Ylc :=
  { Ylc.initial with cabinets := stations.map (resetCabinet (yardRows (s.tsm.active.yard.getD []))) }

/-- A bus at a RESTART: the static fields and the held value with its age are kept (R24). -/
def Bus.restart (b : Bus) : Bus :=
  { b with
    state := .unseen, post := none, nextLeg := none, nextDay := none, floor := 0, dischargeFloor := 0, verdict := .unknown
    tier := .idle }

/-- A post at a reset, of a cabinet record (R9, R24, R60). -/
def resetPost (c : Cabinet) (i : Nat) : Post :=
  { Post.initial with
    state := if c.configured then .unknown else .offline
    rating := pooledRating c.ratings c.pool.inForce i }

/-- The 64 post records at a reset; those of configured cabinets are UNKNOWN until their first STATUS (R24). -/
def restartPosts (s : State) : List Post := postNos.map (fun p => resetPost (cabAt s (p / 4)) (p % 4))

/-- FRT at a RESTART, with YLC already at its values (R24). -/
def restartFrt (s : State) : State :=
  modFrt (fun t => { t with buses := t.buses.map Bus.restart, posts := restartPosts s, plugQ := [] }) s

/-- SBU at a RESTART (R78). -/
def Sbu.restart (b : Sbu) : Sbu := { Sbu.initial with windows := b.windows }

/-- RDU at a RESTART: the clock is kept when SET, today's fields are set as at a day change, last outcomes become
absent (R102). -/
def restartRdu (s : State) : State :=
  clearMarkers (clearSubstitutes (resetOutcomes
    (modRdu (fun r => { r with
      clock := if r.clock.set then r.clock else Rdu.initial.clock
      list := [], lastOutcomes := r.lastOutcomes.map (fun _ => none) }) s)))

/-- RSU at a RESTART (R156). -/
def Rsu.restart (r : Rsu) : Rsu := { Rsu.initial with slots := r.slots }

/-- STP at a RESTART (R170); the table is built again after it. -/
def Stp.restart (t : Stp) : Stp := { t with viewDue := false, view := none }

/-- TSM at a RESTART; the waiting activations stand until they are applied (R198). -/
def Tsm.restart (t : Tsm) : Tsm :=
  { t with
    staged := none, staging := [], lastResult := some ⟨opRestart, .done, none⟩, silenceStanding := false
    op := .starting, restartPending := false }

/-- Every block takes its RESTART values (R198). -/
def restartBlocks (s : State) : State :=
  let s1 : State := { s with
    sli := s.sli.restart, ylc := restartYlc s, sbu := s.sbu.restart, ale := Ale.initial, rsu := s.rsu.restart
    stp := s.stp.restart, tsm := s.tsm.restart }
  buildStorage (restartRdu (restartFrt s1))

/-- The RESTART, where one is accepted and no write is in flight: the values, the waiting activations, the end of
STARTING (R198). -/
def partRestart (s : State) : State :=
  if s.tsm.restartPending = true ∧ s.tsm.write = none then endStarting (applyWaiting (restartBlocks s)) else s

end Sys2Proof.Machine
end

