-- ==== Sys2Proof/Machine/Timers.lean ====
section
/-! DEFINITION. What each timer does when it reaches its limit: silence (R183), round (R27), meter age (R63),
minute (R79), pass (R105), armed countdown (R142), remaining duration (R149), quiesce (R52) and answer age (R44).
Each sets its timer to the limit, so that the event and the timer agree (log 3). -/

namespace Sys2Proof.Machine

/-- The silence timer's limit, 600 ticks (R183). -/
def silenceLimit : Nat := 600

/-- The meter ages of R63. -/
def staleAge : Nat := 50
def fallbackAge : Nat := 300

/-- The quiesce timer's limit, 100 ticks (R52). -/
def quiesceLimit : Nat := 100

/-- The silence timer reaches 600 with the mark clear (R183). -/
def silenceExpired (s : State) : State :=
  if s.tsm.op = .starting ∨ s.sli.silentMark = true then s
  else siteSilent (modSli (fun i => { i with silence := silenceLimit }) s)

/-- The round timer expires (R27): a round is due, or the mark is set while one is in progress. The timer counts
on from 0 (log 17). -/
def roundExpired (s : State) : State :=
  if s.tsm.op = .starting then s
  else modYlc (fun y => { y with
    roundTimer := y.roundTimer.map (fun _ => 0)
    roundDue := y.roundDue || decide (y.round ≠ .idle)
    roundWanted := y.roundWanted || decide (y.round = .idle) }) s

/-- The meter age reaches 50 in FRESH (R63). -/
def meterStaled (s : State) : State :=
  if s.sbu.meter = .fresh then
    notice (.meterStale (buildingOr0 s)) (modSbu (fun b => { b with meter := .stale, age := staleAge, breach := 0 }) s)
  else s

/-- The meter age reaches 300 in STALE or NONE (R63). -/
def meterFellBack (s : State) : State :=
  if s.tsm.op ≠ .starting ∧ (s.sbu.meter = .stale ∨ s.sbu.meter = .none) then
    notice (.meterFallback s.tsm.settings.fallbackBudget)
      (modSbu (fun b => { b with meter := .fallback, age := fallbackAge }) s)
  else s

/-- The seconds pass 59: the minute advances and the change is handed on (R79). -/
def minutePassed (s : State) : State := if s.rdu.clock.set then handMinute (advanceMinute s) else s

/-- The pass timer reaches twice the pass interval (R105). -/
def passTimerExpired (s : State) : State :=
  if s.tsm.op = .starting then s else trigger (modAle (fun a => { a with timer := some 0 }) s)

/-- The armed countdown reaches 0 (R142). -/
def armedCounted (s : State) : State := if s.rsu.armed.isSome then runTriggers (startArmed s) else s

/-- The remaining duration reaches 0 (R149). -/
def dispatchRanOut (s : State) : State :=
  if s.rsu.active.isSome then trigger (endActive .complete (updActive (fun d => { d with remaining := 0 }) s)) else s

/-- A quiesce timer reaches 100 (R52). -/
def quiesceExpired (c : Nat) (s : State) : State :=
  if (cabAt s c).pool.state = .quiesce then updPool c (fun q => { q with state := .sent, timer := quiesceLimit }) s
  else s

/-- The answer age of an OFFLINE cabinet reaches the fallback time: the charge-back ends, and a cabinet not
configured becomes UNCONFIGURED with its sent grants 0.0 (R44). -/
def answerAged (c : Nat) (s : State) : State :=
  if (cabAt s c).link = .offline then
    let s1 := updCab c (fun r => { r with age := max r.age (min 65535 (fallbackTicks s)) }) s
    if (cabAt s c).configured then s1
    else clearSent c (updCab c (fun r => { r with link := .unconfigured }) s1)
  else s

/-- The computation of the running pass ends: the writes, the end of the pass, the boundary (R109, R108, R104). -/
def passCompleted (s : State) : State :=
  match s.ale.snap with
  | none => s
  | some n => if s.ale.pass = .running then boundary (endPass (completeWrites n s)) else s

end Sys2Proof.Machine
end

