-- ==== Sys2Proof/Machine/Tick.lean ====
section
/-! DEFINITION. One tick of 100 ms (log 1): every counter counts, then each timer that has reached its limit is
carried out, in an order that is a free value (log 2). -/

namespace Sys2Proof.Machine

/-! ### Counting -/

/-- The largest value of the 16-bit counters. -/
def counterMax : Nat := 65535

/-- A held age: one second every 10 ticks (R3). -/
def Held.tick (h : Held) : Held :=
  if h.sub < 9 then { h with sub := h.sub + 1 } else { h with sub := 0, age := min counterMax (h.age + 1) }

/-- A cabinet's answer age (R44) and quiesce timer (R52). -/
def Cabinet.tick (c : Cabinet) : Cabinet :=
  { c with
    age := min counterMax (c.age + 1)
    pool := { c.pool with timer := if c.pool.state = .quiesce then min 100 (c.pool.timer + 1) else c.pool.timer } }

/-- The tick and second of the clock. A full minute waits for the minute's advance (R79). -/
def Clock.count (c : Clock) : Clock :=
  if c.set then
    if c.tick < 9 then { c with tick := c.tick + 1 }
    else if c.second < 59 then { c with second := c.second + 1, tick := 0 }
    else c
  else c

/-- The ACTIVE dispatch's response timer, interval count and remaining duration (R140, R146, R147). -/
def Dispatch.tick (d : Dispatch) : Dispatch :=
  { d with
    timer := if d.stopped then d.timer else min counterMax (d.timer + 1)
    interval := d.interval + 1
    remaining := d.remaining - 1 }

/-- Every counter counts one tick. In STARTING the silence timer is held at 0 (R183), and the meter age and the
pass timer have not started (R63, R105). -/
def countTick (s : State) : State :=
  let starting := decide (s.tsm.op = .starting)
  { s with
    sli := { s.sli with silence := if starting then 0 else min 600 (s.sli.silence + 1) }
    ylc := { s.ylc with
      cabinets := s.ylc.cabinets.map Cabinet.tick
      roundTimer := s.ylc.roundTimer.map (fun t => min counterMax (t + 1)) }
    frt := { s.frt with buses := s.frt.buses.map (fun b => { b with held := b.held.map Held.tick }) }
    sbu := { s.sbu with age := if starting then s.sbu.age else min counterMax (s.sbu.age + 1) }
    rdu := { s.rdu with clock := s.rdu.clock.count }
    ale := { s.ale with timer := s.ale.timer.map (fun t => min counterMax (t + 1)) }
    rsu := { s.rsu with
      active := s.rsu.active.map Dispatch.tick
      armed := s.rsu.armed.map (fun d => { d with countdown := d.countdown - 1 }) } }

/-! ### Due timers -/

/-- What can be due at a tick. A RESTART that waits is carried out at one too (log 38). -/
inductive TimerEvent where
  | silence
  | round
  | meterStale
  | meterFallback
  | minute
  | pass
  | armedStart
  | dispatchExpiry
  | quiesce (station : Nat)
  | answerAge (station : Nat)
  | restart
  deriving DecidableEq, Repr

/-- The pass interval in ticks, by the PASS_PRE in force (R27). -/
def passInterval (s : State) : Nat := s.tsm.settings.passPre + 1

/-- Has the timer reached its limit, with the state that its event needs? A full minute is told apart from its
last tick by the state before the tick. The round timer is compared with the pass interval now in force, so that one at or
above an interval lowered by a SETTINGS activation is due at the next tick: R105 says so of the pass timer, and R27 is silent
on the round timer (DESIGN CHOICE, log 68). -/
def TimerEvent.due (s : State) : TimerEvent → Bool
  | .silence => decide (600 ≤ s.sli.silence) && !s.sli.silentMark
  | .round => decide (passInterval s ≤ s.ylc.roundTimer.getD 0)
  | .meterStale => decide (s.sbu.meter = .fresh) && decide (staleAge ≤ s.sbu.age)
  | .meterFallback => decide (s.sbu.meter = .stale ∨ s.sbu.meter = .none) && decide (fallbackAge ≤ s.sbu.age)
  | .minute => s.rdu.clock.set && decide (59 ≤ s.rdu.clock.second ∧ 9 ≤ s.rdu.clock.tick)
  | .pass => decide (2 * passInterval s ≤ s.ale.timer.getD 0)
  | .armedStart => decide (s.rsu.armed.map Dispatch.countdown = some 0)
  | .dispatchExpiry => decide (s.rsu.active.map Dispatch.remaining = some 0)
  | .quiesce c => decide ((cabAt s c).pool.state = .quiesce) && decide (quiesceLimit ≤ (cabAt s c).pool.timer)
  | .answerAge c => decide ((cabAt s c).link = .offline) && !(cabAt s c).configured && decide (fallbackTicks s ≤ (cabAt s c).age)
  | .restart => s.tsm.restartPending && decide (s.tsm.write = none)

/-- What an event does. -/
def TimerEvent.fire (s : State) : TimerEvent → State
  | .silence => silenceExpired s
  | .round => roundExpired s
  | .meterStale => meterStaled s
  | .meterFallback => meterFellBack s
  | .minute => minutePassed s
  | .pass => passTimerExpired s
  | .armedStart => armedCounted s
  | .dispatchExpiry => dispatchRanOut s
  | .quiesce c => quiesceExpired c s
  | .answerAge c => answerAged c s
  | .restart => partRestart s

/-- Every event but the minute's advance. -/
def timerEvents : List TimerEvent :=
  [.silence, .round, .meterStale, .meterFallback, .pass, .armedStart, .dispatchExpiry] ++
  stations.map .quiesce ++ stations.map .answerAge ++ [.restart]

/-- The events due after a tick has been counted; `full` says that the minute was full before it. -/
def dueEvents (full : Bool) (s : State) : List TimerEvent :=
  (if full then [.minute] else []) ++ timerEvents.filter (TimerEvent.due s)

/-- An event is carried out where it is still due (log 2). -/
def carryOut (e : TimerEvent) (s : State) : State := if e.due s then e.fire s else s

/-- The due events, one after another; the choice's digits pick the order. -/
def carryOutAll : Nat → Nat → List TimerEvent → State → State
  | 0, _, _, s => s
  | _ + 1, _, [], s => s
  | n + 1, choice, e :: l, s =>
    let k := choice % (l.length + 1)
    carryOutAll n (choice / (l.length + 1)) ((e :: l).eraseIdx k) (carryOut ((e :: l).getD k e) s)

/-- The events in an order that is free where there are two or more (log 2). -/
def runEvents (l : List TimerEvent) (s : State) : State :=
  match l with
  | [] => s
  | [e] => carryOut e s
  | _ => carryOutAll l.length (Config.tickOrder s.freeCount) l (countFree s)

/-- An OUT_OVERFLOW notice that still waits is queued before the next tick counts (R181, log 51). -/
def closeTick (s : State) : State := if noticeWaits s then trySend (reportOverflow s) else s

/-- One tick: the counters, the due timers, and the yard link's arbiter once, at the end of the step. Whether it acts between
the timers too the manual does not say (DESIGN CHOICE, log 70). -/
def tick (s : State) : State :=
  finish (runEvents (dueEvents (TimerEvent.due s .minute) (countTick s)) (countTick (closeTick s)))

end Sys2Proof.Machine
end

