-- ==== Sys2Proof/Machine/Commands.lean ====
section
/-! DEFINITION. What every command shares: without the supply nothing acts (log 4), a telegram leaves its framer
hunting (R203) and restarts the silence timer (R171), and each step ends with the yard link's arbiter (R29). -/

namespace Sys2Proof.Machine

/-- A command's effect on a part that is under power. -/
def live (f : State → State) (s : State) : Host.Outcome State Fault Refusal := .next (if s.power then finish (f s) else s)

/-- A valid site telegram arrives and is handled (R171, R183, R184). -/
def onSite (f : State → State) (s : State) : Host.Outcome State Fault Refusal :=
  live (fun s => siteHandled f (siteFramed s)) s

/-- A valid yard telegram arrives and is handled. -/
def onYard (f : State → State) (s : State) : Host.Outcome State Fault Refusal := live (fun s => f (yardFramed s)) s

/-- A MGMT arrives (R187). -/
def onMgmt (src seq op : Byte) (access fields : List Byte) (s : State) : Host.Outcome State Fault Refusal :=
  onSite (takeMgmt src seq op access fields) s

end Sys2Proof.Machine
end

