-- ==== Sys2Proof/Machine/Expiries.lean ====
section
/-! DEFINITION. The families of the timers and of the pass: meter age, minute, pass timer, pass completion, armed
countdown, remaining duration. -/

namespace Sys2Proof.Machine

/-- METER_STALE (R63). -/
def execMeterStale (s : State) : Host.Outcome State Fault Refusal := live meterStaled s

/-- METER_FALLBACK (R63). -/
def execMeterFallback (s : State) : Host.Outcome State Fault Refusal := live meterFellBack s

/-- MINUTE_ADVANCE (R79). -/
def execMinuteAdvance (s : State) : Host.Outcome State Fault Refusal := live minutePassed s

/-- PASS_TIMER_EXPIRY (R105). -/
def execPassTimerExpiry (s : State) : Host.Outcome State Fault Refusal := live passTimerExpired s

/-- PASS_COMPLETION (R109). -/
def execPassCompletion (s : State) : Host.Outcome State Fault Refusal := live passCompleted s

/-- ARMED_START (R142). -/
def execArmedStart (s : State) : Host.Outcome State Fault Refusal := live armedCounted s

/-- DISPATCH_EXPIRY (R149). -/
def execDispatchExpiry (s : State) : Host.Outcome State Fault Refusal := live dispatchRanOut s

end Sys2Proof.Machine
end

