-- ==== Sys2Proof/Machine/Management.lean ====
section
/-! DEFINITION. The family of management: the fourteen operations of R208 and an operation code TSM does not know
(R187). -/

namespace Sys2Proof.Machine

/-- STAGE (R188). -/
def execStage (src seq : Byte) (access fields : List Byte) (s : State) : Host.Outcome State Fault Refusal :=
  onMgmt src seq opStage access fields s

/-- COMMIT (R190). -/
def execCommit (src seq : Byte) (access fields : List Byte) (s : State) : Host.Outcome State Fault Refusal :=
  onMgmt src seq opCommit access fields s

/-- DISCARD (R189). -/
def execDiscard (src seq : Byte) (access fields : List Byte) (s : State) : Host.Outcome State Fault Refusal :=
  onMgmt src seq opDiscard access fields s

/-- READ (R196). -/
def execRead (src seq : Byte) (access fields : List Byte) (s : State) : Host.Outcome State Fault Refusal :=
  onMgmt src seq opRead access fields s

/-- STATUS (R196). -/
def execStatus (src seq : Byte) (access fields : List Byte) (s : State) : Host.Outcome State Fault Refusal :=
  onMgmt src seq opStatus access fields s

/-- LOCK (R194). -/
def execLock (src seq : Byte) (access fields : List Byte) (s : State) : Host.Outcome State Fault Refusal :=
  onMgmt src seq opLock access fields s

/-- RELEASE (R194). -/
def execRelease (src seq : Byte) (access fields : List Byte) (s : State) : Host.Outcome State Fault Refusal :=
  onMgmt src seq opRelease access fields s

/-- SET_CODE (R195). -/
def execSetCode (src seq : Byte) (access fields : List Byte) (s : State) : Host.Outcome State Fault Refusal :=
  onMgmt src seq opSetCode access fields s

/-- CLEAR_STATUS (R196). -/
def execClearStatus (src seq : Byte) (access fields : List Byte) (s : State) : Host.Outcome State Fault Refusal :=
  onMgmt src seq opClearStatus access fields s

/-- WITHDRAW (R6). -/
def execWithdraw (src seq : Byte) (access fields : List Byte) (s : State) : Host.Outcome State Fault Refusal :=
  onMgmt src seq opWithdraw access fields s

/-- RETURN (R6). -/
def execReturnBus (src seq : Byte) (access fields : List Byte) (s : State) : Host.Outcome State Fault Refusal :=
  onMgmt src seq opReturn access fields s

/-- SUBSTITUTE (R99). -/
def execSubstitute (src seq : Byte) (access fields : List Byte) (s : State) : Host.Outcome State Fault Refusal :=
  onMgmt src seq opSubstitute access fields s

/-- SEASON (R197). -/
def execSeason (src seq : Byte) (access fields : List Byte) (s : State) : Host.Outcome State Fault Refusal :=
  onMgmt src seq opSeason access fields s

/-- RESTART (R198). -/
def execRestart (src seq : Byte) (access fields : List Byte) (s : State) : Host.Outcome State Fault Refusal :=
  onMgmt src seq opRestart access fields s

/-- MGMT_UNKNOWN_OP (R187). -/
def execMgmtUnknownOp (src seq op : Byte) (access fields : List Byte) (s : State) : Host.Outcome State Fault Refusal :=
  onMgmt src seq op access fields s

end Sys2Proof.Machine
end

