-- ==== Sys2Proof/Machine/Office.lean ====
section
/-! DEFINITION. The family of site traffic: framing and discards, METER, TIME, DISPATCH, CANCEL, pass-through
telegrams, SETREQ, the end of a sending, and silence. -/

namespace Sys2Proof.Machine

/-- FRAMER_DISCARD (R203): bytes come to a link's framer. -/
def execFramerDiscard (link : LinkName) (bytes : List Byte) (s : State) : Host.Outcome State Fault Refusal :=
  live (match link with
    | .site => siteBytes bytes
    | .yard => yardBytes bytes) s

/-- SITE_TELEGRAM_DISCARDED (R171, R172): the silence timer restarts, and nothing else is made of it. -/
def execSiteTelegramDiscarded (_t : Telegram) (s : State) : Host.Outcome State Fault Refusal := onSite id s

/-- METER (R61). -/
def execMeter (_src _seq : Byte) (payload : List Byte) (s : State) : Host.Outcome State Fault Refusal :=
  onSite (takeMeter payload) s

/-- TIME (R80). -/
def execTime (_src _seq : Byte) (payload : List Byte) (s : State) : Host.Outcome State Fault Refusal :=
  onSite (takeTime payload) s

/-- DISPATCH (R137, R138). -/
def execDispatch (src seq : Byte) (payload : List Byte) (s : State) : Host.Outcome State Fault Refusal :=
  onSite (takeDispatch src seq payload) s

/-- CANCEL (R150). -/
def execCancel (_src _seq : Byte) (payload : List Byte) (s : State) : Host.Outcome State Fault Refusal :=
  onSite (takeCancel payload) s

/-- PASS_THROUGH (R174). -/
def execPassThrough (t : Telegram) (s : State) : Host.Outcome State Fault Refusal := onSite (takePassThrough t) s

/-- SETREQ (R175). -/
def execSetreq (dst src seq : Byte) (payload : List Byte) (s : State) : Host.Outcome State Fault Refusal :=
  onSite (takeSetreq dst src seq payload) s

/-- SITE_SEND_DONE (R181). -/
def execSiteSendDone (s : State) : Host.Outcome State Fault Refusal := live sendDone s

/-- SILENCE_TIMEOUT (R183). -/
def execSilenceTimeout (s : State) : Host.Outcome State Fault Refusal := live silenceExpired s

end Sys2Proof.Machine
end

