-- ==== Sys2Proof/Machine/PoolEvents.lean ====
section
/-! DEFINITION. The family of module pooling: the end of a POOL's sending, its replies and timeout, and the
quiesce timeout. -/

namespace Sys2Proof.Machine

/-- POOL_SENT (R54). -/
def execPoolSent (s : State) : Host.Outcome State Fault Refusal := live poolSendDone s

/-- POOL_ACK (R55). -/
def execPoolAck (src _seq : Byte) (payload : List Byte) (s : State) : Host.Outcome State Fault Refusal :=
  onYard (replyPoolAck src payload) s

/-- POOL_WAIT (R55). -/
def execPoolWait (src _seq : Byte) (payload : List Byte) (s : State) : Host.Outcome State Fault Refusal :=
  onYard (replyPoolWait src payload) s

/-- POOL_REPLY_TIMEOUT (R55). -/
def execPoolReplyTimeout (s : State) : Host.Outcome State Fault Refusal := live poolTimeout s

/-- QUIESCE_TIMEOUT (R52). -/
def execQuiesceTimeout (station : Nat) (s : State) : Host.Outcome State Fault Refusal := live (quiesceExpired station) s

end Sys2Proof.Machine
end

