-- ==== Sys2Proof/Machine/StoreEvents.lean ====
section
/-! DEFINITION. The family of the store: the two ends of a write. -/

namespace Sys2Proof.Machine

/-- STORE_WRITE_DONE (R192). -/
def execStoreWriteDone (s : State) : Host.Outcome State Fault Refusal := live (endWrite true) s

/-- STORE_WRITE_FAULT (R192). -/
def execStoreWriteFault (s : State) : Host.Outcome State Fault Refusal := live (endWrite false) s

end Sys2Proof.Machine
end

