-- ==== Sys2Proof/Machine/Supply.lean ====
section
/-! DEFINITION. The family of resets and supply: POWER_ON, END_OF_STARTING, PART_RESTART, SUPPLY_FAILURE. -/

namespace Sys2Proof.Machine

/-- POWER_ON (R200). -/
def execPowerOn (s : State) : Host.Outcome State Fault Refusal := .next (powerUp s)

/-- END_OF_STARTING (R199, R200). -/
def execEndOfStarting (s : State) : Host.Outcome State Fault Refusal := live endLoading s

/-- PART_RESTART (R198). -/
def execPartRestart (s : State) : Host.Outcome State Fault Refusal := live partRestart s

/-- SUPPLY_FAILURE (R192). -/
def execSupplyFailure (s : State) : Host.Outcome State Fault Refusal := .next (powerDown s)

end Sys2Proof.Machine
end

