-- ==== Sys2Proof/Machine/Visits.lean ====
section
/-! DEFINITION. The family of the yard survey and forwarded traffic: round timer, replies to an EXCHANGE,
hold-off and timeout, CURTAIL, forwarded telegrams, and the answer age. -/

namespace Sys2Proof.Machine

/-- ROUND_TIMER_EXPIRY (R27). -/
def execRoundTimerExpiry (s : State) : Host.Outcome State Fault Refusal := live roundExpired s

/-- YARD_STATUS (R32). -/
def execYardStatus (src _seq : Byte) (payload : List Byte) (s : State) : Host.Outcome State Fault Refusal :=
  onYard (replyStatus src payload) s

/-- EXCHANGE_WAIT (R37). -/
def execExchangeWait (src _seq : Byte) (payload : List Byte) (s : State) : Host.Outcome State Fault Refusal :=
  onYard (replyWait src payload) s

/-- WAIT_HOLD_OFF_EXPIRY (R37). -/
def execWaitHoldOffExpiry (s : State) : Host.Outcome State Fault Refusal := live holdOffExpired s

/-- REPLY_TIMEOUT (R33). -/
def execReplyTimeout (s : State) : Host.Outcome State Fault Refusal := live exchangeTimeout s

/-- YARD_TELEGRAM_DISCARDED (R31). -/
def execYardTelegramDiscarded (_t : Telegram) (s : State) : Host.Outcome State Fault Refusal := onYard id s

/-- CURTAIL_SENT (R41). -/
def execCurtailSent (s : State) : Host.Outcome State Fault Refusal := live curtailSendDone s

/-- FORWARD_REPLY (R177). -/
def execForwardReply (t : Telegram) (s : State) : Host.Outcome State Fault Refusal := onYard (replyForward t) s

/-- FORWARD_REPLY_TIMEOUT (R43). -/
def execForwardReplyTimeout (s : State) : Host.Outcome State Fault Refusal := live forwardTimeout s

/-- FORWARD_BROADCAST_SENT (R43). -/
def execForwardBroadcastSent (s : State) : Host.Outcome State Fault Refusal := live broadcastDone s

/-- ANSWER_AGE_FALLBACK (R44). -/
def execAnswerAgeFallback (station : Nat) (s : State) : Host.Outcome State Fault Refusal := live (answerAged station) s

end Sys2Proof.Machine
end

