-- ==== Sys2Proof/Machine/Dispatch.lean ====
section
/-! DEFINITION. One arm for each command: its meaning. -/

namespace Sys2Proof.Machine

def exec (i : Instr) (s : State) : Host.Outcome State Fault Refusal :=
  match i with
  | .powerOn => Sys2Proof.Machine.execPowerOn s
  | .endOfStarting => Sys2Proof.Machine.execEndOfStarting s
  | .partRestart => Sys2Proof.Machine.execPartRestart s
  | .framerDiscard link bytes => Sys2Proof.Machine.execFramerDiscard link bytes s
  | .siteTelegramDiscarded t => Sys2Proof.Machine.execSiteTelegramDiscarded t s
  | .meter src seq payload => Sys2Proof.Machine.execMeter src seq payload s
  | .time src seq payload => Sys2Proof.Machine.execTime src seq payload s
  | .dispatch src seq payload => Sys2Proof.Machine.execDispatch src seq payload s
  | .cancel src seq payload => Sys2Proof.Machine.execCancel src seq payload s
  | .stage src seq access fields => Sys2Proof.Machine.execStage src seq access fields s
  | .commit src seq access fields => Sys2Proof.Machine.execCommit src seq access fields s
  | .discard src seq access fields => Sys2Proof.Machine.execDiscard src seq access fields s
  | .read src seq access fields => Sys2Proof.Machine.execRead src seq access fields s
  | .status src seq access fields => Sys2Proof.Machine.execStatus src seq access fields s
  | .lock src seq access fields => Sys2Proof.Machine.execLock src seq access fields s
  | .release src seq access fields => Sys2Proof.Machine.execRelease src seq access fields s
  | .setCode src seq access fields => Sys2Proof.Machine.execSetCode src seq access fields s
  | .clearStatus src seq access fields => Sys2Proof.Machine.execClearStatus src seq access fields s
  | .withdraw src seq access fields => Sys2Proof.Machine.execWithdraw src seq access fields s
  | .returnBus src seq access fields => Sys2Proof.Machine.execReturnBus src seq access fields s
  | .substitute src seq access fields => Sys2Proof.Machine.execSubstitute src seq access fields s
  | .season src seq access fields => Sys2Proof.Machine.execSeason src seq access fields s
  | .restart src seq access fields => Sys2Proof.Machine.execRestart src seq access fields s
  | .mgmtUnknownOp src seq op access fields => Sys2Proof.Machine.execMgmtUnknownOp src seq op access fields s
  | .passThrough t => Sys2Proof.Machine.execPassThrough t s
  | .setreq dst src seq payload => Sys2Proof.Machine.execSetreq dst src seq payload s
  | .siteSendDone => Sys2Proof.Machine.execSiteSendDone s
  | .silenceTimeout => Sys2Proof.Machine.execSilenceTimeout s
  | .roundTimerExpiry => Sys2Proof.Machine.execRoundTimerExpiry s
  | .yardStatus src seq payload => Sys2Proof.Machine.execYardStatus src seq payload s
  | .exchangeWait src seq payload => Sys2Proof.Machine.execExchangeWait src seq payload s
  | .waitHoldOffExpiry => Sys2Proof.Machine.execWaitHoldOffExpiry s
  | .replyTimeout => Sys2Proof.Machine.execReplyTimeout s
  | .yardTelegramDiscarded t => Sys2Proof.Machine.execYardTelegramDiscarded t s
  | .curtailSent => Sys2Proof.Machine.execCurtailSent s
  | .poolSent => Sys2Proof.Machine.execPoolSent s
  | .poolAck src seq payload => Sys2Proof.Machine.execPoolAck src seq payload s
  | .poolWait src seq payload => Sys2Proof.Machine.execPoolWait src seq payload s
  | .poolReplyTimeout => Sys2Proof.Machine.execPoolReplyTimeout s
  | .quiesceTimeout station => Sys2Proof.Machine.execQuiesceTimeout station s
  | .forwardReply t => Sys2Proof.Machine.execForwardReply t s
  | .forwardReplyTimeout => Sys2Proof.Machine.execForwardReplyTimeout s
  | .forwardBroadcastSent => Sys2Proof.Machine.execForwardBroadcastSent s
  | .answerAgeFallback station => Sys2Proof.Machine.execAnswerAgeFallback station s
  | .meterStale => Sys2Proof.Machine.execMeterStale s
  | .meterFallback => Sys2Proof.Machine.execMeterFallback s
  | .minuteAdvance => Sys2Proof.Machine.execMinuteAdvance s
  | .passTimerExpiry => Sys2Proof.Machine.execPassTimerExpiry s
  | .passCompletion => Sys2Proof.Machine.execPassCompletion s
  | .armedStart => Sys2Proof.Machine.execArmedStart s
  | .dispatchExpiry => Sys2Proof.Machine.execDispatchExpiry s
  | .storeWriteDone => Sys2Proof.Machine.execStoreWriteDone s
  | .storeWriteFault => Sys2Proof.Machine.execStoreWriteFault s
  | .supplyFailure => Sys2Proof.Machine.execSupplyFailure s

end Sys2Proof.Machine
end

