-- ==== Sys2Proof/Safety.lean ====
section
/-! DEFINITION. What counts as a safe state of the part, and the words the claims use: the ranges the manual gives
its tables, queues, clock and counters, the pairing of buses and posts (R11), and the state in which a command finds
the part. -/

namespace Sys2Proof.Machine

/-! ### Ranges -/

/-- 64 post records, 16 cabinet records, 64 tiers (R9, R25, the state table of 06_the_allocation_pass.md). -/
abbrev TableSizes (s : State) : Prop :=
  s.frt.posts.length = 64 ∧ s.ylc.cabinets.length = 16 ∧ s.ale.tiers.length = 64

/-- At most 32 plug events (R13), 8 forwarded telegrams (R42) and 32 outbound telegrams (R179). -/
abbrev QueueBounds (s : State) : Prop :=
  s.frt.plugQ.length ≤ 32 ∧ s.ylc.fwdQ.length ≤ 8 ∧ s.sli.out.length ≤ 32

/-- The minute clock is a time of a week (R79). -/
abbrev ClockInRange (s : State) : Prop :=
  s.rdu.clock.minute ≤ 1439 ∧ s.rdu.clock.weekday ≤ 6 ∧ s.rdu.clock.second ≤ 59 ∧ s.rdu.clock.tick ≤ 9

/-- A cabinet's miss count is at most 7 (R33) and its answer age at most 65,535 (R44). -/
abbrev CabinetInRange (c : Cabinet) : Prop := c.misses ≤ 7 ∧ c.age ≤ 65535

/-- The counters stand in the ranges the manual gives: silence (R183), meter age (R63), breach (R71), drop count
(R180), miss counts, answer ages, mismatch counts (R9). -/
abbrev CountersInRange (s : State) : Prop :=
  s.sli.silence ≤ 600 ∧ s.sbu.age ≤ 65535 ∧ s.sbu.breach ≤ 1 ∧ s.sli.dropCount ≤ 65535 ∧
  (∀ c ∈ s.ylc.cabinets, CabinetInRange c) ∧ (∀ q ∈ s.frt.posts, q.mismatch ≤ 3)

/-- A state inside every range. -/
abbrev InRange (s : State) : Prop := TableSizes s ∧ QueueBounds s ∧ ClockInRange s ∧ CountersInRange s

/-! ### Location (R11) -/

/-- A bus record names a post if and only if that post's record names the bus (R11). -/
def Paired (s : State) : Prop :=
  (∀ k b, busAt s k = some b → ∀ p, b.post = some p → (4 ≤ p ∧ p ≤ 67) ∧ (postAt s p).bus = some k) ∧
  (∀ p, 4 ≤ p ∧ p ≤ 67 → ∀ k, (postAt s p).bus = some k → ∃ b, busAt s k = some b ∧ b.post = some p)

/-- Every tag of the map leads to an occupied slot (R7). -/
def MapSound (s : State) : Prop := ∀ e ∈ s.frt.tagMap, e.2 < s.frt.buses.length

/-- A plug event of a post: cabinet 1 to 16, position 0 to 3. -/
abbrev PlugEvent.ofPost (e : PlugEvent) : Prop := (1 ≤ e.cabinet ∧ e.cabinet ≤ 16) ∧ e.position ≤ 3

/-- A station of a cabinet. -/
abbrev IsStation (c : Nat) : Prop := 1 ≤ c ∧ c ≤ 16

/-- FLEET rows of distinct tags (R191). -/
def TagsDistinct (rows : List Row) : Prop := ((fleetRows rows).map FleetRow.tag).Nodup

/-- The pairing of R11 with what keeps it: distinct tags and their map (R7, R8), queued events of posts (R36), visits to
stations (R28), and FLEET contents of distinct tags in the store, in a write and waiting (R191 to R193). -/
def Linked (s : State) : Prop :=
  Paired s ∧ s.frt.posts.length = 64 ∧ s.frt.tagMap = s.frt.buses.mapIdx (fun k b => (b.tag, k)) ∧
  (s.frt.buses.map Bus.tag).Nodup ∧ (∀ e ∈ s.frt.plugQ, e.ofPost) ∧
  (∀ c w p, s.ylc.round = .visit c w p → IsStation c) ∧
  TagsDistinct s.tsm.store.fleet.rows ∧
  (∀ w rows, s.tsm.write = some w → w.job = .commit .fleet rows → TagsDistinct rows) ∧
  (∀ a ∈ s.tsm.waiting, a.seg = .fleet → ∀ rows, a.content = some rows → TagsDistinct rows)

/-! ### Ticks -/

/-- The command of the opcode table that is the same event as a timer's (log 3). -/
def TimerEvent.command : TimerEvent → Instr
  | .silence => .silenceTimeout
  | .round => .roundTimerExpiry
  | .meterStale => .meterStale
  | .meterFallback => .meterFallback
  | .minute => .minuteAdvance
  | .pass => .passTimerExpiry
  | .armedStart => .armedStart
  | .dispatchExpiry => .dispatchExpiry
  | .quiesce c => .quiesceTimeout c
  | .answerAge c => .answerAgeFallback c
  | .restart => .partRestart

/-- What falls due at a tick: the minute's advance where the minute was full before the count, in state s, and every other
event by the counters after it; the events of cabinets are those of stations. -/
def FallsDue (s counted : State) : TimerEvent → Prop
  | .minute => TimerEvent.due s .minute = true
  | .quiesce c => IsStation c ∧ TimerEvent.due counted (.quiesce c) = true
  | .answerAge c => IsStation c ∧ TimerEvent.due counted (.answerAge c) = true
  | e => TimerEvent.due counted e = true

/-! ### How a command finds the part -/

/-- The part as the handling of a valid site telegram finds it: the framer hunts, the silence timer is at 0, and a
silence that stood is over, but for an exit from ISLAND that waits for the handling (R171, R183, R184). -/
def heard (s : State) : State := siteArrived (siteFramed s)

/-- The end of a step that a site telegram began in state s, once its handling has left state u: an exit from ISLAND that
waited (R184), and the yard link's arbiter (R29). -/
def concluded (s u : State) : State := finish (siteLeft s u)

/-- The part as the handling of a valid yard telegram finds it: the yard framer hunts (R203). -/
def yardHeard (s : State) : State := yardFramed s

/-- Does the access field pass the check of R187? -/
abbrev Admitted (s : State) (access : List Byte) : Prop := s.tsm.code = blankCode ∨ access = s.tsm.code

/-- A MGMT that reaches its operation's own rule: the access field passes, and the part is not in STARTING (R187). -/
abbrev Served (s : State) (access : List Byte) : Prop :=
  s.power = true ∧ Admitted (heard s) access ∧ (heard s).tsm.op ≠ .starting

/-- The MGMT command of an operation code (R208). -/
def mgmtInstr (op src seq : Byte) (access fields : List Byte) : Instr :=
  if op = opStage then .stage src seq access fields
  else if op = opCommit then .commit src seq access fields
  else if op = opDiscard then .discard src seq access fields
  else if op = opRead then .read src seq access fields
  else if op = opStatus then .status src seq access fields
  else if op = opLock then .lock src seq access fields
  else if op = opRelease then .release src seq access fields
  else if op = opSetCode then .setCode src seq access fields
  else if op = opClearStatus then .clearStatus src seq access fields
  else if op = opWithdraw then .withdraw src seq access fields
  else if op = opReturn then .returnBus src seq access fields
  else if op = opSubstitute then .substitute src seq access fields
  else if op = opSeason then .season src seq access fields
  else if op = opRestart then .restart src seq access fields
  else .mgmtUnknownOp src seq op access fields

/-- A visit to station c awaits its reply, after some WAITs; the grants are those its EXCHANGE carried (R29, R32). -/
def Awaits (s : State) (c waits : Nat) (grants : List Int) : Prop :=
  (∃ tel, s.ylc.link = .exchange tel grants) ∧ s.ylc.round = .visit c waits .awaiting

/-- Two states agree on every cabinet but c, and on every post but those of c. -/
def SameElsewhere (c : Nat) (s u : State) : Prop :=
  (∀ d, IsStation d → d ≠ c → cabAt u d = cabAt s d) ∧ (∀ p, 4 ≤ p → p / 4 ≠ c → postAt u p = postAt s p)

/-- The bytes a link's framer holds (R203). -/
def framerOf (l : LinkName) (s : State) : List Byte :=
  match l with
  | .site => s.sli.framer
  | .yard => s.ylc.framer

/-- The bytes after a start byte hold a whole telegram that the framer discards: a length above 200, or a CRC that
is not the computed one (R203). -/
abbrev BadTelegram (l : List Byte) : Prop :=
  (5 ≤ l.length ∧ 200 < nat8At l 4) ∨
  (nat8At l 4 ≤ 200 ∧ 7 + nat8At l 4 ≤ l.length ∧
    bytesOfBits16 (crc (l.take (5 + nat8At l 4))) ≠ (l.drop (5 + nat8At l 4)).take 2)

end Sys2Proof.Machine
end

