-- ==== Sys2Proof/Certificates/Slice0/Obligations.lean ====
section
/-! DEFINITION. The statements for the provers. A command's result is stated as `exec c s = .next (finish t)`: t is
the state after the command's own effect, and `finish` gives the free yard link to what waits for it (R29), which
`Obligations.LinkIsGivenInOrder` states. -/

open Sys2Proof Sys2Proof.Machine

/-! ### The step -/

/-- A step takes the command at the front of the queue. -/
def Obligations.FrontCommandRuns : Prop :=
  ∀ (c : Instr) (rest : List Instr) (s : State),
    step { s with pending := c :: rest } = exec c { s with pending := rest }

/-- A step on an empty queue is one tick, or nothing without supply (the model's choice, log 1 and log 4). -/
def Obligations.EmptyQueueIsOneTick : Prop :=
  ∀ s : State, s.pending = [] → step s = .next (if s.power then tick s else s)

/-- Every command answers a next state and leaves the queue as it is. -/
def Obligations.EveryCommandAnswersAndLeavesTheQueue : Prop :=
  ∀ (c : Instr) (s : State), ∃ t, exec c s = .next t ∧ t.pending = s.pending

/-- Without supply a command other than POWER_ON and SUPPLY_FAILURE changes nothing (the model's choice, log 4). -/
def Obligations.NothingActsWithoutSupply : Prop :=
  ∀ (c : Instr) (s : State), s.power = false → c ≠ .powerOn → c ≠ .supplyFailure → exec c s = .next s

/-- A tick: every counter counts, and then the timers that have reached their limit are carried out. First, when each timer is
due: the silence timer at 600 with the mark clear (R183), the round timer at PASS_PRE + 1 (R27), the meter age at 50 in FRESH
and at 300 in STALE or NONE (R63), a set clock at second 59 and tick 9 (R79), the pass timer at 2 × (PASS_PRE + 1) (R105), the
armed countdown and the remaining duration at 0 (R142, R149), a quiesce timer at 100 in QUIESCE (R52), the answer age of an
OFFLINE cabinet that is not configured at the fallback time (R44), and a RESTART that waits with no write in flight (R198). And
what each does is what its command does, which the statements of the commands say.

Then the tick of every state, STARTING and a free yard link among them. What it counts, and nothing else: the silence, round,
pass, quiesce and response timers, the held and answer ages, the meter age, the interval count, the countdown, the remaining
duration and the clock (R3, R27, R44, R52, R63, R79, R105, R140, R146, R147, R183); in STARTING the silence timer is held at 0
and the meter age stands. An OUT_OVERFLOW notice that waits for its place is queued before the count, the marker and its count
cleared, and the head is sent where the transmitter is idle (R181). What falls due is carried out one after another, each where
it is still due, in some order; a single timer does what its command does at the counted state; and where none falls due the
tick is the count, and the end of every step where the yard link is free.

The model's choices: that a step on an empty queue is the tick (log 1), that the order of two or more due at one tick is a free
value, read from the counter of free values, and that one undone by another is not carried out (log 2), that a RESTART waits for
a tick or its command (log 38), that the round timer is compared with the pass interval now in force (log 68), that the notice
waits until the tick at most (log 51), that each held value counts its own ticks (log 34), and that the arbiter of the yard link acts once, when all
that falls due has been carried out (log 70). That an OFFLINE cabinet whose age has passed a lowered fallback time moves at the
tick is the model's reading (log 43). -/
def Obligations.TicksCountAndCarryOut : Prop :=
  (∀ (s : State) (c : Nat),
    let due (e : TimerEvent) : Prop := TimerEvent.due s e = true
    let interval := s.tsm.settings.passPre + 1
    (due .silence ↔ 600 ≤ s.sli.silence ∧ s.sli.silentMark = false) ∧
    (due .round ↔ ∃ t, s.ylc.roundTimer = some t ∧ interval ≤ t) ∧
    (due .meterStale ↔ s.sbu.meter = .fresh ∧ 50 ≤ s.sbu.age) ∧
    (due .meterFallback ↔ (s.sbu.meter = .stale ∨ s.sbu.meter = .none) ∧ 300 ≤ s.sbu.age) ∧
    (due .minute ↔ s.rdu.clock.set = true ∧ 59 ≤ s.rdu.clock.second ∧ 9 ≤ s.rdu.clock.tick) ∧
    (due .pass ↔ ∃ t, s.ale.timer = some t ∧ 2 * interval ≤ t) ∧
    (due .armedStart ↔ ∃ d, s.rsu.armed = some d ∧ d.countdown = 0) ∧
    (due .dispatchExpiry ↔ ∃ d, s.rsu.active = some d ∧ d.remaining = 0) ∧
    (due (.quiesce c) ↔ (cabAt s c).pool.state = .quiesce ∧ 100 ≤ (cabAt s c).pool.timer) ∧
    (due (.answerAge c) ↔ (cabAt s c).link = .offline ∧ (cabAt s c).configured = false ∧
      s.tsm.settings.fallbackTime * 10 ≤ (cabAt s c).age) ∧
    (due .restart ↔ s.tsm.restartPending = true ∧ s.tsm.write = none)) ∧
  (∀ (e : TimerEvent) (s : State), s.power = true → exec e.command s = .next (finish (e.fire s))) ∧
  (∀ s : State, s.power = true → s.pending = [] →
    let starting := s.tsm.op = .starting
    let count (n : Nat) : Nat := min 65535 (n + 1)
    let told : State :=
      if s.sli.overflow = true ∧ s.sli.out.length < 32 then
        trySend { s with sli := { s.sli with
          out := s.sli.out ++ [⟨105, .notice (.outOverflow s.sli.dropCount) (clockReading s)⟩]
          overflow := false, dropCount := 0 } }
      else s
    let c := s.rdu.clock
    let counted : State := { s with
      sli := { told.sli with silence := if starting then 0 else min 600 (s.sli.silence + 1) }
      ylc := { s.ylc with
        cabinets := s.ylc.cabinets.map (fun c => { c with
          age := count c.age
          pool := { c.pool with timer := if c.pool.state = .quiesce then min 100 (c.pool.timer + 1) else c.pool.timer } })
        roundTimer := s.ylc.roundTimer.map count }
      frt := { s.frt with buses := s.frt.buses.map (fun b => { b with held := b.held.map (fun h =>
        if h.sub < 9 then { h with sub := h.sub + 1 } else { h with age := count h.age, sub := 0 }) }) }
      sbu := { s.sbu with age := if starting then s.sbu.age else count s.sbu.age }
      rdu := { s.rdu with clock :=
        if c.set = false then c
        else if c.tick < 9 then { c with tick := c.tick + 1 }
        else if c.second < 59 then { c with second := c.second + 1, tick := 0 }
        else c }
      ale := { s.ale with timer := s.ale.timer.map count }
      rsu := { s.rsu with
        active := s.rsu.active.map (fun d => { d with
          timer := if d.stopped then d.timer else count d.timer, interval := d.interval + 1, remaining := d.remaining - 1 })
        armed := s.rsu.armed.map (fun d => { d with countdown := d.countdown - 1 }) } }
    let falls := FallsDue s counted
    (∃ order : List TimerEvent, order.Nodup ∧ (∀ e, e ∈ order ↔ falls e) ∧
      step s = .next (finish (order.foldl (fun u e => if TimerEvent.due u e = true then e.fire u else u)
        (if order.length < 2 then counted else { counted with freeCount := s.freeCount + 1 })))) ∧
    (∀ e, falls e → (∀ x, falls x → x = e) → step s = exec e.command counted) ∧
    ((∀ e, ¬ falls e) → step s = .next (finish counted) ∧
      (starting ∨ s.ylc.link ≠ .free → step s = .next counted)))

/-! ### Supply and resets -/

/-- POWER_ON: every block takes its power-on values over the stored segments, their locks and the access code, and
the part is in STARTING. -/
def Obligations.PowerOnValues : Prop :=
  ∀ s : State, ∃ t, exec .powerOn s = .next t ∧
    t.power = true ∧ t.tsm.store = s.tsm.store ∧ t.tsm.code = s.tsm.code ∧ t.tsm.op = .starting ∧
    t.tsm.staged = none ∧ t.tsm.staging = [] ∧ t.tsm.write = none ∧ t.tsm.waiting = [] ∧ t.tsm.lastResult = none ∧
    t.tsm.silenceStanding = false ∧ t.tsm.outOverflow = false ∧ t.tsm.plugFull = false ∧
    t.frt.buses = [] ∧ t.frt.tagMap = [] ∧ t.frt.plugQ = [] ∧
    (∀ q ∈ t.frt.posts, q.state = .offline ∧ q.bus = none ∧ q.report = none ∧ q.grant = 0 ∧ q.prevGrant = 0 ∧
      q.sentGrant = 0 ∧ q.requestCap = none ∧ q.boost = false ∧ q.precond = false ∧ q.mismatch = 0) ∧
    (∀ c ∈ t.ylc.cabinets, c.configured = false ∧ c.link = .unconfigured ∧ c.misses = 0 ∧ c.age = 65535 ∧
      c.lastSeq = none ∧ c.restartAck = false ∧ c.reported = none ∧ c.pool.state = .done ∧ c.pool.inForce = none) ∧
    t.ylc.round = .idle ∧ t.ylc.roundDue = false ∧ t.ylc.link = .free ∧ t.ylc.fwdQ = [] ∧ t.ylc.curtailReq = false ∧
    t.ylc.refusal = false ∧
    t.sbu.meter = .none ∧ t.sbu.age = 0 ∧ t.sbu.imp = none ∧ t.sbu.building = none ∧ t.sbu.gridCap = none ∧
    t.sbu.ambient = none ∧ t.sbu.breach = 0 ∧
    t.rdu.clock = ⟨false, 0, 0, 0, 0⟩ ∧ t.rdu.list = [] ∧
    t.ale.pass = .idle ∧ t.ale.pending = false ∧ t.ale.timer = none ∧ t.ale.ring = [] ∧ t.ale.turn = 0 ∧
    t.ale.overLimit = false ∧ (∀ r ∈ t.ale.tiers, r = .idle) ∧
    t.rsu.upCap = 0 ∧ t.rsu.downCap = 0 ∧ t.rsu.slot = none ∧ t.rsu.upSide = none ∧ t.rsu.downSide = none ∧
    t.rsu.highId = none ∧ t.rsu.lastReply = none ∧ t.rsu.active = none ∧ t.rsu.armed = none ∧
    t.stp.viewDue = false ∧ t.stp.view = none ∧
    t.sli.out = [] ∧ t.sli.tx = none ∧ t.sli.framer = [] ∧ t.sli.overflow = false ∧ t.sli.dropCount = 0 ∧
    t.sli.ownSeq = 0 ∧ t.sli.silentMark = false ∧ t.sli.silence = 0

/-- SUPPLY_FAILURE: every operation in flight stops; the stored segments, their locks and the access code stand as the writes'
beginnings left them. That everything else is cleared at once is the model's choice (log 4). -/
def Obligations.SupplyFailureStopsEverything : Prop :=
  ∀ s : State, ∃ t, exec .supplyFailure s = .next t ∧
    t.power = false ∧ t.tsm.store = s.tsm.store ∧ t.tsm.code = s.tsm.code ∧ t.tsm.write = none ∧ t.sli.tx = none ∧
    t.ylc.link = .free ∧ t.ylc.round = .idle ∧ t.ale.pass = .idle ∧ t.ale.snap = none ∧
    t.rsu.active = none ∧ t.rsu.armed = none

/-- END_OF_STARTING: the VALID segments become the active ones, and the active YARD decides the state that follows. -/
def Obligations.EndOfStartingLoads : Prop :=
  ∀ s : State, s.power = true → s.tsm.op = .starting → s.tsm.waiting = [] →
    ∃ t, exec .endOfStarting s = .next t ∧
      t.tsm.op = (if s.tsm.store.yard.content = .valid then .coordinating else .safe) ∧
      (∀ g, t.tsm.active.get g =
        if (s.tsm.store.get g).content = .valid then some (s.tsm.store.get g).rows else none) ∧
      t.tsm.store = s.tsm.store ∧ t.rdu.clock = s.rdu.clock

/-- The first start of a part whose store was never written: SAFE, with the CURTAIL broadcast on the yard link. What such a
store holds and that the part starts there is the model's choice (log 6), and the sequence byte is free (log 8). -/
def Obligations.FirstStartIsSafe : Prop :=
  ∃ t seq, exec .endOfStarting State.reset = .next t ∧ t.tsm.op = .safe ∧
    t.ylc.link = .curtail ⟨0, 100, 0x71, seq, []⟩ ∧ t.ylc.curtailReq = false ∧ t.ale.pass = .idle ∧
    t.tsm.settings = Settings.defaults

/-- PART_RESTART: every block takes its RESTART values, TSM keeps the segments and the code, the waiting activations are
applied in their order, and STARTING ends (R24, R47, R60, R78, R102, R131, R156, R170, R185, R198). With none waiting, the
values that stand when the command has ended. The record of a station without a row (no bidirectional field, ratings 0.0, no
desired mode) and the round timer not running, with no claim open and no round wanted, are the model's choices (log 33, log
47). -/
def Obligations.RestartTakesEffect : Prop :=
  ∀ s : State, s.power = true → s.tsm.restartPending = true → s.tsm.write = none →
    let yard := yardRows (s.tsm.active.yard.getD [])
    let idle (m : Option Mode) : Sequencer := ⟨.done, m, none, none, 0, [], [], 0, none⟩
    let cabinet (c : Nat) : Cabinet :=
      match yard.find? (fun r => r.station = c) with
      | none => { configured := false, link := .unconfigured, misses := 0, age := 65535, lastSeq := none, restartAck := false
                  bidir := false, ratings := [0, 0, 0, 0], desired := none, reported := none, pool := idle none }
      | some r => { configured := true, link := .unseen, misses := 0, age := 65535, lastSeq := none, restartAck := false
                    bidir := r.bidir, ratings := r.ratings, desired := modeOfMap r.map, reported := none
                    pool := idle (modeOfMap r.map) }
    let post (p : Nat) : Post :=
      { state := if (cabinet (p / 4)).configured then .unknown else .offline, bus := none
        rating := pooledRating (cabinet (p / 4)).ratings (cabinet (p / 4)).pool.inForce (p % 4), report := none, mismatch := 0
        grant := 0, prevGrant := 0, sentGrant := 0, requestCap := none, boost := false, precond := false }
    let bus (b : Bus) : Bus := { b with
      state := .unseen, post := none, nextLeg := none, nextDay := none, floor := 0, dischargeFloor := 0, verdict := .unknown
      tier := .idle }
    let clock : Clock := if s.rdu.clock.set then s.rdu.clock else ⟨false, 0, 0, 0, 0⟩
    let leg (l : Leg) : Leg := { l with
      substitute := none, unassigned := false, infeasible := false
      outcome := if clock.set = false ∨ l.row.runs clock.weekday s.stp.season = true then .pending else .notToday }
    let r : State := { s with
      sli := { s.sli with framer := [], tx := none, silence := 0, silentMark := false }
      ylc := { framer := [], cabinets := (List.range' 1 16).map cabinet, roundTimer := none, roundDue := false
               roundWanted := false, round := .idle, link := .free, poolClaim := none, fwdClaim := false, fwdQ := []
               curtailReq := false, refusal := false }
      frt := { s.frt with buses := s.frt.buses.map bus, posts := (List.range' 4 64).map post, plugQ := [] }
      sbu := { meter := .none, age := 0, imp := none, building := none, gridCap := none, ambient := none, breach := 0
               windows := s.sbu.windows, tariff := ⟨none, none, .shoulder, none⟩ }
      rdu := { clock := clock, legs := s.rdu.legs.map leg, list := []
               lastOutcomes := s.rdu.lastOutcomes.map (fun _ => none) }
      ale := { pass := .idle, pending := false, timer := none, snap := none, tiers := List.replicate 64 .idle, ring := []
               turn := 0, overLimit := false }
      rsu := { slots := s.rsu.slots, upCap := 0, downCap := 0, slot := none, upSide := none, downSide := none, highId := none
               lastReply := none, active := none, armed := none }
      stp := { s.stp with viewDue := false, view := none, table := s.frt.buses.map (fun b =>
        storageEntryFor s.stp.band b.capacity (if b.cls = .parked then .cls else .notParked)) }
      tsm := { s.tsm with
        staged := none, staging := [], lastResult := some ⟨opRestart, .done, none⟩, silenceStanding := false, op := .starting
        restartPending := false } }
    exec .partRestart s = .next (finish (endStarting (applyWaiting r))) ∧
    (s.tsm.waiting = [] → ∃ t, exec .partRestart s = .next t ∧
      t.tsm.lastResult = some ⟨opRestart, .done, none⟩ ∧ t.tsm.restartPending = false ∧
      t.tsm.store = s.tsm.store ∧ t.tsm.active = s.tsm.active ∧ t.tsm.code = s.tsm.code ∧
      t.tsm.settings = s.tsm.settings ∧ t.tsm.staged = none ∧ t.tsm.staging = [] ∧ t.tsm.silenceStanding = false ∧
      t.tsm.op = (if s.tsm.active.yard.isSome then .coordinating else .safe) ∧
      t.rdu.clock = (if s.rdu.clock.set then s.rdu.clock else ⟨false, 0, 0, 0, 0⟩) ∧
      t.rsu.highId = none ∧ t.rsu.active = none ∧ t.rsu.armed = none ∧ t.sli.silentMark = false)

/-! ### The framers -/

/-- Bytes without a start byte leave a hunting framer hunting, and nothing changes. After a discard it hunts again from the
byte that follows the start byte. That raw bytes come in this command is the model's choice (log 5). -/
def Obligations.FramersHunt : Prop :=
  ∀ (link : LinkName) (l : List Byte) (s : State), framerOf link s = [] →
    (s.power = true → startByte ∉ l → exec (.framerDiscard link l) s = .next (finish s)) ∧
    (BadTelegram l → exec (.framerDiscard link (startByte :: l)) s = exec (.framerDiscard link l) s)

/-- A framer reads from a telegram's bytes the telegram that was sent, and keeps the bytes after it. -/
def Obligations.FramerReadsWhatIsSent : Prop :=
  ∀ (t : Telegram) (rest : List Byte), t.payload.length ≤ 200 → hunt (telegramBytes t ++ rest) = .telegram t rest

/-- A staged row of any segment reads back, in the layout of a STAGE, as the same row. -/
def Obligations.RowReadsBack : Prop :=
  ∀ (g : Segment) (l : List Byte) (r : Row), parseRow g l = some r → parseRow g r.bytes = some r

/-! ### The site link -/

/-- A valid site telegram restarts the silence timer; with the silent mark set it ends the silence. In ISLAND TSM leaves
before the telegram is handled or after it (R172, R184): which is a free value (the model's choice, log 37), and the sending
opens at the exit. In another state the return is reported before the handling (the model's reading, log 37). Every statement
of a site telegram speaks of the part as the handling finds it (`heard`) and of the end of the step (`concluded`). -/
def Obligations.ArrivalRestartsSilence : Prop :=
  ∀ s u : State,
    (s.sli.silentMark = false →
      heard s = { s with sli := { s.sli with framer := [], silence := 0 } } ∧ concluded s u = finish u) ∧
    (s.sli.silentMark = true → s.tsm.op ≠ .island →
      heard s = { s with sli := { s.sli with framer := [], silence := 0, silentMark := false },
                         tsm := { s.tsm with silenceStanding := false } } ∧ concluded s u = finish u) ∧
    (s.sli.silentMark = true → s.tsm.op = .island →
      let came : State := { s with sli := { s.sli with
        framer := [], silence := 0, silentMark := false, orderCount := s.sli.orderCount + 1 } }
      let left (v : State) : State := trySend { v with tsm := { v.tsm with silenceStanding := false, op := .coordinating } }
      let first := Config.exitFirst s.sli.orderCount
      heard s = (if first then left came else came) ∧
      concluded s u = finish (if first then u else if u.tsm.op = .island then left u
        else { u with tsm := { u.tsm with silenceStanding := false } }))

/-- SITE_TELEGRAM_DISCARDED has no effect but the arrival's. METER, TIME, DISPATCH, CANCEL and SETREQ with a payload of
another length, and every one of them in STARTING, are discarded. -/
def Obligations.SiteTelegramsThatAreDiscarded : Prop :=
  ∀ (t : Telegram) (dst src seq : Byte) (l : List Byte) (s : State), s.power = true →
    let discarded (c : Instr) := exec c s = .next (concluded s (heard s))
    let starting := (heard s).tsm.op = .starting
    discarded (.siteTelegramDiscarded t) ∧
    (l.length ≠ 6 ∨ starting → discarded (.meter src seq l)) ∧
    (l.length ≠ 4 ∨ starting → discarded (.time src seq l)) ∧
    (l.length ≠ 11 ∨ starting → discarded (.dispatch src seq l)) ∧
    (l.length ≠ 4 ∨ starting → discarded (.cancel src seq l)) ∧
    (l.length ≠ 4 ∨ starting → discarded (.setreq dst src seq l))

/-- METER: the values, then the judgement of the reading against the limit in force. -/
def Obligations.MeterTaken : Prop :=
  ∀ (src seq : Byte) (l : List Byte) (s : State), s.power = true → l.length = 6 → (heard s).tsm.op ≠ .starting →
    let h := heard s
    let imp := int16At l 0
    let r : State := { h with sbu := { h.sbu with
      imp := some imp, building := some (sat16 (imp - fleetMeasured h))
      gridCap := if flagAt (byteAt l 5) 1 then some (max 0 (int16At l 2)) else none
      ambient := if flagAt (byteAt l 5) 0 then some (clampInt (-50) 60 (int8At l 4)) else h.sbu.ambient
      age := 0, meter := .fresh } }
    (imp ≤ limitInForce r →
      exec (.meter src seq l) s = .next (concluded s { r with sbu := { r.sbu with breach := 0 } })) ∧
    (limitInForce r < imp → h.sbu.breach = 0 →
      exec (.meter src seq l) s =
        .next (concluded s (trigger (notice (.breach imp (limitInForce r)) { r with sbu := { r.sbu with breach := 1 } })))) ∧
    (limitInForce r < imp → h.sbu.breach ≠ 0 →
      exec (.meter src seq l) s =
        .next (concluded s (trigger { r with ylc := { r.ylc with curtailReq := true }, sbu := { r.sbu with breach := 0 } })))

/-- TIME with a field out of range: CLOCK_REJECTED, and the clock as it stands. -/
def Obligations.TimeOutOfRangeIsRejected : Prop :=
  ∀ (src seq : Byte) (l : List Byte) (s : State), s.power = true → l.length = 4 → (heard s).tsm.op ≠ .starting →
    (1439 < nat16At l 0 ∨ 6 < nat8At l 2 ∨ 59 < nat8At l 3) →
    exec (.time src seq l) s =
      .next (concluded s (notice (.clockRejected (nat16At l 0) (nat8At l 2) (nat8At l 3)) (heard s)))

/-- TIME in range: whether it is the first setting, a slew or a jump, the clock stands at its values. The first setting
(R81), a jump (R83), a forward slew minute by minute (R82, R84), a backward slew and one back across midnight (R82) with all
they do, the change of minute handed on once (R79, R74, R135); a TIME of another length or in STARTING changes nothing (R80).
What building the list, falling due and closing do is `Obligations.MinuteAdvances`. That the pass of a tariff edge comes before
the slot's telegrams is the model's choice (log 23), and that the entries close at minute 0 under the old weekday its reading
(log 27). -/
def Obligations.TimeSetsTheClock : Prop :=
  (∀ (src seq : Byte) (l : List Byte) (s : State), s.power = true → l.length = 4 → (heard s).tsm.op ≠ .starting →
    ClockInRange s → nat16At l 0 ≤ 1439 → nat8At l 2 ≤ 6 → nat8At l 3 ≤ 59 →
    ∃ t, exec (.time src seq l) s = .next t ∧ t.rdu.clock = ⟨true, nat8At l 2, nat16At l 0, nat8At l 3, 0⟩ ∧
      t.pending = s.pending) ∧
  (∀ (src seq : Byte) (l : List Byte) (s : State), s.power = true → l.length ≠ 4 ∨ (heard s).tsm.op = .starting →
    exec (.time src seq l) s = .next (concluded s (heard s))) ∧
  (∀ (src seq : Byte) (l : List Byte) (s : State), s.power = true → l.length = 4 → (heard s).tsm.op ≠ .starting →
    ClockInRange s → nat16At l 0 ≤ 1439 → nat8At l 2 ≤ 6 → nat8At l 3 ≤ 59 →
    let h := heard s
    let minute := nat16At l 0
    let weekday := nat8At l 2
    let second := nat8At l 3
    let old := s.rdu.clock
    let difference : Int := (((weekday * 86400 + minute * 60 + second : Nat) : Int) -
      ((old.weekday * 86400 + old.minute * 60 + old.second : Nat) : Int) + 302400) % 604800 - 302400
    let at_ (w m : Nat) (u : State) : State := { u with rdu := { u.rdu with clock := ⟨true, w, m, 0, 0⟩ } }
    let moved : State := { h with rdu := { h.rdu with clock := ⟨true, weekday, minute, second, 0⟩ } }
    let runs (w : Nat) (x : Leg) : LegOutcome := if x.row.runs w s.stp.season then .pending else .notToday
    let fall (m : Nat) (u : State) : State := u.rdu.list.foldl (fun v e => fallDue (fun x => x.row.departure = m) e.legNo v) u
    let close (endOfDay : Bool) (u : State) : State := u.rdu.list.foldl (fun v e => closeEntry endOfDay e.legNo v) u
    let advance (u : State) : State :=
      if u.rdu.clock.minute < 1439 then
        close false (fall (u.rdu.clock.minute + 1) (at_ u.rdu.clock.weekday (u.rdu.clock.minute + 1) u))
      else
        let ended := close true (at_ u.rdu.clock.weekday 0 u)
        let next := (u.rdu.clock.weekday + 1) % 7
        buildList { ended with rdu := { ended.rdu with
          clock := ⟨true, next, 0, 0, 0⟩
          legs := ended.rdu.legs.map (fun x =>
            { x with substitute := none, unassigned := false, infeasible := false, outcome := runs next x }) } }
    let stopped (u : State) : State := { u with rdu := { u.rdu with clock := { u.rdu.clock with second := second, tick := 0 } } }
    let given (u : State) : Prop := exec (.time src seq l) s = .next (concluded s (takeSlot (runTriggers (evalTariff u))))
    -- the first setting
    (old.set = false → given (buildList { moved with rdu := { moved.rdu with legs := h.rdu.legs.map (fun x =>
      { x with unassigned := false, infeasible := false, outcome := runs weekday x }) } })) ∧
    -- a jump, and a slew back across midnight
    (old.set = true → difference < -120 ∨ 120 < difference ∨ difference < 0 ∧ weekday ≠ old.weekday →
      let jumped := notice (.clockJump old.weekday old.minute weekday minute)
      (weekday = old.weekday → given (jumped (buildList moved))) ∧
      (weekday ≠ old.weekday →
        given (jumped (buildList { moved with rdu := { moved.rdu with legs := h.rdu.legs.map (fun x =>
          { x with substitute := none, unassigned := false, infeasible := false, outcome := runs weekday x }) } })))) ∧
    -- a forward slew, over no minute boundary, one or two
    (old.set = true → 0 ≤ difference → difference ≤ 120 →
      (old.second + difference < 60 → exec (.time src seq l) s = .next (concluded s (stopped h))) ∧
      (60 ≤ old.second + difference → old.second + difference < 120 → given (stopped (advance h))) ∧
      (120 ≤ old.second + difference → given (stopped (advance (advance h))))) ∧
    -- a backward slew inside the day
    (old.set = true → -120 ≤ difference → difference < 0 → weekday = old.weekday →
      (minute = old.minute → exec (.time src seq l) s = .next (concluded s moved)) ∧
      (minute ≠ old.minute → given (close false (fall minute moved)))))

/-- SITE_SEND_DONE: the transmitter is idle, and while sending is open the head of the queue begins to be sent with the own
sequence. With the overflow marker set, the OUT_OVERFLOW notice joins and the count is cleared: at once where the queue had
room before, else in an order that is free between it and another telegram of the tick (R181). Where the notice waits, the
next telegram queued takes the place: the notice then follows it into a free place, or in place of a STATUS-FWD or READINESS,
and at a full queue it is itself dropped, the marker stays and the count rises. That the free order is a free value, and that
the notice waits for one telegram at most, is the model's choice (log 51). -/
def Obligations.SendDoneBeginsTheNext : Prop :=
  (∀ (s : State), s.power = true → s.sli.tx.isSome = true →
    (sendOpen s = false ∨ s.sli.out = [] →
      exec .siteSendDone s = .next (finish { s with sli := { s.sli with tx := none } })) ∧
    (∀ m rest, sendOpen s = true → s.sli.out = m :: rest →
      let sent : Sli := { s.sli with
        out := rest, tx := some (m.telegram s.sli.ownSeq)
        ownSeq := match m.body with
          | .forwarded _ => s.sli.ownSeq
          | _ => s.sli.ownSeq + 1 }
      let told : Sli := { sent with
        out := rest ++ [⟨105, .notice (.outOverflow s.sli.dropCount) (clockReading s)⟩], overflow := false, dropCount := 0 }
      let next (i : Sli) := exec .siteSendDone s = .next (finish { s with sli := i })
      (s.sli.overflow = false → next sent) ∧
      (s.sli.overflow = true → rest.length < 31 → next told) ∧
      (s.sli.overflow = true → rest.length = 31 →
        next { (if Config.noticeFirst s.sli.orderCount then told else sent) with orderCount := s.sli.orderCount + 1 }))) ∧
  (∀ (m : OutMsg) (s : State),
    let p := putOut m s
    let told (q : List OutMsg) : State := { p with sli := { p.sli with
      out := q ++ [⟨105, .notice (.outOverflow p.sli.dropCount) (clockReading s)⟩], overflow := false, dropCount := 0 } }
    (s.sli.overflow = false ∨ 32 ≤ s.sli.out.length → queueOut m s = trySend p) ∧
    (s.sli.overflow = true → s.sli.out.length < 32 →
      (p.sli.out.length < 32 → queueOut m s = trySend (told p.sli.out)) ∧
      (32 ≤ p.sli.out.length → p.sli.out.any OutMsg.isStatusFwd = true →
        queueOut m s = trySend (told (p.sli.out.eraseP OutMsg.isStatusFwd))) ∧
      (32 ≤ p.sli.out.length → p.sli.out.any OutMsg.isStatusFwd = false → p.sli.out.any OutMsg.isReadiness = true →
        queueOut m s = trySend (told (p.sli.out.eraseP OutMsg.isReadiness))) ∧
      (32 ≤ p.sli.out.length → p.sli.out.any OutMsg.isStatusFwd = false → p.sli.out.any OutMsg.isReadiness = false →
        queueOut m s = trySend { p with
          sli := { p.sli with overflow := true, dropCount := min 65535 (p.sli.dropCount + 1) }
          tsm := { p.tsm with outOverflow := true } })))

/-- A telegram that is not coalesced joins the back of the outbound queue while it holds fewer than 32; with no
place and no STATUS-FWD or READINESS to remove it is dropped, counted and flagged. A READINESS whose bus has one in
the queue replaces it in its place. -/
def Obligations.OutboundQueueRules : Prop :=
  ∀ (m : OutMsg) (s : State),
    (m.key = none → s.sli.out.length < 32 → putOut m s = { s with sli := { s.sli with out := s.sli.out ++ [m] } }) ∧
    (m.key = none → 32 ≤ s.sli.out.length → s.sli.out.any OutMsg.isStatusFwd = true →
      putOut m s = { s with sli := { s.sli with out := s.sli.out.eraseP OutMsg.isStatusFwd ++ [m] } }) ∧
    (m.key = none → 32 ≤ s.sli.out.length → s.sli.out.any OutMsg.isStatusFwd = false →
      s.sli.out.any OutMsg.isReadiness = true →
      putOut m s = { s with sli := { s.sli with out := s.sli.out.eraseP OutMsg.isReadiness ++ [m] } }) ∧
    (m.key = none → 32 ≤ s.sli.out.length → s.sli.out.any OutMsg.isStatusFwd = false →
      s.sli.out.any OutMsg.isReadiness = false →
      putOut m s = { s with sli := { s.sli with overflow := true, dropCount := min 65535 (s.sli.dropCount + 1) },
                            tsm := { s.tsm with outOverflow := true } }) ∧
    (∀ k, m.key = some k → s.sli.out.any (fun e => e.key = some k) = true →
      putOut m s = { s with sli := { s.sli with out := s.sli.out.map (fun e => if e.key = some k then m else e) } }) ∧
    (∀ k, m.key = some k → s.sli.out.any (fun e => e.key = some k) = false → s.sli.out.length < 32 →
      putOut m s = { s with sli := { s.sli with out := s.sli.out ++ [m] } }) ∧
    (∀ k, m.key = some k → s.sli.out.any (fun e => e.key = some k) = false → 32 ≤ s.sli.out.length → putOut m s = s)

/-- SILENCE_TIMEOUT with the mark clear: in COORDINATING the part enters ISLAND, the OUTCOME of an ACTIVE dispatch, the
ARMED_DROPPED of an ARMED one and METER_FALLBACK are queued in this order, and SBU lets its readings go; in SAFE the silence
is only noted. That the command sets its timer to the limit is the model's choice (log 3). -/
def Obligations.SilenceEntersIsland : Prop :=
  ∀ s : State, s.power = true → s.sli.silentMark = false →
    (s.tsm.op = .coordinating →
      let noted : State := { s with
        sli := { s.sli with silence := 600, silentMark := true }, tsm := { s.tsm with silenceStanding := true, op := .island } }
      let ended : State := match s.rsu.active with
        | none => noted
        | some d => queueOut ⟨103, .outcome
          { id := d.id, dir := d.dir, endState := .abandoned, power := d.power, baseline := d.baseline, start := d.start
            stop := clockReading s, response := d.timer, outOfBand := d.outOfBand, delivered := d.delivered.tdiv 36000
            late := d.late, notReached := d.notReached || !d.stopped, shortfall := d.shortfall }⟩ noted
      let dropped : State := match s.rsu.armed with
        | none => ended
        | some d => queueOut ⟨103, .notice (.armedDropped d.id .island) (clockReading s)⟩ ended
      let told : State := if s.sbu.meter = .fresh ∨ s.sbu.meter = .stale then
        queueOut ⟨105, .notice (.meterFallback s.tsm.settings.fallbackBudget) (clockReading s)⟩ dropped else dropped
      ∃ u, exec .silenceTimeout s = .next (finish (runTriggers u)) ∧
        u.sli = told.sli ∧ u.tsm = told.tsm ∧
        u.sli.silence = 600 ∧ u.sli.silentMark = true ∧ u.tsm.silenceStanding = true ∧ u.tsm.op = .island ∧
        u.sbu.imp = none ∧ u.sbu.building = none ∧ u.sbu.gridCap = none ∧ u.sbu.breach = 0 ∧
        u.sbu.ambient = s.sbu.ambient ∧ u.sbu.age = s.sbu.age ∧
        u.sbu.meter = (if s.sbu.meter = .fresh ∨ s.sbu.meter = .stale then .fallback else s.sbu.meter) ∧
        u.rsu = { s.rsu with active := none, armed := none } ∧
        u.ale = { s.ale with pending := s.ale.pending || s.rsu.active.isSome } ∧
        u.frt = s.frt ∧ u.ylc = s.ylc ∧ u.rdu = s.rdu ∧ u.stp = s.stp ∧ u.tsm.store = s.tsm.store) ∧
    (s.tsm.op = .safe ∨ s.tsm.op = .island →
      exec .silenceTimeout s = .next (finish { s with sli := { s.sli with silence := 600, silentMark := true },
                                                      tsm := { s.tsm with silenceStanding := true } }))

/-! ### Dispatches -/

/-- A DISPATCH that repeats the one last answered gets its reply again; a CANCEL ends what its id names, an ACTIVE dispatch
with its OUTCOME and a pass, an ARMED one without a word. -/
def Obligations.RepeatsAndCancels : Prop :=
  ∀ (src seq : Byte) (l : List Byte) (s : State), s.power = true → (heard s).tsm.op ≠ .starting →
    let h := heard s
    (∀ r, l.length = 11 → h.rsu.lastReply = some ⟨nat32At l 0, src, seq, r⟩ →
      exec (.dispatch src seq l) s = .next (concluded s (queueOut ⟨src, .dispReply r⟩ h))) ∧
    (∀ d, l.length = 4 → h.rsu.active = some d → d.id = nat32At l 0 →
      let q := queueOut ⟨103, .outcome
        { id := d.id, dir := d.dir, endState := .cancelled, power := d.power, baseline := d.baseline, start := d.start
          stop := clockReading h, response := d.timer, outOfBand := d.outOfBand, delivered := d.delivered.tdiv 36000
          late := d.late, notReached := d.notReached || !d.stopped, shortfall := d.shortfall }⟩ h
      exec (.cancel src seq l) s = .next (concluded s (trigger { q with rsu := { h.rsu with active := none } }))) ∧
    (∀ d, l.length = 4 → h.rsu.armed = some d → d.id = nat32At l 0 → (∀ a, h.rsu.active = some a → a.id ≠ d.id) →
      exec (.cancel src seq l) s = .next (concluded s { h with rsu := { h.rsu with armed := none } })) ∧
    (l.length = 4 → (∀ a, h.rsu.active = some a → a.id ≠ nat32At l 0) →
      (∀ d, h.rsu.armed = some d → d.id ≠ nat32At l 0) →
      exec (.cancel src seq l) s = .next (concluded s (notice (.cancelUnmatched (nat32At l 0)) h)))

/-- A DISPATCH that fails a check of R138 is declined with the first that fails; nothing but the highest id and the last reply
changes in RSU. The start slot while the clock is NOT_SET is free (the model's choice, log 12). R139 gives such a reply's
accepted power, delay and duration no values: 0.0 and the clamped delay and duration are the model's choice (log 13). -/
def Obligations.DispatchChecks : Prop :=
  ∀ (src seq : Byte) (l : List Byte) (why : DispReason) (s : State), s.power = true → l.length = 11 →
    (heard s).tsm.op ≠ .starting → (∀ r, (heard s).rsu.lastReply ≠ some ⟨nat32At l 0, src, seq, r⟩) →
    let h := heard s
    let c := h.rdu.clock
    let isOpen := h.tsm.op = .coordinating
    let new := ∀ i, h.rsu.highId = some i → i < nat32At l 0
    (¬ isOpen ∧ why = .safe ∨ isOpen ∧ c.set = false ∧ why = .noClock ∨ isOpen ∧ c.set = true ∧ ¬ new ∧ why = .staleId ∨
      isOpen ∧ c.set = true ∧ new ∧ why = .badField ∧
        ((byteAt l 4 ≠ 1 ∧ byteAt l 4 ≠ 2) ∨ int16At l 5 ≤ 0 ∨ nat16At l 9 = 0)) →
    let reply : DispReply :=
      { id := nat32At l 0, result := .decline, reason := why, dir := byteAt l 4, requested := int16At l 5, accepted := 0
        delay := min 900 (nat16At l 7), duration := min 14400 (nat16At l 9)
        slot := if c.set then (c.minute * 60 + c.second + min 900 (nat16At l 7)) % 86400 / 1800
          else Config.startSlotWithoutClock h.freeCount }
    let q := queueOut ⟨src, .dispReply reply⟩ h
    exec (.dispatch src seq l) s = .next (concluded s { q with
      rsu := { h.rsu with
        highId := some (match h.rsu.highId with
          | none => nat32At l 0
          | some i => max i (nat32At l 0))
        lastReply := some ⟨nat32At l 0, src, seq, reply⟩ }
      freeCount := if c.set then h.freeCount else h.freeCount + 1 })

/-- A DISPATCH that passes the checks: the accepted power is the smallest of the request, the commitment of its start
slot and the capability with the ACTIVE dispatch's power of its direction; zero or less declines it, a delay arms it, no
delay starts it. That what the placement and the pass it triggers queue stands before the DISP-REPLY is the model's choice
(log 23). -/
def Obligations.DispatchAccepted : Prop :=
  ∀ (src seq : Byte) (l : List Byte) (dir : Direction) (s : State), s.power = true → l.length = 11 →
    (∀ r, (heard s).rsu.lastReply ≠ some ⟨nat32At l 0, src, seq, r⟩) →
    let h := heard s
    let c := h.rdu.clock
    h.tsm.op = .coordinating → c.set = true → (∀ i, h.rsu.highId = some i → i < nat32At l 0) →
    directionOfCode (byteAt l 4) = some dir → 0 < int16At l 5 → 0 < nat16At l 9 →
    let request := int16At l 5
    let delay := min 900 (nat16At l 7)
    let duration := min 14400 (nat16At l 9)
    let at_ := (c.weekday * 86400 + c.minute * 60 + c.second + delay) % 604800
    let slot := at_ % 86400 / 1800
    let commit := match h.rsu.slots[slot]? with
      | none => 0
      | some r => if r.enabled = false then 0 else if dir = .up then r.up else r.down
    let cap := (if dir = .up then h.rsu.upCap else h.rsu.downCap) +
      (match h.rsu.active with
       | none => 0
       | some a => if a.dir = dir then a.power else 0)
    let a := min request (min commit cap)
    let result : DispResult := if a = request then .accept else if 0 < a then .partly else .decline
    let reason : DispReason := if a = request then .none
      else if 0 < a then (if commit ≤ cap then .commitment else .capability)
      else if commit = 0 then .notCommitted else .noCapability
    let reply : DispReply := ⟨nat32At l 0, result, reason, byteAt l 4, request, max 0 a, delay, duration, slot⟩
    let h1 : State := { h with rsu := { h.rsu with highId := some (nat32At l 0) } }
    let answered := fun (u : State) =>
      let q := queueOut ⟨src, .dispReply reply⟩ u
      ({ q with rsu := { q.rsu with lastReply := some ⟨nat32At l 0, src, seq, reply⟩ } } : State)
    let d : Dispatch :=
      { id := nat32At l 0, dir := dir, power := a, start := some ⟨at_ / 86400, at_ % 86400 / 60, at_ % 60⟩, stop := none
        resp := (h.rsu.slots[slot]?.map CommitRow.resp).getD 0, countdown := delay * 10, duration := duration
        remaining := 0, baseline := 0, timer := 0, stopped := false, outOfBand := 0, interval := 0, delivered := 0
        late := false, notReached := false, shortfall := false, noticed := false }
    (a ≤ 0 → exec (.dispatch src seq l) s = .next (concluded s (answered h1))) ∧
    (0 < a → 0 < delay → h1.rsu.armed = none →
      exec (.dispatch src seq l) s = .next (concluded s (answered (runTriggers { h1 with rsu := { h1.rsu with armed := some d } })))) ∧
    (∀ e, 0 < a → 0 < delay → h1.rsu.armed = some e →
      exec (.dispatch src seq l) s = .next (concluded s (answered (runTriggers
        (let n := notice (.armedDropped e.id .superseded) { h1 with rsu := { h1.rsu with armed := none } }
         { n with rsu := { n.rsu with armed := some d } }))))) ∧
    (0 < a → delay = 0 → exec (.dispatch src seq l) s = .next (concluded s (answered (runTriggers (startDispatch d h1)))))

/-- A dispatch starts: an ACTIVE one ends SUPERSEDED and leaves its baseline, an ARMED one is dropped. ARMED_START starts the
ARMED one. With both, the OUTCOME comes before ARMED_DROPPED: that order is the model's choice (log 23). -/
def Obligations.DispatchStarts : Prop :=
  ∀ (d : Dispatch) (s : State),
    let t := startDispatch d s
    let ended (a : Dispatch) : OutMsg := ⟨103, .outcome
      { id := a.id, dir := a.dir, endState := .superseded, power := a.power, baseline := a.baseline, start := a.start
        stop := clockReading s, response := a.timer, outOfBand := a.outOfBand, delivered := a.delivered.tdiv 36000
        late := a.late, notReached := a.notReached || !a.stopped, shortfall := a.shortfall }⟩
    t.rsu = { s.rsu with
      active := some { d with
        start := clockReading s, stop := none, countdown := 0, remaining := d.duration * 10
        baseline := match s.rsu.active with
          | none => fleetMeasured s
          | some a => a.baseline
        timer := 0, stopped := false, outOfBand := 0, interval := 0, delivered := 0, late := false, notReached := false
        shortfall := false, noticed := false }
      armed := none } ∧
    t.ale = { s.ale with pending := s.ale.pending || decide (s.tsm.op ≠ .starting) } ∧
    (s.rsu.active = none → s.rsu.armed = none → t.sli = s.sli ∧ t.tsm = s.tsm) ∧
    (∀ a, s.rsu.active = some a → s.rsu.armed = none →
      t.sli = (queueOut (ended a) s).sli ∧ t.tsm = (queueOut (ended a) s).tsm) ∧
    (∀ e, s.rsu.active = none → s.rsu.armed = some e →
      t.sli = (notice (.armedDropped e.id .superseded) s).sli ∧ t.tsm = (notice (.armedDropped e.id .superseded) s).tsm) ∧
    (∀ a e, s.rsu.active = some a → s.rsu.armed = some e →
      t.sli = (notice (.armedDropped e.id .superseded) (queueOut (ended a) s)).sli ∧
      t.tsm = (notice (.armedDropped e.id .superseded) (queueOut (ended a) s)).tsm) ∧
    t.frt = s.frt ∧ t.ylc = s.ylc ∧ t.sbu = s.sbu ∧ t.rdu = s.rdu ∧ t.stp = s.stp ∧ t.tsm.store = s.tsm.store ∧
    (s.power = true → s.rsu.armed = some d →
      exec .armedStart s =
        .next (finish (runTriggers (startDispatch d { s with rsu := { s.rsu with armed := none } }))))

/-- DISPATCH_EXPIRY: the ACTIVE dispatch ends COMPLETE with its OUTCOME, and a pass is triggered. -/
def Obligations.DispatchExpiryEnds : Prop :=
  ∀ (d : Dispatch) (s : State), s.power = true → s.rsu.active = some d →
    let q := queueOut ⟨103, .outcome
      { id := d.id, dir := d.dir, endState := .complete, power := d.power, baseline := d.baseline, start := d.start
        stop := clockReading s, response := d.timer, outOfBand := d.outOfBand, delivered := d.delivered.tdiv 36000
        late := d.late, notReached := d.notReached || !d.stopped, shortfall := d.shortfall }⟩ s
    exec .dispatchExpiry s = .next (finish (trigger { q with rsu := { s.rsu with active := none } }))

/-! ### Management -/

/-- The tests that come before an operation's own rule, for every operation code; and the lengths of the fields. The length of
a STAGE is stated for a known segment (log 44). That a STAGE, a READ or a STATUS that ends here carries no details is the
model's choice (log 52, log 67). -/
def Obligations.ManagementTests : Prop :=
  ∀ (op src seq : Byte) (access fields : List Byte) (s : State), s.power = true →
    let h := heard s
    let ended (r : MgmtResult) := exec (mgmtInstr op src seq access fields) s = .next (concluded s (answer ⟨src, seq, op⟩ r .none h))
    (¬ Admitted h access → ended .access) ∧
    (Admitted h access → ¬ (1 ≤ op.toNat ∧ op.toNat ≤ 14) → ended .unknownOp) ∧
    (Admitted h access → 1 ≤ op.toNat ∧ op.toNat ≤ 14 → fieldsFit op fields = false → ended .range) ∧
    (Admitted h access → 1 ≤ op.toNat ∧ op.toNat ≤ 14 → fieldsFit op fields = true → h.tsm.op = .starting → op ≠ 5 →
      ended .busy) ∧
    (op = 3 ∨ op = 5 ∨ op = 9 → (fieldsFit op fields = true ↔ fields.length = 0)) ∧
    (op = 6 ∨ op = 13 ∨ op = 14 → (fieldsFit op fields = true ↔ fields.length = 1)) ∧
    (op = 7 ∨ op = 10 ∨ op = 11 → (fieldsFit op fields = true ↔ fields.length = 2)) ∧
    (op = 4 → (fieldsFit op fields = true ↔ fields.length = 3)) ∧
    (op = 2 ∨ op = 12 → (fieldsFit op fields = true ↔ fields.length = 4)) ∧
    (op = 8 → (fieldsFit op fields = true ↔ fields.length = 8)) ∧
    (∀ g, op = 1 → segmentOfCode (byteAt fields 0) = some g →
      (fieldsFit op fields = true ↔ fields.length = 3 + rowBytes g))

/-- An answer is a MGMT-REPLY to the source, and the last result unless it answers STATUS or CLEAR_STATUS. -/
def Obligations.AnswersAreQueuedAndRecorded : Prop :=
  ∀ (m : MgmtHead) (r : MgmtResult) (x : MgmtDetails) (s : State),
    let q := queueOut ⟨m.src, .mgmtReply m.op m.seq r x⟩ s
    (m.op = 5 ∨ m.op = 9 → answer m r x s = q) ∧
    (m.op ≠ 5 → m.op ≠ 9 → ∃ c, answer m r x s = { q with tsm := { q.tsm with lastResult := some ⟨m.op, r, c⟩ } } ∧
      (∀ row why, x = .content row why → c = some (row, why)) ∧ (x = .none → c = none))

/-- STAGE writes a row into the staging area, which stays in ascending row index; its refusals. DISCARD empties it. That a
STAGE of an unknown segment code fits with 3 bytes or more is the model's reading (log 44). That a segment stays locked
against STAGE while its RELEASE write runs is the model's choice (log 63). -/
def Obligations.StagingIsWrittenAndEmptied : Prop :=
  ∀ (src seq : Byte) (access fields : List Byte) (g : Segment) (row : Row) (s : State), Served s access →
    let h := heard s
    let i := nat16At fields 1
    let ended (r : MgmtResult) := exec (.stage src seq access fields) s =
      .next (concluded s (answer ⟨src, seq, 1⟩ r (.staged h.tsm.staged h.tsm.staging.length) h))
    (exec (.discard src seq access []) s =
      .next (concluded s (answer ⟨src, seq, 3⟩ .done .none { h with tsm := { h.tsm with staged := none, staging := [] } }))) ∧
    (segmentOfCode (byteAt fields 0) = none → 3 ≤ fields.length → ended .range) ∧
    (segmentOfCode (byteAt fields 0) = some g → 3 ≤ fields.length → parseRow g (fields.drop 3) = some row →
      ((h.tsm.store.get g).lock = true → ended .locked) ∧
      (∀ g', (h.tsm.store.get g).lock = false → h.tsm.staged = some g' → g' ≠ g → ended .sequence) ∧
      ((h.tsm.store.get g).lock = false → h.tsm.staged = none ∨ h.tsm.staged = some g → g.capacity ≤ i → ended .range) ∧
      ((h.tsm.store.get g).lock = false → h.tsm.staged = none ∨ h.tsm.staged = some g → i < g.capacity →
        ∃ l, exec (.stage src seq access fields) s =
            .next (concluded s (answer ⟨src, seq, 1⟩ .done (.staged (some g) l.length)
              { h with tsm := { h.tsm with staged := some g, staging := l } })) ∧
          (h.tsm.staging.Pairwise (fun a b => a.1 < b.1) →
            l.Pairwise (fun a b => a.1 < b.1) ∧
            ∀ q, q ∈ l ↔ q = (i, row) ∨ (q ∈ h.tsm.staging ∧ q.1 ≠ i))))

/-- COMMIT: the confirm code and the staged segment, the lock, a write in flight, the row count with the row index it
reports, the content, and then the write begins: the stored segment is INCOMPLETE and the staging area empty (R190, R192).
What the content check asks of the rows of each segment (R191). -/
def Obligations.CommitBeginsTheWrite : Prop :=
  (∀ (src seq : Byte) (access fields : List Byte) (g : Segment) (s : State), Served s access → fields.length = 4 →
    segmentOfCode (byteAt fields 0) = some g →
    let h := heard s
    let n := nat16At fields 2
    let rows := h.tsm.staging.map Prod.snd
    let indices := h.tsm.staging.map Prod.fst
    let counted := 1 ≤ n ∧ n ≤ g.capacity ∧ h.tsm.staging.map Prod.fst = List.range n
    let ended (r : MgmtResult) (x : MgmtDetails) :=
      exec (.commit src seq access fields) s = .next (concluded s (answer ⟨src, seq, 2⟩ r x h))
    (byteAt fields 1 ≠ 0x5A ∨ h.tsm.staged ≠ some g → ended .sequence .none) ∧
    (byteAt fields 1 = 0x5A → h.tsm.staged = some g →
      ((h.tsm.store.get g).lock = true → ended .locked .none) ∧
      ((h.tsm.store.get g).lock = false → h.tsm.write.isSome = true → ended .busy .none) ∧
      ((h.tsm.store.get g).lock = false → h.tsm.write = none →
        (h.tsm.staging.Pairwise (fun a b => a.1 < b.1) → ¬ counted → ∃ row, ended .content (.content row .count)) ∧
        (∀ i, i < n → i ∉ indices → (∀ j, j < i → j ∈ indices) → ended .content (.content i .count)) ∧
        (∀ i, h.tsm.staging.Pairwise (fun a b => a.1 < b.1) → (∀ j, j < n → j ∈ indices) → i ∈ indices → n ≤ i →
          (∀ j ∈ indices, n ≤ j → i ≤ j) → ended .content (.content i .count)) ∧
        (∀ row why, counted → validate g rows = some (row, why) → ended .content (.content row why)) ∧
        (counted → validate g rows = none →
          exec (.commit src seq access fields) s = .next (concluded s { h with tsm := { h.tsm with
            staged := none, staging := [], write := some ⟨.commit g rows, 2, src, seq⟩
            store := h.tsm.store.set g ⟨.incomplete, (h.tsm.store.get g).lock, []⟩ } }))))) ∧
  (∀ l : List FleetRow, validate .fleet (l.map .fleet) = none ↔
    (∀ r ∈ l, (1 ≤ r.fleetNo ∧ r.fleetNo ≤ 9999) ∧ (200 ≤ r.capacity ∧ r.capacity ≤ 6500) ∧ r.cls ≤ 2 ∧
      (r.target = 0 ∨ 50 ≤ r.target ∧ r.target ≤ 100)) ∧
    (l.map FleetRow.fleetNo).Nodup ∧ (l.map FleetRow.tag).Nodup) ∧
  (∀ l : List RouteRow, validate .route (l.map .route) = none ↔
    (∀ r ∈ l, (1 ≤ r.legNo ∧ r.legNo ≤ 9999) ∧ r.assigned ≤ 9999 ∧ r.departure ≤ 1439 ∧ r.ret ≤ 1439 ∧ r.base ≤ 6000 ∧
      r.coldCoef ≤ 100 ∧ r.preMin ≤ 60 ∧ r.prePower ≤ 150) ∧
    (l.map RouteRow.legNo).Nodup ∧
    (∀ i q r, l[i]? = some q → l[i + 1]? = some r →
      q.departure < r.departure ∨ (q.departure = r.departure ∧ q.legNo ≤ r.legNo))) ∧
  (∀ l : List YardRow, validate .yard (l.map .yard) = none ↔
    (∀ r ∈ l, (1 ≤ r.station ∧ r.station ≤ 16) ∧ (∀ x ∈ r.ratings, 100 ≤ x ∧ x ≤ 500) ∧
      (r.map = 0xE4 ∨ r.map = 0xE0 ∨ r.map = 0xA4 ∨ r.map = 0xA0 ∨ r.map = 0x00)) ∧
    (l.map YardRow.station).Nodup) ∧
  (∀ l : List CommitRow, validate .commitment (l.map .commitment) = none ↔
    (∀ r ∈ l, (0 ≤ r.up ∧ r.up ≤ 20000) ∧ (0 ≤ r.down ∧ r.down ≤ 20000) ∧ (1 ≤ r.resp ∧ r.resp ≤ 60)) ∧ l.length = 48) ∧
  (∀ l : List TariffRow, validate .tariff (l.map .tariff) = none ↔
    (∀ r ∈ l, r.dayType ≤ 1 ∧ r.start ≤ 1439 ∧ r.stop ≤ 1439 ∧ r.stop ≠ r.start ∧ r.cls ≤ 3 ∧
      (∀ c, r.cap = some c → 0 ≤ c ∧ c ≤ 30000)) ∧
    (∀ d, (l.filter (fun r => r.dayType = d)).length ≤ 12) ∧
    l.Pairwise (fun q r => q.dayType = r.dayType → ∀ m, m ≤ 1439 →
      ((windowOf q).covers m && (windowOf r).covers m) = false)) ∧
  (∀ l : List PassageRow, validate .passage (l.map .passage) = none ↔
    ∀ r ∈ l, r.direction ≤ 1 ∧ (r.kind = 0 ∨ r.kind ∈ kindCodes) ∧ r.action ≤ 2) ∧
  (∀ r : Settings, validate .settings [.settings r] = none ↔
    ((1000 ≤ r.importLimit ∧ r.importLimit ≤ 30000) ∧ (0 ≤ r.exportLimit ∧ r.exportLimit ≤ 30000) ∧
      (0 ≤ r.safetyMargin ∧ r.safetyMargin ≤ 2000) ∧ (0 ≤ r.staleMargin ∧ r.staleMargin ≤ 2000) ∧
      (0 ≤ r.fallbackBudget ∧ r.fallbackBudget ≤ 30000) ∧ (10 ≤ r.pMin ∧ r.pMin ≤ 100) ∧
      (10 ≤ r.rampStep ∧ r.rampStep ≤ 2000) ∧ (4 ≤ r.passPre ∧ r.passPre ≤ 99) ∧ r.turn ≤ 63 ∧
      (1 ≤ r.fallbackTime ∧ r.fallbackTime ≤ 30) ∧ (5 ≤ r.replyTimeout ∧ r.replyTimeout ≤ 100) ∧ r.waitLimit ≤ 7 ∧
      (5 ≤ r.holdOff ∧ r.holdOff ≤ 100) ∧ (1 ≤ r.missLimit ∧ r.missLimit ≤ 7) ∧ (0 ≤ r.guestCap ∧ r.guestCap ≤ 500) ∧
      (50 ≤ r.chargeTarget ∧ r.chargeTarget ≤ 100) ∧ r.holdMargin ≤ 1000 ∧ r.v2gMargin ≤ 1000 ∧
      (-20 ≤ r.coldRef ∧ r.coldRef ≤ 20) ∧ (-40 ≤ r.defaultAmbient ∧ r.defaultAmbient ≤ 20) ∧
      (5 ≤ r.grace ∧ r.grace ≤ 30) ∧ (5 ≤ r.earlyWindow ∧ r.earlyWindow ≤ 60) ∧ (10 ≤ r.sLo ∧ r.sLo ≤ 90) ∧ r.sHi ≤ 95 ∧
      5 ≤ r.sFloor ∧ r.sCeiling ≤ 100 ∧ (1 ≤ r.tolerance ∧ r.tolerance ≤ 20) ∧ (-30 ≤ r.minTemp ∧ r.minTemp ≤ 10) ∧
      r.season ≤ 1) ∧
    (r.sFloor ≤ r.sLo ∧ r.sLo ≤ r.sHi ∧ r.sHi ≤ r.sCeiling) ∧ 2 * (r.passPre + 1) ≤ r.fallbackTime * 10)

/-- READ gives an active row, or the built-in SETTINGS; STATUS gives the status record in every state; CLEAR_STATUS clears the
last result and the two flags. The row count 0 of SETTINGS not VALID, and the operation SEASON named while a SEASON's write is
in flight, are the model's choices (log 58, log 59), and so is that a READ answered RANGE carries no details (log 67). -/
def Obligations.ReadStatusAndClear : Prop :=
  ∀ (src seq : Byte) (access fields : List Byte) (s : State),
    let h := heard s
    let i := nat16At fields 1
    (∀ g rows row, Served s access → fields.length = 3 → segmentOfCode (byteAt fields 0) = some g →
      h.tsm.active.get g = some rows → rows[i]? = some row →
      exec (.read src seq access fields) s = .next (concluded s (answer ⟨src, seq, 4⟩ .done (.read g i row false) h))) ∧
    (Served s access → fields.length = 3 → byteAt fields 0 = 7 → h.tsm.active.settings = none → i = 0 →
      exec (.read src seq access fields) s =
        .next (concluded s (answer ⟨src, seq, 4⟩ .done (.read .settings 0 (.settings Settings.defaults) true) h))) ∧
    (∀ g rows, Served s access → fields.length = 3 → segmentOfCode (byteAt fields 0) = some g →
      h.tsm.active.get g = some rows → rows.length ≤ i →
      exec (.read src seq access fields) s = .next (concluded s (answer ⟨src, seq, 4⟩ .range .none h))) ∧
    (∀ g, Served s access → fields.length = 3 → segmentOfCode (byteAt fields 0) = some g → h.tsm.active.get g = none →
      g ≠ .settings ∨ i ≠ 0 → exec (.read src seq access fields) s = .next (concluded s (answer ⟨src, seq, 4⟩ .range .none h))) ∧
    (Served s access → fields.length = 3 → segmentOfCode (byteAt fields 0) = none →
      exec (.read src seq access fields) s = .next (concluded s (answer ⟨src, seq, 4⟩ .range .none h))) ∧
    (s.power = true → Admitted h access →
      exec (.status src seq access []) s = .next (concluded s (answer ⟨src, seq, 5⟩ .done (.status
        { op := h.tsm.op, silence := h.tsm.silenceStanding
          write := h.tsm.write.map (fun w => (w.op, w.job.segment))
          lastResult := h.tsm.lastResult, staged := h.tsm.staged, stagedRows := h.tsm.staging.length
          segments := segments.map (fun g => ((h.tsm.store.get g).content, (h.tsm.store.get g).lock,
            ((h.tsm.active.get g).map List.length).getD 0))
          outOverflow := h.tsm.outOverflow, plugFull := h.tsm.plugFull, clockSet := h.rdu.clock.set
          clock := if h.rdu.clock.set then some (h.rdu.clock.weekday, h.rdu.clock.minute) else none
          online := (stations.filter (fun c => (cabAt h c).link = .online)).length
          located := (h.frt.buses.filter (fun b => b.post.isSome)).length }) h))) ∧
    (Served s access →
      exec (.clearStatus src seq access []) s = .next (concluded s (answer ⟨src, seq, 9⟩ .done .none
        { h with tsm := { h.tsm with lastResult := none, outOverflow := false, plugFull := false } })))

/-- LOCK, RELEASE and SET_CODE begin a store write, or are refused. -/
def Obligations.LockReleaseAndCode : Prop :=
  ∀ (src seq : Byte) (access fields : List Byte) (g : Segment) (s : State), Served s access →
    let h := heard s
    (fields.length = 1 → segmentOfCode (byteAt fields 0) = some g →
      (h.tsm.write.isSome = true ∨ (∃ a ∈ h.tsm.waiting, a.seg = g) →
        exec (.lock src seq access fields) s = .next (concluded s (answer ⟨src, seq, 6⟩ .busy .none h))) ∧
      (h.tsm.write = none → (∀ a ∈ h.tsm.waiting, a.seg ≠ g) →
        exec (.lock src seq access fields) s =
          .next (concluded s { h with tsm := { h.tsm with write := some ⟨.lock g, 6, src, seq⟩ } }))) ∧
    (fields.length = 1 → segmentOfCode (byteAt fields 0) = none →
      exec (.lock src seq access fields) s = .next (concluded s (answer ⟨src, seq, 6⟩ .range .none h))) ∧
    (fields.length = 2 → segmentOfCode (byteAt fields 0) = none →
      exec (.release src seq access fields) s = .next (concluded s (answer ⟨src, seq, 7⟩ .range .none h))) ∧
    (fields.length = 2 → segmentOfCode (byteAt fields 0) = some g →
      (byteAt fields 1 ≠ 0xA5 →
        exec (.release src seq access fields) s = .next (concluded s (answer ⟨src, seq, 7⟩ .sequence .none h))) ∧
      (byteAt fields 1 = 0xA5 → h.tsm.write.isSome = true →
        exec (.release src seq access fields) s = .next (concluded s (answer ⟨src, seq, 7⟩ .busy .none h))) ∧
      (byteAt fields 1 = 0xA5 → h.tsm.write = none →
        exec (.release src seq access fields) s = .next (concluded s { h with tsm := { h.tsm with
          write := some ⟨.release g, 7, src, seq⟩
          store := h.tsm.store.set g ⟨.incomplete, (h.tsm.store.get g).lock, []⟩ } }))) ∧
    (fields.length = 8 →
      (h.tsm.write.isSome = true →
        exec (.setCode src seq access fields) s = .next (concluded s (answer ⟨src, seq, 8⟩ .busy .none h))) ∧
      (h.tsm.write = none →
        exec (.setCode src seq access fields) s =
          .next (concluded s { h with tsm := { h.tsm with write := some ⟨.setCode fields, 8, src, seq⟩ } })))

/-- WITHDRAW and RETURN change the bus state of the slot that carries the fleet number, and nothing else. -/
def Obligations.WithdrawAndReturn : Prop :=
  ∀ (src seq : Byte) (access fields : List Byte) (s : State), Served s access → fields.length = 2 →
    let h := heard s
    (slotOf h (nat16At fields 0) = none →
      exec (.withdraw src seq access fields) s = .next (concluded s (answer ⟨src, seq, 10⟩ .range .none h)) ∧
      exec (.returnBus src seq access fields) s = .next (concluded s (answer ⟨src, seq, 11⟩ .range .none h))) ∧
    (∀ k b, slotOf h (nat16At fields 0) = some k → busAt h k = some b →
      exec (.withdraw src seq access fields) s = .next (concluded s (answer ⟨src, seq, 10⟩ .done .none
        { h with frt := { h.frt with buses := h.frt.buses.set k { b with state := .withdrawn } } })) ∧
      exec (.returnBus src seq access fields) s = .next (concluded s (answer ⟨src, seq, 11⟩ .done .none
        { h with frt := { h.frt with buses := h.frt.buses.set k { b with state :=
            if b.state = .withdrawn then (if b.post.isSome then .plugged else .yard) else b.state } } })))

/-- SUBSTITUTE: the results of R99, and the substitute of a PENDING leg. A DUE leg's verdict is taken again for a new
effective bus alone (R92); an effective bus that stays leaves all else as it is. That the READINESS of a DUE leg stands
before the MGMT-REPLY is the model's choice (log 23). -/
def Obligations.SubstituteIsSet : Prop :=
  ∀ (src seq : Byte) (access fields : List Byte) (s : State), Served s access → fields.length = 4 →
    let h := heard s
    let n := nat16At fields 0
    let bus := if nat16At fields 2 = 0 then none else some (nat16At fields 2)
    let ended (r : MgmtResult) (u : State) := exec (.substitute src seq access fields) s =
      .next (concluded s (answer ⟨src, seq, 12⟩ r .none u))
    let changed : State := { h with rdu := { h.rdu with
      legs := h.rdu.legs.map (fun l => if l.row.legNo = n then { l with substitute := bus } else l) } }
    let verdict (v : Verdict) : State := { changed with rdu := { changed.rdu with
      list := changed.rdu.list.map (fun e => if e.legNo = n then { e with due := some v } else e) } }
    (findLeg h.rdu.legs n = none → ended .range h) ∧
    (∀ l, findLeg h.rdu.legs n = some l →
      let effective (x : Option Nat) : Option Nat :=
        match x with
        | some b => some b
        | none => if l.row.assigned = 0 then none else some l.row.assigned
      (∀ b, bus = some b → slotOf h b = none → ended .range h) ∧
      (∀ b k r, bus = some b → slotOf h b = some k → busAt h k = some r → r.state = .withdrawn → ended .withdrawn h) ∧
      ((∀ b, bus = some b → ∃ k r, slotOf h b = some k ∧ busAt h k = some r ∧ r.state ≠ .withdrawn) →
        (l.outcome ≠ .pending → ended .closed h) ∧
        (l.outcome = .pending → (∀ e ∈ h.rdu.list, e.legNo = n → e.due = none) → ended .done changed) ∧
        (l.outcome = .pending → effective bus = effective l.substitute → ended .done changed) ∧
        (∀ e, l.outcome = .pending → effective bus ≠ effective l.substitute →
          h.rdu.list.find? (fun e => e.legNo = n) = some e → e.due.isSome = true →
          let m : Leg := { l with substitute := bus }
          (∀ k r, legSlot changed m = some k → busAt changed k = some r → r.state ≠ .onRoute →
            ended .done (queueReadiness k (verdict r.verdict))) ∧
          (∀ k r, legSlot changed m = some k → busAt changed k = some r → r.state = .onRoute →
            ended .done (leaveList false n
              (writeOutcome n k (if r.verdict = .ready then .departedReady else .departedShort) (verdict r.verdict)))) ∧
          (legSlot changed m = none → ended .done (verdict .noLeg)))))

/-- SEASON commits the active SETTINGS with its season; RESTART waits for its step (log 38). That a season other than 0 and 1
is RANGE before SETTINGS is found locked or a write in flight is the model's choice (log 53). -/
def Obligations.SeasonAndRestart : Prop :=
  ∀ (src seq : Byte) (access fields : List Byte) (s : State), Served s access → fields.length = 1 →
    let h := heard s
    let now := settingsOf h.tsm.active.settings
    (1 < nat8At fields 0 → exec (.season src seq access fields) s = .next (concluded s (answer ⟨src, seq, 13⟩ .range .none h))) ∧
    (nat8At fields 0 ≤ 1 → h.tsm.store.settings.lock = true →
      exec (.season src seq access fields) s = .next (concluded s (answer ⟨src, seq, 13⟩ .locked .none h))) ∧
    (nat8At fields 0 ≤ 1 → h.tsm.store.settings.lock = false → h.tsm.write.isSome = true →
      exec (.season src seq access fields) s = .next (concluded s (answer ⟨src, seq, 13⟩ .busy .none h))) ∧
    (nat8At fields 0 ≤ 1 → h.tsm.store.settings.lock = false → h.tsm.write = none →
      exec (.season src seq access fields) s = .next (concluded s { h with tsm := { h.tsm with
        write := some ⟨.commit .settings [.settings { now with season := nat8At fields 0 }], 13, src, seq⟩
        store := { h.tsm.store with settings := ⟨.incomplete, false, []⟩ } } })) ∧
    (byteAt fields 0 ≠ 0xA5 →
      exec (.restart src seq access fields) s = .next (concluded s (answer ⟨src, seq, 14⟩ .sequence .none h))) ∧
    (byteAt fields 0 = 0xA5 →
      let a := answer ⟨src, seq, 14⟩ .done .none h
      exec (.restart src seq access fields) s = .next (concluded s { a with tsm := { a.tsm with restartPending := true } }))

/-- The end of a store write: the stored segment, lock or code, the answer, and the activation that becomes ready, which waits
while a pass runs. The boundary applies the waiting activations in their order (R108, R193), and each segment's content, or
its leaving VALID, takes effect in its owner: COMMITMENT (R132), PASSAGE (R173), TARIFF (R73, R74), SETTINGS and a season
change (R158, R159), ROUTE (R100), FLEET (R8, R101), YARD (R45, R199). What the entry into SAFE, the leaving of SAFE and a
round cut off by a YARD activation do stands behind it (R40, R153, R199, R28), the rebuilt departure list (R100 step 4, R93,
R90), and each station of a YARD activation (R22, R45, R58). The tariff evaluated again is stated in
`Obligations.MinuteAdvances`. Kept DUE entries that always stay and close in ROUTE order, new legs in the places left (log
28), the fill as the only refill of entries closed (log 61), all the legs taken listed before the first of them is judged (log
62), an activation that waits for a write with none running (log 45), PENDING under a clock not set (log 25), the record of a
station without a row (log 33), the completion of a cut off round inside the activation (log 56) and the order of the
telegrams of one step (log 23) are the model's choices. -/
def Obligations.StoreWriteEnds : Prop :=
  (∀ (w : Write) (s : State), s.power = true → s.tsm.write = some w →
    let m : MgmtHead := ⟨w.src, w.seq, w.op⟩
    let ready (a : Activation) (u : State) : State :=
      { u with tsm := { u.tsm with waiting := u.tsm.waiting.filter (fun x => x.seg ≠ a.seg) ++ [a] } }
    let applied (u : State) : State := if s.ale.pass = .idle ∧ s.tsm.restartPending = false then boundary u else u
    let idle (st : SegTable StoredSeg) : State := { s with tsm := { s.tsm with store := st, write := none } }
    let leaves (g : Segment) : Prop :=
      (s.tsm.active.get g).isSome = true ∨ ∃ a ∈ s.tsm.waiting, a.seg = g ∧ a.content.isSome = true
    (∀ g rows, w.job = .commit g rows →
      exec .storeWriteDone s = .next (finish (applied (ready ⟨g, some rows⟩
        (answer m .done .none (idle (s.tsm.store.set g ⟨.valid, (s.tsm.store.get g).lock, rows⟩)))))) ∧
      (leaves g →
        exec .storeWriteFault s = .next (finish (applied (ready ⟨g, none⟩
          (answer m .storeFault .none (idle (s.tsm.store.set g ⟨.incomplete, (s.tsm.store.get g).lock, []⟩))))))) ∧
      (¬ leaves g →
        exec .storeWriteFault s = .next (finish (applied
          (answer m .storeFault .none (idle (s.tsm.store.set g ⟨.incomplete, (s.tsm.store.get g).lock, []⟩))))))) ∧
    (∀ g, w.job = .release g →
      let written := answer m .done .none (idle (s.tsm.store.set g ⟨.empty, false, []⟩))
      let failed := answer m .storeFault .none (idle (s.tsm.store.set g ⟨.incomplete, false, []⟩))
      (leaves g →
        exec .storeWriteDone s = .next (finish (applied (ready ⟨g, none⟩ written))) ∧
        exec .storeWriteFault s = .next (finish (applied (ready ⟨g, none⟩ failed)))) ∧
      (¬ leaves g →
        exec .storeWriteDone s = .next (finish (applied written)) ∧
        exec .storeWriteFault s = .next (finish (applied failed)))) ∧
    (∀ g, w.job = .lock g →
      exec .storeWriteDone s = .next (finish (applied (answer m .done .none
        (idle (s.tsm.store.set g ⟨(s.tsm.store.get g).content, true, (s.tsm.store.get g).rows⟩))))) ∧
      exec .storeWriteFault s = .next (finish (applied (answer m .storeFault .none (idle s.tsm.store))))) ∧
    (∀ code, w.job = .setCode code →
      exec .storeWriteDone s = .next (finish (applied (answer m .done .none
        { s with tsm := { s.tsm with code := code, write := none } }))) ∧
      exec .storeWriteFault s = .next (finish (applied (answer m .storeFault .none (idle s.tsm.store)))))) ∧
  (∀ s : State,
    let put (g : Segment) (content : Option (List Row)) : State :=
      { s with tsm := { s.tsm with active := s.tsm.active.set g content } }
    let asked (u : State) : State :=
      if s.tsm.op = .starting then u else { u with ale := { u.ale with pending := true } }
    let gives (content : Option (List Row)) (rows : List Row) : Prop := content = some rows ∨ content = none ∧ rows = []
    let today (r : RouteRow) (season : Season) : LegOutcome :=
      if s.rdu.clock.set = false ∨ r.runs s.rdu.clock.weekday season = true then .pending else .notToday
    let abandoned (op : OpState) (cause : DropCause) : State :=
      let moved : State := { s with tsm := { s.tsm with op := op } }
      let ended : State := match s.rsu.active with
        | none => moved
        | some d => queueOut ⟨103, .outcome
          { id := d.id, dir := d.dir, endState := .abandoned, power := d.power, baseline := d.baseline, start := d.start
            stop := clockReading s, response := d.timer, outOfBand := d.outOfBand, delivered := d.delivered.tdiv 36000
            late := d.late, notReached := d.notReached || !d.stopped, shortfall := d.shortfall }⟩ moved
      match s.rsu.armed with
      | none => ended
      | some d => queueOut ⟨103, .notice (.armedDropped d.id cause) (clockReading s)⟩ ended
    boundary s = runTriggers
      (s.tsm.waiting.foldl (fun u a => applyActivation a u) { s with tsm := { s.tsm with waiting := [] } }) ∧
    (∀ (l : List CommitRow) (content : Option (List Row)), gives content (l.map .commitment) →
      applyActivation ⟨.commitment, content⟩ s = asked { put .commitment content with rsu := { s.rsu with slots := l } }) ∧
    (∀ (l : List PassageRow) (content : Option (List Row)), gives content (l.map .passage) →
      applyActivation ⟨.passage, content⟩ s = asked { put .passage content with sli := { s.sli with passage := l } }) ∧
    (∀ (l : List TariffRow) (content : Option (List Row)), gives content (l.map .tariff) →
      applyActivation ⟨.tariff, content⟩ s =
        asked (evalTariff { put .tariff content with sbu := { s.sbu with windows := l.map windowOf } })) ∧
    (∀ (g : Settings) (content : Option (List Row)), content = some [.settings g] ∨ content = none ∧ g = Settings.defaults →
      let band : Band := ⟨g.sFloor, g.sLo, g.sHi, g.sCeiling⟩
      let v : State := { put .settings content with
        tsm := { (put .settings content).tsm with settings := g }
        stp := { s.stp with band := band, table := s.frt.buses.mapIdx (fun k b =>
          storageEntryFor band b.capacity (storageAt s k).cls) } }
      let x := evalTariff (rebuildList { v with
        stp := { v.stp with season := seasonOf g.season }
        rdu := { s.rdu with legs := s.rdu.legs.map (fun l =>
          if l.outcome = .pending ∨ l.outcome = .notToday then { l with outcome := today l.row (seasonOf g.season) } else l) } })
      (seasonOf g.season = s.stp.season → applyActivation ⟨.settings, content⟩ s = asked v) ∧
      (seasonOf g.season ≠ s.stp.season →
        applyActivation ⟨.settings, content⟩ s = asked { x with stp := { x.stp with viewDue := true } })) ∧
    (∀ (l : List RouteRow) (content : Option (List Row)), gives content (l.map .route) →
      applyActivation ⟨.route, content⟩ s = asked (rebuildList { put .route content with
      rdu := { s.rdu with legs := l.map (fun r =>
        match findLeg s.rdu.legs r.legNo with
        | none => ⟨r, none, today r s.stp.season, false, false⟩
        | some o => ⟨r, o.substitute, if o.outcome = .pending ∨ o.outcome = .notToday then today r s.stp.season else o.outcome,
            false, false⟩) } })) ∧
    (∀ (l : List FleetRow) (content : Option (List Row)), TableSizes s → gives content (l.map .fleet) →
      let u := applyActivation ⟨.fleet, content⟩ s
      let slot (tag : List Byte) : Option Nat := (s.frt.tagMap.find? (fun e => e.1 = tag)).map Prod.snd
      let row (k : Nat) : Option Nat := (s.frt.tagMap.find? (fun e => e.2 = k)).bind (fun e => l.findIdx? (fun r => r.tag = e.1))
      u.frt.tagMap = l.mapIdx (fun k r => (r.tag, k)) ∧ u.frt.buses.length = l.length ∧
      (∀ k r, l[k]? = some r →
        let new : Bus := { fleetNo := r.fleetNo, tag := r.tag, capacity := r.capacity, v2g := r.v2g, cls := serviceClassOf r.cls
                           target := if r.target = 0 then none else some r.target, state := .unseen, post := none, held := none
                           nextLeg := none, nextDay := none, floor := 0, dischargeFloor := 0, verdict := .unknown, tier := .idle }
        ((slot r.tag).bind (busAt s) = none → busAt u k = some new) ∧
        (∀ j old, slot r.tag = some j → busAt s j = some old →
          busAt u k = some { old with
            fleetNo := r.fleetNo, tag := r.tag, capacity := r.capacity, v2g := r.v2g, cls := serviceClassOf r.cls
            target := new.target, held := old.held.map (fun h => { h with energy := min h.energy r.capacity }) }) ∧
        u.rdu.lastOutcomes[k]? = some ((slot r.tag).bind (fun j => s.rdu.lastOutcomes.getD j none))) ∧
      (∀ p, 4 ≤ p → p ≤ 67 →
        let q := postAt s p
        (q.bus = none → postAt u p = q) ∧
        (∀ k j, q.bus = some k → row k = some j → postAt u p = { q with bus := some j }) ∧
        (∀ k, q.bus = some k → row k = none → postAt u p =
          if q.state = .plugged then { q with bus := none, precond := false, state := .guest, mismatch := 0 }
          else { q with bus := none, precond := false })) ∧
      u.frt.plugQ = s.frt.plugQ ∧ u.rdu.legs = s.rdu.legs.map (fun x => { x with infeasible := false }) ∧
      u.rdu.list = s.rdu.list ∧ u.rdu.clock = s.rdu.clock ∧ u.sli = s.sli ∧ u.ylc = s.ylc ∧ u.sbu = s.sbu ∧ u.rsu = s.rsu ∧
      u.ale = (asked s).ale ∧ u.tsm = (put .fleet content).tsm ∧
      u.stp = { s.stp with table := u.frt.buses.map (fun b => storageEntryFor s.stp.band b.capacity
        (if b.cls = .parked ∧ b.state ≠ .withdrawn then .cls else .notParked)) }) ∧
    (∀ l : List YardRow, applyActivation ⟨.yard, some (l.map .yard)⟩ s = wantPass (yardArrived (closeRound
      ((List.range' 1 16).foldl (fun u c => activateStation l c u) (put .yard (some (l.map .yard))))))) ∧
    (s.tsm.op = .coordinating ∨ s.tsm.op = .island →
      applyActivation ⟨.yard, none⟩ s = wantPass (enterSafe (put .yard none))) ∧
    (s.tsm.op = .starting ∨ s.tsm.op = .safe → applyActivation ⟨.yard, none⟩ s = asked (put .yard none)) ∧
    -- the entry into SAFE
    (let told := trySend (abandoned .safe .safe)
     let u := enterSafe s
     u.sli = told.sli ∧ u.tsm = told.tsm ∧ u.tsm.op = .safe ∧ u.ylc = { s.ylc with curtailReq := true } ∧
     u.rsu = { s.rsu with active := none, armed := none } ∧
     u.ale = { s.ale with pending := s.ale.pending || s.rsu.active.isSome } ∧
     u.frt = s.frt ∧ u.sbu = s.sbu ∧ u.rdu = s.rdu ∧ u.stp = s.stp ∧ u.freeCount = s.freeCount) ∧
    -- the leaving of SAFE
    (s.tsm.op ≠ .safe → yardArrived s = s) ∧
    (s.tsm.op = .safe → s.tsm.silenceStanding = false → yardArrived s = { s with tsm := { s.tsm with op := .coordinating } }) ∧
    (s.tsm.op = .safe → s.tsm.silenceStanding = true →
      let dropped := abandoned .island .island
      let metered := s.sbu.meter = .fresh ∨ s.sbu.meter = .stale
      let told := if metered then notice (.meterFallback s.tsm.settings.fallbackBudget) dropped else dropped
      let u := yardArrived s
      u.sli = told.sli ∧ u.tsm = told.tsm ∧ u.tsm.op = .island ∧
      u.sbu = { s.sbu with
        imp := none, building := none, gridCap := none, breach := 0, meter := if metered then .fallback else s.sbu.meter } ∧
      u.rsu = { s.rsu with active := none, armed := none } ∧
      u.ale = { s.ale with pending := s.ale.pending || s.rsu.active.isSome } ∧
      u.ylc = s.ylc ∧ u.frt = s.frt ∧ u.rdu = s.rdu ∧ u.stp = s.stp ∧ u.freeCount = s.freeCount) ∧
    -- a round cut off
    (let stationAbove (c : Nat) : Prop := ∃ d, c < d ∧ IsStation d ∧ (cabAt s d).configured = true
     ((∀ c, s.ylc.round = .between c → stationAbove c) → closeRound s = s) ∧
     (∀ c, s.ylc.round = .between c → ¬ stationAbove c →
       let cut := evalBand { s with
         ylc := { s.ylc with round := .idle }
         ale := { s.ale with
           timer := s.ale.timer.map (fun _ => 0), pending := s.ale.pending || decide (s.tsm.op ≠ .starting) } }
       closeRound s =
         if s.ylc.roundDue then { cut with ylc := { cut.ylc with roundDue := false, roundWanted := true } } else cut))) ∧
  -- the departure list rebuilt
  (∀ s : State,
    let minute := s.rdu.clock.minute
    let withList (l : List DepEntry) (u : State) : State := { u with rdu := { u.rdu with list := l } }
    let notDeparted (n : Nat) (u : State) : State := { u with rdu := { u.rdu with
      legs := u.rdu.legs.map (fun l => if l.row.legNo = n then { l with outcome := .notDeparted } else l) } }
    let closed (l : Leg) (u : State) : State :=
      if l.outcome = .pending then
        match legSlot u l with
        | none => notDeparted l.row.legNo u
        | some k => writeOutcome l.row.legNo k .notDeparted u
      else u
    let stays (e : DepEntry) : Bool := e.due.isSome && match findLeg s.rdu.legs e.legNo with
      | none => false
      | some l => decide (l.outcome = .pending ∧ l.row.departure ≤ minute)
    let kept := s.rdu.list.filter stays
    let places := s.rdu.legs.filterMap (fun l => kept.find? (fun e => e.legNo = l.row.legNo))
    let shut := places.foldl (fun u e => match findLeg u.rdu.legs e.legNo with
      | none => u
      | some l =>
        if l.row.departure + s.tsm.settings.grace ≤ minute then
          let v := closed l u
          withList (v.rdu.list.filter (fun d => d.legNo ≠ e.legNo)) v
        else u) (withList places s)
    let stay := shut.rdu.list
    let isOpen (l : Leg) : Bool := l.outcome = .pending && decide (minute < l.row.departure + s.tsm.settings.grace)
    let joins (l : Leg) : Bool := isOpen l && !stay.any (fun e => e.legNo = l.row.legNo)
    let taken := shut.rdu.legs.zipIdx.filterMap (fun q => match stay.find? (fun e => e.legNo = q.1.row.legNo) with
      | some e => some e
      | none =>
        if isOpen q.1 = true ∧ ((shut.rdu.legs.take q.2).filter joins).length < 8 - stay.length
        then some ⟨q.1.row.legNo, none⟩ else none)
    (s.rdu.clock.set = false → rebuildList s = withList [] s) ∧
    (s.rdu.clock.set = true → rebuildList s =
      taken.foldl (fun u e => fallDue (fun l => l.row.departure ≤ minute) e.legNo u) (withList taken shut))) ∧
  (∀ (c : Nat) (l : List YardRow) (s : State), IsStation c → TableSizes s →
    let old := cabAt s c
    let u := activateStation l c s
    let idle (m : Option Mode) : Sequencer := ⟨.done, m, none, none, 0, [], [], 0, none⟩
    let stands := old.age < s.tsm.settings.fallbackTime * 10
    SameElsewhere c s u ∧
    (l.find? (fun r => r.station = c) = none → old.configured = false → u = s) ∧
    (l.find? (fun r => r.station = c) = none → old.configured = true →
      cabAt u c = { old with
        configured := false, link := if stands then .offline else .unconfigured, bidir := false, ratings := [0, 0, 0, 0]
        desired := none, reported := none, pool := idle none } ∧
      (∀ i, i < 4 → (postAt u (c * 4 + i)).state = .offline ∧ (postAt u (c * 4 + i)).bus = none ∧
        (postAt u (c * 4 + i)).rating = 0 ∧
        (postAt u (c * 4 + i)).sentGrant = if stands then (postAt s (c * 4 + i)).sentGrant else 0) ∧
      u.frt.plugQ = s.frt.plugQ.filter (fun e => e.cabinet ≠ c) ∧
      (∀ k, (∃ i, i < 4 ∧ (postAt s (c * 4 + i)).bus = some k) → busAt u k = (busAt s k).map (fun b =>
        { b with post := none, state := if b.state = .withdrawn then .withdrawn else .yard })) ∧
      (∀ k, (∀ i, i < 4 → (postAt s (c * 4 + i)).bus ≠ some k) → busAt u k = busAt s k) ∧
      (s.ylc.link = .poolAwait c → u.ylc.link = .free) ∧
      (∀ d, d ≠ c → s.ylc.link = .poolAwait d → u.ylc.link = .poolAwait d) ∧
      u.ylc.poolClaim = (if s.ylc.poolClaim = some c then none else s.ylc.poolClaim) ∧
      (∀ w p, s.ylc.round = .visit c w p → u.ylc.round = .between c ∧ u.ylc.fwdClaim = true ∧
        ∀ t g, s.ylc.link = .exchange t g → u.ylc.link = .free) ∧
      (∀ d w p, s.ylc.round = .visit d w p → d ≠ c → u.ylc.round = s.ylc.round)) ∧
    (∀ r, l.find? (fun r => r.station = c) = some r →
      let m := modeOfMap r.map
      (old.configured = true →
        (cabAt u c).configured = true ∧ (cabAt u c).bidir = r.bidir ∧ (cabAt u c).ratings = r.ratings ∧ (cabAt u c).desired = m ∧
        (cabAt u c).link = old.link ∧ (cabAt u c).misses = old.misses ∧ (cabAt u c).age = old.age ∧
        (cabAt u c).lastSeq = old.lastSeq ∧ (cabAt u c).restartAck = old.restartAck ∧ (cabAt u c).reported = old.reported ∧
        ∀ d, m = some d →
          let rowed : State := { s with ylc := { s.ylc with
            cabinets := s.ylc.cabinets.set (c - 1) { old with bidir := r.bidir, ratings := r.ratings, desired := m } } }
          let seen := if old.reported = none then setModeInForce c m rowed else rowed
          u = wantMode c d (if old.ratings = r.ratings then seen else refeedAll c seen)) ∧
      (old.configured = false → old.link = .offline →
        cabAt u c = { old with configured := true, bidir := r.bidir, ratings := r.ratings, desired := m, pool := idle m }) ∧
      (old.configured = false → old.link ≠ .offline →
        cabAt u c = { configured := true, link := .unseen, misses := 0, age := 65535, lastSeq := none, restartAck := false
                      bidir := r.bidir, ratings := r.ratings, desired := m, reported := none, pool := idle m } ∧
        ∀ i, i < 4 → (postAt u (c * 4 + i)).state = .unknown ∧ (postAt u (c * 4 + i)).bus = (postAt s (c * 4 + i)).bus ∧
          (postAt u (c * 4 + i)).rating = pooledRating r.ratings m i)))

/-! ### Site traffic toward the yard -/

/-- PASS_THROUGH: the first row of the passage table that matches decides; a forwarded telegram joins the yard forward
queue, or its source is told that the queue is full. -/
def Obligations.PassThroughIsForwarded : Prop :=
  ∀ (t : Telegram) (s : State), s.power = true →
    let h := heard s
    let row := h.sli.passage.find? (fun r => r.fits .yard t.kind t.src t.dst)
    (h.tsm.op = .starting ∨ row = none ∨ (∃ r, row = some r ∧ 2 ≤ r.action) →
      exec (.passThrough t) s = .next (concluded s h)) ∧
    (∀ r, h.tsm.op ≠ .starting → row = some r → r.action ≤ 1 → h.ylc.fwdQ.length < 8 →
      exec (.passThrough t) s = .next (concluded s { h with ylc := { h.ylc with fwdQ := h.ylc.fwdQ ++ [t] } })) ∧
    (∀ r, h.tsm.op ≠ .starting → row = some r → r.action ≤ 1 → 8 ≤ h.ylc.fwdQ.length →
      exec (.passThrough t) s =
        .next (concluded s (queueOut ⟨t.src, .notice (.forwardRefused t.kind t.dst t.seq) (clockReading h)⟩ h)))

/-- SETREQ: dropped, forwarded unchanged, or, under CLAMP, refused or taken: the request cap and the boost of the post, the
clamped telegram forwarded, and the reply. The cap field of a refusal is the model's reading (log 14). -/
def Obligations.SetreqIsJudged : Prop :=
  ∀ (dst src seq : Byte) (l : List Byte) (s : State), s.power = true → l.length = 4 → (heard s).tsm.op ≠ .starting →
    let h := heard s
    let position := nat8At l 0
    let boost := flagAt (byteAt l 3) 0
    let p := dst.toNat * 4 + position
    let named := (1 ≤ dst.toNat ∧ dst.toNat ≤ 16) ∧ position ≤ 3
    let q := postAt h p
    let served := q.state = .plugged ∨ q.state = .guest
    let cap : Option Int := if nat16At l 1 = 0xFFFF then none else some (max 0 (int16At l 1))
    let v := min (cap.getD (max 0 q.grant)) (max 0 q.grant)
    let reply (r : SetreqResult) (c : Option Int) : OutMsg := ⟨src, .setreqReply ⟨dst, byteAt l 0, seq, r, c⟩⟩
    let old : Option Int := if named then q.requestCap else none
    let act := passageAction h .yard 0x20 src dst
    (act = .drop → exec (.setreq dst src seq l) s = .next (concluded s (queueOut (reply .dropped old) h))) ∧
    (act = .forward → h.ylc.fwdQ.length < 8 → exec (.setreq dst src seq l) s =
      .next (concluded s { h with ylc := { h.ylc with fwdQ := h.ylc.fwdQ ++ [⟨dst, src, 0x20, seq, l⟩] } })) ∧
    (act = .forward → 8 ≤ h.ylc.fwdQ.length → exec (.setreq dst src seq l) s =
      .next (concluded s (queueOut ⟨src, .notice (.forwardRefused 0x20 dst seq) (clockReading h)⟩ h))) ∧
    (act = .clamp →
      (¬ named → exec (.setreq dst src seq l) s = .next (concluded s (queueOut (reply .badPost none) h))) ∧
      (named → ¬ served →
        exec (.setreq dst src seq l) s = .next (concluded s (queueOut (reply .notPlugged q.requestCap) h))) ∧
      (named → served → 8 ≤ h.ylc.fwdQ.length →
        exec (.setreq dst src seq l) s = .next (concluded s (queueOut (reply .linkBusy q.requestCap) h))) ∧
      (TableSizes h → named → served → h.ylc.fwdQ.length < 8 → (boost = false ∨ q.boost = true) →
        exec (.setreq dst src seq l) s = .next (concluded s (queueOut (reply (.granted v) cap)
          { h with
            frt := { h.frt with posts := h.frt.posts.set (p - 4) { q with requestCap := cap, boost := boost } }
            ylc := { h.ylc with fwdQ := h.ylc.fwdQ ++ [⟨dst, src, 0x20, seq, setreqPayload position v boost⟩] } }))) ∧
      (TableSizes h → named → served → h.ylc.fwdQ.length < 8 → boost = true → q.boost = false →
        ∃ u : State, u = trigger { h with
            frt := { h.frt with posts := h.frt.posts.set (p - 4) { q with requestCap := cap, boost := true } } } ∧
          exec (.setreq dst src seq l) s = .next (concluded s (queueOut (reply (.granted v) (postAt u p).requestCap)
            { u with ylc := { u.ylc with fwdQ := u.ylc.fwdQ ++ [⟨dst, src, 0x20, seq, setreqPayload position v true⟩] } }))))

/-! ### The yard survey -/

/-- The timers at their limits. ROUND_TIMER_EXPIRY: a round becomes due, or is marked due behind the one in progress.
PASS_TIMER_EXPIRY triggers a pass. QUIESCE_TIMEOUT: the change goes on. ANSWER_AGE_FALLBACK: the charge-back ends, and a
cabinet not configured becomes UNCONFIGURED with its sent grants 0.0. That the command sets its timer to the limit is the
model's reading (log 3), and so is that the round timer counts on from 0 after an expiry (log 17). -/
def Obligations.TimersAtTheirLimits : Prop :=
  ∀ (c : Nat) (s : State), s.power = true → IsStation c → TableSizes s →
    let set (r : Cabinet) : State := { s with ylc := { s.ylc with cabinets := s.ylc.cabinets.set (c - 1) r } }
    let old := cabAt s c
    let age := max old.age (min 65535 (s.tsm.settings.fallbackTime * 10))
    (s.tsm.op ≠ .starting → s.ylc.round = .idle →
      exec .roundTimerExpiry s = .next (finish { s with ylc := { s.ylc with
        roundTimer := s.ylc.roundTimer.map (fun _ => 0), roundWanted := true } })) ∧
    (s.tsm.op ≠ .starting → s.ylc.round ≠ .idle →
      exec .roundTimerExpiry s = .next (finish { s with ylc := { s.ylc with
        roundTimer := s.ylc.roundTimer.map (fun _ => 0), roundDue := true } })) ∧
    (s.tsm.op ≠ .starting →
      exec .passTimerExpiry s = .next (finish (trigger { s with ale := { s.ale with timer := some 0 } }))) ∧
    (old.pool.state = .quiesce →
      exec (.quiesceTimeout c) s =
        .next (finish (set { old with pool := { old.pool with state := .sent, timer := 100 } }))) ∧
    (old.link = .offline → old.configured = true →
      exec (.answerAgeFallback c) s = .next (finish (set { old with age := age }))) ∧
    (old.link = .offline → old.configured = false →
      ∃ u, exec (.answerAgeFallback c) s = .next (finish u) ∧
        u.ylc = (set { old with age := age, link := .unconfigured }).ylc ∧
        (∀ i, i < 4 → postAt u (c * 4 + i) = { postAt s (c * 4 + i) with sentGrant := 0 }) ∧
        SameElsewhere c s u ∧ u.frt.buses = s.frt.buses ∧ u.frt.tagMap = s.frt.tagMap ∧ u.frt.plugQ = s.frt.plugQ ∧
        u.sli = s.sli ∧ u.sbu = s.sbu ∧ u.rdu = s.rdu ∧ u.ale = s.ale ∧ u.rsu = s.rsu ∧ u.stp = s.stp ∧ u.tsm = s.tsm ∧
        u.freeCount = s.freeCount)

/-- A STATUS taken in its visit (R32): a new restart first (R39, R23); link state ONLINE, no misses, answer age 0, the sent
grants those of the EXCHANGE answered; the mode; the four reports clamped (R34, R35: with the rating that follows this very
STATUS's mode, log 48), the located buses' held values (R4), the occupancy comparison (R20, R21; a post whose state the STATUS
itself changed is not compared, log 18), settling (R12); then the events (R36) and the STATUS-FWD copy (R178). The sequencer
takes the mode (`Obligations.PoolSendingEnds`) and then the quiet marks (R52). Every other cabinet and post as before; the
visit ends with an answer. `v` is the part when its reports have been taken. The order of the telegrams queued is the model's
choice (log 23). What one occupancy comparison and one refusal do stands behind it; that a refusal under a marker already set
changes nothing, a PLUG_QUEUE_FULL flag cleared meanwhile among it, is the model's choice (log 49). That a repeated event, or
one of a kind the part does not know, counts as an event for its post in the comparison is the model's choice (log 60). -/
def Obligations.StatusIsTaken : Prop :=
  (∀ (src seq : Byte) (payload : List Byte) (m : StatusMsg) (c waits : Nat) (grants : List Int) (s : State),
    s.power = true → TableSizes s → IsStation c → Awaits s c waits grants → src.toNat = c →
    parseStatus payload = some m →
    let v := applyReports c m grants (yardHeard s)
    let o := offerEvents c false m.events v
    let four : List Nat := [c * 4, c * 4 + 1, c * 4 + 2, c * 4 + 3]
    let u : State := match passageAction o.1 .site 0x80 src 100 with
      | .drop => o.1
      | _ => queueOut ⟨102, .statusFwd
        { cabinet := c, restarted := m.restarted, mode := m.mode
          reports := four.map (fun p => (postAt o.1 p).report), states := four.map (fun p => (postAt o.1 p).state)
          sent := grants, events := m.events.zip o.2 }⟩ o.1
    let fresh := m.restarted = true ∧ (cabAt s c).restartAck = false
    exec (.yardStatus src seq payload) s = .next (finish (endVisit c true u)) ∧
      (cabAt u c).link = .online ∧ (cabAt u c).misses = 0 ∧ (cabAt u c).age = 0 ∧ (cabAt u c).restartAck = m.restarted ∧
      (cabAt u c).configured = (cabAt s c).configured ∧ (cabAt u c).ratings = (cabAt s c).ratings ∧
      (cabAt u c).desired = (cabAt s c).desired ∧
      (∀ x, modeOfCode m.mode = some x → (cabAt u c).reported = some x ∧ (cabAt u c).pool.inForce = some x) ∧
      (modeOfCode m.mode = none → (cabAt u c).reported = (cabAt s c).reported ∧
        (cabAt u c).pool.inForce = (cabAt s c).pool.inForce) ∧
      (∀ i, i < 4 → ∃ r t, m.reports[i]? = some r ∧ (postAt u (c * 4 + i)).report = some t ∧
        (postAt u (c * 4 + i)).sentGrant = grants.getD i 0 ∧
        t.occupied = r.occupied ∧ t.measured = r.measured ∧
        t.held = r.held.map (fun h => match (postAt u (c * 4 + i)).bus.bind (busAt s) with
          | none => h
          | some b => min h b.capacity) ∧
        t.accept = clampInt 0 (postAt u (c * 4 + i)).rating r.accept ∧
        t.deliver = (if (cabAt s c).bidir then clampInt 0 (postAt u (c * 4 + i)).rating r.deliver else 0) ∧
        t.temp = r.temp.map (clampInt (-50) 60) ∧ t.fault = r.fault) ∧
      SameElsewhere c s u ∧ u.sbu = s.sbu ∧ u.rdu = s.rdu ∧ u.rsu = s.rsu ∧ u.stp = s.stp ∧
      u.tsm.store = s.tsm.store ∧ u.tsm.op = s.tsm.op ∧ u.ylc.round = s.ylc.round ∧ u.ylc.fwdQ = s.ylc.fwdQ ∧
      -- the sequencer: the restart, the mode reported, and the quiet marks
      (let e := (cabAt (reportMode c m.mode (statusLink c grants (statusRestart c m.restarted (yardHeard s)))) c).pool
       let quiet := e.quiesce.filter (fun i => decide (i ∈ e.quiet) || (decide (grants.getD i 0 = 0) && match m.reports[i]? with
         | none => false
         | some r => decide (-5 ≤ r.measured ∧ r.measured ≤ 5)))
       (e.state = .done ∨ e.state = .failed → (cabAt u c).pool = e) ∧
       (e.state = .quiesce → (∀ i ∈ e.quiesce, i < 4) →
         (cabAt u c).pool = { e with quiet := quiet, state := if quiet = e.quiesce then .sent else .quiesce }) ∧
       (e.state = .sent ∨ e.state = .await → (∀ i ∈ e.quiesce, i < 4) → (cabAt u c).pool = { e with quiet := quiet })) ∧
      -- the restart
      (cabAt v c).lastSeq = (if fresh then none else (cabAt s c).lastSeq) ∧
      (fresh → v.frt.plugQ = s.frt.plugQ.filter (fun e => e.cabinet ≠ c) ∧
        (modeOfCode m.mode = none → (cabAt v c).pool = { (cabAt s c).pool with
          state := .done, target := none, pending := none, attempts := 0, quiesce := [], quiet := [], cause := none }) ∧
        ∀ i k b, i < 4 → (postAt s (c * 4 + i)).bus = some k → busAt s k = some b →
          busAt v k = some { b with post := none, state := if b.state = .withdrawn then .withdrawn else .yard }) ∧
      (s.frt.plugQ.length ≤ 28 → fresh ∨ (cabAt s c).pool.target = none →
        let restarted := if fresh then notice (.cabinetRestarted c) s else s
        let told := if (cabAt s c).link = .offline then notice .cabinetOnline restarted else restarted
        v.sli = told.sli ∧ v.tsm = told.tsm) ∧
      -- the buses and the states of the posts
      (∀ i, i < 4 →
        (postAt u (c * 4 + i)).bus = if fresh then none else (postAt s (c * 4 + i)).bus) ∧
      (∀ i k b r, i < 4 → ¬ fresh → m.reports[i]? = some r → (postAt s (c * 4 + i)).bus = some k → busAt s k = some b →
        (∀ j, j < 4 → j ≠ i → (postAt s (c * 4 + j)).bus ≠ some k) →
        busAt u k = some { b with held := match r.held with
          | none => b.held
          | some h => some ⟨min h b.capacity, 0, 0⟩ }) ∧
      (∀ k, (∀ i, i < 4 → (postAt s (c * 4 + i)).bus ≠ some k) → busAt u k = busAt s k) ∧
      (∀ i r, i < 4 → m.reports[i]? = some r →
        let p := c * 4 + i
        let q := postAt s p
        let z := postAt v p
        let disagree := (q.state = .empty ∧ r.occupied = true) ∨
          ((q.state = .plugged ∨ q.state = .guest ∨ q.state = .held) ∧ r.occupied = false)
        let known := (∃ e ∈ m.events, e.position.toNat = i) ∨ (∃ e ∈ s.frt.plugQ, e.cabinet * 4 + e.position = p)
        (fresh ∨ q.state = .unknown ∨ q.state = .offline → z.state =
          if feedsInForce (cabAt v c).pool.inForce i = [] then .disabled
          else if 0 < r.fault then .faulted
          else if z.bus.isSome then .plugged
          else if r.occupied then .guest else .empty) ∧
        (¬ fresh → q.state = .empty ∨ q.state = .plugged ∨ q.state = .guest ∨ q.state = .held →
          modeOfCode m.mode = none ∨ modeOfCode m.mode = (cabAt s c).pool.inForce →
          (¬ disagree → z.state = q.state ∧ z.mismatch = 0) ∧
          (disagree → known → z.state = q.state ∧ z.mismatch = q.mismatch) ∧
          (disagree → ¬ known → q.mismatch < 2 → z.state = q.state ∧ z.mismatch = q.mismatch + 1) ∧
          (disagree → ¬ known → 2 ≤ q.mismatch →
            (q.state = .empty → z.state = .guest ∧ z.mismatch = 0) ∧ (q.state = .held → z.state = .empty ∧ z.mismatch = 0) ∧
            (q.state = .plugged ∨ q.state = .guest → s.frt.plugQ.length ≤ 28 →
              z.state = q.state ∧ z.mismatch = 0 ∧ ⟨c, i, .unplugged, [], none⟩ ∈ v.frt.plugQ) ∧
            (q.state = .plugged ∨ q.state = .guest → 32 ≤ s.frt.plugQ.length → z.state = q.state ∧ z.mismatch = 3))))) ∧
  (∀ (p : Nat) (before : PostState) (occupied spoken : Bool) (s : State), 4 ≤ p → p ≤ 67 → TableSizes s →
    let q := postAt s p
    let set (r : Post) : State := { s with frt := { s.frt with posts := s.frt.posts.set (p - 4) r } }
    let holding := before = .unknown ∨ before = .faulted ∨ before = .disabled ∨ before = .offline
    let disagree := (before = .empty ∧ occupied = true) ∨
      ((before = .plugged ∨ before = .guest ∨ before = .held) ∧ occupied = false)
    let known := spoken = true ∨ ∃ e ∈ s.frt.plugQ, e.cabinet * 4 + e.position = p
    let result (t : State) := compareOccupancy p before occupied spoken s = t
    (holding ∨ q.state ≠ before → result s) ∧
    (¬ holding → q.state = before →
      (¬ disagree → result (set { q with mismatch := 0 })) ∧
      (disagree → known → result s) ∧
      (disagree → ¬ known → q.mismatch < 2 → result (set { q with mismatch := q.mismatch + 1 })) ∧
      (disagree → ¬ known → 2 ≤ q.mismatch →
        (before = .empty → result (set { q with state := .guest, mismatch := 0 })) ∧
        (before = .held → result (set { q with
          state := .empty, grant := 0, prevGrant := 0, requestCap := none, boost := false, mismatch := 0 })) ∧
        (before = .plugged ∨ before = .guest → s.frt.plugQ.length < 32 →
          let t := set { q with mismatch := 0 }
          result { t with frt := { t.frt with plugQ := s.frt.plugQ ++ [⟨p / 4, p % 4, .unplugged, [], none⟩] } }) ∧
        (before = .plugged ∨ before = .guest → 32 ≤ s.frt.plugQ.length →
          result (refuseEvent (set { q with mismatch := 3 })))))) ∧
  (∀ s : State,
    (s.ylc.refusal = true → refuseEvent s = s) ∧
    (s.ylc.refusal = false → refuseEvent s = notice .plugQueueFull { s with
      ylc := { s.ylc with refusal := true }, tsm := { s.tsm with plugFull := true } }))

/-- The events of a STATUS, one after another: a repeated sequence is DUPLICATE; a new one of an unknown position or kind is
taken and IGNORED; a new one joins the plug event queue while it has room, and is otherwise REFUSED with every event after it.
Which judgement an event takes that is refused behind another is the model's reading (log 20). -/
def Obligations.EventsAreOffered : Prop :=
  ∀ (c : Nat) (e : RawEvent) (l : List RawEvent) (s : State), IsStation c → TableSizes s →
    let fresh := ∀ n, (cabAt s c).lastSeq = some n →
      1 ≤ (e.seq.toNat + 256 - n % 256) % 256 ∧ (e.seq.toNat + 256 - n % 256) % 256 ≤ 127
    let taken : State := { s with ylc := { s.ylc with
      cabinets := s.ylc.cabinets.set (c - 1) { cabAt s c with lastSeq := some e.seq.toNat } } }
    let join (k : PlugKind) (tag : List Byte) : State := { taken with frt := { taken.frt with
      plugQ := taken.frt.plugQ ++ [⟨c, e.position.toNat, k, tag, some e.seq.toNat⟩] } }
    let next (j : Judgement) (u : State) := offerEvents c false (e :: l) s =
      ((offerEvents c false l u).1, j :: (offerEvents c false l u).2)
    offerEvents c true l s = (s, List.replicate l.length .refused) ∧
    (¬ fresh → next .duplicate s) ∧
    (fresh → 3 < e.position.toNat ∨ e.kind.toNat < 1 ∨ 4 < e.kind.toNat → next .ignored taken) ∧
    (fresh → e.position.toNat ≤ 3 → 1 ≤ e.kind.toNat ∧ e.kind.toNat ≤ 4 → 32 ≤ s.frt.plugQ.length →
      offerEvents c false (e :: l) s = (refuseEvent s, List.replicate (l.length + 1) .refused)) ∧
    (fresh → e.position.toNat ≤ 3 → s.frt.plugQ.length < 32 →
      (e.kind = 1 → next .accepted (join .plugged e.tag)) ∧ (e.kind = 2 → next .accepted (join .unplugged [])) ∧
      (e.kind = 3 → next .accepted (join .fault [])) ∧ (e.kind = 4 → next .accepted (join .faultClear [])))

/-- EXCHANGE_WAIT: below the wait limit the hold-off begins and the link is free; at the limit the WAIT is a miss.
WAIT_HOLD_OFF_EXPIRY: the EXCHANGE is to be sent again. REPLY_TIMEOUT: a miss. -/
def Obligations.WaitsAndMisses : Prop :=
  ∀ (src seq : Byte) (c waits : Nat) (grants : List Int) (s : State), s.power = true →
    (Awaits s c waits grants → src.toNat = c → waits < s.tsm.settings.waitLimit →
      exec (.exchangeWait src seq []) s = .next (finish { s with ylc := { s.ylc with
        framer := [], link := .free, round := .visit c (waits + 1) .holdOff } })) ∧
    (Awaits s c waits grants → src.toNat = c → s.tsm.settings.waitLimit ≤ waits →
      exec (.exchangeWait src seq []) s = .next (finish (missVisit c (yardHeard s)))) ∧
    (s.ylc.round = .visit c waits .holdOff →
      exec .waitHoldOffExpiry s = .next (finish { s with ylc := { s.ylc with round := .visit c waits .resend } })) ∧
    (Awaits s c waits grants → exec .replyTimeout s = .next (finish (missVisit c s)))

/-- A miss: the count rises to at most 7; below the miss limit an UNSEEN cabinet stays UNSEEN and another is MISSING; at the
limit it enters OFFLINE with its notice, its change in flight fails with its notice, and its posts enter OFFLINE at grant 0.0
and leave the ring. The visit ends without an answer. That CABINET_OFFLINE stands before POOLING_FAILED is the model's choice
(log 23). That the count of an OFFLINE cabinet goes on rising is the model's choice (log 64). -/
def Obligations.MissesTakeACabinetOffline : Prop :=
  ∀ (c : Nat) (s : State), IsStation c → TableSizes s →
    let old := cabAt s c
    let n := min 7 (old.misses + 1)
    let set (r : Cabinet) : State := { s with ylc := { s.ylc with cabinets := s.ylc.cabinets.set (c - 1) r } }
    let leaves (p : Nat) : Prop := p / 4 = c ∧ ((postAt s p).state = .plugged ∨ (postAt s p).state = .guest)
    let offline : State := notice (.cabinetOffline c) s
    let told : State := match old.pool.target with
      | none => offline
      | some m => if old.pool.state = .quiesce ∨ old.pool.state = .sent ∨ old.pool.state = .await then
          notice (.poolingFailed c m old.pool.attempts .offline) offline else offline
    (old.link = .offline → missVisit c s = endVisit c false (set { old with misses := n })) ∧
    (old.link = .unseen → n < s.tsm.settings.missLimit → missVisit c s = endVisit c false (set { old with misses := n })) ∧
    (old.link = .online ∨ old.link = .missing → n < s.tsm.settings.missLimit →
      missVisit c s = endVisit c false (set { old with misses := n, link := .missing })) ∧
    (old.link ≠ .offline → s.tsm.settings.missLimit ≤ n → ∃ u, missVisit c s = endVisit c false u ∧
      u.ylc = (set { old with
        link := .offline, misses := n
        pool := if old.pool.state = .quiesce ∨ old.pool.state = .sent ∨ old.pool.state = .await then { old.pool with
          state := .failed, target := none, pending := none, quiesce := [], quiet := [], cause := some .offline }
          else old.pool }).ylc ∧
      (∀ i, i < 4 → postAt u (c * 4 + i) =
        if (postAt s (c * 4 + i)).state = .offline then postAt s (c * 4 + i)
        else { postAt s (c * 4 + i) with state := .offline, grant := 0, requestCap := none, boost := false, mismatch := 0 }) ∧
      SameElsewhere c s u ∧ u.frt.buses = s.frt.buses ∧ u.frt.tagMap = s.frt.tagMap ∧ u.frt.plugQ = s.frt.plugQ ∧
      u.ale = { s.ale with ring := u.ale.ring, tiers := u.ale.tiers } ∧
      (∀ p, p ∈ u.ale.ring ↔ p ∈ s.ale.ring ∧ ¬ leaves p) ∧ u.ale.ring.Sublist s.ale.ring ∧
      (∀ p, 4 ≤ p → p ≤ 67 → (leaves p → u.ale.tiers[p - 4]? = some .idle) ∧
        (¬ leaves p → u.ale.tiers[p - 4]? = s.ale.tiers[p - 4]?)) ∧
      u.sli = told.sli ∧ u.tsm = told.tsm ∧ u.sbu = s.sbu ∧ u.rdu = s.rdu ∧ u.rsu = s.rsu ∧ u.stp = s.stp ∧
      u.freeCount = s.freeCount)

/-- A visit ends: the link is free for the claims, a POOL's first when the visit was answered and the sequencer stands in
SENT; behind the last configured station the round completes, which restarts the pass timer, triggers a pass, has the band
evaluated, and starts a round marked due (R28, R105). What the evaluation of the band makes of the ACTIVE dispatch: the
band, the response timer, the interval count and the out-of-band time (R145 to R147). -/
def Obligations.VisitsEndAndRoundsComplete : Prop :=
  (∀ (c : Nat) (answered : Bool) (s : State), IsStation c →
    let ended : State := { s with ylc := { s.ylc with
      link := .free, round := .between c, fwdClaim := true
      poolClaim := if answered = true ∧ (cabAt s c).pool.state = .sent then some c else none } }
    let done : State := evalBand (trigger { ended with
      ylc := { ended.ylc with round := .idle }, ale := { s.ale with timer := s.ale.timer.map (fun _ => 0) } })
    ((∃ d, c < d ∧ IsStation d ∧ (cabAt s d).configured = true) → endVisit c answered s = ended) ∧
    ((∀ d, c < d → IsStation d → (cabAt s d).configured = false) →
      endVisit c answered s =
        if done.ylc.roundDue then { done with ylc := { done.ylc with roundDue := false, roundWanted := true } } else done)) ∧
  (∀ s : State,
    (s.rsu.active = none → evalBand s = s) ∧
    (∀ d, s.rsu.active = some d →
      let half := max 10 (d.power * s.tsm.settings.tolerance / 100)
      let off := fleetMeasured s - (if d.dir = .up then d.baseline - d.power else d.baseline + d.power)
      let inside := off ≤ half ∧ -half ≤ off
      let becomes (e : Dispatch) := evalBand s = { s with rsu := { s.rsu with active := some e } }
      (d.stopped = false → inside → becomes { d with
        stopped := true, late := d.late || decide (d.resp * 10 < d.timer), interval := 0 }) ∧
      (d.stopped = false → ¬ inside → becomes { d with interval := 0 }) ∧
      (d.stopped = true → inside → becomes { d with interval := 0 }) ∧
      (d.stopped = true → ¬ inside → becomes { d with
        outOfBand := min 4294967295 (d.outOfBand + d.interval), interval := 0 })) ∧
    fleetMeasured s = ((List.range' 4 64).map (fun p =>
      if (cabAt s (p / 4)).link = .online ∨ (cabAt s (p / 4)).link = .missing then
        ((postAt s p).report.map Report.measured).getD 0 else 0)).sum)

/-- YARD_TELEGRAM_DISCARDED leaves the yard framer hunting and nothing else changes; so does a reply that no transaction
in progress awaits. -/
def Obligations.UnawaitedRepliesAreDiscarded : Prop :=
  ∀ (t : Telegram) (src seq : Byte) (payload : List Byte) (s : State), s.power = true →
    let h : State := { s with ylc := { s.ylc with framer := [] } }
    exec (.yardTelegramDiscarded t) s = .next (finish h) ∧
    ((∀ waits grants, ¬ Awaits s src.toNat waits grants) →
      exec (.yardStatus src seq payload) s = .next (finish h) ∧ exec (.exchangeWait src seq payload) s = .next (finish h)) ∧
    (s.ylc.link ≠ .poolAwait src.toNat →
      exec (.poolAck src seq payload) s = .next (finish h) ∧ exec (.poolWait src seq payload) s = .next (finish h)) ∧
    ((∀ f, s.ylc.link = .forward f → f.dst = 0 ∨ t.src ≠ f.dst ∨ t.dst = 100) →
      exec (.forwardReply t) s = .next (finish h))

/-- CURTAIL_SENT: every grant, previous grant and sent grant becomes 0.0, the turn count 0, a pass is asked for, and the
CURTAILED notice is queued. A running pass ends with its boundary (the model's choice where both serve, log 22). -/
def Obligations.CurtailZeroesTheGrants : Prop :=
  ∀ (tel : Telegram) (s : State), s.power = true → s.ylc.link = .curtail tel →
    let z : State := { s with
      frt := { s.frt with posts := s.frt.posts.map (fun q => { q with grant := 0, prevGrant := 0, sentGrant := 0 }) }
      ylc := { s.ylc with link := .free }
      ale := { s.ale with turn := 0 } }
    (s.ale.pass = .idle → exec .curtailSent s = .next (finish (notice .curtailed (trigger z)))) ∧
    (s.ale.pass = .running → s.tsm.op ≠ .starting →
      exec .curtailSent s = .next (finish (notice .curtailed (boundary
        { z with ale := { z.ale with pass := .idle, snap := none, pending := true } }))))

/-! ### Pooling -/

/-- POOL_SENT: the attempt count rises and the sequencer enters AWAIT, and with the sequencer in another state the link is
freed (the model's choice, log 40). Behind it, the sequencer's own rules: a wanted mode compared with the reported one begins
a change with its quiesce set at grant 0.0 (R51, R52); a STATUS of a change in flight marks quiet posts, and the last of them
moves the sequencer from QUIESCE to SENT (R52); a reported mode ends a change, forms its set again or adds to it (R54, R59);
the end as done (R55); and a YARD activation's desired mode (R57). That the failure cause becomes absent where FAILED is left
is the model's reading (log 46). -/
def Obligations.PoolSendingEnds : Prop :=
  (∀ (c : Nat) (tel : Telegram) (s : State), s.power = true → IsStation c → TableSizes s →
    s.ylc.link = .poolSending c tel →
    let old := cabAt s c
    (old.pool.state = .sent → exec .poolSent s = .next (finish { s with ylc := { s.ylc with
      link := .poolAwait c
      cabinets := s.ylc.cabinets.set (c - 1)
        { old with pool := { old.pool with state := .await, attempts := old.pool.attempts + 1 } } } })) ∧
    (old.pool.state ≠ .sent → exec .poolSent s = .next (finish { s with ylc := { s.ylc with link := .free } }))) ∧
  (∀ (c : Nat) (s : State), IsStation c → TableSizes s →
    let old := cabAt s c
    let q := old.pool
    let fedBy (m : Option Mode) (i : Nat) : List Nat := match m with
      | none => []
      | some x => feeds x i
    let differing (t : Mode) : List Nat := [0, 1, 2, 3].filter (fun i => fedBy q.inForce i ≠ feeds t i)
    let pooled (p : Sequencer) : Ylc := { s.ylc with cabinets := s.ylc.cabinets.set (c - 1) { old with pool := p } }
    let takes (p : Sequencer) (zeroed : List Nat) : State := { s with
      ylc := pooled p
      frt := { s.frt with posts := s.frt.posts.mapIdx (fun k r =>
        if k / 4 + 1 = c ∧ k % 4 ∈ zeroed then { r with grant := 0, prevGrant := 0 } else r) } }
    -- a wanted mode is compared with the reported one
    (∀ wanted, wanted = none ∨ old.reported = none ∨ wanted = old.reported → compareMode c wanted s = s) ∧
    (∀ r d, old.reported = some r → r ≠ d → compareMode c (some d) s = takes
      { q with
        state := .quiesce, target := some d, attempts := 0, cause := none, quiesce := differing d, quiet := [], timer := 0 }
      (differing d)) ∧
    -- the quiet marks
    (q.state = .done ∨ q.state = .failed → markQuiet c s = s) ∧
    (q.state = .quiesce ∨ q.state = .sent ∨ q.state = .await →
      let isStill (i : Nat) : Prop := (postAt s (c * 4 + i)).sentGrant = 0 ∧ -5 ≤ measuredOf (postAt s (c * 4 + i)) ∧
        measuredOf (postAt s (c * 4 + i)) ≤ 5
      let quiet := q.quiesce.filter (fun i => i ∈ q.quiet ∨ isStill i)
      markQuiet c s = takes { q with
        quiet := quiet, state := if q.state = .quiesce ∧ quiet = q.quiesce then .sent else q.state } []) ∧
    -- a change ends as done
    (∀ m, q.target = some m →
      let told := notice (.poolingDone c m q.attempts) s
      let ended : State := { told with ylc := pooled { q with
        state := .done, target := none, pending := none, quiesce := [], quiet := [] } }
      (q.pending = none → endDone c s = ended) ∧ (∀ w, q.pending = some w → endDone c s = compareMode c (some w) ended)) ∧
    -- a report of a mode
    (∀ code, modeOfCode code = none → reportMode c code s = s) ∧
    (∀ code m, modeOfCode code = some m → reportMode c code s = afterReport c m (decide (q.inForce ≠ some m))
      (setModeInForce c (some m) { s with ylc := { s.ylc with
        cabinets := s.ylc.cabinets.set (c - 1) { old with reported := some m } } })) ∧
    (∀ m moved, let follows (t : State) := afterReport c m moved s = t
      (q.state = .done → follows (compareMode c old.desired s)) ∧
      (∀ t, q.state = .quiesce → q.target = some t →
        (moved = false → follows s) ∧ (moved = true → m = t → follows (endDone c s)) ∧
        (moved = true → m ≠ t → follows (reformSet c t s))) ∧
      (∀ t, q.state = .sent → q.target = some t →
        (m = t → follows (endDone c s)) ∧ (m ≠ t → moved = false → follows s) ∧ (m ≠ t → moved = true → follows (joinSet c t s))) ∧
      (q.state = .await ∨ q.state = .failed → follows s)) ∧
    (∀ t, let set := differing t
      let joined := set.filter (fun i => i ∉ q.quiesce)
      let quiet := q.quiet.filter (fun i => i ∈ set)
      reformSet c t s = takes { q with
        target := some t, quiesce := set, quiet := quiet, state := if quiet = set then .sent else q.state
        timer := if joined = [] then q.timer else 0 } joined ∧
      joinSet c t s = takes { q with quiesce := q.quiesce ++ joined } joined) ∧
    -- a YARD activation's desired mode
    (∀ d, let follows (t : State) := wantMode c d s = t
      (q.state = .done → follows (compareMode c (some d) s)) ∧
      (q.state = .failed → follows (compareMode c (some d) (takes { q with state := .done, cause := none } []))) ∧
      (∀ t, q.state = .quiesce → q.target = some t →
        (d = t → follows s) ∧
        (d ≠ t → q.inForce = some d → follows (takes { q with state := .done, target := none, quiesce := [], quiet := [] } [])) ∧
        (d ≠ t → q.inForce ≠ some d → follows (reformSet c d s))) ∧
      (∀ t, q.state = .sent ∨ q.state = .await → q.target = some t →
        follows (takes { q with pending := if d = t then none else some d } []))))

/-- POOL_ACK, POOL_WAIT and POOL_REPLY_TIMEOUT: an accepted target becomes the mode in force and the reported mode, the change
is done with its notice, and the ratings and states of the posts follow the mode; a failed attempt goes back to SENT with its
cause, and the third ends the change as FAILED with its notice. Where a target is pending, the sequencer returns to DONE at
either end and the pending mode is compared with the reported one (R57), as `Obligations.PoolSendingEnds` states it. That a
POOL_ACK has 3 bytes and that any result but 0 rejects is the model's reading (log 15), and so is that a post in UNKNOWN or
OFFLINE keeps its state where the new mode leaves it without a module, until it is settled (log 19), and that the failure
cause of a third failure becomes absent where a pending target is taken up (log 46). -/
def Obligations.PoolRepliesAreTaken : Prop :=
  ∀ (c : Nat) (src seq hi lo : Byte) (target : Mode) (s : State), s.power = true → IsStation c → TableSizes s →
    s.ylc.link = .poolAwait c → src.toNat = c → (cabAt s c).pool.target = some target →
    let old := cabAt s c
    let reason := hi.toNat * 256 + lo.toNat
    let free (framer : List Byte) (p : Sequencer) : State := { s with ylc := { s.ylc with
      framer := framer, link := .free, cabinets := s.ylc.cabinets.set (c - 1) { old with pool := p } } }
    let again (cause : PoolCause) : Sequencer := { old.pool with state := .sent, cause := some cause }
    let failed (framer : List Byte) (cause : PoolCause) : State :=
      let n := notice (.poolingFailed c target old.pool.attempts cause) (free framer old.pool)
      { n with ylc := { n.ylc with cabinets := n.ylc.cabinets.set (c - 1) { old with pool := { old.pool with
        state := .failed, target := none, quiesce := [], quiet := [], cause := some cause } } } }
    let followed (w : Mode) (framer : List Byte) (cause : PoolCause) : State :=
      let n := notice (.poolingFailed c target old.pool.attempts cause) (free framer old.pool)
      compareMode c (some w) { n with ylc := { n.ylc with cabinets := n.ylc.cabinets.set (c - 1) { old with pool := { old.pool with
        state := .done, target := none, pending := none, quiesce := [], quiet := [], cause := none } } } }
    (∀ r : Byte, r ≠ 0 → old.pool.attempts < 3 →
      exec (.poolAck src seq [r, hi, lo]) s = .next (finish (free [] (again (.rejected reason))))) ∧
    (old.pool.attempts < 3 →
      exec (.poolWait src seq []) s = .next (finish (free [] (again (.rejected 0)))) ∧
      exec .poolReplyTimeout s = .next (finish (free s.ylc.framer (again .noReply)))) ∧
    (∀ r : Byte, r ≠ 0 → 3 ≤ old.pool.attempts → old.pool.pending = none →
      exec (.poolAck src seq [r, hi, lo]) s = .next (finish (failed [] (.rejected reason)))) ∧
    (3 ≤ old.pool.attempts → old.pool.pending = none →
      exec (.poolWait src seq []) s = .next (finish (failed [] (.rejected 0))) ∧
      exec .poolReplyTimeout s = .next (finish (failed s.ylc.framer .noReply))) ∧
    (∀ w, 3 ≤ old.pool.attempts → old.pool.pending = some w →
      (∀ r : Byte, r ≠ 0 →
        exec (.poolAck src seq [r, hi, lo]) s = .next (finish (followed w [] (.rejected reason)))) ∧
      exec (.poolWait src seq []) s = .next (finish (followed w [] (.rejected 0))) ∧
      exec .poolReplyTimeout s = .next (finish (followed w s.ylc.framer .noReply))) ∧
    (∃ u,
      (old.pool.pending = none → exec (.poolAck src seq [0, hi, lo]) s = .next (finish u)) ∧
      (∀ w, old.pool.pending = some w → exec (.poolAck src seq [0, hi, lo]) s = .next (finish (compareMode c (some w) u))) ∧
      let told := notice (.poolingDone c target old.pool.attempts) s
      let fed (p : Nat) : Prop := feeds target (p % 4) ≠ []
      let settled (q : Post) : PostState :=
        if 0 < (q.report.map Report.fault).getD 0 then .faulted
        else if q.bus.isSome then .plugged
        else if (q.report.map Report.occupied).getD false then .guest else .empty
      let leaves (p : Nat) : Prop := p / 4 = c ∧ ((postAt s p).state = .plugged ∨ (postAt s p).state = .guest) ∧ ¬ fed p
      u.ylc = { s.ylc with
        framer := [], link := .free
        cabinets := s.ylc.cabinets.set (c - 1) { old with reported := some target, pool := { old.pool with
          state := .done, inForce := some target, target := none, pending := none, quiesce := [], quiet := [] } } } ∧
      u.sli = told.sli ∧ u.tsm = told.tsm ∧
      (old.pool.inForce = some target → u.frt = s.frt ∧ u.ale = s.ale) ∧
      (old.pool.inForce ≠ some target →
        (∀ i, i < 4 →
          let q := postAt s (c * 4 + i)
          let v : Post := { q with rating := pooledRating old.ratings (some target) i }
          let enters (st : PostState) := postAt u (c * 4 + i) = { v with
            state := st, grant := if st = .plugged ∨ st = .guest then q.grant else 0
            prevGrant := if st = .empty then 0 else q.prevGrant
            requestCap := if st = .plugged ∨ st = .guest then q.requestCap else none
            boost := if st = .plugged ∨ st = .guest then q.boost else false, mismatch := 0 }
          let stays := postAt u (c * 4 + i) = v
          (q.state = .unknown ∨ q.state = .offline → stays) ∧
          (q.state ≠ .unknown → q.state ≠ .offline → q.state ≠ .disabled → fed i → stays) ∧
          (q.state ≠ .unknown → q.state ≠ .offline → q.state ≠ .disabled → ¬ fed i → enters .disabled) ∧
          (q.state = .disabled → ¬ fed i → stays) ∧
          (q.state = .disabled → fed i → enters (settled q))) ∧
        (∀ p, p ∈ u.ale.ring ↔ p ∈ s.ale.ring ∧ ¬ leaves p) ∧ u.ale.ring.Sublist s.ale.ring ∧
        (∀ p, 4 ≤ p → p ≤ 67 → (leaves p → u.ale.tiers[p - 4]? = some .idle) ∧
          (¬ leaves p → u.ale.tiers[p - 4]? = s.ale.tiers[p - 4]?))) ∧
      SameElsewhere c s u ∧ u.frt.buses = s.frt.buses ∧ u.frt.tagMap = s.frt.tagMap ∧ u.frt.plugQ = s.frt.plugQ ∧
      u.ale = { s.ale with ring := u.ale.ring, tiers := u.ale.tiers } ∧
      u.sbu = s.sbu ∧ u.rdu = s.rdu ∧ u.rsu = s.rsu ∧ u.stp = s.stp ∧ u.freeCount = s.freeCount)

/-! ### Forwarded telegrams -/

/-- FORWARD_REPLY, FORWARD_REPLY_TIMEOUT and FORWARD_BROADCAST_SENT free the link; the reply goes to the site where the
passage table lets it. -/
def Obligations.ForwardedTransactionsEnd : Prop :=
  ∀ (t f : Telegram) (s : State), s.power = true → s.ylc.link = .forward f →
    let free (framer : List Byte) : State := { s with ylc := { s.ylc with link := .free, framer := framer } }
    (f.dst ≠ 0 → t.src = f.dst → t.dst ≠ 100 → passageAction s .site t.kind t.src t.dst = .drop →
      exec (.forwardReply t) s = .next (finish (free []))) ∧
    (f.dst ≠ 0 → t.src = f.dst → t.dst ≠ 100 → passageAction s .site t.kind t.src t.dst ≠ .drop →
      exec (.forwardReply t) s = .next (finish (queueOut ⟨t.dst, .forwarded t⟩ (free [])))) ∧
    (f.dst ≠ 0 → exec .forwardReplyTimeout s = .next (finish (free s.ylc.framer))) ∧
    (f.dst = 0 → exec .forwardBroadcastSent s = .next (finish (free s.ylc.framer)))

/-! ### Meter, minute -/

/-- METER_STALE and METER_FALLBACK: the meter state, the age and the notice. That each sets its timer to the limit is the
model's choice (log 3). -/
def Obligations.MeterAges : Prop :=
  ∀ s : State, s.power = true →
    (s.sbu.meter = .fresh → exec .meterStale s = .next (finish (notice (.meterStale (s.sbu.building.getD 0))
      { s with sbu := { s.sbu with meter := .stale, age := 50, breach := 0 } }))) ∧
    (s.tsm.op ≠ .starting → s.sbu.meter = .stale ∨ s.sbu.meter = .none →
      exec .meterFallback s = .next (finish (notice (.meterFallback s.tsm.settings.fallbackBudget)
        { s with sbu := { s.sbu with meter := .fallback, age := 300 } })))

/-- MINUTE_ADVANCE: the clock shows the next minute, past 1439 the next day with every substitute gone; the departure list is
processed (R92, R93) or built (R84, R90); then the change is handed on: the tariff, a pass that an edge triggers, the slot
(R74, R135). That the edge's pass comes before the slot start's telegrams is the model's choice (log 23), and so is the order
of the telegrams an edge, an entry and a slot queue. Behind it: a slot start (R135, R168), the next leg (R87), the list built
(R90), an entry falling due (R92) or closing (R93), the outcome written, an entry leaving with the refill (R91), and the
judgement of an unplug (R94). That the entries close at minute 0 under the old weekday, and that every leg the refill takes in
then closes too, is the model's reading (log 27). And the tariff in force: its day type, the window that covers the minute,
past midnight too, its class and cap, and the edge that asks for a pass (R73, R74). That all the legs a build takes are listed
before the first of them is judged is the model's choice (log 62). -/
def Obligations.MinuteAdvances : Prop :=
  (∀ s : State, s.power = true → s.rdu.clock.set = true →
    let now (weekday minute : Nat) : State := { s with rdu := { s.rdu with clock := ⟨true, weekday, minute, 0, 0⟩ } }
    let later := now s.rdu.clock.weekday (s.rdu.clock.minute + 1)
    let fallen := s.rdu.list.foldl (fun v e => fallDue (fun l => l.row.departure = s.rdu.clock.minute + 1) e.legNo v) later
    let ended := s.rdu.list.foldl (fun v e => closeEntry true e.legNo v) (now s.rdu.clock.weekday 0)
    let tomorrow := (s.rdu.clock.weekday + 1) % 7
    let day : State := { ended with rdu := { ended.rdu with
      clock := ⟨true, tomorrow, 0, 0, 0⟩
      legs := ended.rdu.legs.map (fun l => { l with
        substitute := none, unassigned := false, infeasible := false
        outcome := if l.row.runs tomorrow s.stp.season then .pending else .notToday }) } }
    ∃ u, exec .minuteAdvance s = .next (finish (takeSlot (runTriggers (evalTariff u)))) ∧
      (s.rdu.clock.minute < 1439 →
        u = fallen.rdu.list.foldl (fun v e => closeEntry false e.legNo v) fallen ∧
        u.rdu.clock = { s.rdu.clock with minute := s.rdu.clock.minute + 1, second := 0, tick := 0 }) ∧
      (1439 ≤ s.rdu.clock.minute →
        u = buildList day ∧
        u.rdu.clock = { s.rdu.clock with weekday := (s.rdu.clock.weekday + 1) % 7, minute := 0, second := 0, tick := 0 } ∧
        (∀ l ∈ u.rdu.legs, l.substitute = none ∧ l.unassigned = false ∧ l.infeasible = false)) ∧
      u.rdu.legs.map Leg.row = s.rdu.legs.map Leg.row ∧
      u.frt = s.frt ∧ u.ylc = s.ylc ∧ u.sbu = s.sbu ∧ u.ale = s.ale ∧ u.rsu = s.rsu ∧ u.stp = s.stp ∧
      u.sli = { s.sli with
        out := u.sli.out, tx := u.sli.tx, overflow := u.sli.overflow, dropCount := u.sli.dropCount, ownSeq := u.sli.ownSeq
        orderCount := u.sli.orderCount } ∧
      u.tsm = { s.tsm with outOverflow := u.tsm.outOverflow } ∧ u.freeCount = s.freeCount) ∧
  (∀ s : State,
    let minute := s.rdu.clock.minute
    let slot := minute / 30
    let commit (d : Direction) : Int :=
      match s.rsu.slots[slot]? with
      | none => 0
      | some r => if r.enabled = false then 0 else if d = .up then r.up else r.down
    let side (d : Direction) (cap : Int) : Side := if commit d ≤ cap then .atOrAbove else .below
    let started : State := { s with rsu := { s.rsu with
      slot := some slot, upSide := some (side .up s.rsu.upCap), downSide := some (side .down s.rsu.downCap) } }
    (s.tsm.op = .starting ∨ s.rdu.clock.set = false ∨ s.rsu.slot = some slot → takeSlot s = s) ∧
    (s.tsm.op ≠ .starting → s.rdu.clock.set = true → s.rsu.slot ≠ some slot →
      takeSlot s = queueOut ⟨103, .storage ⟨s.stp.season, s.stp.band, s.stp.view⟩⟩ (queueOut ⟨103, .capability
        { slot := slot, left := 30 - minute % 30, upCap := s.rsu.upCap, downCap := s.rsu.downCap
          upCommit := commit .up, downCommit := commit .down
          active := s.rsu.active.map (fun d => ⟨d.id, d.dir, d.power⟩)
          armed := s.rsu.armed.map (fun d => ⟨d.id, d.dir, d.power⟩) }⟩ started))) ∧
  (∀ s : State,
    let minute := s.rdu.clock.minute
    let grace := s.tsm.settings.grace
    let isOpen (l : Leg) : Bool := l.outcome = .pending && decide (minute < l.row.departure + grace)
    let withList (l : List DepEntry) (u : State) : State := { u with rdu := { u.rdu with list := l } }
    let outcome (n : Nat) (o : LegOutcome) (u : State) : State := { u with rdu := { u.rdu with
      legs := u.rdu.legs.map (fun l => if l.row.legNo = n then { l with outcome := o } else l) } }
    let due (n : Nat) (v : Verdict) (u : State) : State :=
      withList (u.rdu.list.map (fun e => if e.legNo = n then { e with due := some v } else e)) u
    let without (n : Nat) (u : State) : State := withList (u.rdu.list.filter (fun e => e.legNo ≠ n)) u
    let departed (v : Verdict) : LegOutcome := if v = .ready then .departedReady else .departedShort
    let unclosed (l : Leg) (u : State) : State :=
      if l.outcome = .pending then
        match legSlot u l with
        | none => outcome l.row.legNo .notDeparted u
        | some k => writeOutcome l.row.legNo k .notDeparted u
      else u
    -- the next leg of a bus
    (∀ k, s.rdu.clock.set = true →
      let today := s.rdu.legs.find? (fun l => isOpen l && decide (legSlot s l = some k))
      let next := s.rdu.legs.find? (fun l => l.row.runs ((s.rdu.clock.weekday + 1) % 7) s.stp.season &&
        decide (l.row.departure ≤ minute) && decide (legSlot s { l with substitute := none } = some k))
      (∀ l, today = some l → findNextLeg s k = some ⟨l, l.row.departure - minute, false⟩) ∧
      (∀ l, today = none → next = some l → findNextLeg s k = some ⟨l, 1440 - minute + l.row.departure, true⟩) ∧
      (today = none → next = none → findNextLeg s k = none)) ∧
    -- the list built
    (s.rdu.clock.set = false → buildList s = withList [] s) ∧
    (s.rdu.clock.set = true →
      let taken : List DepEntry := ((s.rdu.legs.filter isOpen).take 8).map (fun l => ⟨l.row.legNo, none⟩)
      buildList s = taken.foldl (fun u e => fallDue (fun l => l.row.departure ≤ minute) e.legNo u) (withList taken s)) ∧
    -- an outcome written
    (∀ n k o, writeOutcome n k o s = queueReadiness k (outcome n o
      { s with rdu := { s.rdu with lastOutcomes := s.rdu.lastOutcomes.set k (some ⟨n, o⟩) } })) ∧
    -- an entry falls due, or closes
    (∀ n e l, s.rdu.list.find? (fun e => e.legNo = n) = some e → findLeg s.rdu.legs n = some l →
      (∀ when : Leg → Bool,
        (e.due.isSome = true ∨ when l = false → fallDue when n s = s) ∧
        (e.due = none → when l = true →
          (legSlot s l = none → fallDue when n s = due n .noLeg s) ∧
          (∀ k b, legSlot s l = some k → busAt s k = some b →
            (b.state ≠ .onRoute → fallDue when n s = queueReadiness k (due n b.verdict s)) ∧
            (b.state = .onRoute → fallDue when n s =
              leaveList false n (writeOutcome n k (departed b.verdict) (due n b.verdict s)))))) ∧
      (∀ endOfDay : Bool,
        (endOfDay = false → minute < l.row.departure + grace → closeEntry endOfDay n s = s) ∧
        (endOfDay = true ∨ l.row.departure + grace ≤ minute →
          closeEntry endOfDay n s = leaveList endOfDay n (unclosed l s)))) ∧
    -- an entry leaves, and the refill
    (∀ n endOfDay,
      let w := without n s
      let anchor := (w.rdu.list.getLast?.map DepEntry.legNo).getD n
      leaveList endOfDay n s = refillFrom endOfDay ((s.rdu.legs.dropWhile (fun l => l.row.legNo ≠ anchor)).drop 1) w) ∧
    (∀ endOfDay, refillFrom endOfDay [] s = s) ∧
    (∀ l ls endOfDay,
      let n := l.row.legNo
      let joined := withList (s.rdu.list ++ [⟨n, none⟩]) s
      let v : Verdict := match (legSlot s l).bind (busAt s) with
        | none => .noLeg
        | some b => b.verdict
      let away := ((legSlot s l).bind (busAt s)).map Bus.state = some .onRoute
      let told := match legSlot s l with
        | none => due n v joined
        | some k => queueReadiness k (due n v joined)
      (l.outcome ≠ .pending ∨ (∃ e ∈ s.rdu.list, e.legNo = n) →
        refillFrom endOfDay (l :: ls) s = refillFrom endOfDay ls s) ∧
      (l.outcome = .pending → (∀ e ∈ s.rdu.list, e.legNo ≠ n) →
        (endOfDay = false → minute < l.row.departure → refillFrom endOfDay (l :: ls) s = joined) ∧
        (endOfDay = true ∨ l.row.departure ≤ minute →
          (∀ k, legSlot s l = some k → away → refillFrom endOfDay (l :: ls) s =
            refillFrom endOfDay ls (without n (writeOutcome n k (departed v) (due n v joined)))) ∧
          (¬ away → endOfDay = false → minute < l.row.departure + grace → refillFrom endOfDay (l :: ls) s = told) ∧
          (¬ away → endOfDay = true ∨ l.row.departure + grace ≤ minute →
            refillFrom endOfDay (l :: ls) s = refillFrom endOfDay ls (without n (unclosed l told)))))) ∧
    -- the judgement of an unplug
    (∀ k, s.rdu.clock.set = false ∨ findNextLeg s k = none → judgeUnplug k s = s) ∧
    (∀ k b x, s.rdu.clock.set = true → busAt s k = some b → findNextLeg s k = some x →
      let n := x.leg.row.legNo
      let out : State := { s with frt := { s.frt with buses := s.frt.buses.set k { b with state := .onRoute } } }
      let o : LegOutcome := if min (legFloor s x.leg.row) b.capacity ≤ b.heldOr0 then .departedReady else .departedShort
      let written : State := outcome n o { out with rdu := { out.rdu with
        lastOutcomes := s.rdu.lastOutcomes.set k (some ⟨n, o⟩) } }
      (s.tsm.settings.earlyWindow < x.mins → judgeUnplug k s = s) ∧
      (x.mins ≤ s.tsm.settings.earlyWindow → x.tomorrow = true → judgeUnplug k s = out) ∧
      (x.mins ≤ s.tsm.settings.earlyWindow → x.tomorrow = false →
        ((∃ e ∈ s.rdu.list, e.legNo = n) → judgeUnplug k s = queueReadiness k (leaveList false n written)) ∧
        ((∀ e ∈ s.rdu.list, e.legNo ≠ n) → judgeUnplug k s = queueReadiness k written)))) ∧
  -- the tariff
  (∀ s : State,
    let m := s.rdu.clock.minute
    let day : DayType := if s.stp.season = .term ∧ s.rdu.clock.weekday ≤ 4 then .school else .other
    let covers (w : Window) : Prop := w.day = day ∧
      ((w.start < w.stop ∧ w.start ≤ m ∧ m < w.stop) ∨ (w.stop ≤ w.start ∧ (w.start ≤ m ∨ m < w.stop)))
    let known := s.rdu.clock.set = true
    ∃ t : Tariff,
      (¬ known → t = ⟨none, none, .shoulder, none⟩) ∧
      (known → (∀ w ∈ s.sbu.windows, ¬ covers w) → t = ⟨some day, none, .shoulder, none⟩) ∧
      (∀ l w l', known → s.sbu.windows = l ++ w :: l' → (∀ v ∈ l, ¬ covers v) → covers w →
        t = ⟨some day, some w, w.cls, w.cap⟩) ∧
      evalTariff s = { s with
        sbu := { s.sbu with tariff := t }
        ale := { s.ale with pending := s.ale.pending ||
          (decide (t.cls ≠ s.sbu.tariff.cls ∨ t.cap ≠ s.sbu.tariff.cap) && decide (s.tsm.op ≠ .starting)) } })

/-- The budget's terms: the limit in force, the offline charge-back, the site budget and the export floor; and the
precondition draw of each post's bus by its conditions and the precondition total (R69). The draw of a bus whose recorded leg
the table does not hold is stated in `Obligations.TriggersStartPasses`. -/
def Obligations.BudgetTerms : Prop :=
  ∀ s : State,
    let g := s.tsm.settings
    let load := s.sbu.building.getD 0
    let fallback := s.tsm.op = .island ∨ s.sbu.meter = .none ∨ s.sbu.meter = .fallback
    (limitInForce s ≤ g.importLimit ∧ (∀ cap, s.sbu.tariff.cap = some cap → limitInForce s ≤ cap) ∧
      (∀ cap, s.sbu.meter = .fresh → s.sbu.gridCap = some cap → limitInForce s ≤ cap) ∧
      (limitInForce s = g.importLimit ∨ s.sbu.tariff.cap = some (limitInForce s) ∨
        (s.sbu.meter = .fresh ∧ s.sbu.gridCap = some (limitInForce s)))) ∧
    chargeBack s = ((List.range' 4 64).map (fun p =>
      if (cabAt s (p / 4)).link = .offline ∧ (cabAt s (p / 4)).age < g.fallbackTime * 10 then
        max 0 (postAt s p).sentGrant else 0)).sum ∧
    fSite s = sat16 (if fallback then g.fallbackBudget
      else if s.sbu.meter = .stale then limitInForce s - (load + g.staleMargin) - g.safetyMargin - chargeBack s
      else limitInForce s - load - g.safetyMargin - chargeBack s) ∧
    fLo s = sat16 (if fallback then -g.exportLimit + g.safetyMargin else -(g.exportLimit + load) + g.safetyMargin) ∧
    -- the precondition draws
    (let draws (p : Nat) (x : Int) : Prop := preDraw s p = x
     (∀ p, s.rdu.clock.set = false ∨ (postAt s p).bus.bind (busAt s) = none → draws p 0) ∧
     (∀ p b, s.rdu.clock.set = true → (postAt s p).bus.bind (busAt s) = some b →
       (b.nextLeg = none → draws p 0) ∧
       (∀ l, b.nextLeg.bind (findLeg s.rdu.legs) = some l →
         let minute := s.rdu.clock.minute
         let mins : Nat := if l.outcome = .pending ∧ minute < l.row.departure + g.grace then l.row.departure - minute
           else 1440 - minute + l.row.departure
         let inWindow := b.state = .plugged ∧ (postAt s p).state = .plugged ∧ p % 4 ∉ (cabAt s (p / 4)).pool.quiesce ∧
           mins ≤ l.row.preMin
         (inWindow → draws p l.row.prePower) ∧ (¬ inWindow → draws p 0))) ∧
     pPre s = ((List.range' 4 64).map (preDraw s)).sum)

/-! ### Readiness and storage -/

/-- The verdict of a bus (R95); the energies of its storage entry, in the order of its band (R159); and its discharge floor at
the classification of a pass completion (R161). Behind it: its parked class (R160), the posts eligible for discharge as a
completion tests them (R118, R133, R165), the storage view (R166), and STORAGE (R167, R168). At a safe pass the posts tested
are read from the records as they stand (log 30). That a recorded leg which the table does not hold counts as no next leg is
the model's reading (log 24). -/
def Obligations.VerdictsAndStorageEntries : Prop :=
  (∀ (s : State) (b : Bus) (h : Held) (n : NextLeg) (floor p : Nat),
    let set := s.rdu.clock.set
    let mins : Int := n.mins
    let e : Int := h.energy
    let rate (r : Int) : Int := e + r * mins / 60
    let accept := ((postAt s p).report.map Report.accept).getD 0
    let bus (post : Option Nat) : Bus := { b with held := some h, post := post }
    let judged (post : Option Nat) (v : Verdict) := verdictOf s (bus post) (some n) floor = v
    let feasible := legFloor s n.leg.row ≤ b.capacity
    (∀ next, set = false → verdictOf s b next floor = .unknown) ∧
    (∀ next, b.held = none → verdictOf s b next floor = .unknown) ∧
    (set = true → verdictOf s (bus b.post) none floor = .noLeg) ∧
    (set = true → ¬ feasible → judged b.post .short) ∧
    (set = true → feasible → floor ≤ h.energy → judged b.post .ready) ∧
    (set = true → feasible → h.energy < floor →
      judged none .noPost ∧
      ((floor : Int) ≤ rate (postAt s p).grant → judged (some p) .onTrack) ∧
      (rate (postAt s p).grant < floor → floor ≤ rate (min accept (postAt s p).rating) → judged (some p) .atRisk) ∧
      (rate (postAt s p).grant < floor → rate (min accept (postAt s p).rating) < floor → judged (some p) .short)) ∧
    (∀ (band : Band) (capacity : Nat) (parked : ParkedClass),
      storageEntryFor band capacity parked = ⟨parked, band.floor * capacity / 100, band.lo * capacity / 100,
        band.hi * capacity / 100, band.ceiling * capacity / 100⟩ ∧
      (band.floor ≤ band.lo → band.lo ≤ band.hi → band.hi ≤ band.ceiling → band.ceiling ≤ 100 →
        let x := storageEntryFor band capacity parked
        x.floor ≤ x.lo ∧ x.lo ≤ x.hi ∧ x.hi ≤ x.ceiling ∧ x.ceiling ≤ capacity)) ∧
    (∀ k, busAt s k = some b → k < s.stp.table.length →
      let parked := parkedClass s k b
      let u := classify k s
      let x := storageAt s k
      let low := if (recordedLeg s.rdu.legs b).isSome then max x.floor b.dischargeFloor else x.floor
      (u.stp.table[k]?.map StorageEntry.cls = some parked) ∧
      (busAt u k = some (if parked = .notParked then b else { b with dischargeFloor := low })) ∧
      (∀ j, j ≠ k → busAt u j = busAt s j ∧ u.stp.table[j]? = s.stp.table[j]?))) ∧
  (∀ (s : State) (k : Nat) (b : Bus),
    let duty := b.nextLeg.bind (findLeg s.rdu.legs)
    let resting (l : Leg) := s.stp.season = .recess ∧
      (if s.rdu.clock.set then l.row.recess = false
       else ∀ m ∈ s.rdu.legs, legSlot s m = some k → m.row.recess = false)
    (b.state = .withdrawn → parkedClass s k b = .notParked) ∧
    (b.state ≠ .withdrawn → b.cls = .parked → parkedClass s k b = .cls) ∧
    (b.state ≠ .withdrawn → b.cls ≠ .parked → duty = none → parkedClass s k b = .noDuty) ∧
    (∀ l, b.state ≠ .withdrawn → b.cls ≠ .parked → duty = some l → resting l → parkedClass s k b = .recess) ∧
    (∀ l, b.state ≠ .withdrawn → b.cls ≠ .parked → duty = some l → ¬ resting l → parkedClass s k b = .notParked)) ∧
  (∀ (s : State) (f : PassFacts),
    let posts := List.range' 4 64
    let tested (p : Nat) : Prop := p ∈ f.taken ∧ p % 4 ∉ (cabAt s (p / 4)).pool.quiesce ∧ (postAt s p).state = .plugged ∧
      (∃ k b, (postAt s p).bus = some k ∧ busAt s k = some b ∧ b.state ≠ .withdrawn ∧ b.v2g = true ∧
        b.dischargeFloor < b.heldOr0) ∧
      (cabAt s (p / 4)).bidir = true ∧ f.draws.getD (p - 4) 0 = 0 ∧
      s.ale.tiers.getD (p - 4) .idle ≠ .urgent ∧ s.ale.tiers.getD (p - 4) .idle ≠ .belowFloor
    let warm (p : Nat) : Prop := ∃ r t, (postAt s p).report = some r ∧ r.temp = some t ∧ s.tsm.settings.minTemp ≤ t
    let held (p : Nat) : Option (Nat × Bus) :=
      if (postAt s p).state = .plugged then (postAt s p).bus.bind (fun k => (busAt s k).map (fun b => (k, b))) else none
    let room (p : Nat) : Nat := match held p with
      | none => 0
      | some x => match x.2.held with
        | none => 0
        | some h => absorptionCeiling x.2 (storageAt s x.1) - h.energy
    let surplus (p : Nat) : Nat := match (postAt s p).bus.bind (busAt s) with
      | none => 0
      | some b => b.heldOr0 - b.dischargeFloor
    let parked (k : Nat) : Bool := (storageAt s k).cls ≠ .notParked
    let give := posts.filter (eligible s f)
    let power (l : List Nat) (x : Nat → Int) : Int := min 32767 (l.map x).sum
    let storage (u : State) : OutMsg := ⟨103, .storage ⟨u.stp.season, u.stp.band, u.stp.view⟩⟩
    let t := completeStorage f s
    (∀ p, eligible s f p = true ↔ f.safe = false ∧ tested p ∧ warm p) ∧
    (∀ p, coldExcluded s f p = true ↔ tested p ∧ ¬ warm p) ∧
    (∀ b e, absorptionCeiling b e = if b.state = .withdrawn ∨ e.cls = .notParked then b.capacity else e.ceiling) ∧
    viewOf s f =
      { asOf := if s.rdu.clock.set then some (s.rdu.clock.weekday, s.rdu.clock.minute) else none
        discharge := (give.map surplus).sum, absorb := (posts.map room).sum
        dischargePow := power give (fun p => min (deliverOf (postAt s p)) (postAt s p).rating)
        absorbPow := power (posts.filter (fun p => 0 < room p)) (fun p => min (acceptOf (postAt s p)) (postAt s p).rating)
        parked := ((List.range s.frt.buses.length).filter parked).length
        parkedPlugged := (posts.filter (fun p => (held p).any (fun x => parked x.1))).length
        plugged := (posts.filter (fun p => (held p).isSome)).length
        withdrawn := (s.frt.buses.filter (fun b => b.state = .withdrawn)).length
        cold := (posts.filter (coldExcluded s f)).length
        unreported := (posts.filter (fun p => (held p).any (fun x => x.2.held.isNone))).length } ∧
    queueStorage s = queueOut (storage s) s ∧
    t.stp.viewDue = false ∧ t.stp.view = some (viewOf t f) ∧
    (s.stp.viewDue = false → t.sli = s.sli ∧ t.tsm = s.tsm) ∧
    (s.stp.viewDue = true → t.sli = (queueOut (storage t) s).sli ∧ t.tsm = (queueOut (storage t) s).tsm) ∧
    viewBytes none = viewBytes (some ⟨none, 0, 0, 0, 0, 0, 0, 0, 0, 0, 0⟩))

/-! ### Passes -/

/-- A trigger waits while a pass runs. With none running it drains the plug events and starts a pass on a snapshot; in SAFE it
makes a safe pass, which leaves every grant 0.0 and every tier IDLE. The whole of a safe pass (R110): RDU's part, the classes
and the view, the STORAGE left due, the capabilities 0.0, the sides with the CAPABILITY of a crossing and the delivery
accumulator; the records its view tests are read as they stand, which is the model's reading (log 30). The snapshot, field by
field (R106, R70, R155), with the draw of a bus whose recorded leg the table does not hold, 0.0, which is the model's reading
(log 24). Behind it, the drain and what one event does (R14), kind by kind: PLUGGED with a mapped tag at the bus's own post,
at another post with the bus displaced from it and the bus's old post, HELD with LOCATION_CONFLICT (R15, R16), and with an
unmapped tag (R17); UNPLUGGED with the judgement of its bus (R18, R94); FAULT and FAULT_CLEAR with its settling (R19, R12). -/
def Obligations.TriggersStartPasses : Prop :=
  (∀ s : State, s.tsm.op ≠ .starting →
    let asked : State := { s with ale := { s.ale with pending := true } }
    let drained : State := drainForPass { s with ale := { s.ale with pending := false } }
    (s.ale.pass = .running → trigger s = asked) ∧
    (s.ale.pass = .idle → s.tsm.op ≠ .safe →
      trigger s = { drained with ale := { drained.ale with pass := .running, snap := some (takeSnapshot drained) } } ∧
      drained.frt.plugQ = [] ∧ drained.ylc.refusal = false) ∧
    (s.ale.pass = .idle → s.tsm.op = .safe → s.tsm.waiting = [] →
      (trigger s).ale.pass = .idle ∧ (trigger s).ale.pending = false ∧ (trigger s).ale.ring = [] ∧
      (∀ r ∈ (trigger s).ale.tiers, r = .idle) ∧
      (∀ q ∈ (trigger s).frt.posts, q.grant = 0 ∧ q.prevGrant = 0 ∧ q.precond = false) ∧
      (trigger s).rsu.upCap = 0 ∧ (trigger s).rsu.downCap = 0)) ∧
  -- the whole of a safe pass
  (∀ s : State, s.tsm.op = .safe → s.ale.pass = .idle → s.tsm.waiting = [] →
    let drained : State := drainForPass { s with ale := { s.ale with pending := false } }
    let served (p : Nat) : Bool := (postAt drained p).state = .plugged || (postAt drained p).state = .guest
    let v : State := { drained with
      frt := { drained.frt with
        posts := drained.frt.posts.map (fun q => { q with grant := 0, prevGrant := 0, precond := false })
        buses := drained.frt.buses.map (fun b => { b with tier := .idle }) }
      ale := { pass := .idle, pending := false, timer := s.ale.timer, snap := s.ale.snap
               tiers := List.replicate 64 .idle, ring := [], turn := 0, overLimit := false } }
    let w := completeReadiness v
    let u := trigger s
    let delivered (d : Dispatch) : Int := sat32 (d.delivered +
      (if d.dir = .up then d.baseline - fleetMeasured v else fleetMeasured v - d.baseline) * (s.tsm.settings.passPre + 1))
    u.ale = v.ale ∧ u.ylc = v.ylc ∧ u.ylc.refusal = false ∧ u.sbu = s.sbu ∧ u.rdu = w.rdu ∧ u.freeCount = s.freeCount ∧
    u.frt.posts = v.frt.posts ∧ u.frt.plugQ = [] ∧ u.frt.tagMap = s.frt.tagMap ∧ u.frt.buses.length = s.frt.buses.length ∧
    (∀ k b, busAt w k = some b →
      let low := if (b.nextLeg.bind (findLeg w.rdu.legs)).isSome then max (storageAt w k).floor b.dischargeFloor
        else (storageAt w k).floor
      busAt u k = some (if parkedClass w k b = .notParked then b else { b with dischargeFloor := low })) ∧
    u.stp = { s.stp with
      table := s.stp.table.mapIdx (fun k e =>
        match busAt u k with
        | none => e
        | some b => { e with cls := parkedClass u k b })
      viewDue := false
      view := some (viewOf u ⟨(List.range' 4 64).filter served, (List.range' 4 64).map (preDraw w), true⟩) } ∧
    (let opened := s.rdu.clock.set = true ∧ s.rsu.slot.isSome = true
     let sideIn (d : Direction) (old : Option Side) : Option Side :=
       if opened then some (sideOf u (s.rsu.slot.getD 0) d) else old
     u.rsu = { s.rsu with
       upCap := 0, downCap := 0, upSide := sideIn .up s.rsu.upSide, downSide := sideIn .down s.rsu.downSide
       active := s.rsu.active.map (fun d => { d with delivered := delivered d }) }) ∧
    (let stored := if s.stp.viewDue then queueOut ⟨103, .storage ⟨s.stp.season, s.stp.band, u.stp.view⟩⟩ w else w
     let told := if u.rsu.upSide = s.rsu.upSide ∧ u.rsu.downSide = s.rsu.downSide then stored
       else queueOut ⟨103, .capability
         { slot := s.rsu.slot.getD 0, left := 30 - s.rdu.clock.minute % 30, upCap := 0, downCap := 0
           upCommit := commitmentIn u (s.rsu.slot.getD 0) .up, downCommit := commitmentIn u (s.rsu.slot.getD 0) .down
           active := u.rsu.active.map (fun d => ⟨d.id, d.dir, d.power⟩)
           armed := u.rsu.armed.map (fun d => ⟨d.id, d.dir, d.power⟩) }⟩ stored
     u.sli = told.sli ∧ u.tsm = told.tsm)) ∧
  -- the snapshot
  (∀ s : State,
    takeSnapshot s =
      { posts := s.frt.posts, quiesced := (List.range' 4 64).filter (fun p => decide (p % 4 ∈ (cabAt s (p / 4)).pool.quiesce))
        bidir := (List.range' 1 16).filter (fun c => (cabAt s c).bidir), buses := s.frt.buses, legs := s.rdu.legs
        clockSet := s.rdu.clock.set, minute := s.rdu.clock.minute, preDraw := (List.range' 4 64).map (preDraw s)
        limit := limitInForce s, fSite := fSite s, fLo := fLo s, pPre := pPre s, cls := s.sbu.tariff.cls
        measured := fleetMeasured s
        dispatch := s.rsu.active.map (fun d => ⟨d.id, d.dir, d.power, d.baseline, (d.remaining + 9) / 10⟩)
        season := s.stp.season, storage := s.stp.table, settings := s.tsm.settings, ring := s.ale.ring, turn := s.ale.turn } ∧
    -- a bus whose recorded leg the table does not hold
    (∀ p b n, (postAt s p).bus.bind (busAt s) = some b → b.nextLeg = some n → findLeg s.rdu.legs n = none → preDraw s p = 0)) ∧
  (∀ s : State,
    drain s = s.frt.plugQ.foldl (fun u e => processEvent e u) { s with frt := { s.frt with plugQ := [] } } ∧
    drainForPass s = { drain s with ylc := { (drain s).ylc with refusal := false } }) ∧
  (∀ (e : PlugEvent) (s : State), e.ofPost → TableSizes s → Paired s → MapSound s →
    let p := e.cabinet * 4 + e.position
    let q := postAt s p
    let t := processEvent e s
    let settledAs (w : BusState) (b : Bus) : BusState := if b.state = .withdrawn then .withdrawn else w
    let served (st : PostState) : Prop := st = .plugged ∨ st = .guest
    -- the post with another state (R10), and the state with the post's record
    let enters (st : PostState) (r : Post) : Post := { r with
      state := st, grant := if served st then r.grant else 0
      prevGrant := if st = .empty ∨ st = .unknown ∨ st = .held then 0 else r.prevGrant
      requestCap := if served st then r.requestCap else none, boost := if served st then r.boost else false, mismatch := 0 }
    let put (r : Post) (u : State) : State := { u with frt := { u.frt with posts := u.frt.posts.set (p - 4) r } }
    let left (o : Nat) (u : State) : State := { u with ale := { u.ale with
      ring := u.ale.ring.filter (fun x => x ≠ o), tiers := u.ale.tiers.set (o - 4) .idle } }
    let cleared : Post := { q with bus := none, precond := if q.bus.isSome then false else q.precond }
    let changed (st : PostState) (r : Post) (u : State) : State :=
      if served q.state ∧ ¬ served st then left p (put (enters st r) u) else put (enters st r) u
    let stays (r : Post) (u : State) : State := put { r with mismatch := 0 } u
    let freed : State := match q.bus.bind (fun k => (busAt s k).map (fun b => (k, b))) with
      | none => s
      | some (k, b) => put cleared { s with frt := { s.frt with
        buses := s.frt.buses.set k { b with post := none, state := settledAs .yard b } } }
    let holding := q.state = .unknown ∨ q.state = .faulted ∨ q.state = .disabled ∨ q.state = .offline
    let tagged := (s.frt.tagMap.find? (fun x => x.1 = e.tag)).map Prod.snd
    let taken (b : Bus) : Option Held := match q.report.bind Report.held with
      | none => b.held
      | some h => some ⟨min h b.capacity, 0, 0⟩
    -- PLUGGED, the bus at its own post
    (∀ k b, e.kind = .plugged → tagged = some k → busAt s k = some b → q.bus = some k →
      t = stays q { s with frt := { s.frt with buses := s.frt.buses.set k { b with held := taken b } } }) ∧
    -- PLUGGED, the bus elsewhere or nowhere
    (∀ k b, e.kind = .plugged → tagged = some k → busAt s k = some b → q.bus ≠ some k →
      let r : Post := { cleared with bus := some k }
      postAt t p = (if q.state = .empty ∨ q.state = .guest ∨ q.state = .held then enters .plugged r
        else if q.state = .plugged then { r with prevGrant := 0, mismatch := 0 } else { r with mismatch := 0 }) ∧
      busAt t k = some { b with post := some p, state := settledAs .plugged b, held := taken b } ∧
      (∀ j d, q.bus = some j → busAt s j = some d → busAt t j = some { d with post := none, state := settledAs .yard d }) ∧
      (∀ j, j ≠ k → q.bus ≠ some j → busAt t j = busAt s j) ∧ t.frt.buses.length = s.frt.buses.length ∧
      (∀ o, b.post = some o →
        let w : Post := { postAt s o with bus := none, precond := false }
        postAt t o = (if w.state = .plugged then enters .held w else w) ∧
        t.ale = (if w.state = .plugged then left o s else s).ale ∧
        t.sli = (notice (.locationConflict b.fleetNo o p) s).sli ∧ t.tsm = (notice (.locationConflict b.fleetNo o p) s).tsm) ∧
      (b.post = none → t.ale = s.ale ∧ t.sli = s.sli ∧ t.tsm = s.tsm) ∧
      (∀ x, 4 ≤ x → x ≤ 67 → x ≠ p → b.post ≠ some x → postAt t x = postAt s x) ∧
      t.frt.tagMap = s.frt.tagMap ∧ t.frt.plugQ = s.frt.plugQ ∧
      t.ylc = s.ylc ∧ t.sbu = s.sbu ∧ t.rdu = s.rdu ∧ t.rsu = s.rsu ∧ t.stp = s.stp ∧ t.freeCount = s.freeCount) ∧
    -- PLUGGED, a tag without a bus
    (e.kind = .plugged → tagged = none →
      t = if q.state = .empty ∨ q.state = .held ∨ q.state = .plugged then changed .guest cleared freed else stays cleared freed) ∧
    -- UNPLUGGED
    (e.kind = .unplugged →
      let judged : State := match q.bus.bind (fun k => (busAt s k).map (fun b => (k, b))) with
        | none => s
        | some (k, b) => if b.state = .withdrawn then freed else judgeUnplug k freed
      (q.state = .plugged → t = changed .empty cleared judged) ∧
      (q.state = .guest ∨ q.state = .held → t = changed .empty q s) ∧
      (q.state = .empty → t = stays q s) ∧
      (holding → t = stays cleared judged)) ∧
    -- FAULT and FAULT_CLEAR
    (e.kind = .fault → t = if holding then stays q s else changed .faulted q s) ∧
    (e.kind = .faultClear →
      let fed : List Nat := match (cabAt s (p / 4)).pool.inForce with
        | none => []
        | some m => feeds m (p % 4)
      let st : PostState := if fed.isEmpty then .disabled else if q.bus.isSome then .plugged
        else if (q.report.map Report.occupied).getD false then .guest else .empty
      t = if q.state = .faulted then changed st q s else stays q s))

/-- PASS_COMPLETION: the writes of R109 in their order, and then the boundary. The grants of the posts that are PLUGGED or
GUEST and in no quiesce set, every other 0.0; each post's precondition flag follows its draw in the pass (log 29); the tiers;
the ring and the turn count (R130); the view (R166) and the STORAGE a season change left due (R168); the delivery accumulator
and the shortfall finding (R148, R152); the capabilities, the sides and the CAPABILITY of a crossing (R133 to R136); the over-
limit marker and its notice (R126). `w` is the part when RDU has written its fields and queued its telegrams over the new
grants and tiers (R109 step 4), and a parked bus then takes its discharge floor (R161). What the pass knows of its posts and
draws, and what the capabilities are sums of, stand behind it (that a post taken by the pass and quiesced since counts for the
absorption room is the model's choice, log 57, as is what is tested for discharge, log 30), and RDU's part: every leg that
could be a next leg is looked at, with LEG_UNASSIGNED and its marker (R86; none while the clock is NOT_SET, log 26); each bus
takes its next leg (R87, R89), floor, discharge floor and verdict (R88, R95), with LEG_INFEASIBLE and its marker (R88) and a
READINESS where the verdict changes (R96); and what a READINESS holds (R97). That the largest floor of R89 is found before the
cap, that a leg in its grace is looked at as today's, and how a recorded next leg is counted that has departed since, are the
model's readings (log 35, log 26, log 50), and so is that a recorded leg which the table does not hold counts as none (log
24). That the legs are looked at in ROUTE order and the slots written in ascending order, which settles the marker of a leg
that two buses share, is the model's choice (log 66), and so is that a READINESS carries no next leg where the table holds the
recorded one no more (log 69). -/
def Obligations.PassCompletionWrites : Prop :=
  (∀ (n : Snapshot) (s : State), s.power = true → s.ale.pass = .running → s.ale.snap = some n → TableSizes s →
    let r := allocate n
    let f := factsOf n
    let served (p : Nat) : Prop := (postAt s p).state = .plugged ∨ (postAt s p).state = .guest
    let new (p : Nat) : Tier :=
      if (postAt s p).state = .plugged ∨ (postAt s p).state = .guest then pairValue r.tiers p .idle else .idle
    let stay := s.ale.ring.filter (fun p => s.ale.tiers.getD (p - 4) .idle = new p)
    let joining := r.topUp.filter (fun p => new p = .topUp) ++ r.store.filter (fun p => new p = .store)
    let ring := stay ++ joining.filter (fun p => p ∉ stay)
    let moved := r.served.filter (fun p => p ∉ n.ring ∨ p ∈ s.ale.ring)
    let turned := r.cut = true ∧ s.tsm.settings.turn + 1 ≤ s.ale.turn + 1
    let delivered (d : Dispatch) : Int := sat32 (d.delivered +
      (if d.dir = .up then d.baseline - fleetMeasured s else fleetMeasured s - d.baseline) * (s.tsm.settings.passPre + 1))
    let found (d : Dispatch) : Bool := decide (n.dispatch.map SnapDispatch.id = some d.id) && r.shortfall.isSome
    ∃ v w u, exec .passCompletion s = .next (finish (boundary u)) ∧
      v = { s with ale := v.ale, frt := { s.frt with posts := u.frt.posts, buses := s.frt.buses.map (fun b => { b with
        tier := match b.post with
          | none => .idle
          | some p => new p }) } } ∧
      w = completeReadiness v ∧ u.rdu = w.rdu ∧
      (∀ k b, busAt w k = some b →
        let low := if (b.nextLeg.bind (findLeg w.rdu.legs)).isSome then max (storageAt w k).floor b.dischargeFloor
          else (storageAt w k).floor
        busAt u k = some (if parkedClass w k b = .notParked then b else { b with dischargeFloor := low })) ∧
      (∀ p, 4 ≤ p → p ≤ 67 →
        let q := postAt s p
        let g := pairValue r.grants p 0
        let flag := n.takes p && decide (0 < n.draw p)
        let takes := served p ∧ p % 4 ∉ (cabAt s (p / 4)).pool.quiesce
        (takes → postAt u p = { q with grant := g, prevGrant := g, precond := flag }) ∧
        (¬ takes → postAt u p = { q with grant := 0, precond := flag })) ∧
      (∀ k b, busAt s k = some b → ∃ b', busAt u k = some b' ∧
        b' = { b with
          tier := match b.post with
            | none => .idle
            | some p => new p
          nextLeg := b'.nextLeg, nextDay := b'.nextDay, floor := b'.floor, dischargeFloor := b'.dischargeFloor
          verdict := b'.verdict }) ∧
      u.ale = { pass := .idle, pending := s.ale.pending, timer := s.ale.timer, snap := none
                tiers := (List.range' 4 64).map new
                ring := if turned then ring.filter (fun p => p ∉ moved) ++ ring.filter (fun p => p ∈ moved) else ring
                turn := if r.cut = true ∧ ¬ turned then s.ale.turn + 1 else 0
                overLimit := r.overLimit.isSome } ∧
      u.stp = { s.stp with
        table := s.stp.table.mapIdx (fun k e =>
          match busAt u k with
          | none => e
          | some b => { e with cls := parkedClass u k b })
        viewDue := false, view := some (viewOf u f) } ∧
      (∃ up down, u.rsu = { s.rsu with
        upCap := upCapability u f, downCap := downCapability u f, upSide := up, downSide := down
        active := s.rsu.active.map (fun d => { d with
          delivered := delivered d, shortfall := d.shortfall || found d, noticed := d.noticed || found d }) }) ∧
      (s.rdu.clock.set = false ∨ s.rsu.slot = none → u.rsu.upSide = s.rsu.upSide ∧ u.rsu.downSide = s.rsu.downSide) ∧
      (∀ k, s.rdu.clock.set = true → s.rsu.slot = some k →
        u.rsu.upSide = some (sideOf u k .up) ∧ u.rsu.downSide = some (sideOf u k .down)) ∧
      (let stored := if s.stp.viewDue then queueOut ⟨103, .storage ⟨s.stp.season, s.stp.band, u.stp.view⟩⟩ w else w
       let short := match n.dispatch, r.shortfall, s.rsu.active with
         | some x, some cause, some d =>
           if d.id = x.id ∧ d.noticed = false then notice (.dispatchShortfall d.id cause d.power) stored else stored
         | _, _, _ => stored
       let crossed := if u.rsu.upSide = s.rsu.upSide ∧ u.rsu.downSide = s.rsu.downSide then short
         else queueOut ⟨103, .capability
           { slot := s.rsu.slot.getD 0, left := 30 - s.rdu.clock.minute % 30, upCap := u.rsu.upCap, downCap := u.rsu.downCap
             upCommit := commitmentIn u (s.rsu.slot.getD 0) .up, downCommit := commitmentIn u (s.rsu.slot.getD 0) .down
             active := u.rsu.active.map (fun d => ⟨d.id, d.dir, d.power⟩)
             armed := u.rsu.armed.map (fun d => ⟨d.id, d.dir, d.power⟩) }⟩ short
       let told := match r.overLimit with
         | none => crossed
         | some (f, p) => if s.ale.overLimit then crossed else notice (.overLimit f p) crossed
       w.rdu.clock = s.rdu.clock ∧ w.tsm = { s.tsm with outOverflow := w.tsm.outOverflow } ∧
       u.sli = told.sli ∧ u.tsm = told.tsm) ∧
      u.rdu = { s.rdu with legs := u.rdu.legs } ∧
      u.rdu.legs.map (fun l => (l.row, l.substitute, l.outcome)) = s.rdu.legs.map (fun l => (l.row, l.substitute, l.outcome)) ∧
      u.frt.plugQ = s.frt.plugQ ∧ u.frt.tagMap = s.frt.tagMap ∧ u.ylc = s.ylc ∧ u.sbu = s.sbu ∧ u.freeCount = s.freeCount) ∧
  (∀ (n : Snapshot),
    ((allocate n).overLimit = if budget n < n.pPre ∧ n.dispatch.map SnapDispatch.dir ≠ some .up then some (budget n, n.pPre)
      else none) ∧
    factsOf n = ⟨(List.range' 4 64).filter n.takes, (List.range' 4 64).map n.draw, false⟩) ∧
  (∀ (s : State) (f : PassFacts),
    let left := if s.rdu.clock.set then 30 - s.rdu.clock.minute % 30 else 30
    let surplus (b : Bus) : Nat := b.heldOr0 - b.dischargeFloor
    let give (p : Nat) : Int := match (postAt s p).bus.bind (busAt s) with
      | none => 0
      | some b => min (deliverOf (postAt s p)) (min (postAt s p).rating ((surplus b * 60 / left : Nat) : Int))
    let free (p : Nat) : Bool := match (postAt s p).bus.bind (busAt s) with
      | none => false
      | some b => (postAt s p).state = .plugged && decide (b.heldOr0 <
          absorptionCeiling b (storageAt s ((postAt s p).bus.getD 0)))
    (f.safe = true → upCapability s f = 0 ∧ downCapability s f = 0) ∧
    (f.safe = false →
      upCapability s f = min 32767
        (((f.taken.filter (fun p => s.ale.tiers.getD (p - 4) .idle ≠ .urgent)).map (fun p =>
            max 0 ((postAt s p).grant - f.draws.getD (p - 4) 0))).sum +
          (((List.range' 4 64).filter (eligible s f)).map give).sum) ∧
      downCapability s f = max 0 (min 32767 (min (fSite s - (s.frt.posts.map Post.grant).sum)
        ((f.taken.filter free).map (fun p =>
          max 0 (min (acceptOf (postAt s p)) (postAt s p).rating - (postAt s p).grant))).sum)))) ∧
  (∀ s : State,
    let clock := s.rdu.clock
    let minute := clock.minute
    let tomorrow := (clock.weekday + 1) % 7
    let ambient := s.sbu.ambient.getD s.tsm.settings.defaultAmbient
    let need (r : RouteRow) : Nat := r.base + r.coldCoef * (max 0 (s.tsm.settings.coldRef - ambient)).toNat + s.tsm.settings.holdMargin
    let isOpen (l : Leg) : Prop := l.outcome = .pending ∧ minute < l.row.departure + s.tsm.settings.grace
    let marked (n : Nat) (f : Leg → Leg) : State := { s with rdu := { s.rdu with
      legs := s.rdu.legs.map (fun l => if l.row.legNo = n then f l else l) } }
    completeReadiness s = (List.range s.frt.buses.length).foldl (fun u k => writeReadiness k u)
      (if clock.set then s.rdu.legs.foldl (fun u l => reviewLeg l u) s else s) ∧
    -- a leg looked at for its bus
    (∀ l, let n := l.row.legNo
      let runsTomorrow : Prop := l.row.runs tomorrow s.stp.season = true ∧ l.row.departure ≤ minute
      let fleetNo : Option Nat := match (if isOpen l then l.substitute else none) with
        | some n => some n
        | none => if l.row.assigned = 0 then none else some l.row.assigned
      let why : Option UnassignedReason := match fleetNo with
        | none => some .noBus
        | some f => match s.frt.buses.find? (fun b => b.fleetNo = f) with
          | none => some .notInFleet
          | some b => if b.state = .withdrawn then some .withdrawn else none
      (¬ isOpen l → ¬ runsTomorrow → reviewLeg l s = s) ∧
      (isOpen l ∨ runsTomorrow →
        (why = none → reviewLeg l s = marked n (fun l => { l with unassigned := false })) ∧
        (∀ r, why = some r → l.unassigned = true → reviewLeg l s = s) ∧
        (∀ r, why = some r → l.unassigned = false → reviewLeg l s =
          notice (.legUnassigned n fleetNo r) (marked n (fun l => { l with unassigned := true }))))) ∧
    -- the readiness fields of a bus
    (∀ k b, busAt s k = some b →
      let next := findNextLeg s k
      let floor : Nat := match next with
        | none => 0
        | some n => min (need n.leg.row) b.capacity
      let verdict := verdictOf s b next floor
      let reviewed : State := match next with
        | none => s
        | some n => if need n.leg.row ≤ b.capacity then marked n.leg.row.legNo (fun l => { l with infeasible := false })
          else if n.leg.infeasible then s
          else notice (.legInfeasible n.leg.row.legNo b.fleetNo (need n.leg.row) b.capacity)
            (marked n.leg.row.legNo (fun l => { l with infeasible := true }))
      let written : State := { reviewed with frt := { s.frt with buses := s.frt.buses.set k { b with
        nextLeg := next.map (fun n => n.leg.row.legNo)
        nextDay := match next with
          | none => none
          | some n => if n.tomorrow then some tomorrow else none
        floor := floor, verdict := verdict
        dischargeFloor := if next.isSome then min 65535 (floor + s.tsm.settings.v2gMargin) else 0 } } }
      writeReadiness k s = if verdict = b.verdict then written else queueReadiness k written) ∧
    (clock.set = false → ∀ k,
      let largest (l : Leg) : Bool := decide (legSlot s l = some k) &&
        s.rdu.legs.all (fun m => decide (legSlot s m ≠ some k) || decide (need m.row ≤ need l.row))
      ((∀ l ∈ s.rdu.legs, legSlot s l ≠ some k) → findNextLeg s k = none) ∧
      (∀ l ∈ s.rdu.legs, legSlot s l = some k → (findNextLeg s k).isSome = true) ∧
      (∀ x, findNextLeg s k = some x →
        x.mins = 120 ∧ x.tomorrow = false ∧ s.rdu.legs.find? largest = some x.leg)) ∧
    -- a READINESS
    (∀ k b, busAt s k = some b →
      let leg := b.nextLeg.bind (findLeg s.rdu.legs)
      let isTomorrow : Bool := clock.set && decide (b.nextDay = some tomorrow)
      let mins (l : Leg) : Nat := if isTomorrow then 1440 - minute + l.row.departure
        else if clock.set = false then 120
        else if isOpen l then l.row.departure - minute else 1440 - minute + l.row.departure
      queueReadiness k s = queueOut ⟨102, .readiness
        { fleetNo := b.fleetNo, verdict := b.verdict, tier := b.tier
          nextLeg := leg.map (fun l => (l.row.legNo, l.row.departure, l.row.ret, mins l))
          phase := if isTomorrow then none
            else leg.bind (fun l => (s.rdu.list.find? (fun e => e.legNo = l.row.legNo)).map DepEntry.due)
          floor := b.floor, held := b.held.map (fun h => (h.energy, h.age)), post := b.post
          last := s.rdu.lastOutcomes.getD k none }⟩ s))

/-- The grants of a pass add up to no more than its budget, where the budget covers the precondition total and the snapshot's
bounds are not negative. Else every taken post stands at its precondition share, less what it gives to an UP dispatch: the
export is drawn from the posts with a discharge bound, the largest surplus first, and each gives its bound while the export
lasts (R127). So the grants add up to no more than the budget or stand at the lowest value the pass permits, and every grant
lies between minus the discharge bound and the charge bound (R113, R118, R129). And the tier of every taken post, by the first
condition that holds (R114 to R116). Where the budget covers the precondition total, the six passes share the rest: the tiers
that the tariff class does not suppress, in their orders, with the rotation cut, the absorption of a DOWN dispatch and the
minimum-run test (R119 to R125), and what the water-fill does at each of its steps (R122). That a recorded leg which the table
does not hold counts as no next leg is the model's reading (log 24). The budget (R111), the posts taken and their draws
(R112), the members of TOP_UP and STORE in their orders (R119), and the shortfall (R128); that of two causes which hold the
first of the table is handed on, and that EXPORT_FLOOR asks for a target below F_lo and below F, is the model's reading (log
31). -/
def Obligations.GrantsKeepTheBudgetOrTheLowest : Prop :=
  (∀ n : Snapshot,
    n.pPre ≤ budget n → ((postNos.filter n.takes).map n.draw).sum ≤ n.pPre → 0 ≤ n.settings.rampStep →
    0 ≤ n.settings.guestCap →
    (∀ p, n.takes p = true → 0 ≤ n.draw p ∧ 0 ≤ acceptOf (n.post p) ∧ 0 ≤ (n.post p).rating ∧
      (∀ c, (n.post p).requestCap = some c → 0 ≤ c)) →
    ((allocate n).grants.map Prod.snd).sum ≤ budget n ∧ ∀ g ∈ (allocate n).grants, 0 ≤ g.2) ∧
  (∀ n : Snapshot,
    ((postNos.filter n.takes).map n.draw).sum ≤ n.pPre → 0 ≤ n.settings.rampStep → 0 ≤ n.settings.guestCap →
    (∀ p, n.takes p = true → 0 ≤ n.draw p ∧ 0 ≤ acceptOf (n.post p) ∧ acceptOf (n.post p) ≤ 32767 ∧
      0 ≤ deliverOf (n.post p) ∧ deliverOf (n.post p) ≤ 32767 ∧ 0 ≤ (n.post p).rating ∧
      (∀ c, (n.post p).requestCap = some c → 0 ≤ c)) →
    let taken := (List.range' 4 64).filter n.takes
    let grant (p : Nat) : Int := pairValue (allocate n).grants p 0
    let tier (p : Nat) : Tier := pairValue (allocate n).tiers p .idle
    let busOf (p : Nat) : Option Bus := (n.post p).bus.bind (fun k => n.buses[k]?)
    let least (l : List Int) : Int := l.foldl min 32767
    let up (p : Nat) : Int := least ([acceptOf (n.post p), (n.post p).rating, max (n.post p).prevGrant 0 + n.settings.rampStep] ++
      (n.post p).requestCap.toList ++ match busOf p with
        | none => [n.settings.guestCap]
        | some b => if (n.post p).state = .guest ∨ b.state = .withdrawn then [n.settings.guestCap] else [])
    let share (p : Nat) : Int := match busOf p with
      | none => 0
      | some _ => min (n.draw p) (up p)
    let surplus (p : Nat) : Int := match busOf p with
      | none => 0
      | some b => b.heldOr0 - b.dischargeFloor
    let warm (p : Nat) : Bool := match (n.post p).report.bind Report.temp with
      | none => false
      | some t => decide (n.settings.minTemp ≤ t)
    let give (p : Nat) : Int := match busOf p, n.dispatch with
      | some b, some d =>
        if d.dir = .up ∧ (n.post p).state = .plugged ∧ b.state ≠ .withdrawn ∧ b.v2g = true ∧ p / 4 ∈ n.bidir ∧ warm p = true ∧
            n.draw p = 0 ∧ tier p ≠ .urgent ∧ tier p ≠ .belowFloor ∧ b.dischargeFloor < b.heldOr0 then
          least [deliverOf (n.post p), (n.post p).rating, max (-(n.post p).prevGrant) 0 + n.settings.rampStep,
            (((b.heldOr0 - b.dischargeFloor) * 60 / max 1 ((d.remaining + 59) / 60) : Nat) : Int)]
        else 0
      | _, _ => 0
    (allocate n).grants.map Prod.fst = taken ∧ (allocate n).tiers.map Prod.fst = taken ∧
    (∀ p ∈ taken, -(give p) ≤ grant p ∧ grant p ≤ up p) ∧
    (((allocate n).grants.map Prod.snd).sum ≤ budget n ∨ ∀ p ∈ taken, grant p = share p - give p) ∧
    (budget n < n.pPre → n.dispatch.map SnapDispatch.dir ≠ some .up → ∀ p ∈ taken, grant p = share p) ∧
    (budget n < n.pPre → (allocate n).cut = false ∧ (allocate n).served = []) ∧
    -- the shortfall, but for a DOWN dispatch whose budget covers the precondition total
    (n.dispatch = none → (allocate n).shortfall = none) ∧
    (∀ d, n.dispatch = some d → d.dir = .up →
      let raised := d.baseline - d.power < n.fLo ∧ d.baseline - d.power < budget n
      let lacking := budget n < n.pPre ∧ (taken.map give).sum < n.pPre - budget n
      (raised → (allocate n).shortfall = some .exportFloor) ∧
      (¬ raised → lacking → (allocate n).shortfall = some .dischargeExhausted) ∧
      (¬ raised → ¬ lacking → (allocate n).shortfall = none)) ∧
    (∀ d, n.dispatch = some d → d.dir = .down → budget n < n.pPre →
      (allocate n).shortfall = if n.fSite < d.baseline + d.power then some .siteBudget else none) ∧
    (budget n < n.pPre → n.dispatch.map SnapDispatch.dir = some .up →
      (taken.map (fun p => share p - grant p)).sum = min (n.pPre - budget n) (taken.map give).sum ∧
      (∀ p ∈ taken, grant p ≤ share p) ∧
      ∀ p ∈ taken, ∀ r ∈ taken, 0 < give p → surplus r < surplus p ∨ surplus r = surplus p ∧ p < r →
        grant r < share r → grant p = share p - give p)) ∧
  (∀ (n : Snapshot) (p : Nat), 4 ≤ p → p ≤ 67 → n.takes p = true →
    let q := n.post p
    let isTier (t : Tier) : Prop := pairValue (allocate n).tiers p .idle = t
    (q.state = .guest → isTier .store) ∧
    (∀ k b, q.state = .plugged → q.bus = some k → n.buses[k]? = some b →
      let e := n.storage.getD k ⟨.notParked, 0, 0, 0, 0⟩
      let wide := n.cls = .offpeak ∨ n.dispatch.map SnapDispatch.dir = some .down
      (b.state = .withdrawn → (b.heldOr0 < e.hi → isTier .store) ∧ (e.hi ≤ b.heldOr0 → isTier .idle)) ∧
      (b.state ≠ .withdrawn → e.cls ≠ .notParked →
        (b.heldOr0 < e.lo → isTier .store) ∧
        (e.lo ≤ b.heldOr0 → wide → b.heldOr0 < e.hi → isTier .store) ∧
        (e.lo ≤ b.heldOr0 → ¬ wide ∨ e.hi ≤ b.heldOr0 → isTier .idle)) ∧
      (b.state ≠ .withdrawn → e.cls = .notParked →
        (b.nextLeg.bind (findLeg n.legs) = none → isTier .idle) ∧
        (∀ l, b.nextLeg.bind (findLeg n.legs) = some l →
          let mins : Nat := if n.clockSet = false then 120
            else if l.outcome = .pending ∧ n.minute < l.row.departure + n.settings.grace then l.row.departure - n.minute
            else 1440 - n.minute + l.row.departure
          let short : Nat := b.floor - b.heldOr0
          let raw : Nat := (short * 60 + max 1 mins - 1) / max 1 mins
          let pressed := mins ≤ 60 ∨ 8 * min (acceptOf q) q.rating ≤ (raw * 10 : Nat) ∨ q.boost = true
          let target : Nat := max b.floor (b.target.getD n.settings.chargeTarget * b.capacity / 100)
          (0 < short → pressed → isTier .urgent) ∧
          (0 < short → ¬ pressed → isTier .belowFloor) ∧
          (short = 0 → b.heldOr0 < target → isTier .topUp) ∧
          (short = 0 → target ≤ b.heldOr0 → isTier .idle))))) ∧
  -- the charge allocation
  (∀ n : Snapshot,
    n.pPre ≤ budget n → 0 ≤ n.settings.rampStep → 0 ≤ n.settings.guestCap →
    (∀ p, n.takes p = true → 0 ≤ n.draw p ∧ 0 ≤ acceptOf (n.post p) ∧ acceptOf (n.post p) ≤ 32767 ∧
      0 ≤ (n.post p).rating ∧ (∀ c, (n.post p).requestCap = some c → 0 ≤ c)) →
    let taken := (List.range' 4 64).filter n.takes
    let tier (p : Nat) : Tier := pairValue (allocate n).tiers p .idle
    let busOf (p : Nat) : Option Bus := (n.post p).bus.bind (fun k => n.buses[k]?)
    let entry (p : Nat) : StorageEntry := n.storage.getD ((n.post p).bus.getD 256) ⟨.notParked, 0, 0, 0, 0⟩
    let least (l : List Int) : Int := l.foldl min 32767
    let up (p : Nat) : Int := least ([acceptOf (n.post p), (n.post p).rating, max (n.post p).prevGrant 0 + n.settings.rampStep] ++
      (n.post p).requestCap.toList ++ match busOf p with
        | none => [n.settings.guestCap]
        | some b => if (n.post p).state = .guest ∨ b.state = .withdrawn then [n.settings.guestCap] else [])
    let share (p : Nat) : Int := match busOf p with
      | none => 0
      | some _ => min (n.draw p) (up p)
    let head (p : Nat) : Int := up p - share p
    let mins (p : Nat) : Nat := match (busOf p).bind (fun b => b.nextLeg.bind (findLeg n.legs)) with
      | none => 0
      | some l =>
        if n.clockSet = false then 120
        else if l.outcome = .pending ∧ n.minute < l.row.departure + n.settings.grace then l.row.departure - n.minute
        else 1440 - n.minute + l.row.departure
    let percent (p : Nat) : Nat := match busOf p with
      | none => 0
      | some b => b.heldOr0 * 100 / b.capacity
    let need (p : Nat) : Int := match busOf p with
      | none => 0
      | some b => min (head p)
        (max n.settings.pMin (((b.floor - b.heldOr0) * 60 + max 1 (mins p) - 1) / max 1 (mins p) : Nat))
    let absorbs (p : Nat) : Prop := (n.post p).state = .plugged ∧ ∃ b, busOf p = some b ∧
      b.heldOr0 < if b.state = .withdrawn ∨ (entry p).cls = .notParked then b.capacity else (entry p).ceiling
    let down := n.dispatch.map SnapDispatch.dir = some .down
    let served (t : Tier) : Prop := down ∨ n.cls = .offpeak ∨ n.cls = .shoulder ∨ t = .urgent ∨ n.cls = .peak ∧ t = .belowFloor
    let sooner (a b : Nat) : Prop := mins a < mins b ∨ mins a = mins b ∧ a < b
    let emptier (a b : Nat) : Prop := percent a < percent b ∨ percent a = percent b ∧ a < b
    let guest (p : Nat) : Prop := (n.post p).state = .guest
    let turn (l : List Nat) (r : Int) : List Nat × (List (Nat × Int) × Int) :=
      let set := l.filter (fun p => 0 < head p)
      if set = [] then ([], ([], r))
      else if r / set.length < n.settings.pMin then
        let kept := (n.ring.filter (fun p => decide (p ∈ set)) ++ set.filter (fun p => decide (p ∉ n.ring))).take
          (r / n.settings.pMin).toNat
        (kept, fill ((set.filter (fun p => decide (p ∈ kept))).map (fun p => (p, head p))) r)
      else ([], fill (set.map (fun p => (p, head p))) r)
    let isCut (l : List Nat) (r : Int) : Prop := (∃ p ∈ l, 0 < head p) ∧
      r / ((l.filter (fun p => 0 < head p)).length : Int) < n.settings.pMin
    ∃ urgent below topUp store absorbing : List Nat,
      urgent.Pairwise sooner ∧ (∀ p, p ∈ urgent ↔ p ∈ taken ∧ tier p = .urgent) ∧
      below.Pairwise sooner ∧ (∀ p, p ∈ below ↔ p ∈ taken ∧ tier p = .belowFloor ∧ served .belowFloor) ∧
      topUp.Pairwise sooner ∧ (∀ p, p ∈ topUp ↔ p ∈ taken ∧ tier p = .topUp ∧ served .topUp) ∧
      store.Pairwise (fun a b => ¬ guest a ∧ guest b ∨ guest a ∧ guest b ∧ a < b ∨ ¬ guest a ∧ ¬ guest b ∧ emptier a b) ∧
      (∀ p, p ∈ store ↔ p ∈ taken ∧ tier p = .store ∧ served .store) ∧
      absorbing.Pairwise emptier ∧ (∀ p, p ∈ absorbing ↔ p ∈ taken ∧ down ∧ absorbs p) ∧
      (let one := serve (urgent.map (fun p => (p, head p))) (budget n - n.pPre)
       let two := serve (below.map (fun p => (p, need p))) one.2
       let three := fill (below.map (fun p => (p, head p - givenTo two.1 p))) two.2
       let four := turn topUp three.2
       let five := turn store four.2.2
       let before := one.1 ++ two.1 ++ three.1 ++ four.2.1 ++ five.2.1
       let six := fill (absorbing.map (fun p => (p, head p - givenTo before p))) five.2.2
       (∀ d, n.dispatch = some d → d.dir = .down →
         (n.fSite < d.baseline + d.power → (allocate n).shortfall = some .siteBudget) ∧
         (d.baseline + d.power ≤ n.fSite → (allocate n).shortfall = if 0 < six.2 then some .absorptionExhausted else none)) ∧
       ((allocate n).cut = true ↔ isCut topUp three.2 ∨ isCut store four.2.2) ∧ (allocate n).served = four.1 ++ five.1 ∧
       ∀ p ∈ taken, pairValue (allocate n).grants p 0 = share p +
         if 1 ≤ givenTo (before ++ six.1) p ∧ givenTo (before ++ six.1) p < n.settings.pMin then 0
         else givenTo (before ++ six.1) p)) ∧
  (∀ (p : Nat) (w r : Int) (l : List (Nat × Int)),
    serve [] r = ([], r) ∧
    serve ((p, w) :: l) r = ((p, min w r) :: (serve l (r - min w r)).1, (serve l (r - min w r)).2)) ∧
  -- the water-fill
  (∀ (m : List (Nat × Int)) (r : Int),
    fill m r = fill (m.filter (fun q => 0 < q.2)) r ∧
    ((∀ q ∈ m, 0 < q.2) →
      let share := r / m.length
      let small := m.filter (fun q => q.2 ≤ share)
      let rest := fill (m.filter (fun q => share < q.2)) (r - (small.map Prod.snd).sum)
      let last (u : Int) := serve (m.map (fun q => (q.1, 1))) u
      (m = [] ∨ r ≤ 0 → fill m r = ([], r)) ∧
      (m ≠ [] → 0 < r → r < m.length → fill m r = last r) ∧
      (m ≠ [] → m.length ≤ r → small ≠ [] → fill m r = (small ++ rest.1, rest.2)) ∧
      (m ≠ [] → m.length ≤ r → small = [] → fill m r =
        (m.map (fun q => (q.1, share)) ++ (last (r - share * m.length)).1, (last (r - share * m.length)).2)))) ∧
  -- the budget, and the posts taken
  (∀ n : Snapshot,
    let asked : Int := match n.dispatch with
      | none => n.fSite
      | some d => min n.fSite (if d.dir = .up then d.baseline - d.power else d.baseline + d.power)
    budget n = sat16 (min (max asked n.fLo) n.fSite) ∧
    ∀ p, n.post p = n.posts.getD (p - 4) Post.initial ∧
      (n.takes p = true ↔ ((n.post p).state = .plugged ∨ (n.post p).state = .guest) ∧ p ∉ n.quiesced) ∧
      n.draw p = if (n.post p).state = .guest then 0 else n.preDraw.getD (p - 4) 0) ∧
  -- the members of TOP_UP and STORE in their orders
  (∀ n : Snapshot,
    let taken := (List.range' 4 64).filter n.takes
    let tier (p : Nat) : Tier := pairValue (allocate n).tiers p .idle
    let busOf (p : Nat) : Option Bus := (n.post p).bus.bind (fun k => n.buses[k]?)
    let mins (p : Nat) : Nat := match (busOf p).bind (fun b => b.nextLeg.bind (findLeg n.legs)) with
      | none => 0
      | some l =>
        if n.clockSet = false then 120
        else if l.outcome = .pending ∧ n.minute < l.row.departure + n.settings.grace then l.row.departure - n.minute
        else 1440 - n.minute + l.row.departure
    let percent (p : Nat) : Nat := match busOf p with
      | none => 0
      | some b => b.heldOr0 * 100 / b.capacity
    let guest (p : Nat) : Prop := (n.post p).state = .guest
    (allocate n).topUp.Pairwise (fun a b => mins a < mins b ∨ mins a = mins b ∧ a < b) ∧
    (∀ p, p ∈ (allocate n).topUp ↔ p ∈ taken ∧ tier p = .topUp) ∧
    (allocate n).store.Pairwise (fun a b => ¬ guest a ∧ guest b ∨ guest a ∧ guest b ∧ a < b ∨
      ¬ guest a ∧ ¬ guest b ∧ (percent a < percent b ∨ percent a = percent b ∧ a < b)) ∧
    (∀ p, p ∈ (allocate n).store ↔ p ∈ taken ∧ tier p = .store))

/-- A drain keeps buses and posts paired. So does every step: the pairing with what it rests on (`Linked`) holds at reset and
is kept by every command and every tick. -/
def Obligations.DrainKeepsThePairing : Prop :=
  (∀ s : State, TableSizes s → Paired s → MapSound s → (∀ e ∈ s.frt.plugQ, e.ofPost) →
    Paired (drain s) ∧ MapSound (drain s) ∧ (drain s).frt.plugQ = []) ∧
  Linked State.reset ∧
  (∀ s t : State, Linked s → step s = .next t → Linked t)

/-! ### The yard link -/

/-- The end of every step gives the free link, in this order, to a CURTAIL, the EXCHANGE to be sent again, the POOL whose slot
has opened, a forwarded telegram, the next visit, a due round. A due round over an empty survey set, and a round with no
configured station left above the last visit, completes in the same step (R27, R28): the pass timer restarts, a pass is
triggered, the band is evaluated and a round marked due is wanted, and the arbiter goes on. The sequence byte is free (the
model's choice, log 8), and the turn of the forward queue outside rounds is the model's reading (log 16). -/
def Obligations.LinkIsGivenInOrder : Prop :=
  ∀ s : State,
    let y := s.ylc
    let seq := Config.yardSequence s.freeCount
    let isOpen := s.tsm.op ≠ .starting ∧ y.link = .free
    let grants (c : Nat) : List Int :=
      [0, 1, 2, 3].map (fun i => if s.tsm.op = .safe then 0 else (postAt s (c * 4 + i)).grant)
    let flags (c : Nat) : List Bool := [0, 1, 2, 3].map (fun i =>
      s.tsm.op ≠ .safe && (postAt s (c * 4 + i)).precond && !(cabAt s c).pool.quiesce.contains i)
    let exchange (c : Nat) : Link := .exchange ⟨BitVec.ofNat 8 c, 100, 0x70, seq,
      exchangePayload (grants c) (flags c) (cabAt s c).restartAck (cabAt s c).lastSeq⟩ (grants c)
    let visiting := ∃ c w p, y.round = .visit c w p
    let pool (c : Nat) (m : Mode) :=
      y.poolClaim = some c ∧ (cabAt s c).pool.state = .sent ∧ (cabAt s c).pool.target = some m
    let mayForward := y.fwdQ ≠ [] ∧ (y.fwdClaim = true ∨ (y.round = .idle ∧ y.roundWanted = false))
    (¬ isOpen → finish s = s) ∧
    (isOpen → y.curtailReq = true → finish s = { s with
      ylc := { y with link := .curtail ⟨0, 100, 0x71, seq, []⟩, framer := [], curtailReq := false }
      freeCount := s.freeCount + 1 }) ∧
    (isOpen → y.curtailReq = false →
      (∀ c w, IsStation c → y.round = .visit c w .resend → finish s = { s with
        ylc := { y with round := .visit c w .awaiting, link := exchange c, framer := [] }, freeCount := s.freeCount + 1 }) ∧
      (∀ c m, IsStation c → ¬ visiting → pool c m → finish s = { s with
        ylc := { y with
          poolClaim := none, framer := []
          link := .poolSending c ⟨BitVec.ofNat 8 c, 100, 0x72, seq, poolPayload m ((cabAt s c).pool.attempts + 1)⟩ }
        freeCount := s.freeCount + 1 }) ∧
      (∀ t rest, ¬ visiting → (¬ ∃ c m, pool c m) → mayForward → y.fwdQ = t :: rest → finish s = { s with
        ylc := { y with fwdQ := rest, fwdClaim := false, link := .forward t, framer := [] } }) ∧
      (∀ last c, y.round = .between last → (¬ ∃ c m, pool c m) → ¬ mayForward → last < c → IsStation c →
        (cabAt s c).configured = true → (∀ d, last < d → d < c → IsStation d → (cabAt s d).configured = false) →
        finish s = { s with
          ylc := { y with round := .visit c 0 .awaiting, link := exchange c, framer := [], poolClaim := none, fwdClaim := false }
          freeCount := s.freeCount + 1 }) ∧
      (∀ c, y.round = .idle → y.roundWanted = true → (¬ ∃ c m, pool c m) → ¬ mayForward → IsStation c →
        (cabAt s c).configured = true → (∀ d, d < c → IsStation d → (cabAt s d).configured = false) →
        finish s = { s with
          ylc := { y with
            round := .visit c 0 .awaiting, link := exchange c, framer := [], poolClaim := none, fwdClaim := false
            roundTimer := some 0, roundWanted := false }
          freeCount := s.freeCount + 1 }) ∧
      ((∃ c w, y.round = .visit c w .awaiting ∨ y.round = .visit c w .holdOff) ∨
        (y.round = .idle ∧ y.roundWanted = false ∧ (¬ ∃ c m, pool c m) ∧ y.fwdQ = []) →
        finish s = { s with ylc := { y with poolClaim := none, fwdClaim := false } }) ∧
      -- a round without a station left to visit completes in the step
      (let completed (y' : Ylc) : State :=
         let done := evalBand (trigger { s with
           ylc := { y' with round := .idle }, ale := { s.ale with timer := s.ale.timer.map (fun _ => 0) } })
         if done.ylc.roundDue then { done with ylc := { done.ylc with roundDue := false, roundWanted := true } } else done
       let started : Ylc := { y with roundTimer := some 0, roundWanted := false, poolClaim := none, fwdClaim := false }
       let left (u : State) : State := settleLink 2 u
       (y.round = .idle → y.roundWanted = true → (¬ ∃ c m, pool c m) → ¬ mayForward →
         (∀ d, IsStation d → (cabAt s d).configured = false) →
         finish s = left (completed started) ∧
         (s.tsm.op ≠ .safe → y.roundDue = false → y.fwdQ = [] → finish s = completed started)) ∧
       (∀ last, y.round = .between last → (¬ ∃ c m, pool c m) → ¬ mayForward →
         (∀ d, last < d → IsStation d → (cabAt s d).configured = false) → finish s = left (completed y)))) ∧
    (∀ (n : Nat) (u : State), settleLink 0 u = u ∧
      settleLink (n + 1) u =
        if u.tsm.op = .starting ∨ u.ylc.link ≠ .free then u
        else if pick u = .none then { u with ylc := { u.ylc with poolClaim := none, fwdClaim := false } }
        else settleLink n (giveLink (pick u) u))

/-! ### The ranges -/

/-- The state after reset is inside every range. -/
def Obligations.ResetIsInRange : Prop := InRange State.reset

/-- Every step keeps every range. -/
def Obligations.StepKeepsTheRanges : Prop := ∀ s t : State, InRange s → step s = .next t → InRange t
end

