-- ==== Sys2Proof/Laws/Allocation.lean ====
section
/-! SUPPORT. What serving in order and the water-fill do (R121, R122): their equations, and that the water-fill does not
depend on its number of rounds once that exceeds its members. -/

namespace Sys2Proof.Machine

@[simp] theorem serve_nil (r : Int) : serve [] r = ([], r) := rfl

@[simp] theorem serve_cons (p : Nat) (w r : Int) (l : List (Nat × Int)) :
    serve ((p, w) :: l) r = ((p, min w r) :: (serve l (r - min w r)).1, (serve l (r - min w r)).2) := rfl

theorem waterFill_empty (n : Nat) (m : List (Nat × Int)) (r : Int) (h : m = [] ∨ r ≤ 0) : waterFill n m r = ([], r) := by
  cases n with
  | zero => rfl
  | succ n => rcases h with h | h <;> simp [waterFill, h]

/-- A round that gives small members their headroom leaves fewer members. -/
theorem large_shorter (m : List (Nat × Int)) (s : Int) (h : (m.filter (fun q => q.2 ≤ s)).isEmpty = false) :
    (m.filter (fun q => ¬ q.2 ≤ s)).length < m.length := by
  apply Nat.lt_of_le_of_ne (List.length_filter_le _ _)
  intro c
  have all := List.length_filter_eq_length_iff.1 c
  have none : m.filter (fun q => q.2 ≤ s) = [] :=
    List.filter_eq_nil_iff.2 (fun q hq => by simpa using all q hq)
  simp [none] at h

/-- More rounds than members: the number of rounds does not matter. -/
theorem waterFill_rounds (a : Nat) : ∀ (b : Nat) (m : List (Nat × Int)) (r : Int), m.length < a → m.length < b →
    waterFill a m r = waterFill b m r := by
  induction a with
  | zero => intro b m r h; omega
  | succ a ih =>
    intro b m r ha hb
    cases b with
    | zero => omega
    | succ b =>
      unfold waterFill
      by_cases e : (m.filter (fun q => q.2 ≤ r / m.length)).isEmpty = true
      · simp [e]
      · have l := large_shorter m (r / m.length) (by simpa using e)
        simp only [ih b (m.filter (fun q => ¬ q.2 ≤ r / m.length)) _ (by omega) (by omega)]

/-- Over members that all have headroom the fill is the water-fill, with any number of rounds above theirs. -/
theorem fill_eq (n : Nat) (m : List (Nat × Int)) (r : Int) (h : ∀ q ∈ m, 0 < q.2) (hn : m.length < n) :
    fill m r = waterFill n m r := by
  have f : m.filter (fun q => 0 < q.2) = m := List.filter_eq_self.2 (fun q hq => by simpa using h q hq)
  simp only [fill, f]
  exact waterFill_rounds _ _ _ _ (by omega) hn

end Sys2Proof.Machine
end

