-- ==== Sys2Proof/Laws/Arrival.lean ====
section
/-! SUPPORT. The arrival and handling of a site telegram (R171, R184): what a command of the site link answers, and
when the exit from ISLAND can wait. -/

namespace Sys2Proof.Machine

/-- The framer does not bear on the order of exit and handling. -/
@[simp] theorem exitWaits_siteFramed (s : State) : exitWaits (siteFramed s) = exitWaits s := rfl

/-- Only a telegram that ends ISLAND can leave the exit waiting. -/
theorem siteLeft_of_stays (b s : State) (h : endsIsland b = false) : siteLeft b s = s := by
  simp [siteLeft, exitWaits, h]

/-- A command of the site link answers the end of the step that its handling leaves. -/
theorem onSite_eq (f : State → State) (s : State) (h : s.power = true) :
    onSite f s = .next (concluded s (f (heard s))) := by
  simp only [onSite, live, h, if_true]
  rfl

end Sys2Proof.Machine
end

