-- ==== Sys2Proof/Laws/State.lean ====
section
/-! SUPPORT. What each block's update leaves and changes, one lemma per field, true by rfl. -/

namespace Sys2Proof.Machine

@[simp] theorem modSli_sli (f : Sli → Sli) (s : State) : (modSli f s).sli = f s.sli := rfl
@[simp] theorem modSli_ylc (f : Sli → Sli) (s : State) : (modSli f s).ylc = s.ylc := rfl
@[simp] theorem modSli_frt (f : Sli → Sli) (s : State) : (modSli f s).frt = s.frt := rfl
@[simp] theorem modSli_sbu (f : Sli → Sli) (s : State) : (modSli f s).sbu = s.sbu := rfl
@[simp] theorem modSli_rdu (f : Sli → Sli) (s : State) : (modSli f s).rdu = s.rdu := rfl
@[simp] theorem modSli_ale (f : Sli → Sli) (s : State) : (modSli f s).ale = s.ale := rfl
@[simp] theorem modSli_rsu (f : Sli → Sli) (s : State) : (modSli f s).rsu = s.rsu := rfl
@[simp] theorem modSli_stp (f : Sli → Sli) (s : State) : (modSli f s).stp = s.stp := rfl
@[simp] theorem modSli_tsm (f : Sli → Sli) (s : State) : (modSli f s).tsm = s.tsm := rfl
@[simp] theorem modSli_power (f : Sli → Sli) (s : State) : (modSli f s).power = s.power := rfl
@[simp] theorem modSli_freeCount (f : Sli → Sli) (s : State) : (modSli f s).freeCount = s.freeCount := rfl
@[simp] theorem modSli_pending (f : Sli → Sli) (s : State) : (modSli f s).pending = s.pending := rfl

@[simp] theorem modYlc_sli (f : Ylc → Ylc) (s : State) : (modYlc f s).sli = s.sli := rfl
@[simp] theorem modYlc_ylc (f : Ylc → Ylc) (s : State) : (modYlc f s).ylc = f s.ylc := rfl
@[simp] theorem modYlc_frt (f : Ylc → Ylc) (s : State) : (modYlc f s).frt = s.frt := rfl
@[simp] theorem modYlc_sbu (f : Ylc → Ylc) (s : State) : (modYlc f s).sbu = s.sbu := rfl
@[simp] theorem modYlc_rdu (f : Ylc → Ylc) (s : State) : (modYlc f s).rdu = s.rdu := rfl
@[simp] theorem modYlc_ale (f : Ylc → Ylc) (s : State) : (modYlc f s).ale = s.ale := rfl
@[simp] theorem modYlc_rsu (f : Ylc → Ylc) (s : State) : (modYlc f s).rsu = s.rsu := rfl
@[simp] theorem modYlc_stp (f : Ylc → Ylc) (s : State) : (modYlc f s).stp = s.stp := rfl
@[simp] theorem modYlc_tsm (f : Ylc → Ylc) (s : State) : (modYlc f s).tsm = s.tsm := rfl
@[simp] theorem modYlc_power (f : Ylc → Ylc) (s : State) : (modYlc f s).power = s.power := rfl
@[simp] theorem modYlc_freeCount (f : Ylc → Ylc) (s : State) : (modYlc f s).freeCount = s.freeCount := rfl
@[simp] theorem modYlc_pending (f : Ylc → Ylc) (s : State) : (modYlc f s).pending = s.pending := rfl

@[simp] theorem modFrt_sli (f : Frt → Frt) (s : State) : (modFrt f s).sli = s.sli := rfl
@[simp] theorem modFrt_ylc (f : Frt → Frt) (s : State) : (modFrt f s).ylc = s.ylc := rfl
@[simp] theorem modFrt_frt (f : Frt → Frt) (s : State) : (modFrt f s).frt = f s.frt := rfl
@[simp] theorem modFrt_sbu (f : Frt → Frt) (s : State) : (modFrt f s).sbu = s.sbu := rfl
@[simp] theorem modFrt_rdu (f : Frt → Frt) (s : State) : (modFrt f s).rdu = s.rdu := rfl
@[simp] theorem modFrt_ale (f : Frt → Frt) (s : State) : (modFrt f s).ale = s.ale := rfl
@[simp] theorem modFrt_rsu (f : Frt → Frt) (s : State) : (modFrt f s).rsu = s.rsu := rfl
@[simp] theorem modFrt_stp (f : Frt → Frt) (s : State) : (modFrt f s).stp = s.stp := rfl
@[simp] theorem modFrt_tsm (f : Frt → Frt) (s : State) : (modFrt f s).tsm = s.tsm := rfl
@[simp] theorem modFrt_power (f : Frt → Frt) (s : State) : (modFrt f s).power = s.power := rfl
@[simp] theorem modFrt_freeCount (f : Frt → Frt) (s : State) : (modFrt f s).freeCount = s.freeCount := rfl
@[simp] theorem modFrt_pending (f : Frt → Frt) (s : State) : (modFrt f s).pending = s.pending := rfl

@[simp] theorem modSbu_sli (f : Sbu → Sbu) (s : State) : (modSbu f s).sli = s.sli := rfl
@[simp] theorem modSbu_ylc (f : Sbu → Sbu) (s : State) : (modSbu f s).ylc = s.ylc := rfl
@[simp] theorem modSbu_frt (f : Sbu → Sbu) (s : State) : (modSbu f s).frt = s.frt := rfl
@[simp] theorem modSbu_sbu (f : Sbu → Sbu) (s : State) : (modSbu f s).sbu = f s.sbu := rfl
@[simp] theorem modSbu_rdu (f : Sbu → Sbu) (s : State) : (modSbu f s).rdu = s.rdu := rfl
@[simp] theorem modSbu_ale (f : Sbu → Sbu) (s : State) : (modSbu f s).ale = s.ale := rfl
@[simp] theorem modSbu_rsu (f : Sbu → Sbu) (s : State) : (modSbu f s).rsu = s.rsu := rfl
@[simp] theorem modSbu_stp (f : Sbu → Sbu) (s : State) : (modSbu f s).stp = s.stp := rfl
@[simp] theorem modSbu_tsm (f : Sbu → Sbu) (s : State) : (modSbu f s).tsm = s.tsm := rfl
@[simp] theorem modSbu_power (f : Sbu → Sbu) (s : State) : (modSbu f s).power = s.power := rfl
@[simp] theorem modSbu_freeCount (f : Sbu → Sbu) (s : State) : (modSbu f s).freeCount = s.freeCount := rfl
@[simp] theorem modSbu_pending (f : Sbu → Sbu) (s : State) : (modSbu f s).pending = s.pending := rfl

@[simp] theorem modRdu_sli (f : Rdu → Rdu) (s : State) : (modRdu f s).sli = s.sli := rfl
@[simp] theorem modRdu_ylc (f : Rdu → Rdu) (s : State) : (modRdu f s).ylc = s.ylc := rfl
@[simp] theorem modRdu_frt (f : Rdu → Rdu) (s : State) : (modRdu f s).frt = s.frt := rfl
@[simp] theorem modRdu_sbu (f : Rdu → Rdu) (s : State) : (modRdu f s).sbu = s.sbu := rfl
@[simp] theorem modRdu_rdu (f : Rdu → Rdu) (s : State) : (modRdu f s).rdu = f s.rdu := rfl
@[simp] theorem modRdu_ale (f : Rdu → Rdu) (s : State) : (modRdu f s).ale = s.ale := rfl
@[simp] theorem modRdu_rsu (f : Rdu → Rdu) (s : State) : (modRdu f s).rsu = s.rsu := rfl
@[simp] theorem modRdu_stp (f : Rdu → Rdu) (s : State) : (modRdu f s).stp = s.stp := rfl
@[simp] theorem modRdu_tsm (f : Rdu → Rdu) (s : State) : (modRdu f s).tsm = s.tsm := rfl
@[simp] theorem modRdu_power (f : Rdu → Rdu) (s : State) : (modRdu f s).power = s.power := rfl
@[simp] theorem modRdu_freeCount (f : Rdu → Rdu) (s : State) : (modRdu f s).freeCount = s.freeCount := rfl
@[simp] theorem modRdu_pending (f : Rdu → Rdu) (s : State) : (modRdu f s).pending = s.pending := rfl

@[simp] theorem modAle_sli (f : Ale → Ale) (s : State) : (modAle f s).sli = s.sli := rfl
@[simp] theorem modAle_ylc (f : Ale → Ale) (s : State) : (modAle f s).ylc = s.ylc := rfl
@[simp] theorem modAle_frt (f : Ale → Ale) (s : State) : (modAle f s).frt = s.frt := rfl
@[simp] theorem modAle_sbu (f : Ale → Ale) (s : State) : (modAle f s).sbu = s.sbu := rfl
@[simp] theorem modAle_rdu (f : Ale → Ale) (s : State) : (modAle f s).rdu = s.rdu := rfl
@[simp] theorem modAle_ale (f : Ale → Ale) (s : State) : (modAle f s).ale = f s.ale := rfl
@[simp] theorem modAle_rsu (f : Ale → Ale) (s : State) : (modAle f s).rsu = s.rsu := rfl
@[simp] theorem modAle_stp (f : Ale → Ale) (s : State) : (modAle f s).stp = s.stp := rfl
@[simp] theorem modAle_tsm (f : Ale → Ale) (s : State) : (modAle f s).tsm = s.tsm := rfl
@[simp] theorem modAle_power (f : Ale → Ale) (s : State) : (modAle f s).power = s.power := rfl
@[simp] theorem modAle_freeCount (f : Ale → Ale) (s : State) : (modAle f s).freeCount = s.freeCount := rfl
@[simp] theorem modAle_pending (f : Ale → Ale) (s : State) : (modAle f s).pending = s.pending := rfl

@[simp] theorem modRsu_sli (f : Rsu → Rsu) (s : State) : (modRsu f s).sli = s.sli := rfl
@[simp] theorem modRsu_ylc (f : Rsu → Rsu) (s : State) : (modRsu f s).ylc = s.ylc := rfl
@[simp] theorem modRsu_frt (f : Rsu → Rsu) (s : State) : (modRsu f s).frt = s.frt := rfl
@[simp] theorem modRsu_sbu (f : Rsu → Rsu) (s : State) : (modRsu f s).sbu = s.sbu := rfl
@[simp] theorem modRsu_rdu (f : Rsu → Rsu) (s : State) : (modRsu f s).rdu = s.rdu := rfl
@[simp] theorem modRsu_ale (f : Rsu → Rsu) (s : State) : (modRsu f s).ale = s.ale := rfl
@[simp] theorem modRsu_rsu (f : Rsu → Rsu) (s : State) : (modRsu f s).rsu = f s.rsu := rfl
@[simp] theorem modRsu_stp (f : Rsu → Rsu) (s : State) : (modRsu f s).stp = s.stp := rfl
@[simp] theorem modRsu_tsm (f : Rsu → Rsu) (s : State) : (modRsu f s).tsm = s.tsm := rfl
@[simp] theorem modRsu_power (f : Rsu → Rsu) (s : State) : (modRsu f s).power = s.power := rfl
@[simp] theorem modRsu_freeCount (f : Rsu → Rsu) (s : State) : (modRsu f s).freeCount = s.freeCount := rfl
@[simp] theorem modRsu_pending (f : Rsu → Rsu) (s : State) : (modRsu f s).pending = s.pending := rfl

@[simp] theorem modStp_sli (f : Stp → Stp) (s : State) : (modStp f s).sli = s.sli := rfl
@[simp] theorem modStp_ylc (f : Stp → Stp) (s : State) : (modStp f s).ylc = s.ylc := rfl
@[simp] theorem modStp_frt (f : Stp → Stp) (s : State) : (modStp f s).frt = s.frt := rfl
@[simp] theorem modStp_sbu (f : Stp → Stp) (s : State) : (modStp f s).sbu = s.sbu := rfl
@[simp] theorem modStp_rdu (f : Stp → Stp) (s : State) : (modStp f s).rdu = s.rdu := rfl
@[simp] theorem modStp_ale (f : Stp → Stp) (s : State) : (modStp f s).ale = s.ale := rfl
@[simp] theorem modStp_rsu (f : Stp → Stp) (s : State) : (modStp f s).rsu = s.rsu := rfl
@[simp] theorem modStp_stp (f : Stp → Stp) (s : State) : (modStp f s).stp = f s.stp := rfl
@[simp] theorem modStp_tsm (f : Stp → Stp) (s : State) : (modStp f s).tsm = s.tsm := rfl
@[simp] theorem modStp_power (f : Stp → Stp) (s : State) : (modStp f s).power = s.power := rfl
@[simp] theorem modStp_freeCount (f : Stp → Stp) (s : State) : (modStp f s).freeCount = s.freeCount := rfl
@[simp] theorem modStp_pending (f : Stp → Stp) (s : State) : (modStp f s).pending = s.pending := rfl

@[simp] theorem modTsm_sli (f : Tsm → Tsm) (s : State) : (modTsm f s).sli = s.sli := rfl
@[simp] theorem modTsm_ylc (f : Tsm → Tsm) (s : State) : (modTsm f s).ylc = s.ylc := rfl
@[simp] theorem modTsm_frt (f : Tsm → Tsm) (s : State) : (modTsm f s).frt = s.frt := rfl
@[simp] theorem modTsm_sbu (f : Tsm → Tsm) (s : State) : (modTsm f s).sbu = s.sbu := rfl
@[simp] theorem modTsm_rdu (f : Tsm → Tsm) (s : State) : (modTsm f s).rdu = s.rdu := rfl
@[simp] theorem modTsm_ale (f : Tsm → Tsm) (s : State) : (modTsm f s).ale = s.ale := rfl
@[simp] theorem modTsm_rsu (f : Tsm → Tsm) (s : State) : (modTsm f s).rsu = s.rsu := rfl
@[simp] theorem modTsm_stp (f : Tsm → Tsm) (s : State) : (modTsm f s).stp = s.stp := rfl
@[simp] theorem modTsm_tsm (f : Tsm → Tsm) (s : State) : (modTsm f s).tsm = f s.tsm := rfl
@[simp] theorem modTsm_power (f : Tsm → Tsm) (s : State) : (modTsm f s).power = s.power := rfl
@[simp] theorem modTsm_freeCount (f : Tsm → Tsm) (s : State) : (modTsm f s).freeCount = s.freeCount := rfl
@[simp] theorem modTsm_pending (f : Tsm → Tsm) (s : State) : (modTsm f s).pending = s.pending := rfl

@[simp] theorem countFree_sli (s : State) : (countFree s).sli = s.sli := rfl
@[simp] theorem countFree_ylc (s : State) : (countFree s).ylc = s.ylc := rfl
@[simp] theorem countFree_frt (s : State) : (countFree s).frt = s.frt := rfl
@[simp] theorem countFree_sbu (s : State) : (countFree s).sbu = s.sbu := rfl
@[simp] theorem countFree_rdu (s : State) : (countFree s).rdu = s.rdu := rfl
@[simp] theorem countFree_ale (s : State) : (countFree s).ale = s.ale := rfl
@[simp] theorem countFree_rsu (s : State) : (countFree s).rsu = s.rsu := rfl
@[simp] theorem countFree_stp (s : State) : (countFree s).stp = s.stp := rfl
@[simp] theorem countFree_tsm (s : State) : (countFree s).tsm = s.tsm := rfl
@[simp] theorem countFree_power (s : State) : (countFree s).power = s.power := rfl
@[simp] theorem countFree_freeCount (s : State) : (countFree s).freeCount = s.freeCount + 1 := rfl
@[simp] theorem countFree_pending (s : State) : (countFree s).pending = s.pending := rfl

end Sys2Proof.Machine
end

