-- ==== Sys2Proof/Laws/Still.lean ====
section
/-! SUPPORT. What no operation changes: the supply, the queue of commands, the sizes of the post and cabinet tables,
and, but for the clock's own operations, the minute clock. One lemma for each operation. -/

namespace Sys2Proof.Machine

set_option Elab.async false

/-- The supply, the queue of commands, the clock, and the sizes of the post and cabinet tables. -/
def still (s : State) : Bool × List Instr × Clock × Nat × Nat :=
  (s.power, s.pending, s.rdu.clock, s.frt.posts.length, s.ylc.cabinets.length)

/-- The same without the clock. -/
def firm (s : State) : Bool × List Instr × Nat × Nat :=
  (s.power, s.pending, s.frt.posts.length, s.ylc.cabinets.length)

theorem firm_of_still {s t : State} (h : still t = still s) : firm t = firm s := by
  simp only [still, firm, Prod.mk.injEq] at h ⊢
  exact ⟨h.1, h.2.1, h.2.2.2.1, h.2.2.2.2⟩

/-- A fold over steps that keep a value keeps it. -/
theorem foldl_keeps {α β : Type} (φ : State → β) (f : State → α → State) (h : ∀ s a, φ (f s a) = φ s) (l : List α)
    (s : State) : φ (l.foldl f s) = φ s := by
  induction l generalizing s with
  | nil => rfl
  | cons a l ih => rw [List.foldl_cons, ih, h]

@[simp] theorem still_foldl {α : Type} (f : State → α → State) (l : List α) (s : State)
    (h : ∀ s a, still (f s a) = still s) : still (l.foldl f s) = still s := foldl_keeps still f h l s

@[simp] theorem firm_foldl {α : Type} (f : State → α → State) (l : List α) (s : State)
    (h : ∀ s a, firm (f s a) = firm s) : firm (l.foldl f s) = firm s := foldl_keeps firm f h l s

@[simp] theorem still_modSli (f : Sli → Sli) (s : State) : still (modSli f s) = still s := rfl
@[simp] theorem still_modYlc (f : Ylc → Ylc) (s : State) (h : (f s.ylc).cabinets.length = s.ylc.cabinets.length) :
    still (modYlc f s) = still s := by simp [still, h]
@[simp] theorem still_modFrt (f : Frt → Frt) (s : State) (h : (f s.frt).posts.length = s.frt.posts.length) :
    still (modFrt f s) = still s := by simp [still, h]
@[simp] theorem still_modSbu (f : Sbu → Sbu) (s : State) : still (modSbu f s) = still s := rfl
@[simp] theorem still_modRdu (f : Rdu → Rdu) (s : State) (h : (f s.rdu).clock = s.rdu.clock) :
    still (modRdu f s) = still s := by simp [still, h]
@[simp] theorem still_modAle (f : Ale → Ale) (s : State) : still (modAle f s) = still s := rfl
@[simp] theorem still_modRsu (f : Rsu → Rsu) (s : State) : still (modRsu f s) = still s := rfl
@[simp] theorem still_modStp (f : Stp → Stp) (s : State) : still (modStp f s) = still s := rfl
@[simp] theorem still_modTsm (f : Tsm → Tsm) (s : State) : still (modTsm f s) = still s := rfl
@[simp] theorem still_countFree (s : State) : still (countFree s) = still s := rfl
theorem firm_timesDo (f : State → State) (h : ∀ s, firm (f s) = firm s) (n : Nat) (s : State) :
    firm (timesDo f n s) = firm s := by
  induction n generalizing s with
  | zero => rfl
  | succ n ih => rw [timesDo, ih, h]

@[simp] theorem firm_modRdu (f : Rdu → Rdu) (s : State) : firm (modRdu f s) = firm s := rfl

@[simp] theorem still_updPost (p : Nat) (f : Post → Post) (s : State) : still (updPost p f s) = still s := by
  unfold updPost
  split <;> simp
@[simp] theorem still_mapPosts (f : Nat → Post → Post) (s : State) : still (mapPosts f s) = still s := by
  simp [mapPosts]
@[simp] theorem still_updBus (k : Nat) (f : Bus → Bus) (s : State) : still (updBus k f s) = still s := by
  simp [updBus]
@[simp] theorem still_updCab (c : Nat) (f : Cabinet → Cabinet) (s : State) : still (updCab c f s) = still s := by
  unfold updCab
  split <;> simp
@[simp] theorem still_updPool (c : Nat) (f : Sequencer → Sequencer) (s : State) :
    still (updPool c f s) = still s := by
  simp [updPool]
@[simp] theorem still_updLeg (n : Nat) (f : Leg → Leg) (s : State) : still (updLeg n f s) = still s := by
  simp [updLeg]
@[simp] theorem still_setLastOutcome (k : Nat) (l : LastOutcome) (s : State) :
    still (setLastOutcome k l s) = still s := by
  simp [setLastOutcome]
@[simp] theorem still_updStored (g : Segment) (f : StoredSeg → StoredSeg) (s : State) :
    still (updStored g f s) = still s := by
  simp [updStored]
@[simp] theorem still_wantPass (s : State) : still (wantPass s) = still s := by
  unfold wantPass
  split <;> simp
@[simp] theorem still_countDrop (s : State) : still (countDrop s) = still s := by
  simp [countDrop]
@[simp] theorem still_putOut (m : OutMsg) (s : State) : still (putOut m s) = still s := by
  unfold putOut
  split <;> simp
@[simp] theorem still_beginSend (m : OutMsg) (rest : List OutMsg) (s : State) :
    still (beginSend m rest s) = still s := by
  simp [beginSend]
@[simp] theorem still_reportOverflow (s : State) : still (reportOverflow s) = still s := by
  unfold reportOverflow
  (repeat' split) <;> simp
@[simp] theorem still_placeFreed (waited : Bool) (s : State) : still (placeFreed waited s) = still s := by
  unfold placeFreed
  (repeat' split) <;> simp
@[simp] theorem still_reportWaiting (waits : Bool) (s : State) : still (reportWaiting waits s) = still s := by
  unfold reportWaiting
  split <;> simp
@[simp] theorem still_trySend (s : State) : still (trySend s) = still s := by
  unfold trySend
  (repeat' split) <;> simp
@[simp] theorem still_queueOut (m : OutMsg) (s : State) : still (queueOut m s) = still s := by
  simp [queueOut]
@[simp] theorem still_notice (n : Notice) (s : State) : still (notice n s) = still s := by
  simp [notice]
@[simp] theorem still_evalTariff (s : State) : still (evalTariff s) = still s := by
  unfold evalTariff
  dsimp only
  split <;> simp
@[simp] theorem still_leaveRing (p : Nat) (s : State) : still (leaveRing p s) = still s := by
  simp [leaveRing]
@[simp] theorem still_setPostState (p : Nat) (st : PostState) (s : State) :
    still (setPostState p st s) = still s := by
  unfold setPostState
  (repeat' split) <;> simp
@[simp] theorem still_clearBusField (p : Nat) (s : State) : still (clearBusField p s) = still s := by
  simp [clearBusField]
@[simp] theorem still_unlocate (p : Nat) (next : BusState) (s : State) : still (unlocate p next s) = still s := by
  unfold unlocate
  split <;> simp
@[simp] theorem still_takeHeld (k p : Nat) (s : State) : still (takeHeld k p s) = still s := by
  unfold takeHeld
  split <;> simp
@[simp] theorem still_locate (k p : Nat) (s : State) : still (locate k p s) = still s := by
  simp [locate]
@[simp] theorem still_settle (p : Nat) (faultTest : Bool) (s : State) : still (settle p faultTest s) = still s := by
  simp [settle]
@[simp] theorem still_refeed (c i : Nat) (s : State) : still (refeed c i s) = still s := by
  unfold refeed
  dsimp only
  (repeat' split) <;> simp
@[simp] theorem still_refeedAll (c : Nat) (s : State) : still (refeedAll c s) = still s := by
  simp [refeedAll]
@[simp] theorem still_setModeInForce (c : Nat) (m : Option Mode) (s : State) :
    still (setModeInForce c m s) = still s := by
  unfold setModeInForce
  split <;> simp
@[simp] theorem still_queueReadiness (k : Nat) (s : State) : still (queueReadiness k s) = still s := by
  unfold queueReadiness
  split <;> simp
@[simp] theorem still_writeOutcome (legNo k : Nat) (o : LegOutcome) (s : State) :
    still (writeOutcome legNo k o s) = still s := by
  simp [writeOutcome]
@[simp] theorem still_dropEntry (legNo : Nat) (s : State) : still (dropEntry legNo s) = still s := by
  simp [dropEntry]
@[simp] theorem still_judgeDue (l : Leg) (s : State) : still (judgeDue l s).1 = still s := by
  unfold judgeDue
  dsimp only
  (repeat' split) <;> simp
@[simp] theorem still_closeLeg (l : Leg) (s : State) : still (closeLeg l s) = still s := by
  unfold closeLeg
  (repeat' split) <;> simp
@[simp] theorem still_refillFrom (e : Bool) (l : List Leg) (s : State) : still (refillFrom e l s) = still s := by
  induction l generalizing s with
  | nil => rfl
  | cons a l ih =>
    unfold refillFrom
    dsimp only
    (repeat' split) <;> simp [ih]
@[simp] theorem still_leaveList (endOfDay : Bool) (legNo : Nat) (s : State) :
    still (leaveList endOfDay legNo s) = still s := by
  simp [leaveList]
@[simp] theorem still_fallDue (when : Leg → Bool) (legNo : Nat) (s : State) :
    still (fallDue when legNo s) = still s := by
  unfold fallDue
  dsimp only
  (repeat' split) <;> simp
@[simp] theorem still_closeEntry (endOfDay : Bool) (legNo : Nat) (s : State) :
    still (closeEntry endOfDay legNo s) = still s := by
  unfold closeEntry
  (repeat' split) <;> simp
@[simp] theorem still_fallDueAll (when : Leg → Bool) (s : State) : still (fallDueAll when s) = still s := by
  simp [fallDueAll]
@[simp] theorem still_closeAll (endOfDay : Bool) (s : State) : still (closeAll endOfDay s) = still s := by
  simp [closeAll]
@[simp] theorem still_processMinute (s : State) : still (processMinute s) = still s := by
  simp [processMinute]
@[simp] theorem still_formList (kept : List DepEntry) (s : State) : still (formList kept s) = still s := by
  unfold formList
  split <;> simp
@[simp] theorem still_buildList (s : State) : still (buildList s) = still s := by
  simp [buildList]
@[simp] theorem still_closeKept (legNo : Nat) (s : State) : still (closeKept legNo s) = still s := by
  unfold closeKept
  (repeat' split) <;> simp
@[simp] theorem still_holdDue (s : State) : still (holdDue s) = still s := by
  simp [holdDue]
@[simp] theorem still_rebuildList (s : State) : still (rebuildList s) = still s := by
  unfold rebuildList
  split <;> simp
@[simp] theorem still_resetOutcomes (s : State) : still (resetOutcomes s) = still s := by
  simp [resetOutcomes]
@[simp] theorem still_clearMarkers (s : State) : still (clearMarkers s) = still s := by
  simp [clearMarkers]
@[simp] theorem still_clearSubstitutes (s : State) : still (clearSubstitutes s) = still s := by
  simp [clearSubstitutes]
@[simp] theorem still_resetOpenOutcomes (s : State) : still (resetOpenOutcomes s) = still s := by
  simp [resetOpenOutcomes]
@[simp] theorem firm_closeAll (endOfDay : Bool) (s : State) :
    firm (closeAll endOfDay s) = firm s := firm_of_still (still_closeAll endOfDay s)
@[simp] theorem firm_buildList (s : State) : firm (buildList s) = firm s := firm_of_still (still_buildList s)
@[simp] theorem firm_clearMarkers (s : State) : firm (clearMarkers s) = firm s := firm_of_still (still_clearMarkers s)
@[simp] theorem firm_clearSubstitutes (s : State) :
    firm (clearSubstitutes s) = firm s := firm_of_still (still_clearSubstitutes s)
@[simp] theorem firm_resetOutcomes (s : State) :
    firm (resetOutcomes s) = firm s := firm_of_still (still_resetOutcomes s)
@[simp] theorem firm_dayChange (s : State) : firm (dayChange s) = firm s := by
  simp [dayChange]
@[simp] theorem firm_processMinute (s : State) :
    firm (processMinute s) = firm s := firm_of_still (still_processMinute s)
@[simp] theorem firm_advanceMinute (s : State) : firm (advanceMinute s) = firm s := by
  unfold advanceMinute
  dsimp only
  split <;> simp
@[simp] theorem still_judgeUnplug (k : Nat) (s : State) : still (judgeUnplug k s) = still s := by
  unfold judgeUnplug
  dsimp only
  (repeat' split) <;> simp
@[simp] theorem still_reviewLeg (l : Leg) (s : State) : still (reviewLeg l s) = still s := by
  unfold reviewLeg
  (repeat' split) <;> simp
@[simp] theorem still_reviewLegs (s : State) : still (reviewLegs s) = still s := by
  unfold reviewLegs
  split <;> simp
@[simp] theorem still_reviewInfeasible (b : Bus) (next : Option NextLeg) (s : State) :
    still (reviewInfeasible b next s) = still s := by
  unfold reviewInfeasible
  (repeat' split) <;> simp
@[simp] theorem still_writeReadiness (k : Nat) (s : State) : still (writeReadiness k s) = still s := by
  unfold writeReadiness
  dsimp only
  (repeat' split) <;> simp
@[simp] theorem still_completeReadiness (s : State) : still (completeReadiness s) = still s := by
  simp [completeReadiness]
@[simp] theorem still_joinPlug (e : PlugEvent) (s : State) : still (joinPlug e s) = still s := by
  simp [joinPlug]
@[simp] theorem still_refuseEvent (s : State) : still (refuseEvent s) = still s := by
  unfold refuseEvent
  split <;> simp
@[simp] theorem still_resolveConflict (k q p : Nat) (s : State) : still (resolveConflict k q p s) = still s := by
  unfold resolveConflict
  split <;> simp
@[simp] theorem still_plugPost (p : Nat) (s : State) : still (plugPost p s) = still s := by
  unfold plugPost
  dsimp only
  (repeat' split) <;> simp
@[simp] theorem still_plugMapped (k p : Nat) (s : State) : still (plugMapped k p s) = still s := by
  unfold plugMapped
  dsimp only
  (repeat' split) <;> simp
@[simp] theorem still_plugUnmapped (p : Nat) (s : State) : still (plugUnmapped p s) = still s := by
  unfold plugUnmapped
  dsimp only
  split <;> simp
@[simp] theorem still_unplugBus (p : Nat) (s : State) : still (unplugBus p s) = still s := by
  unfold unplugBus
  (repeat' split) <;> simp
@[simp] theorem still_unplugEvent (p : Nat) (s : State) : still (unplugEvent p s) = still s := by
  unfold unplugEvent
  split <;> simp
@[simp] theorem still_faultEvent (p : Nat) (s : State) : still (faultEvent p s) = still s := by
  unfold faultEvent
  split <;> simp
@[simp] theorem still_faultClearEvent (p : Nat) (s : State) : still (faultClearEvent p s) = still s := by
  unfold faultClearEvent
  split <;> simp
@[simp] theorem still_processEvent (e : PlugEvent) (s : State) : still (processEvent e s) = still s := by
  unfold processEvent
  (repeat' split) <;> simp
@[simp] theorem still_drain (s : State) : still (drain s) = still s := by
  simp [drain]
@[simp] theorem still_repairOccupancy (p : Nat) (s : State) : still (repairOccupancy p s) = still s := by
  unfold repairOccupancy
  (repeat' split) <;> simp
@[simp] theorem still_compareOccupancy (p : Nat) (before : PostState) (occupied spoken : Bool) (s : State) :
    still (compareOccupancy p before occupied spoken s) = still s := by
  unfold compareOccupancy
  (repeat' split) <;> simp
@[simp] theorem still_removeEvents (c : Nat) (s : State) : still (removeEvents c s) = still s := by
  simp [removeEvents]
@[simp] theorem still_zeroGrants (c : Nat) (l : List Nat) (s : State) : still (zeroGrants c l s) = still s := by
  simp [zeroGrants]
@[simp] theorem still_beginChange (c : Nat) (target : Mode) (s : State) :
    still (beginChange c target s) = still s := by
  simp [beginChange]
@[simp] theorem still_compareMode (c : Nat) (wanted : Option Mode) (s : State) :
    still (compareMode c wanted s) = still s := by
  unfold compareMode
  (repeat' split) <;> simp
@[simp] theorem still_reformSet (c : Nat) (target : Mode) (s : State) : still (reformSet c target s) = still s := by
  simp [reformSet]
@[simp] theorem still_takePending (c : Nat) (s : State) : still (takePending c s) = still s := by
  unfold takePending
  dsimp only
  split <;> simp
@[simp] theorem still_endDone (c : Nat) (s : State) : still (endDone c s) = still s := by
  unfold endDone
  split <;> simp
@[simp] theorem still_acceptTarget (c : Nat) (s : State) : still (acceptTarget c s) = still s := by
  unfold acceptTarget
  split <;> simp
@[simp] theorem still_failAttempt (c : Nat) (cause : PoolCause) (s : State) :
    still (failAttempt c cause s) = still s := by
  unfold failAttempt
  dsimp only
  (repeat' split) <;> simp
@[simp] theorem still_failOffline (c : Nat) (s : State) : still (failOffline c s) = still s := by
  unfold failOffline
  dsimp only
  (repeat' split) <;> simp
@[simp] theorem still_restartPool (c : Nat) (s : State) : still (restartPool c s) = still s := by
  simp [restartPool]
@[simp] theorem still_joinSet (c : Nat) (target : Mode) (s : State) : still (joinSet c target s) = still s := by
  simp [joinSet]
@[simp] theorem still_afterReport (c : Nat) (m : Mode) (moved : Bool) (s : State) :
    still (afterReport c m moved s) = still s := by
  unfold afterReport
  (repeat' split) <;> simp
@[simp] theorem still_reportMode (c : Nat) (code : Byte) (s : State) : still (reportMode c code s) = still s := by
  unfold reportMode
  split <;> simp
@[simp] theorem still_markQuiet (c : Nat) (s : State) : still (markQuiet c s) = still s := by
  unfold markQuiet
  dsimp only
  split <;> simp
@[simp] theorem still_wantMode (c : Nat) (d : Mode) (s : State) : still (wantMode c d s) = still s := by
  unfold wantMode
  dsimp only
  (repeat' split) <;> simp
@[simp] theorem still_buildStorage (s : State) : still (buildStorage s) = still s := by
  simp [buildStorage]
@[simp] theorem still_reband (s : State) : still (reband s) = still s := by
  simp [reband]
@[simp] theorem still_classify (k : Nat) (s : State) : still (classify k s) = still s := by
  unfold classify
  dsimp only
  (repeat' split) <;> simp
@[simp] theorem still_queueStorage (s : State) : still (queueStorage s) = still s := by
  simp [queueStorage]
@[simp] theorem still_completeStorage (f : PassFacts) (s : State) : still (completeStorage f s) = still s := by
  unfold completeStorage
  dsimp only
  split <;> simp
@[simp] theorem still_queueCapability (slot : Nat) (s : State) : still (queueCapability slot s) = still s := by
  simp [queueCapability]
@[simp] theorem still_recordSides (slot : Nat) (s : State) : still (recordSides slot s) = still s := by
  simp [recordSides]
@[simp] theorem still_slotStart (slot : Nat) (s : State) : still (slotStart slot s) = still s := by
  simp [slotStart]
@[simp] theorem still_takeSlot (s : State) : still (takeSlot s) = still s := by
  unfold takeSlot
  dsimp only
  split <;> simp
@[simp] theorem still_compareSides (s : State) : still (compareSides s) = still s := by
  unfold compareSides
  (repeat' split) <;> simp
@[simp] theorem still_updActive (f : Dispatch → Dispatch) (s : State) : still (updActive f s) = still s := by
  simp [updActive]
@[simp] theorem still_evalBand (s : State) : still (evalBand s) = still s := by
  simp [evalBand]
@[simp] theorem still_accumulate (s : State) : still (accumulate s) = still s := by
  simp [accumulate]
@[simp] theorem still_takeShortfall (found : Option (Nat × ShortCause)) (s : State) :
    still (takeShortfall found s) = still s := by
  unfold takeShortfall
  (repeat' split) <;> simp
@[simp] theorem still_completeReserve (f : PassFacts) (found : Option (Nat × ShortCause)) (s : State) :
    still (completeReserve f found s) = still s := by
  simp [completeReserve]
@[simp] theorem still_endActive (e : EndState) (s : State) : still (endActive e s) = still s := by
  unfold endActive
  split <;> simp
@[simp] theorem still_dropArmed (cause : DropCause) (s : State) : still (dropArmed cause s) = still s := by
  unfold dropArmed
  split <;> simp
@[simp] theorem still_abandonDispatches (cause : DropCause) (s : State) :
    still (abandonDispatches cause s) = still s := by
  unfold abandonDispatches
  split <;> simp
@[simp] theorem still_startDispatch (d : Dispatch) (s : State) : still (startDispatch d s) = still s := by
  simp [startDispatch]
@[simp] theorem still_placeDispatch (d : Dispatch) (s : State) : still (placeDispatch d s) = still s := by
  unfold placeDispatch
  split <;> simp
@[simp] theorem still_startArmed (s : State) : still (startArmed s) = still s := by
  unfold startArmed
  split <;> simp
@[simp] theorem still_raiseHighId (id : Nat) (s : State) : still (raiseHighId id s) = still s := by
  simp [raiseHighId]
@[simp] theorem still_drainForPass (s : State) : still (drainForPass s) = still s := by
  simp [drainForPass]
@[simp] theorem still_beginPass (s : State) : still (beginPass s) = still s := by
  simp [beginPass]
@[simp] theorem still_writeGrants (n : Snapshot) (r : AllocResult) (s : State) :
    still (writeGrants n r s) = still s := by
  simp [writeGrants]
@[simp] theorem still_writeTiers (tierOf : Nat → Tier) (s : State) : still (writeTiers tierOf s) = still s := rfl
@[simp] theorem still_writeRing (old new : Nat → Tier) (n : Snapshot) (r : AllocResult) (s : State) :
    still (writeRing old new n r s) = still s := by
  unfold writeRing
  (repeat' split) <;> simp
@[simp] theorem still_writeOverLimit (r : AllocResult) (s : State) : still (writeOverLimit r s) = still s := by
  unfold writeOverLimit
  (repeat' split) <;> simp
@[simp] theorem still_completeWrites (n : Snapshot) (s : State) : still (completeWrites n s) = still s := by
  unfold completeWrites
  simp only [still_writeOverLimit, still_completeReserve, still_completeStorage, still_completeReadiness, still_writeRing, still_writeTiers, still_writeGrants]
@[simp] theorem still_safePass (s : State) : still (safePass s) = still s := by
  simp [safePass]
@[simp] theorem still_startPass (s : State) : still (startPass s) = still s := by
  unfold startPass
  split <;> simp
@[simp] theorem still_loseBus (p : Nat) (s : State) : still (loseBus p s) = still s := by
  unfold loseBus
  split <;> simp
@[simp] theorem still_repost (old : State) (rows : List FleetRow) (p : Nat) (s : State) :
    still (repost old rows p s) = still s := by
  unfold repost
  (repeat' split) <;> simp
@[simp] theorem still_activateFleet (content : Option (List Row)) (s : State) :
    still (activateFleet content s) = still s := by
  unfold activateFleet
  rw [still_buildStorage, still_foldl _ _ _ fun s a => still_repost _ _ _ _]
  rfl
@[simp] theorem still_activateRoute (content : Option (List Row)) (s : State) :
    still (activateRoute content s) = still s := by
  simp [activateRoute]
@[simp] theorem still_enterAll (c : Nat) (st : PostState) (s : State) : still (enterAll c st s) = still s := by
  simp [enterAll]
@[simp] theorem still_unlocateAll (c : Nat) (s : State) : still (unlocateAll c s) = still s := by
  simp [unlocateAll]
@[simp] theorem still_clearSent (c : Nat) (s : State) : still (clearSent c s) = still s := by
  simp [clearSent]
@[simp] theorem still_abandonVisit (c : Nat) (s : State) : still (abandonVisit c s) = still s := by
  simp [abandonVisit]
@[simp] theorem still_unconfigure (c : Nat) (s : State) : still (unconfigure c s) = still s := by
  unfold unconfigure
  dsimp only
  split <;> simp
@[simp] theorem still_reconfigure (c : Nat) (r : YardRow) (s : State) : still (reconfigure c r s) = still s := by
  unfold reconfigure
  dsimp only
  (repeat' split) <;> simp
@[simp] theorem still_rejoin (c : Nat) (r : YardRow) (s : State) : still (rejoin c r s) = still s := by
  simp [rejoin]
@[simp] theorem still_configure (c : Nat) (r : YardRow) (s : State) : still (configure c r s) = still s := by
  simp [configure]
@[simp] theorem still_activateStation (rows : List YardRow) (c : Nat) (s : State) :
    still (activateStation rows c s) = still s := by
  unfold activateStation
  split <;> simp
@[simp] theorem still_enterIsland (s : State) : still (enterIsland s) = still s := by
  unfold enterIsland
  dsimp only
  split <;> simp
@[simp] theorem still_enterSafe (s : State) : still (enterSafe s) = still s := by
  unfold enterSafe
  rw [still_trySend, still_abandonDispatches]
  rfl
@[simp] theorem still_yardArrived (s : State) : still (yardArrived s) = still s := by
  unfold yardArrived
  (repeat' split) <;> simp
@[simp] theorem still_yardLeft (s : State) : still (yardLeft s) = still s := by
  unfold yardLeft
  split <;> simp
@[simp] theorem still_roundOver (s : State) : still (roundOver s) = still s := by
  simp [roundOver]
@[simp] theorem still_applyRoundDue (s : State) : still (applyRoundDue s) = still s := by
  unfold applyRoundDue
  split <;> simp
@[simp] theorem still_closeRound (s : State) : still (closeRound s) = still s := by
  unfold closeRound
  (repeat' split) <;> simp
@[simp] theorem still_activateYard (content : Option (List Row)) (s : State) :
    still (activateYard content s) = still s := by
  unfold activateYard
  split <;> simp
@[simp] theorem still_activateCommitment (content : Option (List Row)) (s : State) :
    still (activateCommitment content s) = still s := by
  simp [activateCommitment]
@[simp] theorem still_activateTariff (content : Option (List Row)) (s : State) :
    still (activateTariff content s) = still s := by
  simp [activateTariff]
@[simp] theorem still_activatePassage (content : Option (List Row)) (s : State) :
    still (activatePassage content s) = still s := by
  simp [activatePassage]
@[simp] theorem still_changeSeason (season : Season) (s : State) : still (changeSeason season s) = still s := by
  unfold changeSeason
  split <;> simp
@[simp] theorem still_activateSettings (content : Option (List Row)) (s : State) :
    still (activateSettings content s) = still s := by
  simp [activateSettings]
@[simp] theorem still_handContent (g : Segment) (content : Option (List Row)) (s : State) :
    still (handContent g content s) = still s := by
  unfold handContent
  split <;> simp
@[simp] theorem still_applyActivation (a : Activation) (s : State) : still (applyActivation a s) = still s := by
  simp [applyActivation]
@[simp] theorem still_applyWaiting (s : State) : still (applyWaiting s) = still s := by
  simp [applyWaiting]
@[simp] theorem still_makeReady (a : Activation) (s : State) : still (makeReady a s) = still s := by
  simp [makeReady]
@[simp] theorem still_runTriggers (s : State) : still (runTriggers s) = still s := by
  unfold runTriggers
  dsimp only
  (repeat' split) <;> simp
@[simp] theorem still_trigger (s : State) : still (trigger s) = still s := by
  simp [trigger]
@[simp] theorem still_boundary (s : State) : still (boundary s) = still s := by
  simp [boundary]
@[simp] theorem still_endPass (s : State) : still (endPass s) = still s := by
  simp [endPass]
@[simp] theorem still_handMinute (s : State) : still (handMinute s) = still s := by
  simp [handMinute]
@[simp] theorem firm_adoptClock (minute weekday second : Nat) (s : State) :
    firm (adoptClock minute weekday second s) = firm s := by
  simp [adoptClock]
@[simp] theorem firm_handMinute (s : State) : firm (handMinute s) = firm s := firm_of_still (still_handMinute s)
@[simp] theorem firm_firstSetting (minute weekday second : Nat) (s : State) :
    firm (firstSetting minute weekday second s) = firm s := by
  simp [firstSetting]
@[simp] theorem firm_notice (n : Notice) (s : State) : firm (notice n s) = firm s := firm_of_still (still_notice n s)
@[simp] theorem firm_jump (minute weekday second : Nat) (s : State) :
    firm (jump minute weekday second s) = firm s := by
  unfold jump
  dsimp only
  split <;> simp
@[simp] theorem firm_setSecond (second : Nat) (s : State) : firm (setSecond second s) = firm s := by
  simp [setSecond]
@[simp] theorem firm_slewForward (seconds second : Nat) (s : State) :
    firm (slewForward seconds second s) = firm s := by
  unfold slewForward
  dsimp only
  split <;> simp [firm_timesDo]
@[simp] theorem firm_slewBackward (minute weekday second : Nat) (s : State) :
    firm (slewBackward minute weekday second s) = firm s := by
  unfold slewBackward
  split <;> simp
@[simp] theorem firm_judgeTime (minute weekday second : Nat) (s : State) :
    firm (judgeTime minute weekday second s) = firm s := by
  unfold judgeTime
  dsimp only
  (repeat' split) <;> simp
@[simp] theorem firm_takeTime (payload : List Byte) (s : State) : firm (takeTime payload s) = firm s := by
  unfold takeTime
  (repeat' split) <;> simp
@[simp] theorem still_takeLink (l : Link) (s : State) : still (takeLink l s) = still s := by
  simp [takeLink]
@[simp] theorem still_sendExchange (c waits : Nat) (s : State) : still (sendExchange c waits s) = still s := by
  simp [sendExchange]
@[simp] theorem still_sendCurtail (s : State) : still (sendCurtail s) = still s := by
  simp [sendCurtail]
@[simp] theorem still_sendPool (c : Nat) (target : Mode) (s : State) : still (sendPool c target s) = still s := by
  simp [sendPool]
@[simp] theorem still_sendForward (t : Telegram) (rest : List Telegram) (s : State) :
    still (sendForward t rest s) = still s := by
  simp [sendForward]
@[simp] theorem still_freeLink (s : State) : still (freeLink s) = still s := by
  simp [freeLink]
@[simp] theorem still_completeRound (s : State) : still (completeRound s) = still s := by
  simp [completeRound]
@[simp] theorem still_continueRound (last : Nat) (s : State) : still (continueRound last s) = still s := by
  unfold continueRound
  split <;> simp
@[simp] theorem still_startRound (s : State) : still (startRound s) = still s := by
  simp [startRound]
@[simp] theorem still_endVisit (c : Nat) (answered : Bool) (s : State) : still (endVisit c answered s) = still s := by
  unfold endVisit
  dsimp only
  (repeat' split) <;> simp
@[simp] theorem still_giveLink (g : Grantee) (s : State) : still (giveLink g s) = still s := by
  unfold giveLink
  split <;> simp
@[simp] theorem still_closeClaims (s : State) : still (closeClaims s) = still s := by
  simp [closeClaims]
@[simp] theorem still_settleLink (n : Nat) (s : State) : still (settleLink n s) = still s := by
  induction n generalizing s with
  | zero => rfl
  | succ n ih =>
    unfold settleLink
    (repeat' split) <;> simp [ih]
@[simp] theorem still_finish (s : State) : still (finish s) = still s := by
  simp [finish]
@[simp] theorem still_goOffline (c : Nat) (s : State) : still (goOffline c s) = still s := by
  simp [goOffline]
@[simp] theorem still_countMiss (c : Nat) (s : State) : still (countMiss c s) = still s := by
  unfold countMiss
  dsimp only
  (repeat' split) <;> simp
@[simp] theorem still_missVisit (c : Nat) (s : State) : still (missVisit c s) = still s := by
  simp [missVisit]
@[simp] theorem still_cabinetRestart (c : Nat) (s : State) : still (cabinetRestart c s) = still s := by
  simp [cabinetRestart]
@[simp] theorem still_statusRestart (c : Nat) (restarted : Bool) (s : State) :
    still (statusRestart c restarted s) = still s := by
  unfold statusRestart
  (repeat' split) <;> simp
@[simp] theorem still_statusLink (c : Nat) (grants : List Int) (s : State) :
    still (statusLink c grants s) = still s := by
  unfold statusLink
  split <;> simp
@[simp] theorem still_statusReport (c : Nat) (m : StatusMsg) (before : List PostState) (i : Nat) (s : State) :
    still (statusReport c m before i s) = still s := by
  unfold statusReport
  dsimp only
  (repeat' split) <;> simp
@[simp] theorem still_statusSettle (c i : Nat) (s : State) : still (statusSettle c i s) = still s := by
  unfold statusSettle
  dsimp only
  split <;> simp
@[simp] theorem still_statusHandOff (c : Nat) (m : StatusMsg) (grants : List Int) (js : List Judgement) (s : State) :
    still (statusHandOff c m grants js s) = still s := by
  unfold statusHandOff
  split <;> simp
@[simp] theorem still_applyReports (c : Nat) (m : StatusMsg) (grants : List Int) (s : State) :
    still (applyReports c m grants s) = still s := by
  simp [applyReports]
@[simp] theorem still_offerEvents (c : Nat) (r : Bool) (l : List RawEvent) (s : State) :
    still (offerEvents c r l s).1 = still s := by
  induction l generalizing r s with
  | nil => rfl
  | cons e l ih =>
    unfold offerEvents
    dsimp only
    (repeat' split) <;> simp [ih]
@[simp] theorem still_takeStatus (c : Nat) (m : StatusMsg) (grants : List Int) (s : State) :
    still (takeStatus c m grants s) = still s := by
  simp [takeStatus]
@[simp] theorem still_zeroAll (s : State) : still (zeroAll s) = still s := by
  simp [zeroAll]
@[simp] theorem still_curtailDone (s : State) : still (curtailDone s) = still s := by
  unfold curtailDone
  dsimp only
  split <;> simp
@[simp] theorem still_siteSilent (s : State) : still (siteSilent s) = still s := by
  unfold siteSilent
  dsimp only
  split <;> simp
@[simp] theorem still_siteReturn (s : State) : still (siteReturn s) = still s := by
  unfold siteReturn
  dsimp only
  split <;> simp
@[simp] theorem still_siteArrived (s : State) : still (siteArrived s) = still s := by
  unfold siteArrived
  (repeat' split) <;> simp
@[simp] theorem still_siteLeft (b s : State) : still (siteLeft b s) = still s := by
  unfold siteLeft
  split <;> simp
@[simp] theorem still_siteFramed (s : State) : still (siteFramed s) = still s := by
  simp [siteFramed]
@[simp] theorem still_judgeBreach (s : State) : still (judgeBreach s) = still s := by
  unfold judgeBreach
  dsimp only
  split
  · rfl
  · split
    · simp
    · rw [still_trigger]; rfl
@[simp] theorem still_readMeter (imp : Int) (cap ambient : Option Int) (s : State) :
    still (readMeter imp cap ambient s) = still s := by
  simp [readMeter]
@[simp] theorem still_takeMeter (payload : List Byte) (s : State) : still (takeMeter payload s) = still s := by
  unfold takeMeter
  (repeat' split) <;> simp
@[simp] theorem still_queueDispReply (src : Byte) (r : DispReply) (s : State) :
    still (queueDispReply src r s) = still s := by
  simp [queueDispReply]
@[simp] theorem still_repeatReply (src : Byte) (s : State) : still (repeatReply src s) = still s := by
  unfold repeatReply
  split <;> simp
@[simp] theorem still_answerDispatch (src seq : Byte) (f : DispatchFields) (s : State) :
    still (answerDispatch src seq f s) = still s := by
  unfold answerDispatch
  dsimp only
  (repeat' split) <;> simp
@[simp] theorem still_takeDispatch (src seq : Byte) (payload : List Byte) (s : State) :
    still (takeDispatch src seq payload s) = still s := by
  unfold takeDispatch
  (repeat' split) <;> simp
@[simp] theorem still_cancelDispatch (id : Nat) (s : State) : still (cancelDispatch id s) = still s := by
  unfold cancelDispatch
  (repeat' split) <;> simp
@[simp] theorem still_takeCancel (payload : List Byte) (s : State) : still (takeCancel payload s) = still s := by
  unfold takeCancel
  (repeat' split) <;> simp
@[simp] theorem still_joinForward (t : Telegram) (s : State) : still (joinForward t s) = still s := by
  simp [joinForward]
@[simp] theorem still_forwardOrRefuse (t : Telegram) (s : State) : still (forwardOrRefuse t s) = still s := by
  unfold forwardOrRefuse
  split <;> simp
@[simp] theorem still_takePassThrough (t : Telegram) (s : State) : still (takePassThrough t s) = still s := by
  unfold takePassThrough
  (repeat' split) <;> simp
@[simp] theorem still_queueSetreqReply (src : Byte) (r : SetreqReply) (s : State) :
    still (queueSetreqReply src r s) = still s := by
  simp [queueSetreqReply]
@[simp] theorem still_refuseSetreq (dst src seq : Byte) (position : Nat) (why : SetreqResult) (s : State) :
    still (refuseSetreq dst src seq position why s) = still s := by
  simp [refuseSetreq]
@[simp] theorem still_clampSetreq (dst src seq : Byte) (position p : Nat) (request : Option Int) (boost : Bool) (s : State) :
    still (clampSetreq dst src seq position p request boost s) = still s := by
  unfold clampSetreq
  split <;> simp
@[simp] theorem still_judgeClamp (dst src seq : Byte) (position : Nat) (request : Option Int) (boost : Bool) (s : State) :
    still (judgeClamp dst src seq position request boost s) = still s := by
  unfold judgeClamp
  (repeat' split) <;> simp
@[simp] theorem still_takeSetreq (dst src seq : Byte) (payload : List Byte) (s : State) :
    still (takeSetreq dst src seq payload s) = still s := by
  unfold takeSetreq
  (repeat' split) <;> simp
@[simp] theorem still_takeForwardReply (t : Telegram) (s : State) : still (takeForwardReply t s) = still s := by
  unfold takeForwardReply
  split <;> simp
@[simp] theorem still_sendDone (s : State) : still (sendDone s) = still s := by
  unfold sendDone
  split <;> simp
@[simp] theorem still_yardFramed (s : State) : still (yardFramed s) = still s := by
  simp [yardFramed]
@[simp] theorem still_replyStatus (src : Byte) (payload : List Byte) (s : State) :
    still (replyStatus src payload s) = still s := by
  unfold replyStatus
  (repeat' split) <;> simp
@[simp] theorem still_holdOff (c waits : Nat) (s : State) : still (holdOff c waits s) = still s := by
  unfold holdOff
  split <;> simp
@[simp] theorem still_replyWait (src : Byte) (payload : List Byte) (s : State) :
    still (replyWait src payload s) = still s := by
  unfold replyWait
  (repeat' split) <;> simp
@[simp] theorem still_holdOffExpired (s : State) : still (holdOffExpired s) = still s := by
  unfold holdOffExpired
  split <;> simp
@[simp] theorem still_exchangeTimeout (s : State) : still (exchangeTimeout s) = still s := by
  unfold exchangeTimeout
  split <;> simp
@[simp] theorem still_poolSendDone (s : State) : still (poolSendDone s) = still s := by
  unfold poolSendDone
  (repeat' split) <;> simp
@[simp] theorem still_poolAnswer (c : Nat) (result : Byte) (reason : Nat) (s : State) :
    still (poolAnswer c result reason s) = still s := by
  unfold poolAnswer
  split <;> simp
@[simp] theorem still_replyPoolAck (src : Byte) (payload : List Byte) (s : State) :
    still (replyPoolAck src payload s) = still s := by
  unfold replyPoolAck
  (repeat' split) <;> simp
@[simp] theorem still_replyPoolWait (src : Byte) (payload : List Byte) (s : State) :
    still (replyPoolWait src payload s) = still s := by
  unfold replyPoolWait
  (repeat' split) <;> simp
@[simp] theorem still_poolTimeout (s : State) : still (poolTimeout s) = still s := by
  unfold poolTimeout
  split <;> simp
@[simp] theorem still_replyForward (t : Telegram) (s : State) : still (replyForward t s) = still s := by
  unfold replyForward
  (repeat' split) <;> simp
@[simp] theorem still_forwardTimeout (s : State) : still (forwardTimeout s) = still s := by
  unfold forwardTimeout
  (repeat' split) <;> simp
@[simp] theorem still_broadcastDone (s : State) : still (broadcastDone s) = still s := by
  unfold broadcastDone
  (repeat' split) <;> simp
@[simp] theorem still_curtailSendDone (s : State) : still (curtailSendDone s) = still s := by
  unfold curtailSendDone
  split <;> simp
@[simp] theorem still_mgmtReply (h : MgmtHead) (result : MgmtResult) (details : MgmtDetails) (s : State) :
    still (mgmtReply h result details s) = still s := by
  simp [mgmtReply]
@[simp] theorem still_answer (h : MgmtHead) (result : MgmtResult) (details : MgmtDetails) (s : State) :
    still (answer h result details s) = still s := by
  unfold answer
  split <;> simp
@[simp] theorem still_markIncomplete (job : WriteJob) (s : State) : still (markIncomplete job s) = still s := by
  unfold markIncomplete
  split <;> simp
@[simp] theorem still_beginWrite (h : MgmtHead) (job : WriteJob) (s : State) :
    still (beginWrite h job s) = still s := by
  simp [beginWrite]
@[simp] theorem still_storeWritten (job : WriteJob) (s : State) : still (storeWritten job s) = still s := by
  unfold storeWritten
  split <;> simp
@[simp] theorem still_storeFaulted (job : WriteJob) (s : State) : still (storeFaulted job s) = still s := by
  unfold storeFaulted
  split <;> simp
@[simp] theorem still_readyAfter (job : WriteJob) (written : Bool) (s : State) :
    still (readyAfter job written s) = still s := by
  unfold readyAfter
  (repeat' split) <;> simp
@[simp] theorem still_applyIfIdle (s : State) : still (applyIfIdle s) = still s := by
  unfold applyIfIdle
  split <;> simp
@[simp] theorem still_endWrite (written : Bool) (s : State) : still (endWrite written s) = still s := by
  unfold endWrite
  (repeat' split) <;> simp
@[simp] theorem still_stageRow (g : Segment) (i : Nat) (r : Row) (s : State) :
    still (stageRow g i r s) = still s := by
  simp [stageRow]
@[simp] theorem still_serveStage (h : MgmtHead) (f : List Byte) (s : State) : still (serveStage h f s) = still s := by
  unfold serveStage
  dsimp only
  (repeat' split) <;> simp
@[simp] theorem still_clearStaging (s : State) : still (clearStaging s) = still s := by
  simp [clearStaging]
@[simp] theorem still_serveDiscard (h : MgmtHead) (s : State) : still (serveDiscard h s) = still s := by
  simp [serveDiscard]
@[simp] theorem still_serveCommit (h : MgmtHead) (f : List Byte) (s : State) :
    still (serveCommit h f s) = still s := by
  unfold serveCommit
  split <;> simp
@[simp] theorem still_serveRead (h : MgmtHead) (f : List Byte) (s : State) : still (serveRead h f s) = still s := by
  unfold serveRead
  (repeat' split) <;> simp
@[simp] theorem still_serveStatus (h : MgmtHead) (s : State) : still (serveStatus h s) = still s := by
  simp [serveStatus]
@[simp] theorem still_serveClearStatus (h : MgmtHead) (s : State) : still (serveClearStatus h s) = still s := by
  simp [serveClearStatus]
@[simp] theorem still_serveLock (h : MgmtHead) (f : List Byte) (s : State) : still (serveLock h f s) = still s := by
  unfold serveLock
  (repeat' split) <;> simp
@[simp] theorem still_serveRelease (h : MgmtHead) (f : List Byte) (s : State) :
    still (serveRelease h f s) = still s := by
  unfold serveRelease
  (repeat' split) <;> simp
@[simp] theorem still_serveSetCode (h : MgmtHead) (f : List Byte) (s : State) :
    still (serveSetCode h f s) = still s := by
  unfold serveSetCode
  split <;> simp
@[simp] theorem still_serveWithdraw (h : MgmtHead) (f : List Byte) (s : State) :
    still (serveWithdraw h f s) = still s := by
  unfold serveWithdraw
  split <;> simp
@[simp] theorem still_serveReturn (h : MgmtHead) (f : List Byte) (s : State) :
    still (serveReturn h f s) = still s := by
  unfold serveReturn
  split <;> simp
@[simp] theorem still_rejudge (legNo : Nat) (s : State) : still (rejudge legNo s) = still s := by
  unfold rejudge
  dsimp only
  (repeat' split) <;> simp
@[simp] theorem still_substitute (legNo : Nat) (bus : Option Nat) (s : State) :
    still (substitute legNo bus s) = still s := by
  unfold substitute
  dsimp only
  split <;> simp
@[simp] theorem still_serveSubstitute (h : MgmtHead) (f : List Byte) (s : State) :
    still (serveSubstitute h f s) = still s := by
  unfold serveSubstitute
  dsimp only
  split <;> simp
@[simp] theorem still_serveSeason (h : MgmtHead) (f : List Byte) (s : State) :
    still (serveSeason h f s) = still s := by
  unfold serveSeason
  (repeat' split) <;> simp
@[simp] theorem still_serveRestart (h : MgmtHead) (f : List Byte) (s : State) :
    still (serveRestart h f s) = still s := by
  unfold serveRestart
  split <;> simp
@[simp] theorem still_serveOp (h : MgmtHead) (f : List Byte) (s : State) : still (serveOp h f s) = still s := by
  unfold serveOp
  simp only [apply_ite still, ite_self, still_serveStage, still_serveCommit, still_serveDiscard, still_serveRead,
    still_serveStatus, still_serveLock, still_serveRelease, still_serveSetCode, still_serveClearStatus,
    still_serveWithdraw, still_serveReturn, still_serveSubstitute, still_serveSeason, still_serveRestart]
@[simp] theorem still_takeMgmt (src seq op : Byte) (access fields : List Byte) (s : State) :
    still (takeMgmt src seq op access fields s) = still s := by
  unfold takeMgmt judgeMgmt
  split <;> simp
@[simp] theorem still_handMgmt (t : Telegram) (s : State) : still (handMgmt t s) = still s := by
  unfold handMgmt
  split <;> simp
@[simp] theorem firm_takeMeter (payload : List Byte) (s : State) :
    firm (takeMeter payload s) = firm s := firm_of_still (still_takeMeter payload s)
@[simp] theorem firm_takeDispatch (src seq : Byte) (payload : List Byte) (s : State) :
    firm (takeDispatch src seq payload s) = firm s := firm_of_still (still_takeDispatch src seq payload s)
@[simp] theorem firm_takeCancel (payload : List Byte) (s : State) :
    firm (takeCancel payload s) = firm s := firm_of_still (still_takeCancel payload s)
@[simp] theorem firm_handMgmt (t : Telegram) (s : State) :
    firm (handMgmt t s) = firm s := firm_of_still (still_handMgmt t s)
@[simp] theorem firm_handOwn (t : Telegram) (s : State) : firm (handOwn t s) = firm s := by
  unfold handOwn
  (repeat' split) <;> simp
@[simp] theorem still_handThrough (t : Telegram) (s : State) : still (handThrough t s) = still s := by
  unfold handThrough
  split <;> simp
@[simp] theorem firm_siteArrived (s : State) : firm (siteArrived s) = firm s := firm_of_still (still_siteArrived s)
@[simp] theorem firm_handThrough (t : Telegram) (s : State) :
    firm (handThrough t s) = firm s := firm_of_still (still_handThrough t s)
@[simp] theorem firm_siteLeft (b s : State) : firm (siteLeft b s) = firm s := firm_of_still (still_siteLeft b s)
@[simp] theorem firm_deliverSite (t : Telegram) (s : State) : firm (deliverSite t s) = firm s := by
  unfold deliverSite siteHandled
  (repeat' split) <;> simp
@[simp] theorem still_deliverYard (t : Telegram) (s : State) : still (deliverYard t s) = still s := by
  unfold deliverYard
  (repeat' split) <;> simp
@[simp] theorem firm_siteBytes (l : List Byte) (s : State) : firm (siteBytes l s) = firm s := by
  unfold siteBytes
  rw [firm_foldl _ _ _ fun s t => firm_deliverSite t s]
  rfl
@[simp] theorem still_yardBytes (l : List Byte) (s : State) : still (yardBytes l s) = still s := by
  unfold yardBytes
  split <;> simp
@[simp] theorem still_loadSegment (g : Segment) (s : State) : still (loadSegment g s) = still s := by
  simp [loadSegment]
@[simp] theorem still_loadStore (s : State) : still (loadStore s) = still s := by
  simp [loadStore]
@[simp] theorem still_leaveStarting (s : State) : still (leaveStarting s) = still s := by
  unfold leaveStarting
  (repeat' split) <;> first | simp (maxDischargeDepth := 9) | rfl
@[simp] theorem still_startTimers (s : State) : still (startTimers s) = still s := by
  simp [startTimers]
@[simp] theorem still_endStarting (s : State) : still (endStarting s) = still s := by
  simp [endStarting]
@[simp] theorem still_endLoading (s : State) : still (endLoading s) = still s := by
  unfold endLoading
  split <;> simp
@[simp] theorem still_silenceExpired (s : State) : still (silenceExpired s) = still s := by
  unfold silenceExpired
  split <;> simp
@[simp] theorem still_roundExpired (s : State) : still (roundExpired s) = still s := by
  unfold roundExpired
  split <;> simp
@[simp] theorem still_meterStaled (s : State) : still (meterStaled s) = still s := by
  unfold meterStaled
  split <;> simp
@[simp] theorem still_meterFellBack (s : State) : still (meterFellBack s) = still s := by
  unfold meterFellBack
  split <;> simp
@[simp] theorem firm_minutePassed (s : State) : firm (minutePassed s) = firm s := by
  unfold minutePassed
  split <;> simp
@[simp] theorem still_passTimerExpired (s : State) : still (passTimerExpired s) = still s := by
  unfold passTimerExpired
  split <;> simp
@[simp] theorem still_armedCounted (s : State) : still (armedCounted s) = still s := by
  unfold armedCounted
  split <;> simp
@[simp] theorem still_dispatchRanOut (s : State) : still (dispatchRanOut s) = still s := by
  unfold dispatchRanOut
  split <;> simp
@[simp] theorem still_quiesceExpired (c : Nat) (s : State) : still (quiesceExpired c s) = still s := by
  unfold quiesceExpired
  split <;> simp
@[simp] theorem still_answerAged (c : Nat) (s : State) : still (answerAged c s) = still s := by
  unfold answerAged
  (repeat' split) <;> simp
@[simp] theorem still_passCompleted (s : State) : still (passCompleted s) = still s := by
  unfold passCompleted
  (repeat' split) <;> simp
@[simp] theorem still_closeTick (s : State) : still (closeTick s) = still s := by
  unfold closeTick
  split <;> simp
@[simp] theorem firm_countTick (s : State) : firm (countTick s) = firm s := by
  simp [firm, countTick]
@[simp] theorem firm_carryOutAll (n k : Nat) (l : List TimerEvent) (s : State) (h : ∀ e s, firm (carryOut e s) = firm s) :
    firm (carryOutAll n k l s) = firm s := by
  induction n generalizing k l s with
  | zero => rfl
  | succ n ih =>
    unfold carryOutAll
    cases l with
    | nil => rfl
    | cons e l => simp [ih, h]

end Sys2Proof.Machine
end

