-- ==== Sys2Proof/Laws/Outbound.lean ====
section
/-! SUPPORT. What a telegram toward the site depends on and changes: SLI, TSM's flags, and the clock it reads. -/

namespace Sys2Proof.Machine

/-- Two states with equal blocks are equal. -/
theorem State.same {s t : State} (h1 : s.power = t.power) (h2 : s.sli = t.sli) (h3 : s.ylc = t.ylc) (h4 : s.frt = t.frt)
    (h5 : s.sbu = t.sbu) (h6 : s.rdu = t.rdu) (h7 : s.ale = t.ale) (h8 : s.rsu = t.rsu) (h9 : s.stp = t.stp)
    (h10 : s.tsm = t.tsm) (h11 : s.freeCount = t.freeCount) (h12 : s.pending = t.pending) : s = t := by
  cases s; cases t; simp_all

/-- What a telegram coming to the queue leaves in SLI and TSM depends on SLI and TSM alone. -/
theorem putOut_same (m : OutMsg) {s t : State} (h1 : s.sli = t.sli) (h2 : s.tsm = t.tsm) :
    (putOut m s).sli = (putOut m t).sli ∧ (putOut m s).tsm = (putOut m t).tsm := by
  unfold putOut
  simp only [countDrop, modSli, modTsm, h1, h2]
  split <;> simp

/-- The OUT_OVERFLOW notice depends on SLI, TSM and the clock alone. -/
theorem reportOverflow_same {s t : State} (h1 : s.sli = t.sli) (h2 : s.tsm = t.tsm) (h3 : s.rdu.clock = t.rdu.clock) :
    (reportOverflow s).sli = (reportOverflow t).sli ∧ (reportOverflow s).tsm = (reportOverflow t).tsm := by
  have hr : clockReading s = clockReading t := by simp [clockReading, h3]
  unfold reportOverflow
  simp only [h1, hr]
  split
  · split <;> simp only [putOut, countDrop, modSli, modTsm, h1, h2] <;> split <;> simp
  · exact ⟨h1, h2⟩

/-- A freed place depends on SLI, TSM and the clock alone. -/
theorem placeFreed_same (waited : Bool) {s t : State} (h1 : s.sli = t.sli) (h2 : s.tsm = t.tsm)
    (h3 : s.rdu.clock = t.rdu.clock) :
    (placeFreed waited s).sli = (placeFreed waited t).sli ∧ (placeFreed waited s).tsm = (placeFreed waited t).tsm := by
  unfold placeFreed
  simp only [h1]
  split
  · split
    · exact reportOverflow_same (by simp [modSli, h1]) h2 h3
    · exact ⟨by simp [modSli, h1], h2⟩
  · exact reportOverflow_same h1 h2 h3

/-- Sending the head depends on SLI, TSM and the clock alone. -/
theorem trySend_same {s t : State} (h1 : s.sli = t.sli) (h2 : s.tsm = t.tsm) (h3 : s.rdu.clock = t.rdu.clock) :
    (trySend s).sli = (trySend t).sli ∧ (trySend s).tsm = (trySend t).tsm := by
  have ho : sendOpen s = sendOpen t := by simp [sendOpen, h2]
  have hw : noticeWaits s = noticeWaits t := by simp [noticeWaits, h1]
  unfold trySend
  rw [ho, h1, hw]
  split
  · split
    · exact ⟨h1, h2⟩
    · exact placeFreed_same _ (by simp [beginSend, h1]) (by simp [beginSend, h2]) h3
  · exact ⟨h1, h2⟩

/-- Queueing a telegram depends on SLI, TSM and the clock alone. -/
theorem queueOut_same (m : OutMsg) {s t : State} (h1 : s.sli = t.sli) (h2 : s.tsm = t.tsm)
    (h3 : s.rdu.clock = t.rdu.clock) :
    (queueOut m s).sli = (queueOut m t).sli ∧ (queueOut m s).tsm = (queueOut m t).tsm := by
  have hw : noticeWaits s = noticeWaits t := by simp [noticeWaits, h1]
  have hp := putOut_same m h1 h2
  have hc (u : State) : (putOut m u).rdu.clock = u.rdu.clock := congrArg (fun x => x.2.2.1) (still_putOut m u)
  have hd (u : State) : (reportOverflow (putOut m u)).rdu.clock = u.rdu.clock :=
    (congrArg (fun x => x.2.2.1) (still_reportOverflow _)).trans (hc u)
  have h4 : (putOut m s).rdu.clock = (putOut m t).rdu.clock := by rw [hc, hc, h3]
  unfold queueOut reportWaiting
  rw [hw]
  split
  · have hq := reportOverflow_same hp.1 hp.2 h4
    exact trySend_same hq.1 hq.2 (by rw [hd, hd, h3])
  · exact trySend_same hp.1 hp.2 h4

/-- Queueing a notice depends on SLI, TSM and the clock alone. -/
theorem notice_same (n : Notice) {s t : State} (h1 : s.sli = t.sli) (h2 : s.tsm = t.tsm)
    (h3 : s.rdu.clock = t.rdu.clock) :
    (notice n s).sli = (notice n t).sli ∧ (notice n s).tsm = (notice n t).tsm := by
  have : clockReading s = clockReading t := by simp [clockReading, h3]
  simp only [notice, this]
  exact queueOut_same _ h1 h2 h3

end Sys2Proof.Machine
end

