-- ==== Sys2Proof/Laws/Keeps.lean ====
section
/-! SUPPORT. What each shared operation leaves as it was: one lemma for each, citable by simp, so that no proof unfolds
an operation to know what it does not touch. -/

namespace Sys2Proof.Machine

set_option Elab.async false

@[simp] theorem foldl_freeCount {α : Type} (f : State → α → State) (l : List α) (s : State)
    (h : ∀ s a, (f s a).freeCount = s.freeCount) : (l.foldl f s).freeCount = s.freeCount :=
  foldl_keeps (fun s => s.freeCount) f h l s
@[simp] theorem foldl_sli {α : Type} (f : State → α → State) (l : List α) (s : State)
    (h : ∀ s a, (f s a).sli = s.sli) : (l.foldl f s).sli = s.sli :=
  foldl_keeps (fun s => s.sli) f h l s
@[simp] theorem foldl_ylc {α : Type} (f : State → α → State) (l : List α) (s : State)
    (h : ∀ s a, (f s a).ylc = s.ylc) : (l.foldl f s).ylc = s.ylc :=
  foldl_keeps (fun s => s.ylc) f h l s
@[simp] theorem foldl_frt {α : Type} (f : State → α → State) (l : List α) (s : State)
    (h : ∀ s a, (f s a).frt = s.frt) : (l.foldl f s).frt = s.frt :=
  foldl_keeps (fun s => s.frt) f h l s
@[simp] theorem foldl_sbu {α : Type} (f : State → α → State) (l : List α) (s : State)
    (h : ∀ s a, (f s a).sbu = s.sbu) : (l.foldl f s).sbu = s.sbu :=
  foldl_keeps (fun s => s.sbu) f h l s
@[simp] theorem foldl_rdu {α : Type} (f : State → α → State) (l : List α) (s : State)
    (h : ∀ s a, (f s a).rdu = s.rdu) : (l.foldl f s).rdu = s.rdu :=
  foldl_keeps (fun s => s.rdu) f h l s
@[simp] theorem foldl_ale {α : Type} (f : State → α → State) (l : List α) (s : State)
    (h : ∀ s a, (f s a).ale = s.ale) : (l.foldl f s).ale = s.ale :=
  foldl_keeps (fun s => s.ale) f h l s
@[simp] theorem foldl_rsu {α : Type} (f : State → α → State) (l : List α) (s : State)
    (h : ∀ s a, (f s a).rsu = s.rsu) : (l.foldl f s).rsu = s.rsu :=
  foldl_keeps (fun s => s.rsu) f h l s
@[simp] theorem foldl_stp {α : Type} (f : State → α → State) (l : List α) (s : State)
    (h : ∀ s a, (f s a).stp = s.stp) : (l.foldl f s).stp = s.stp :=
  foldl_keeps (fun s => s.stp) f h l s
@[simp] theorem foldl_tsm {α : Type} (f : State → α → State) (l : List α) (s : State)
    (h : ∀ s a, (f s a).tsm = s.tsm) : (l.foldl f s).tsm = s.tsm :=
  foldl_keeps (fun s => s.tsm) f h l s
@[simp] theorem foldl_sli_passage {α : Type} (f : State → α → State) (l : List α) (s : State)
    (h : ∀ s a, (f s a).sli.passage = s.sli.passage) : (l.foldl f s).sli.passage = s.sli.passage :=
  foldl_keeps (fun s => s.sli.passage) f h l s
@[simp] theorem foldl_sli_out {α : Type} (f : State → α → State) (l : List α) (s : State)
    (h : ∀ s a, (f s a).sli.out = s.sli.out) : (l.foldl f s).sli.out = s.sli.out :=
  foldl_keeps (fun s => s.sli.out) f h l s
@[simp] theorem foldl_sli_tx {α : Type} (f : State → α → State) (l : List α) (s : State)
    (h : ∀ s a, (f s a).sli.tx = s.sli.tx) : (l.foldl f s).sli.tx = s.sli.tx :=
  foldl_keeps (fun s => s.sli.tx) f h l s
@[simp] theorem foldl_sli_overflow {α : Type} (f : State → α → State) (l : List α) (s : State)
    (h : ∀ s a, (f s a).sli.overflow = s.sli.overflow) : (l.foldl f s).sli.overflow = s.sli.overflow :=
  foldl_keeps (fun s => s.sli.overflow) f h l s
@[simp] theorem foldl_sli_dropCount {α : Type} (f : State → α → State) (l : List α) (s : State)
    (h : ∀ s a, (f s a).sli.dropCount = s.sli.dropCount) : (l.foldl f s).sli.dropCount = s.sli.dropCount :=
  foldl_keeps (fun s => s.sli.dropCount) f h l s
@[simp] theorem foldl_sli_silence {α : Type} (f : State → α → State) (l : List α) (s : State)
    (h : ∀ s a, (f s a).sli.silence = s.sli.silence) : (l.foldl f s).sli.silence = s.sli.silence :=
  foldl_keeps (fun s => s.sli.silence) f h l s
@[simp] theorem foldl_sli_silentMark {α : Type} (f : State → α → State) (l : List α) (s : State)
    (h : ∀ s a, (f s a).sli.silentMark = s.sli.silentMark) : (l.foldl f s).sli.silentMark = s.sli.silentMark :=
  foldl_keeps (fun s => s.sli.silentMark) f h l s
@[simp] theorem foldl_ylc_cabinets {α : Type} (f : State → α → State) (l : List α) (s : State)
    (h : ∀ s a, (f s a).ylc.cabinets = s.ylc.cabinets) : (l.foldl f s).ylc.cabinets = s.ylc.cabinets :=
  foldl_keeps (fun s => s.ylc.cabinets) f h l s
@[simp] theorem foldl_ylc_roundTimer {α : Type} (f : State → α → State) (l : List α) (s : State)
    (h : ∀ s a, (f s a).ylc.roundTimer = s.ylc.roundTimer) : (l.foldl f s).ylc.roundTimer = s.ylc.roundTimer :=
  foldl_keeps (fun s => s.ylc.roundTimer) f h l s
@[simp] theorem foldl_ylc_roundDue {α : Type} (f : State → α → State) (l : List α) (s : State)
    (h : ∀ s a, (f s a).ylc.roundDue = s.ylc.roundDue) : (l.foldl f s).ylc.roundDue = s.ylc.roundDue :=
  foldl_keeps (fun s => s.ylc.roundDue) f h l s
@[simp] theorem foldl_ylc_roundWanted {α : Type} (f : State → α → State) (l : List α) (s : State)
    (h : ∀ s a, (f s a).ylc.roundWanted = s.ylc.roundWanted) : (l.foldl f s).ylc.roundWanted = s.ylc.roundWanted :=
  foldl_keeps (fun s => s.ylc.roundWanted) f h l s
@[simp] theorem foldl_ylc_round {α : Type} (f : State → α → State) (l : List α) (s : State)
    (h : ∀ s a, (f s a).ylc.round = s.ylc.round) : (l.foldl f s).ylc.round = s.ylc.round :=
  foldl_keeps (fun s => s.ylc.round) f h l s
@[simp] theorem foldl_ylc_link {α : Type} (f : State → α → State) (l : List α) (s : State)
    (h : ∀ s a, (f s a).ylc.link = s.ylc.link) : (l.foldl f s).ylc.link = s.ylc.link :=
  foldl_keeps (fun s => s.ylc.link) f h l s
@[simp] theorem foldl_ylc_poolClaim {α : Type} (f : State → α → State) (l : List α) (s : State)
    (h : ∀ s a, (f s a).ylc.poolClaim = s.ylc.poolClaim) : (l.foldl f s).ylc.poolClaim = s.ylc.poolClaim :=
  foldl_keeps (fun s => s.ylc.poolClaim) f h l s
@[simp] theorem foldl_ylc_fwdClaim {α : Type} (f : State → α → State) (l : List α) (s : State)
    (h : ∀ s a, (f s a).ylc.fwdClaim = s.ylc.fwdClaim) : (l.foldl f s).ylc.fwdClaim = s.ylc.fwdClaim :=
  foldl_keeps (fun s => s.ylc.fwdClaim) f h l s
@[simp] theorem foldl_ylc_fwdQ {α : Type} (f : State → α → State) (l : List α) (s : State)
    (h : ∀ s a, (f s a).ylc.fwdQ = s.ylc.fwdQ) : (l.foldl f s).ylc.fwdQ = s.ylc.fwdQ :=
  foldl_keeps (fun s => s.ylc.fwdQ) f h l s
@[simp] theorem foldl_ylc_curtailReq {α : Type} (f : State → α → State) (l : List α) (s : State)
    (h : ∀ s a, (f s a).ylc.curtailReq = s.ylc.curtailReq) : (l.foldl f s).ylc.curtailReq = s.ylc.curtailReq :=
  foldl_keeps (fun s => s.ylc.curtailReq) f h l s
@[simp] theorem foldl_ylc_refusal {α : Type} (f : State → α → State) (l : List α) (s : State)
    (h : ∀ s a, (f s a).ylc.refusal = s.ylc.refusal) : (l.foldl f s).ylc.refusal = s.ylc.refusal :=
  foldl_keeps (fun s => s.ylc.refusal) f h l s
@[simp] theorem foldl_frt_buses {α : Type} (f : State → α → State) (l : List α) (s : State)
    (h : ∀ s a, (f s a).frt.buses = s.frt.buses) : (l.foldl f s).frt.buses = s.frt.buses :=
  foldl_keeps (fun s => s.frt.buses) f h l s
@[simp] theorem foldl_frt_tagMap {α : Type} (f : State → α → State) (l : List α) (s : State)
    (h : ∀ s a, (f s a).frt.tagMap = s.frt.tagMap) : (l.foldl f s).frt.tagMap = s.frt.tagMap :=
  foldl_keeps (fun s => s.frt.tagMap) f h l s
@[simp] theorem foldl_frt_posts {α : Type} (f : State → α → State) (l : List α) (s : State)
    (h : ∀ s a, (f s a).frt.posts = s.frt.posts) : (l.foldl f s).frt.posts = s.frt.posts :=
  foldl_keeps (fun s => s.frt.posts) f h l s
@[simp] theorem foldl_frt_plugQ {α : Type} (f : State → α → State) (l : List α) (s : State)
    (h : ∀ s a, (f s a).frt.plugQ = s.frt.plugQ) : (l.foldl f s).frt.plugQ = s.frt.plugQ :=
  foldl_keeps (fun s => s.frt.plugQ) f h l s
@[simp] theorem foldl_sbu_meter {α : Type} (f : State → α → State) (l : List α) (s : State)
    (h : ∀ s a, (f s a).sbu.meter = s.sbu.meter) : (l.foldl f s).sbu.meter = s.sbu.meter :=
  foldl_keeps (fun s => s.sbu.meter) f h l s
@[simp] theorem foldl_sbu_age {α : Type} (f : State → α → State) (l : List α) (s : State)
    (h : ∀ s a, (f s a).sbu.age = s.sbu.age) : (l.foldl f s).sbu.age = s.sbu.age :=
  foldl_keeps (fun s => s.sbu.age) f h l s
@[simp] theorem foldl_sbu_imp {α : Type} (f : State → α → State) (l : List α) (s : State)
    (h : ∀ s a, (f s a).sbu.imp = s.sbu.imp) : (l.foldl f s).sbu.imp = s.sbu.imp :=
  foldl_keeps (fun s => s.sbu.imp) f h l s
@[simp] theorem foldl_sbu_building {α : Type} (f : State → α → State) (l : List α) (s : State)
    (h : ∀ s a, (f s a).sbu.building = s.sbu.building) : (l.foldl f s).sbu.building = s.sbu.building :=
  foldl_keeps (fun s => s.sbu.building) f h l s
@[simp] theorem foldl_sbu_gridCap {α : Type} (f : State → α → State) (l : List α) (s : State)
    (h : ∀ s a, (f s a).sbu.gridCap = s.sbu.gridCap) : (l.foldl f s).sbu.gridCap = s.sbu.gridCap :=
  foldl_keeps (fun s => s.sbu.gridCap) f h l s
@[simp] theorem foldl_sbu_ambient {α : Type} (f : State → α → State) (l : List α) (s : State)
    (h : ∀ s a, (f s a).sbu.ambient = s.sbu.ambient) : (l.foldl f s).sbu.ambient = s.sbu.ambient :=
  foldl_keeps (fun s => s.sbu.ambient) f h l s
@[simp] theorem foldl_sbu_breach {α : Type} (f : State → α → State) (l : List α) (s : State)
    (h : ∀ s a, (f s a).sbu.breach = s.sbu.breach) : (l.foldl f s).sbu.breach = s.sbu.breach :=
  foldl_keeps (fun s => s.sbu.breach) f h l s
@[simp] theorem foldl_sbu_tariff {α : Type} (f : State → α → State) (l : List α) (s : State)
    (h : ∀ s a, (f s a).sbu.tariff = s.sbu.tariff) : (l.foldl f s).sbu.tariff = s.sbu.tariff :=
  foldl_keeps (fun s => s.sbu.tariff) f h l s
@[simp] theorem foldl_rdu_clock {α : Type} (f : State → α → State) (l : List α) (s : State)
    (h : ∀ s a, (f s a).rdu.clock = s.rdu.clock) : (l.foldl f s).rdu.clock = s.rdu.clock :=
  foldl_keeps (fun s => s.rdu.clock) f h l s
@[simp] theorem foldl_rdu_legs {α : Type} (f : State → α → State) (l : List α) (s : State)
    (h : ∀ s a, (f s a).rdu.legs = s.rdu.legs) : (l.foldl f s).rdu.legs = s.rdu.legs :=
  foldl_keeps (fun s => s.rdu.legs) f h l s
@[simp] theorem foldl_rdu_list {α : Type} (f : State → α → State) (l : List α) (s : State)
    (h : ∀ s a, (f s a).rdu.list = s.rdu.list) : (l.foldl f s).rdu.list = s.rdu.list :=
  foldl_keeps (fun s => s.rdu.list) f h l s
@[simp] theorem foldl_ale_pass {α : Type} (f : State → α → State) (l : List α) (s : State)
    (h : ∀ s a, (f s a).ale.pass = s.ale.pass) : (l.foldl f s).ale.pass = s.ale.pass :=
  foldl_keeps (fun s => s.ale.pass) f h l s
@[simp] theorem foldl_ale_pending {α : Type} (f : State → α → State) (l : List α) (s : State)
    (h : ∀ s a, (f s a).ale.pending = s.ale.pending) : (l.foldl f s).ale.pending = s.ale.pending :=
  foldl_keeps (fun s => s.ale.pending) f h l s
@[simp] theorem foldl_ale_timer {α : Type} (f : State → α → State) (l : List α) (s : State)
    (h : ∀ s a, (f s a).ale.timer = s.ale.timer) : (l.foldl f s).ale.timer = s.ale.timer :=
  foldl_keeps (fun s => s.ale.timer) f h l s
@[simp] theorem foldl_ale_snap {α : Type} (f : State → α → State) (l : List α) (s : State)
    (h : ∀ s a, (f s a).ale.snap = s.ale.snap) : (l.foldl f s).ale.snap = s.ale.snap :=
  foldl_keeps (fun s => s.ale.snap) f h l s
@[simp] theorem foldl_ale_tiers {α : Type} (f : State → α → State) (l : List α) (s : State)
    (h : ∀ s a, (f s a).ale.tiers = s.ale.tiers) : (l.foldl f s).ale.tiers = s.ale.tiers :=
  foldl_keeps (fun s => s.ale.tiers) f h l s
@[simp] theorem foldl_ale_ring {α : Type} (f : State → α → State) (l : List α) (s : State)
    (h : ∀ s a, (f s a).ale.ring = s.ale.ring) : (l.foldl f s).ale.ring = s.ale.ring :=
  foldl_keeps (fun s => s.ale.ring) f h l s
@[simp] theorem foldl_ale_turn {α : Type} (f : State → α → State) (l : List α) (s : State)
    (h : ∀ s a, (f s a).ale.turn = s.ale.turn) : (l.foldl f s).ale.turn = s.ale.turn :=
  foldl_keeps (fun s => s.ale.turn) f h l s
@[simp] theorem foldl_ale_overLimit {α : Type} (f : State → α → State) (l : List α) (s : State)
    (h : ∀ s a, (f s a).ale.overLimit = s.ale.overLimit) : (l.foldl f s).ale.overLimit = s.ale.overLimit :=
  foldl_keeps (fun s => s.ale.overLimit) f h l s
@[simp] theorem foldl_rsu_slots {α : Type} (f : State → α → State) (l : List α) (s : State)
    (h : ∀ s a, (f s a).rsu.slots = s.rsu.slots) : (l.foldl f s).rsu.slots = s.rsu.slots :=
  foldl_keeps (fun s => s.rsu.slots) f h l s
@[simp] theorem foldl_rsu_upCap {α : Type} (f : State → α → State) (l : List α) (s : State)
    (h : ∀ s a, (f s a).rsu.upCap = s.rsu.upCap) : (l.foldl f s).rsu.upCap = s.rsu.upCap :=
  foldl_keeps (fun s => s.rsu.upCap) f h l s
@[simp] theorem foldl_rsu_downCap {α : Type} (f : State → α → State) (l : List α) (s : State)
    (h : ∀ s a, (f s a).rsu.downCap = s.rsu.downCap) : (l.foldl f s).rsu.downCap = s.rsu.downCap :=
  foldl_keeps (fun s => s.rsu.downCap) f h l s
@[simp] theorem foldl_rsu_slot {α : Type} (f : State → α → State) (l : List α) (s : State)
    (h : ∀ s a, (f s a).rsu.slot = s.rsu.slot) : (l.foldl f s).rsu.slot = s.rsu.slot :=
  foldl_keeps (fun s => s.rsu.slot) f h l s
@[simp] theorem foldl_rsu_highId {α : Type} (f : State → α → State) (l : List α) (s : State)
    (h : ∀ s a, (f s a).rsu.highId = s.rsu.highId) : (l.foldl f s).rsu.highId = s.rsu.highId :=
  foldl_keeps (fun s => s.rsu.highId) f h l s
@[simp] theorem foldl_rsu_lastReply {α : Type} (f : State → α → State) (l : List α) (s : State)
    (h : ∀ s a, (f s a).rsu.lastReply = s.rsu.lastReply) : (l.foldl f s).rsu.lastReply = s.rsu.lastReply :=
  foldl_keeps (fun s => s.rsu.lastReply) f h l s
@[simp] theorem foldl_rsu_active {α : Type} (f : State → α → State) (l : List α) (s : State)
    (h : ∀ s a, (f s a).rsu.active = s.rsu.active) : (l.foldl f s).rsu.active = s.rsu.active :=
  foldl_keeps (fun s => s.rsu.active) f h l s
@[simp] theorem foldl_rsu_armed {α : Type} (f : State → α → State) (l : List α) (s : State)
    (h : ∀ s a, (f s a).rsu.armed = s.rsu.armed) : (l.foldl f s).rsu.armed = s.rsu.armed :=
  foldl_keeps (fun s => s.rsu.armed) f h l s
@[simp] theorem foldl_stp_season {α : Type} (f : State → α → State) (l : List α) (s : State)
    (h : ∀ s a, (f s a).stp.season = s.stp.season) : (l.foldl f s).stp.season = s.stp.season :=
  foldl_keeps (fun s => s.stp.season) f h l s
@[simp] theorem foldl_stp_table {α : Type} (f : State → α → State) (l : List α) (s : State)
    (h : ∀ s a, (f s a).stp.table = s.stp.table) : (l.foldl f s).stp.table = s.stp.table :=
  foldl_keeps (fun s => s.stp.table) f h l s
@[simp] theorem foldl_stp_viewDue {α : Type} (f : State → α → State) (l : List α) (s : State)
    (h : ∀ s a, (f s a).stp.viewDue = s.stp.viewDue) : (l.foldl f s).stp.viewDue = s.stp.viewDue :=
  foldl_keeps (fun s => s.stp.viewDue) f h l s
@[simp] theorem foldl_stp_view {α : Type} (f : State → α → State) (l : List α) (s : State)
    (h : ∀ s a, (f s a).stp.view = s.stp.view) : (l.foldl f s).stp.view = s.stp.view :=
  foldl_keeps (fun s => s.stp.view) f h l s
@[simp] theorem foldl_tsm_store {α : Type} (f : State → α → State) (l : List α) (s : State)
    (h : ∀ s a, (f s a).tsm.store = s.tsm.store) : (l.foldl f s).tsm.store = s.tsm.store :=
  foldl_keeps (fun s => s.tsm.store) f h l s
@[simp] theorem foldl_tsm_active {α : Type} (f : State → α → State) (l : List α) (s : State)
    (h : ∀ s a, (f s a).tsm.active = s.tsm.active) : (l.foldl f s).tsm.active = s.tsm.active :=
  foldl_keeps (fun s => s.tsm.active) f h l s
@[simp] theorem foldl_tsm_settings {α : Type} (f : State → α → State) (l : List α) (s : State)
    (h : ∀ s a, (f s a).tsm.settings = s.tsm.settings) : (l.foldl f s).tsm.settings = s.tsm.settings :=
  foldl_keeps (fun s => s.tsm.settings) f h l s
@[simp] theorem foldl_tsm_code {α : Type} (f : State → α → State) (l : List α) (s : State)
    (h : ∀ s a, (f s a).tsm.code = s.tsm.code) : (l.foldl f s).tsm.code = s.tsm.code :=
  foldl_keeps (fun s => s.tsm.code) f h l s
@[simp] theorem foldl_tsm_staged {α : Type} (f : State → α → State) (l : List α) (s : State)
    (h : ∀ s a, (f s a).tsm.staged = s.tsm.staged) : (l.foldl f s).tsm.staged = s.tsm.staged :=
  foldl_keeps (fun s => s.tsm.staged) f h l s
@[simp] theorem foldl_tsm_staging {α : Type} (f : State → α → State) (l : List α) (s : State)
    (h : ∀ s a, (f s a).tsm.staging = s.tsm.staging) : (l.foldl f s).tsm.staging = s.tsm.staging :=
  foldl_keeps (fun s => s.tsm.staging) f h l s
@[simp] theorem foldl_tsm_write {α : Type} (f : State → α → State) (l : List α) (s : State)
    (h : ∀ s a, (f s a).tsm.write = s.tsm.write) : (l.foldl f s).tsm.write = s.tsm.write :=
  foldl_keeps (fun s => s.tsm.write) f h l s
@[simp] theorem foldl_tsm_waiting {α : Type} (f : State → α → State) (l : List α) (s : State)
    (h : ∀ s a, (f s a).tsm.waiting = s.tsm.waiting) : (l.foldl f s).tsm.waiting = s.tsm.waiting :=
  foldl_keeps (fun s => s.tsm.waiting) f h l s
@[simp] theorem foldl_tsm_op {α : Type} (f : State → α → State) (l : List α) (s : State)
    (h : ∀ s a, (f s a).tsm.op = s.tsm.op) : (l.foldl f s).tsm.op = s.tsm.op :=
  foldl_keeps (fun s => s.tsm.op) f h l s
@[simp] theorem foldl_tsm_silenceStanding {α : Type} (f : State → α → State) (l : List α) (s : State)
    (h : ∀ s a, (f s a).tsm.silenceStanding = s.tsm.silenceStanding) : (l.foldl f s).tsm.silenceStanding = s.tsm.silenceStanding :=
  foldl_keeps (fun s => s.tsm.silenceStanding) f h l s
@[simp] theorem foldl_tsm_restartPending {α : Type} (f : State → α → State) (l : List α) (s : State)
    (h : ∀ s a, (f s a).tsm.restartPending = s.tsm.restartPending) : (l.foldl f s).tsm.restartPending = s.tsm.restartPending :=
  foldl_keeps (fun s => s.tsm.restartPending) f h l s

@[simp] theorem keeps_updPost (p : Nat) (f : Post → Post) (s : State) : let t := updPost p f s
    t.sli = s.sli ∧ t.ylc = s.ylc ∧ t.frt.buses = s.frt.buses ∧ t.frt.tagMap = s.frt.tagMap ∧
    t.frt.plugQ = s.frt.plugQ ∧ t.sbu = s.sbu ∧ t.rdu = s.rdu ∧ t.ale = s.ale ∧ t.rsu = s.rsu ∧ t.stp = s.stp ∧
    t.tsm = s.tsm ∧ t.freeCount = s.freeCount := by
  unfold updPost
  split <;> simp
@[simp] theorem keeps_mapPosts (f : Nat → Post → Post) (s : State) : let t := mapPosts f s
    t.sli = s.sli ∧ t.ylc = s.ylc ∧ t.frt.buses = s.frt.buses ∧ t.frt.tagMap = s.frt.tagMap ∧
    t.frt.plugQ = s.frt.plugQ ∧ t.sbu = s.sbu ∧ t.rdu = s.rdu ∧ t.ale = s.ale ∧ t.rsu = s.rsu ∧ t.stp = s.stp ∧
    t.tsm = s.tsm ∧ t.freeCount = s.freeCount := by
  simp [mapPosts]
@[simp] theorem keeps_updBus (k : Nat) (f : Bus → Bus) (s : State) : let t := updBus k f s
    t.sli = s.sli ∧ t.ylc = s.ylc ∧ t.frt.tagMap = s.frt.tagMap ∧ t.frt.posts = s.frt.posts ∧
    t.frt.plugQ = s.frt.plugQ ∧ t.sbu = s.sbu ∧ t.rdu = s.rdu ∧ t.ale = s.ale ∧ t.rsu = s.rsu ∧ t.stp = s.stp ∧
    t.tsm = s.tsm ∧ t.freeCount = s.freeCount := by
  simp [updBus]
@[simp] theorem keeps_updCab (c : Nat) (f : Cabinet → Cabinet) (s : State) : let t := updCab c f s
    t.sli = s.sli ∧ t.ylc.roundTimer = s.ylc.roundTimer ∧ t.ylc.roundDue = s.ylc.roundDue ∧
    t.ylc.roundWanted = s.ylc.roundWanted ∧ t.ylc.round = s.ylc.round ∧ t.ylc.link = s.ylc.link ∧
    t.ylc.poolClaim = s.ylc.poolClaim ∧ t.ylc.fwdClaim = s.ylc.fwdClaim ∧ t.ylc.fwdQ = s.ylc.fwdQ ∧
    t.ylc.curtailReq = s.ylc.curtailReq ∧ t.ylc.refusal = s.ylc.refusal ∧ t.frt = s.frt ∧ t.sbu = s.sbu ∧
    t.rdu = s.rdu ∧ t.ale = s.ale ∧ t.rsu = s.rsu ∧ t.stp = s.stp ∧ t.tsm = s.tsm ∧ t.freeCount = s.freeCount := by
  unfold updCab
  split <;> simp
@[simp] theorem keeps_updPool (c : Nat) (f : Sequencer → Sequencer) (s : State) : let t := updPool c f s
    t.sli = s.sli ∧ t.ylc.roundTimer = s.ylc.roundTimer ∧ t.ylc.roundDue = s.ylc.roundDue ∧
    t.ylc.roundWanted = s.ylc.roundWanted ∧ t.ylc.round = s.ylc.round ∧ t.ylc.link = s.ylc.link ∧
    t.ylc.poolClaim = s.ylc.poolClaim ∧ t.ylc.fwdClaim = s.ylc.fwdClaim ∧ t.ylc.fwdQ = s.ylc.fwdQ ∧
    t.ylc.curtailReq = s.ylc.curtailReq ∧ t.ylc.refusal = s.ylc.refusal ∧ t.frt = s.frt ∧ t.sbu = s.sbu ∧
    t.rdu = s.rdu ∧ t.ale = s.ale ∧ t.rsu = s.rsu ∧ t.stp = s.stp ∧ t.tsm = s.tsm ∧ t.freeCount = s.freeCount := by
  simp [updPool]
@[simp] theorem keeps_updLeg (n : Nat) (f : Leg → Leg) (s : State) : let t := updLeg n f s
    t.sli = s.sli ∧ t.ylc = s.ylc ∧ t.frt = s.frt ∧ t.sbu = s.sbu ∧ t.rdu.clock = s.rdu.clock ∧
    t.rdu.list = s.rdu.list ∧ t.ale = s.ale ∧ t.rsu = s.rsu ∧ t.stp = s.stp ∧ t.tsm = s.tsm ∧
    t.freeCount = s.freeCount := by
  simp [updLeg]
@[simp] theorem keeps_setLastOutcome (k : Nat) (l : LastOutcome) (s : State) : let t := setLastOutcome k l s
    t.sli = s.sli ∧ t.ylc = s.ylc ∧ t.frt = s.frt ∧ t.sbu = s.sbu ∧ t.rdu.clock = s.rdu.clock ∧
    t.rdu.legs = s.rdu.legs ∧ t.rdu.list = s.rdu.list ∧ t.ale = s.ale ∧ t.rsu = s.rsu ∧ t.stp = s.stp ∧
    t.tsm = s.tsm ∧ t.freeCount = s.freeCount := by
  simp [setLastOutcome]
@[simp] theorem keeps_updStored (g : Segment) (f : StoredSeg → StoredSeg) (s : State) : let t := updStored g f s
    t.sli = s.sli ∧ t.ylc = s.ylc ∧ t.frt = s.frt ∧ t.sbu = s.sbu ∧ t.rdu = s.rdu ∧ t.ale = s.ale ∧
    t.rsu = s.rsu ∧ t.stp = s.stp ∧ t.tsm.active = s.tsm.active ∧ t.tsm.settings = s.tsm.settings ∧
    t.tsm.code = s.tsm.code ∧ t.tsm.staged = s.tsm.staged ∧ t.tsm.staging = s.tsm.staging ∧
    t.tsm.write = s.tsm.write ∧ t.tsm.waiting = s.tsm.waiting ∧ t.tsm.op = s.tsm.op ∧
    t.tsm.silenceStanding = s.tsm.silenceStanding ∧ t.tsm.restartPending = s.tsm.restartPending ∧
    t.freeCount = s.freeCount := by
  simp [updStored]
@[simp] theorem keeps_wantPass (s : State) : let t := wantPass s
    t.sli = s.sli ∧ t.ylc = s.ylc ∧ t.frt = s.frt ∧ t.sbu = s.sbu ∧ t.rdu = s.rdu ∧ t.ale.pass = s.ale.pass ∧
    t.ale.timer = s.ale.timer ∧ t.ale.snap = s.ale.snap ∧ t.ale.tiers = s.ale.tiers ∧ t.ale.ring = s.ale.ring ∧
    t.ale.turn = s.ale.turn ∧ t.ale.overLimit = s.ale.overLimit ∧ t.rsu = s.rsu ∧ t.stp = s.stp ∧ t.tsm = s.tsm ∧
    t.freeCount = s.freeCount := by
  unfold wantPass
  split <;> simp
@[simp] theorem keeps_countDrop (s : State) : let t := countDrop s
    t.sli.passage = s.sli.passage ∧ t.sli.out = s.sli.out ∧ t.sli.tx = s.sli.tx ∧ t.sli.silence = s.sli.silence ∧
    t.sli.silentMark = s.sli.silentMark ∧ t.ylc = s.ylc ∧ t.frt = s.frt ∧ t.sbu = s.sbu ∧ t.rdu = s.rdu ∧
    t.ale = s.ale ∧ t.rsu = s.rsu ∧ t.stp = s.stp ∧ t.tsm.store = s.tsm.store ∧ t.tsm.active = s.tsm.active ∧
    t.tsm.settings = s.tsm.settings ∧ t.tsm.code = s.tsm.code ∧ t.tsm.staged = s.tsm.staged ∧
    t.tsm.staging = s.tsm.staging ∧ t.tsm.write = s.tsm.write ∧ t.tsm.waiting = s.tsm.waiting ∧
    t.tsm.op = s.tsm.op ∧ t.tsm.silenceStanding = s.tsm.silenceStanding ∧
    t.tsm.restartPending = s.tsm.restartPending ∧ t.freeCount = s.freeCount := by
  simp [countDrop]
@[simp] theorem keeps_putOut (m : OutMsg) (s : State) : let t := putOut m s
    t.sli.passage = s.sli.passage ∧ t.sli.tx = s.sli.tx ∧ t.sli.silence = s.sli.silence ∧
    t.sli.silentMark = s.sli.silentMark ∧ t.ylc = s.ylc ∧ t.frt = s.frt ∧ t.sbu = s.sbu ∧ t.rdu = s.rdu ∧
    t.ale = s.ale ∧ t.rsu = s.rsu ∧ t.stp = s.stp ∧ t.tsm.store = s.tsm.store ∧ t.tsm.active = s.tsm.active ∧
    t.tsm.settings = s.tsm.settings ∧ t.tsm.code = s.tsm.code ∧ t.tsm.staged = s.tsm.staged ∧
    t.tsm.staging = s.tsm.staging ∧ t.tsm.write = s.tsm.write ∧ t.tsm.waiting = s.tsm.waiting ∧
    t.tsm.op = s.tsm.op ∧ t.tsm.silenceStanding = s.tsm.silenceStanding ∧
    t.tsm.restartPending = s.tsm.restartPending ∧ t.freeCount = s.freeCount := by
  unfold putOut
  split <;> simp
@[simp] theorem keeps_beginSend (m : OutMsg) (rest : List OutMsg) (s : State) : let t := beginSend m rest s
    t.sli.passage = s.sli.passage ∧ t.sli.overflow = s.sli.overflow ∧ t.sli.dropCount = s.sli.dropCount ∧
    t.sli.silence = s.sli.silence ∧ t.sli.silentMark = s.sli.silentMark ∧ t.ylc = s.ylc ∧ t.frt = s.frt ∧
    t.sbu = s.sbu ∧ t.rdu = s.rdu ∧ t.ale = s.ale ∧ t.rsu = s.rsu ∧ t.stp = s.stp ∧ t.tsm = s.tsm ∧
    t.freeCount = s.freeCount := by
  simp [beginSend]
@[simp] theorem keeps_reportOverflow (s : State) : let t := reportOverflow s
    t.sli.passage = s.sli.passage ∧ t.sli.tx = s.sli.tx ∧ t.sli.silence = s.sli.silence ∧
    t.sli.silentMark = s.sli.silentMark ∧ t.ylc = s.ylc ∧ t.frt = s.frt ∧ t.sbu = s.sbu ∧ t.rdu = s.rdu ∧
    t.ale = s.ale ∧ t.rsu = s.rsu ∧ t.stp = s.stp ∧ t.tsm.store = s.tsm.store ∧ t.tsm.active = s.tsm.active ∧
    t.tsm.settings = s.tsm.settings ∧ t.tsm.code = s.tsm.code ∧ t.tsm.staged = s.tsm.staged ∧
    t.tsm.staging = s.tsm.staging ∧ t.tsm.write = s.tsm.write ∧ t.tsm.waiting = s.tsm.waiting ∧
    t.tsm.op = s.tsm.op ∧ t.tsm.silenceStanding = s.tsm.silenceStanding ∧
    t.tsm.restartPending = s.tsm.restartPending ∧ t.freeCount = s.freeCount := by
  unfold reportOverflow
  (repeat' split) <;> simp
@[simp] theorem keeps_placeFreed (waited : Bool) (s : State) : let t := placeFreed waited s
    t.sli.passage = s.sli.passage ∧ t.sli.tx = s.sli.tx ∧ t.sli.silence = s.sli.silence ∧
    t.sli.silentMark = s.sli.silentMark ∧ t.ylc = s.ylc ∧ t.frt = s.frt ∧ t.sbu = s.sbu ∧ t.rdu = s.rdu ∧
    t.ale = s.ale ∧ t.rsu = s.rsu ∧ t.stp = s.stp ∧ t.tsm.store = s.tsm.store ∧ t.tsm.active = s.tsm.active ∧
    t.tsm.settings = s.tsm.settings ∧ t.tsm.code = s.tsm.code ∧ t.tsm.staged = s.tsm.staged ∧
    t.tsm.staging = s.tsm.staging ∧ t.tsm.write = s.tsm.write ∧ t.tsm.waiting = s.tsm.waiting ∧
    t.tsm.op = s.tsm.op ∧ t.tsm.silenceStanding = s.tsm.silenceStanding ∧
    t.tsm.restartPending = s.tsm.restartPending ∧ t.freeCount = s.freeCount := by
  unfold placeFreed
  (repeat' split) <;> simp
@[simp] theorem keeps_reportWaiting (waits : Bool) (s : State) : let t := reportWaiting waits s
    t.sli.passage = s.sli.passage ∧ t.sli.tx = s.sli.tx ∧ t.sli.silence = s.sli.silence ∧
    t.sli.silentMark = s.sli.silentMark ∧ t.ylc = s.ylc ∧ t.frt = s.frt ∧ t.sbu = s.sbu ∧ t.rdu = s.rdu ∧
    t.ale = s.ale ∧ t.rsu = s.rsu ∧ t.stp = s.stp ∧ t.tsm.store = s.tsm.store ∧ t.tsm.active = s.tsm.active ∧
    t.tsm.settings = s.tsm.settings ∧ t.tsm.code = s.tsm.code ∧ t.tsm.staged = s.tsm.staged ∧
    t.tsm.staging = s.tsm.staging ∧ t.tsm.write = s.tsm.write ∧ t.tsm.waiting = s.tsm.waiting ∧
    t.tsm.op = s.tsm.op ∧ t.tsm.silenceStanding = s.tsm.silenceStanding ∧
    t.tsm.restartPending = s.tsm.restartPending ∧ t.freeCount = s.freeCount := by
  unfold reportWaiting
  (repeat' split) <;> simp
@[simp] theorem keeps_trySend (s : State) : let t := trySend s
    t.sli.passage = s.sli.passage ∧ t.sli.silence = s.sli.silence ∧ t.sli.silentMark = s.sli.silentMark ∧
    t.ylc = s.ylc ∧ t.frt = s.frt ∧ t.sbu = s.sbu ∧ t.rdu = s.rdu ∧ t.ale = s.ale ∧ t.rsu = s.rsu ∧
    t.stp = s.stp ∧ t.tsm.store = s.tsm.store ∧ t.tsm.active = s.tsm.active ∧ t.tsm.settings = s.tsm.settings ∧
    t.tsm.code = s.tsm.code ∧ t.tsm.staged = s.tsm.staged ∧ t.tsm.staging = s.tsm.staging ∧
    t.tsm.write = s.tsm.write ∧ t.tsm.waiting = s.tsm.waiting ∧ t.tsm.op = s.tsm.op ∧
    t.tsm.silenceStanding = s.tsm.silenceStanding ∧ t.tsm.restartPending = s.tsm.restartPending ∧
    t.freeCount = s.freeCount := by
  unfold trySend
  (repeat' split) <;> simp
@[simp] theorem keeps_queueOut (m : OutMsg) (s : State) : let t := queueOut m s
    t.sli.passage = s.sli.passage ∧ t.sli.silence = s.sli.silence ∧ t.sli.silentMark = s.sli.silentMark ∧
    t.ylc = s.ylc ∧ t.frt = s.frt ∧ t.sbu = s.sbu ∧ t.rdu = s.rdu ∧ t.ale = s.ale ∧ t.rsu = s.rsu ∧
    t.stp = s.stp ∧ t.tsm.store = s.tsm.store ∧ t.tsm.active = s.tsm.active ∧ t.tsm.settings = s.tsm.settings ∧
    t.tsm.code = s.tsm.code ∧ t.tsm.staged = s.tsm.staged ∧ t.tsm.staging = s.tsm.staging ∧
    t.tsm.write = s.tsm.write ∧ t.tsm.waiting = s.tsm.waiting ∧ t.tsm.op = s.tsm.op ∧
    t.tsm.silenceStanding = s.tsm.silenceStanding ∧ t.tsm.restartPending = s.tsm.restartPending ∧
    t.freeCount = s.freeCount := by
  simp [queueOut]
@[simp] theorem keeps_notice (n : Notice) (s : State) : let t := notice n s
    t.sli.passage = s.sli.passage ∧ t.sli.silence = s.sli.silence ∧ t.sli.silentMark = s.sli.silentMark ∧
    t.ylc = s.ylc ∧ t.frt = s.frt ∧ t.sbu = s.sbu ∧ t.rdu = s.rdu ∧ t.ale = s.ale ∧ t.rsu = s.rsu ∧
    t.stp = s.stp ∧ t.tsm.store = s.tsm.store ∧ t.tsm.active = s.tsm.active ∧ t.tsm.settings = s.tsm.settings ∧
    t.tsm.code = s.tsm.code ∧ t.tsm.staged = s.tsm.staged ∧ t.tsm.staging = s.tsm.staging ∧
    t.tsm.write = s.tsm.write ∧ t.tsm.waiting = s.tsm.waiting ∧ t.tsm.op = s.tsm.op ∧
    t.tsm.silenceStanding = s.tsm.silenceStanding ∧ t.tsm.restartPending = s.tsm.restartPending ∧
    t.freeCount = s.freeCount := by
  simp [notice]
@[simp] theorem keeps_evalTariff (s : State) : let t := evalTariff s
    t.sli = s.sli ∧ t.ylc = s.ylc ∧ t.frt = s.frt ∧ t.sbu.meter = s.sbu.meter ∧ t.sbu.age = s.sbu.age ∧
    t.sbu.imp = s.sbu.imp ∧ t.sbu.building = s.sbu.building ∧ t.sbu.gridCap = s.sbu.gridCap ∧
    t.sbu.ambient = s.sbu.ambient ∧ t.sbu.breach = s.sbu.breach ∧ t.rdu = s.rdu ∧ t.ale.pass = s.ale.pass ∧
    t.ale.timer = s.ale.timer ∧ t.ale.snap = s.ale.snap ∧ t.ale.tiers = s.ale.tiers ∧ t.ale.ring = s.ale.ring ∧
    t.ale.turn = s.ale.turn ∧ t.ale.overLimit = s.ale.overLimit ∧ t.rsu = s.rsu ∧ t.stp = s.stp ∧ t.tsm = s.tsm ∧
    t.freeCount = s.freeCount := by
  unfold evalTariff
  dsimp only
  split <;> simp
@[simp] theorem keeps_leaveRing (p : Nat) (s : State) : let t := leaveRing p s
    t.sli = s.sli ∧ t.ylc = s.ylc ∧ t.frt = s.frt ∧ t.sbu = s.sbu ∧ t.rdu = s.rdu ∧ t.ale.pass = s.ale.pass ∧
    t.ale.pending = s.ale.pending ∧ t.ale.timer = s.ale.timer ∧ t.ale.snap = s.ale.snap ∧
    t.ale.turn = s.ale.turn ∧ t.ale.overLimit = s.ale.overLimit ∧ t.rsu = s.rsu ∧ t.stp = s.stp ∧ t.tsm = s.tsm ∧
    t.freeCount = s.freeCount := by
  simp [leaveRing]
@[simp] theorem keeps_setPostState (p : Nat) (st : PostState) (s : State) : let t := setPostState p st s
    t.sli = s.sli ∧ t.ylc = s.ylc ∧ t.frt.buses = s.frt.buses ∧ t.frt.tagMap = s.frt.tagMap ∧
    t.frt.plugQ = s.frt.plugQ ∧ t.sbu = s.sbu ∧ t.rdu = s.rdu ∧ t.ale.pass = s.ale.pass ∧
    t.ale.pending = s.ale.pending ∧ t.ale.timer = s.ale.timer ∧ t.ale.snap = s.ale.snap ∧
    t.ale.turn = s.ale.turn ∧ t.ale.overLimit = s.ale.overLimit ∧ t.rsu = s.rsu ∧ t.stp = s.stp ∧ t.tsm = s.tsm ∧
    t.freeCount = s.freeCount := by
  unfold setPostState
  (repeat' split) <;> simp
@[simp] theorem keeps_clearBusField (p : Nat) (s : State) : let t := clearBusField p s
    t.sli = s.sli ∧ t.ylc = s.ylc ∧ t.frt.buses = s.frt.buses ∧ t.frt.tagMap = s.frt.tagMap ∧
    t.frt.plugQ = s.frt.plugQ ∧ t.sbu = s.sbu ∧ t.rdu = s.rdu ∧ t.ale = s.ale ∧ t.rsu = s.rsu ∧ t.stp = s.stp ∧
    t.tsm = s.tsm ∧ t.freeCount = s.freeCount := by
  simp [clearBusField]
@[simp] theorem keeps_unlocate (p : Nat) (next : BusState) (s : State) : let t := unlocate p next s
    t.sli = s.sli ∧ t.ylc = s.ylc ∧ t.frt.tagMap = s.frt.tagMap ∧ t.frt.plugQ = s.frt.plugQ ∧ t.sbu = s.sbu ∧
    t.rdu = s.rdu ∧ t.ale = s.ale ∧ t.rsu = s.rsu ∧ t.stp = s.stp ∧ t.tsm = s.tsm ∧ t.freeCount = s.freeCount := by
  unfold unlocate
  split <;> simp
@[simp] theorem keeps_takeHeld (k p : Nat) (s : State) : let t := takeHeld k p s
    t.sli = s.sli ∧ t.ylc = s.ylc ∧ t.frt.tagMap = s.frt.tagMap ∧ t.frt.posts = s.frt.posts ∧
    t.frt.plugQ = s.frt.plugQ ∧ t.sbu = s.sbu ∧ t.rdu = s.rdu ∧ t.ale = s.ale ∧ t.rsu = s.rsu ∧ t.stp = s.stp ∧
    t.tsm = s.tsm ∧ t.freeCount = s.freeCount := by
  unfold takeHeld
  split <;> simp
@[simp] theorem keeps_locate (k p : Nat) (s : State) : let t := locate k p s
    t.sli = s.sli ∧ t.ylc = s.ylc ∧ t.frt.tagMap = s.frt.tagMap ∧ t.frt.plugQ = s.frt.plugQ ∧ t.sbu = s.sbu ∧
    t.rdu = s.rdu ∧ t.ale = s.ale ∧ t.rsu = s.rsu ∧ t.stp = s.stp ∧ t.tsm = s.tsm ∧ t.freeCount = s.freeCount := by
  simp [locate]
@[simp] theorem keeps_settle (p : Nat) (faultTest : Bool) (s : State) : let t := settle p faultTest s
    t.sli = s.sli ∧ t.ylc = s.ylc ∧ t.frt.buses = s.frt.buses ∧ t.frt.tagMap = s.frt.tagMap ∧
    t.frt.plugQ = s.frt.plugQ ∧ t.sbu = s.sbu ∧ t.rdu = s.rdu ∧ t.ale.pass = s.ale.pass ∧
    t.ale.pending = s.ale.pending ∧ t.ale.timer = s.ale.timer ∧ t.ale.snap = s.ale.snap ∧
    t.ale.turn = s.ale.turn ∧ t.ale.overLimit = s.ale.overLimit ∧ t.rsu = s.rsu ∧ t.stp = s.stp ∧ t.tsm = s.tsm ∧
    t.freeCount = s.freeCount := by
  simp [settle]
@[simp] theorem keeps_refeed (c i : Nat) (s : State) : let t := refeed c i s
    t.sli = s.sli ∧ t.ylc = s.ylc ∧ t.frt.buses = s.frt.buses ∧ t.frt.tagMap = s.frt.tagMap ∧
    t.frt.plugQ = s.frt.plugQ ∧ t.sbu = s.sbu ∧ t.rdu = s.rdu ∧ t.ale.pass = s.ale.pass ∧
    t.ale.pending = s.ale.pending ∧ t.ale.timer = s.ale.timer ∧ t.ale.snap = s.ale.snap ∧
    t.ale.turn = s.ale.turn ∧ t.ale.overLimit = s.ale.overLimit ∧ t.rsu = s.rsu ∧ t.stp = s.stp ∧ t.tsm = s.tsm ∧
    t.freeCount = s.freeCount := by
  unfold refeed
  dsimp only
  (repeat' split) <;> simp
@[simp] theorem keeps_refeedAll (c : Nat) (s : State) : let t := refeedAll c s
    t.sli = s.sli ∧ t.ylc = s.ylc ∧ t.frt.buses = s.frt.buses ∧ t.frt.tagMap = s.frt.tagMap ∧
    t.frt.plugQ = s.frt.plugQ ∧ t.sbu = s.sbu ∧ t.rdu = s.rdu ∧ t.ale.pass = s.ale.pass ∧
    t.ale.pending = s.ale.pending ∧ t.ale.timer = s.ale.timer ∧ t.ale.snap = s.ale.snap ∧
    t.ale.turn = s.ale.turn ∧ t.ale.overLimit = s.ale.overLimit ∧ t.rsu = s.rsu ∧ t.stp = s.stp ∧ t.tsm = s.tsm ∧
    t.freeCount = s.freeCount := by
  simp [refeedAll]
@[simp] theorem keeps_setModeInForce (c : Nat) (m : Option Mode) (s : State) : let t := setModeInForce c m s
    t.sli = s.sli ∧ t.ylc.roundTimer = s.ylc.roundTimer ∧ t.ylc.roundDue = s.ylc.roundDue ∧
    t.ylc.roundWanted = s.ylc.roundWanted ∧ t.ylc.round = s.ylc.round ∧ t.ylc.link = s.ylc.link ∧
    t.ylc.poolClaim = s.ylc.poolClaim ∧ t.ylc.fwdClaim = s.ylc.fwdClaim ∧ t.ylc.fwdQ = s.ylc.fwdQ ∧
    t.ylc.curtailReq = s.ylc.curtailReq ∧ t.ylc.refusal = s.ylc.refusal ∧ t.frt.buses = s.frt.buses ∧
    t.frt.tagMap = s.frt.tagMap ∧ t.frt.plugQ = s.frt.plugQ ∧ t.sbu = s.sbu ∧ t.rdu = s.rdu ∧
    t.ale.pass = s.ale.pass ∧ t.ale.pending = s.ale.pending ∧ t.ale.timer = s.ale.timer ∧
    t.ale.snap = s.ale.snap ∧ t.ale.turn = s.ale.turn ∧ t.ale.overLimit = s.ale.overLimit ∧ t.rsu = s.rsu ∧
    t.stp = s.stp ∧ t.tsm = s.tsm ∧ t.freeCount = s.freeCount := by
  unfold setModeInForce
  split <;> simp
@[simp] theorem keeps_queueReadiness (k : Nat) (s : State) : let t := queueReadiness k s
    t.sli.passage = s.sli.passage ∧ t.sli.silence = s.sli.silence ∧ t.sli.silentMark = s.sli.silentMark ∧
    t.ylc = s.ylc ∧ t.frt = s.frt ∧ t.sbu = s.sbu ∧ t.rdu = s.rdu ∧ t.ale = s.ale ∧ t.rsu = s.rsu ∧
    t.stp = s.stp ∧ t.tsm.store = s.tsm.store ∧ t.tsm.active = s.tsm.active ∧ t.tsm.settings = s.tsm.settings ∧
    t.tsm.code = s.tsm.code ∧ t.tsm.staged = s.tsm.staged ∧ t.tsm.staging = s.tsm.staging ∧
    t.tsm.write = s.tsm.write ∧ t.tsm.waiting = s.tsm.waiting ∧ t.tsm.op = s.tsm.op ∧
    t.tsm.silenceStanding = s.tsm.silenceStanding ∧ t.tsm.restartPending = s.tsm.restartPending ∧
    t.freeCount = s.freeCount := by
  unfold queueReadiness
  split <;> simp
@[simp] theorem keeps_writeOutcome (legNo k : Nat) (o : LegOutcome) (s : State) : let t := writeOutcome legNo k o s
    t.sli.passage = s.sli.passage ∧ t.sli.silence = s.sli.silence ∧ t.sli.silentMark = s.sli.silentMark ∧
    t.ylc = s.ylc ∧ t.frt = s.frt ∧ t.sbu = s.sbu ∧ t.rdu.clock = s.rdu.clock ∧ t.rdu.list = s.rdu.list ∧
    t.ale = s.ale ∧ t.rsu = s.rsu ∧ t.stp = s.stp ∧ t.tsm.store = s.tsm.store ∧ t.tsm.active = s.tsm.active ∧
    t.tsm.settings = s.tsm.settings ∧ t.tsm.code = s.tsm.code ∧ t.tsm.staged = s.tsm.staged ∧
    t.tsm.staging = s.tsm.staging ∧ t.tsm.write = s.tsm.write ∧ t.tsm.waiting = s.tsm.waiting ∧
    t.tsm.op = s.tsm.op ∧ t.tsm.silenceStanding = s.tsm.silenceStanding ∧
    t.tsm.restartPending = s.tsm.restartPending ∧ t.freeCount = s.freeCount := by
  simp [writeOutcome]
@[simp] theorem keeps_dropEntry (legNo : Nat) (s : State) : let t := dropEntry legNo s
    t.sli = s.sli ∧ t.ylc = s.ylc ∧ t.frt = s.frt ∧ t.sbu = s.sbu ∧ t.rdu.clock = s.rdu.clock ∧
    t.rdu.legs = s.rdu.legs ∧ t.ale = s.ale ∧ t.rsu = s.rsu ∧ t.stp = s.stp ∧ t.tsm = s.tsm ∧
    t.freeCount = s.freeCount := by
  simp [dropEntry]
@[simp] theorem keeps_closeLeg (l : Leg) (s : State) : let t := closeLeg l s
    t.sli.passage = s.sli.passage ∧ t.sli.silence = s.sli.silence ∧ t.sli.silentMark = s.sli.silentMark ∧
    t.ylc = s.ylc ∧ t.frt = s.frt ∧ t.sbu = s.sbu ∧ t.rdu.clock = s.rdu.clock ∧ t.rdu.list = s.rdu.list ∧
    t.ale = s.ale ∧ t.rsu = s.rsu ∧ t.stp = s.stp ∧ t.tsm.store = s.tsm.store ∧ t.tsm.active = s.tsm.active ∧
    t.tsm.settings = s.tsm.settings ∧ t.tsm.code = s.tsm.code ∧ t.tsm.staged = s.tsm.staged ∧
    t.tsm.staging = s.tsm.staging ∧ t.tsm.write = s.tsm.write ∧ t.tsm.waiting = s.tsm.waiting ∧
    t.tsm.op = s.tsm.op ∧ t.tsm.silenceStanding = s.tsm.silenceStanding ∧
    t.tsm.restartPending = s.tsm.restartPending ∧ t.freeCount = s.freeCount := by
  unfold closeLeg
  (repeat' split) <;> simp
@[simp] theorem keeps_judgeDue (l : Leg) (s : State) : let t := (judgeDue l s).1
    t.sli.passage = s.sli.passage ∧ t.sli.silence = s.sli.silence ∧ t.sli.silentMark = s.sli.silentMark ∧
    t.ylc = s.ylc ∧ t.frt = s.frt ∧ t.sbu = s.sbu ∧ t.rdu.clock = s.rdu.clock ∧ t.ale = s.ale ∧ t.rsu = s.rsu ∧
    t.stp = s.stp ∧ t.tsm.store = s.tsm.store ∧ t.tsm.active = s.tsm.active ∧ t.tsm.settings = s.tsm.settings ∧
    t.tsm.code = s.tsm.code ∧ t.tsm.staged = s.tsm.staged ∧ t.tsm.staging = s.tsm.staging ∧
    t.tsm.write = s.tsm.write ∧ t.tsm.waiting = s.tsm.waiting ∧ t.tsm.op = s.tsm.op ∧
    t.tsm.silenceStanding = s.tsm.silenceStanding ∧ t.tsm.restartPending = s.tsm.restartPending ∧
    t.freeCount = s.freeCount := by
  unfold judgeDue
  (repeat' split) <;> simp
@[simp] theorem keeps_refillFrom (e : Bool) (l : List Leg) (s : State) : let t := refillFrom e l s
    t.sli.passage = s.sli.passage ∧ t.sli.silence = s.sli.silence ∧ t.sli.silentMark = s.sli.silentMark ∧
    t.ylc = s.ylc ∧ t.frt = s.frt ∧ t.sbu = s.sbu ∧ t.rdu.clock = s.rdu.clock ∧ t.ale = s.ale ∧ t.rsu = s.rsu ∧
    t.stp = s.stp ∧ t.tsm.store = s.tsm.store ∧ t.tsm.active = s.tsm.active ∧ t.tsm.settings = s.tsm.settings ∧
    t.tsm.code = s.tsm.code ∧ t.tsm.staged = s.tsm.staged ∧ t.tsm.staging = s.tsm.staging ∧
    t.tsm.write = s.tsm.write ∧ t.tsm.waiting = s.tsm.waiting ∧ t.tsm.op = s.tsm.op ∧
    t.tsm.silenceStanding = s.tsm.silenceStanding ∧ t.tsm.restartPending = s.tsm.restartPending ∧
    t.freeCount = s.freeCount := by
  induction l generalizing s with
  | nil => simp [refillFrom]
  | cons a l ih =>
    unfold refillFrom
    dsimp only at ih ⊢
    (repeat' split) <;> simp [ih]
@[simp] theorem keeps_leaveList (endOfDay : Bool) (legNo : Nat) (s : State) : let t := leaveList endOfDay legNo s
    t.sli.passage = s.sli.passage ∧ t.sli.silence = s.sli.silence ∧ t.sli.silentMark = s.sli.silentMark ∧
    t.ylc = s.ylc ∧ t.frt = s.frt ∧ t.sbu = s.sbu ∧ t.rdu.clock = s.rdu.clock ∧ t.ale = s.ale ∧ t.rsu = s.rsu ∧
    t.stp = s.stp ∧ t.tsm.store = s.tsm.store ∧ t.tsm.active = s.tsm.active ∧ t.tsm.settings = s.tsm.settings ∧
    t.tsm.code = s.tsm.code ∧ t.tsm.staged = s.tsm.staged ∧ t.tsm.staging = s.tsm.staging ∧
    t.tsm.write = s.tsm.write ∧ t.tsm.waiting = s.tsm.waiting ∧ t.tsm.op = s.tsm.op ∧
    t.tsm.silenceStanding = s.tsm.silenceStanding ∧ t.tsm.restartPending = s.tsm.restartPending ∧
    t.freeCount = s.freeCount := by
  simp [leaveList]
@[simp] theorem keeps_fallDue (when : Leg → Bool) (legNo : Nat) (s : State) : let t := fallDue when legNo s
    t.sli.passage = s.sli.passage ∧ t.sli.silence = s.sli.silence ∧ t.sli.silentMark = s.sli.silentMark ∧
    t.ylc = s.ylc ∧ t.frt = s.frt ∧ t.sbu = s.sbu ∧ t.rdu.clock = s.rdu.clock ∧ t.ale = s.ale ∧ t.rsu = s.rsu ∧
    t.stp = s.stp ∧ t.tsm.store = s.tsm.store ∧ t.tsm.active = s.tsm.active ∧ t.tsm.settings = s.tsm.settings ∧
    t.tsm.code = s.tsm.code ∧ t.tsm.staged = s.tsm.staged ∧ t.tsm.staging = s.tsm.staging ∧
    t.tsm.write = s.tsm.write ∧ t.tsm.waiting = s.tsm.waiting ∧ t.tsm.op = s.tsm.op ∧
    t.tsm.silenceStanding = s.tsm.silenceStanding ∧ t.tsm.restartPending = s.tsm.restartPending ∧
    t.freeCount = s.freeCount := by
  unfold fallDue
  dsimp only
  (repeat' split) <;> simp
@[simp] theorem keeps_closeEntry (endOfDay : Bool) (legNo : Nat) (s : State) : let t := closeEntry endOfDay legNo s
    t.sli.passage = s.sli.passage ∧ t.sli.silence = s.sli.silence ∧ t.sli.silentMark = s.sli.silentMark ∧
    t.ylc = s.ylc ∧ t.frt = s.frt ∧ t.sbu = s.sbu ∧ t.rdu.clock = s.rdu.clock ∧ t.ale = s.ale ∧ t.rsu = s.rsu ∧
    t.stp = s.stp ∧ t.tsm.store = s.tsm.store ∧ t.tsm.active = s.tsm.active ∧ t.tsm.settings = s.tsm.settings ∧
    t.tsm.code = s.tsm.code ∧ t.tsm.staged = s.tsm.staged ∧ t.tsm.staging = s.tsm.staging ∧
    t.tsm.write = s.tsm.write ∧ t.tsm.waiting = s.tsm.waiting ∧ t.tsm.op = s.tsm.op ∧
    t.tsm.silenceStanding = s.tsm.silenceStanding ∧ t.tsm.restartPending = s.tsm.restartPending ∧
    t.freeCount = s.freeCount := by
  unfold closeEntry
  (repeat' split) <;> simp
@[simp] theorem keeps_fallDueAll (when : Leg → Bool) (s : State) : let t := fallDueAll when s
    t.sli.passage = s.sli.passage ∧ t.sli.silence = s.sli.silence ∧ t.sli.silentMark = s.sli.silentMark ∧
    t.ylc = s.ylc ∧ t.frt = s.frt ∧ t.sbu = s.sbu ∧ t.rdu.clock = s.rdu.clock ∧ t.ale = s.ale ∧ t.rsu = s.rsu ∧
    t.stp = s.stp ∧ t.tsm.store = s.tsm.store ∧ t.tsm.active = s.tsm.active ∧ t.tsm.settings = s.tsm.settings ∧
    t.tsm.code = s.tsm.code ∧ t.tsm.staged = s.tsm.staged ∧ t.tsm.staging = s.tsm.staging ∧
    t.tsm.write = s.tsm.write ∧ t.tsm.waiting = s.tsm.waiting ∧ t.tsm.op = s.tsm.op ∧
    t.tsm.silenceStanding = s.tsm.silenceStanding ∧ t.tsm.restartPending = s.tsm.restartPending ∧
    t.freeCount = s.freeCount := by
  simp [fallDueAll]
@[simp] theorem keeps_closeAll (endOfDay : Bool) (s : State) : let t := closeAll endOfDay s
    t.sli.passage = s.sli.passage ∧ t.sli.silence = s.sli.silence ∧ t.sli.silentMark = s.sli.silentMark ∧
    t.ylc = s.ylc ∧ t.frt = s.frt ∧ t.sbu = s.sbu ∧ t.rdu.clock = s.rdu.clock ∧ t.ale = s.ale ∧ t.rsu = s.rsu ∧
    t.stp = s.stp ∧ t.tsm.store = s.tsm.store ∧ t.tsm.active = s.tsm.active ∧ t.tsm.settings = s.tsm.settings ∧
    t.tsm.code = s.tsm.code ∧ t.tsm.staged = s.tsm.staged ∧ t.tsm.staging = s.tsm.staging ∧
    t.tsm.write = s.tsm.write ∧ t.tsm.waiting = s.tsm.waiting ∧ t.tsm.op = s.tsm.op ∧
    t.tsm.silenceStanding = s.tsm.silenceStanding ∧ t.tsm.restartPending = s.tsm.restartPending ∧
    t.freeCount = s.freeCount := by
  simp [closeAll]
@[simp] theorem keeps_processMinute (s : State) : let t := processMinute s
    t.sli.passage = s.sli.passage ∧ t.sli.silence = s.sli.silence ∧ t.sli.silentMark = s.sli.silentMark ∧
    t.ylc = s.ylc ∧ t.frt = s.frt ∧ t.sbu = s.sbu ∧ t.rdu.clock = s.rdu.clock ∧ t.ale = s.ale ∧ t.rsu = s.rsu ∧
    t.stp = s.stp ∧ t.tsm.store = s.tsm.store ∧ t.tsm.active = s.tsm.active ∧ t.tsm.settings = s.tsm.settings ∧
    t.tsm.code = s.tsm.code ∧ t.tsm.staged = s.tsm.staged ∧ t.tsm.staging = s.tsm.staging ∧
    t.tsm.write = s.tsm.write ∧ t.tsm.waiting = s.tsm.waiting ∧ t.tsm.op = s.tsm.op ∧
    t.tsm.silenceStanding = s.tsm.silenceStanding ∧ t.tsm.restartPending = s.tsm.restartPending ∧
    t.freeCount = s.freeCount := by
  simp [processMinute]
@[simp] theorem keeps_formList (kept : List DepEntry) (s : State) : let t := formList kept s
    t.sli.passage = s.sli.passage ∧ t.sli.silence = s.sli.silence ∧ t.sli.silentMark = s.sli.silentMark ∧
    t.ylc = s.ylc ∧ t.frt = s.frt ∧ t.sbu = s.sbu ∧ t.rdu.clock = s.rdu.clock ∧ t.ale = s.ale ∧ t.rsu = s.rsu ∧
    t.stp = s.stp ∧ t.tsm.store = s.tsm.store ∧ t.tsm.active = s.tsm.active ∧ t.tsm.settings = s.tsm.settings ∧
    t.tsm.code = s.tsm.code ∧ t.tsm.staged = s.tsm.staged ∧ t.tsm.staging = s.tsm.staging ∧
    t.tsm.write = s.tsm.write ∧ t.tsm.waiting = s.tsm.waiting ∧ t.tsm.op = s.tsm.op ∧
    t.tsm.silenceStanding = s.tsm.silenceStanding ∧ t.tsm.restartPending = s.tsm.restartPending ∧
    t.freeCount = s.freeCount := by
  unfold formList
  split <;> simp
@[simp] theorem keeps_buildList (s : State) : let t := buildList s
    t.sli.passage = s.sli.passage ∧ t.sli.silence = s.sli.silence ∧ t.sli.silentMark = s.sli.silentMark ∧
    t.ylc = s.ylc ∧ t.frt = s.frt ∧ t.sbu = s.sbu ∧ t.rdu.clock = s.rdu.clock ∧ t.ale = s.ale ∧ t.rsu = s.rsu ∧
    t.stp = s.stp ∧ t.tsm.store = s.tsm.store ∧ t.tsm.active = s.tsm.active ∧ t.tsm.settings = s.tsm.settings ∧
    t.tsm.code = s.tsm.code ∧ t.tsm.staged = s.tsm.staged ∧ t.tsm.staging = s.tsm.staging ∧
    t.tsm.write = s.tsm.write ∧ t.tsm.waiting = s.tsm.waiting ∧ t.tsm.op = s.tsm.op ∧
    t.tsm.silenceStanding = s.tsm.silenceStanding ∧ t.tsm.restartPending = s.tsm.restartPending ∧
    t.freeCount = s.freeCount := by
  simp [buildList]
@[simp] theorem keeps_closeKept (legNo : Nat) (s : State) : let t := closeKept legNo s
    t.sli.passage = s.sli.passage ∧ t.sli.silence = s.sli.silence ∧ t.sli.silentMark = s.sli.silentMark ∧
    t.ylc = s.ylc ∧ t.frt = s.frt ∧ t.sbu = s.sbu ∧ t.rdu.clock = s.rdu.clock ∧ t.ale = s.ale ∧ t.rsu = s.rsu ∧
    t.stp = s.stp ∧ t.tsm.store = s.tsm.store ∧ t.tsm.active = s.tsm.active ∧ t.tsm.settings = s.tsm.settings ∧
    t.tsm.code = s.tsm.code ∧ t.tsm.staged = s.tsm.staged ∧ t.tsm.staging = s.tsm.staging ∧
    t.tsm.write = s.tsm.write ∧ t.tsm.waiting = s.tsm.waiting ∧ t.tsm.op = s.tsm.op ∧
    t.tsm.silenceStanding = s.tsm.silenceStanding ∧ t.tsm.restartPending = s.tsm.restartPending ∧
    t.freeCount = s.freeCount := by
  unfold closeKept
  (repeat' split) <;> simp
@[simp] theorem keeps_holdDue (s : State) : let t := holdDue s
    t.sli.passage = s.sli.passage ∧ t.sli.silence = s.sli.silence ∧ t.sli.silentMark = s.sli.silentMark ∧
    t.ylc = s.ylc ∧ t.frt = s.frt ∧ t.sbu = s.sbu ∧ t.rdu.clock = s.rdu.clock ∧ t.ale = s.ale ∧ t.rsu = s.rsu ∧
    t.stp = s.stp ∧ t.tsm.store = s.tsm.store ∧ t.tsm.active = s.tsm.active ∧ t.tsm.settings = s.tsm.settings ∧
    t.tsm.code = s.tsm.code ∧ t.tsm.staged = s.tsm.staged ∧ t.tsm.staging = s.tsm.staging ∧
    t.tsm.write = s.tsm.write ∧ t.tsm.waiting = s.tsm.waiting ∧ t.tsm.op = s.tsm.op ∧
    t.tsm.silenceStanding = s.tsm.silenceStanding ∧ t.tsm.restartPending = s.tsm.restartPending ∧
    t.freeCount = s.freeCount := by
  simp [holdDue]
@[simp] theorem keeps_rebuildList (s : State) : let t := rebuildList s
    t.sli.passage = s.sli.passage ∧ t.sli.silence = s.sli.silence ∧ t.sli.silentMark = s.sli.silentMark ∧
    t.ylc = s.ylc ∧ t.frt = s.frt ∧ t.sbu = s.sbu ∧ t.rdu.clock = s.rdu.clock ∧ t.ale = s.ale ∧ t.rsu = s.rsu ∧
    t.stp = s.stp ∧ t.tsm.store = s.tsm.store ∧ t.tsm.active = s.tsm.active ∧ t.tsm.settings = s.tsm.settings ∧
    t.tsm.code = s.tsm.code ∧ t.tsm.staged = s.tsm.staged ∧ t.tsm.staging = s.tsm.staging ∧
    t.tsm.write = s.tsm.write ∧ t.tsm.waiting = s.tsm.waiting ∧ t.tsm.op = s.tsm.op ∧
    t.tsm.silenceStanding = s.tsm.silenceStanding ∧ t.tsm.restartPending = s.tsm.restartPending ∧
    t.freeCount = s.freeCount := by
  unfold rebuildList
  split <;> simp
@[simp] theorem keeps_resetOutcomes (s : State) : let t := resetOutcomes s
    t.sli = s.sli ∧ t.ylc = s.ylc ∧ t.frt = s.frt ∧ t.sbu = s.sbu ∧ t.rdu.clock = s.rdu.clock ∧
    t.rdu.list = s.rdu.list ∧ t.ale = s.ale ∧ t.rsu = s.rsu ∧ t.stp = s.stp ∧ t.tsm = s.tsm ∧
    t.freeCount = s.freeCount := by
  simp [resetOutcomes]
@[simp] theorem keeps_clearMarkers (s : State) : let t := clearMarkers s
    t.sli = s.sli ∧ t.ylc = s.ylc ∧ t.frt = s.frt ∧ t.sbu = s.sbu ∧ t.rdu.clock = s.rdu.clock ∧
    t.rdu.list = s.rdu.list ∧ t.ale = s.ale ∧ t.rsu = s.rsu ∧ t.stp = s.stp ∧ t.tsm = s.tsm ∧
    t.freeCount = s.freeCount := by
  simp [clearMarkers]
@[simp] theorem keeps_clearSubstitutes (s : State) : let t := clearSubstitutes s
    t.sli = s.sli ∧ t.ylc = s.ylc ∧ t.frt = s.frt ∧ t.sbu = s.sbu ∧ t.rdu.clock = s.rdu.clock ∧
    t.rdu.list = s.rdu.list ∧ t.ale = s.ale ∧ t.rsu = s.rsu ∧ t.stp = s.stp ∧ t.tsm = s.tsm ∧
    t.freeCount = s.freeCount := by
  simp [clearSubstitutes]
@[simp] theorem keeps_resetOpenOutcomes (s : State) : let t := resetOpenOutcomes s
    t.sli = s.sli ∧ t.ylc = s.ylc ∧ t.frt = s.frt ∧ t.sbu = s.sbu ∧ t.rdu.clock = s.rdu.clock ∧
    t.rdu.list = s.rdu.list ∧ t.ale = s.ale ∧ t.rsu = s.rsu ∧ t.stp = s.stp ∧ t.tsm = s.tsm ∧
    t.freeCount = s.freeCount := by
  simp [resetOpenOutcomes]
@[simp] theorem keeps_dayChange (s : State) : let t := dayChange s
    t.sli.passage = s.sli.passage ∧ t.sli.silence = s.sli.silence ∧ t.sli.silentMark = s.sli.silentMark ∧
    t.ylc = s.ylc ∧ t.frt = s.frt ∧ t.sbu = s.sbu ∧ t.ale = s.ale ∧ t.rsu = s.rsu ∧ t.stp = s.stp ∧
    t.tsm.store = s.tsm.store ∧ t.tsm.active = s.tsm.active ∧ t.tsm.settings = s.tsm.settings ∧
    t.tsm.code = s.tsm.code ∧ t.tsm.staged = s.tsm.staged ∧ t.tsm.staging = s.tsm.staging ∧
    t.tsm.write = s.tsm.write ∧ t.tsm.waiting = s.tsm.waiting ∧ t.tsm.op = s.tsm.op ∧
    t.tsm.silenceStanding = s.tsm.silenceStanding ∧ t.tsm.restartPending = s.tsm.restartPending ∧
    t.freeCount = s.freeCount := by
  simp [dayChange]
@[simp] theorem keeps_advanceMinute (s : State) : let t := advanceMinute s
    t.sli.passage = s.sli.passage ∧ t.sli.silence = s.sli.silence ∧ t.sli.silentMark = s.sli.silentMark ∧
    t.ylc = s.ylc ∧ t.frt = s.frt ∧ t.sbu = s.sbu ∧ t.ale = s.ale ∧ t.rsu = s.rsu ∧ t.stp = s.stp ∧
    t.tsm.store = s.tsm.store ∧ t.tsm.active = s.tsm.active ∧ t.tsm.settings = s.tsm.settings ∧
    t.tsm.code = s.tsm.code ∧ t.tsm.staged = s.tsm.staged ∧ t.tsm.staging = s.tsm.staging ∧
    t.tsm.write = s.tsm.write ∧ t.tsm.waiting = s.tsm.waiting ∧ t.tsm.op = s.tsm.op ∧
    t.tsm.silenceStanding = s.tsm.silenceStanding ∧ t.tsm.restartPending = s.tsm.restartPending ∧
    t.freeCount = s.freeCount := by
  unfold advanceMinute
  dsimp only
  split <;> simp
@[simp] theorem keeps_judgeUnplug (k : Nat) (s : State) : let t := judgeUnplug k s
    t.sli.passage = s.sli.passage ∧ t.sli.silence = s.sli.silence ∧ t.sli.silentMark = s.sli.silentMark ∧
    t.ylc = s.ylc ∧ t.frt.tagMap = s.frt.tagMap ∧ t.frt.posts = s.frt.posts ∧ t.frt.plugQ = s.frt.plugQ ∧
    t.sbu = s.sbu ∧ t.rdu.clock = s.rdu.clock ∧ t.ale = s.ale ∧ t.rsu = s.rsu ∧ t.stp = s.stp ∧
    t.tsm.store = s.tsm.store ∧ t.tsm.active = s.tsm.active ∧ t.tsm.settings = s.tsm.settings ∧
    t.tsm.code = s.tsm.code ∧ t.tsm.staged = s.tsm.staged ∧ t.tsm.staging = s.tsm.staging ∧
    t.tsm.write = s.tsm.write ∧ t.tsm.waiting = s.tsm.waiting ∧ t.tsm.op = s.tsm.op ∧
    t.tsm.silenceStanding = s.tsm.silenceStanding ∧ t.tsm.restartPending = s.tsm.restartPending ∧
    t.freeCount = s.freeCount := by
  unfold judgeUnplug
  dsimp only
  (repeat' split) <;> simp
@[simp] theorem keeps_reviewLeg (l : Leg) (s : State) : let t := reviewLeg l s
    t.sli.passage = s.sli.passage ∧ t.sli.silence = s.sli.silence ∧ t.sli.silentMark = s.sli.silentMark ∧
    t.ylc = s.ylc ∧ t.frt = s.frt ∧ t.sbu = s.sbu ∧ t.rdu.clock = s.rdu.clock ∧ t.rdu.list = s.rdu.list ∧
    t.ale = s.ale ∧ t.rsu = s.rsu ∧ t.stp = s.stp ∧ t.tsm.store = s.tsm.store ∧ t.tsm.active = s.tsm.active ∧
    t.tsm.settings = s.tsm.settings ∧ t.tsm.code = s.tsm.code ∧ t.tsm.staged = s.tsm.staged ∧
    t.tsm.staging = s.tsm.staging ∧ t.tsm.write = s.tsm.write ∧ t.tsm.waiting = s.tsm.waiting ∧
    t.tsm.op = s.tsm.op ∧ t.tsm.silenceStanding = s.tsm.silenceStanding ∧
    t.tsm.restartPending = s.tsm.restartPending ∧ t.freeCount = s.freeCount := by
  unfold reviewLeg
  (repeat' split) <;> simp
@[simp] theorem keeps_reviewLegs (s : State) : let t := reviewLegs s
    t.sli.passage = s.sli.passage ∧ t.sli.silence = s.sli.silence ∧ t.sli.silentMark = s.sli.silentMark ∧
    t.ylc = s.ylc ∧ t.frt = s.frt ∧ t.sbu = s.sbu ∧ t.rdu.clock = s.rdu.clock ∧ t.rdu.list = s.rdu.list ∧
    t.ale = s.ale ∧ t.rsu = s.rsu ∧ t.stp = s.stp ∧ t.tsm.store = s.tsm.store ∧ t.tsm.active = s.tsm.active ∧
    t.tsm.settings = s.tsm.settings ∧ t.tsm.code = s.tsm.code ∧ t.tsm.staged = s.tsm.staged ∧
    t.tsm.staging = s.tsm.staging ∧ t.tsm.write = s.tsm.write ∧ t.tsm.waiting = s.tsm.waiting ∧
    t.tsm.op = s.tsm.op ∧ t.tsm.silenceStanding = s.tsm.silenceStanding ∧
    t.tsm.restartPending = s.tsm.restartPending ∧ t.freeCount = s.freeCount := by
  unfold reviewLegs
  split <;> simp
@[simp] theorem keeps_reviewInfeasible (b : Bus) (next : Option NextLeg) (s : State) :
    let t := reviewInfeasible b next s
    t.sli.passage = s.sli.passage ∧ t.sli.silence = s.sli.silence ∧ t.sli.silentMark = s.sli.silentMark ∧
    t.ylc = s.ylc ∧ t.frt = s.frt ∧ t.sbu = s.sbu ∧ t.rdu.clock = s.rdu.clock ∧ t.rdu.list = s.rdu.list ∧
    t.ale = s.ale ∧ t.rsu = s.rsu ∧ t.stp = s.stp ∧ t.tsm.store = s.tsm.store ∧ t.tsm.active = s.tsm.active ∧
    t.tsm.settings = s.tsm.settings ∧ t.tsm.code = s.tsm.code ∧ t.tsm.staged = s.tsm.staged ∧
    t.tsm.staging = s.tsm.staging ∧ t.tsm.write = s.tsm.write ∧ t.tsm.waiting = s.tsm.waiting ∧
    t.tsm.op = s.tsm.op ∧ t.tsm.silenceStanding = s.tsm.silenceStanding ∧
    t.tsm.restartPending = s.tsm.restartPending ∧ t.freeCount = s.freeCount := by
  unfold reviewInfeasible
  (repeat' split) <;> simp
@[simp] theorem keeps_writeReadiness (k : Nat) (s : State) : let t := writeReadiness k s
    t.sli.passage = s.sli.passage ∧ t.sli.silence = s.sli.silence ∧ t.sli.silentMark = s.sli.silentMark ∧
    t.ylc = s.ylc ∧ t.frt.tagMap = s.frt.tagMap ∧ t.frt.posts = s.frt.posts ∧ t.frt.plugQ = s.frt.plugQ ∧
    t.sbu = s.sbu ∧ t.rdu.clock = s.rdu.clock ∧ t.rdu.list = s.rdu.list ∧ t.ale = s.ale ∧ t.rsu = s.rsu ∧
    t.stp = s.stp ∧ t.tsm.store = s.tsm.store ∧ t.tsm.active = s.tsm.active ∧ t.tsm.settings = s.tsm.settings ∧
    t.tsm.code = s.tsm.code ∧ t.tsm.staged = s.tsm.staged ∧ t.tsm.staging = s.tsm.staging ∧
    t.tsm.write = s.tsm.write ∧ t.tsm.waiting = s.tsm.waiting ∧ t.tsm.op = s.tsm.op ∧
    t.tsm.silenceStanding = s.tsm.silenceStanding ∧ t.tsm.restartPending = s.tsm.restartPending ∧
    t.freeCount = s.freeCount := by
  unfold writeReadiness
  dsimp only
  (repeat' split) <;> simp
@[simp] theorem keeps_completeReadiness (s : State) : let t := completeReadiness s
    t.sli.passage = s.sli.passage ∧ t.sli.silence = s.sli.silence ∧ t.sli.silentMark = s.sli.silentMark ∧
    t.ylc = s.ylc ∧ t.frt.tagMap = s.frt.tagMap ∧ t.frt.posts = s.frt.posts ∧ t.frt.plugQ = s.frt.plugQ ∧
    t.sbu = s.sbu ∧ t.rdu.clock = s.rdu.clock ∧ t.rdu.list = s.rdu.list ∧ t.ale = s.ale ∧ t.rsu = s.rsu ∧
    t.stp = s.stp ∧ t.tsm.store = s.tsm.store ∧ t.tsm.active = s.tsm.active ∧ t.tsm.settings = s.tsm.settings ∧
    t.tsm.code = s.tsm.code ∧ t.tsm.staged = s.tsm.staged ∧ t.tsm.staging = s.tsm.staging ∧
    t.tsm.write = s.tsm.write ∧ t.tsm.waiting = s.tsm.waiting ∧ t.tsm.op = s.tsm.op ∧
    t.tsm.silenceStanding = s.tsm.silenceStanding ∧ t.tsm.restartPending = s.tsm.restartPending ∧
    t.freeCount = s.freeCount := by
  simp [completeReadiness]
@[simp] theorem keeps_joinPlug (e : PlugEvent) (s : State) : let t := joinPlug e s
    t.sli = s.sli ∧ t.ylc = s.ylc ∧ t.frt.buses = s.frt.buses ∧ t.frt.tagMap = s.frt.tagMap ∧
    t.frt.posts = s.frt.posts ∧ t.sbu = s.sbu ∧ t.rdu = s.rdu ∧ t.ale = s.ale ∧ t.rsu = s.rsu ∧ t.stp = s.stp ∧
    t.tsm = s.tsm ∧ t.freeCount = s.freeCount := by
  simp [joinPlug]
@[simp] theorem keeps_refuseEvent (s : State) : let t := refuseEvent s
    t.sli.passage = s.sli.passage ∧ t.sli.silence = s.sli.silence ∧ t.sli.silentMark = s.sli.silentMark ∧
    t.ylc.cabinets = s.ylc.cabinets ∧ t.ylc.roundTimer = s.ylc.roundTimer ∧ t.ylc.roundDue = s.ylc.roundDue ∧
    t.ylc.roundWanted = s.ylc.roundWanted ∧ t.ylc.round = s.ylc.round ∧ t.ylc.link = s.ylc.link ∧
    t.ylc.poolClaim = s.ylc.poolClaim ∧ t.ylc.fwdClaim = s.ylc.fwdClaim ∧ t.ylc.fwdQ = s.ylc.fwdQ ∧
    t.ylc.curtailReq = s.ylc.curtailReq ∧ t.frt = s.frt ∧ t.sbu = s.sbu ∧ t.rdu = s.rdu ∧ t.ale = s.ale ∧
    t.rsu = s.rsu ∧ t.stp = s.stp ∧ t.tsm.store = s.tsm.store ∧ t.tsm.active = s.tsm.active ∧
    t.tsm.settings = s.tsm.settings ∧ t.tsm.code = s.tsm.code ∧ t.tsm.staged = s.tsm.staged ∧
    t.tsm.staging = s.tsm.staging ∧ t.tsm.write = s.tsm.write ∧ t.tsm.waiting = s.tsm.waiting ∧
    t.tsm.op = s.tsm.op ∧ t.tsm.silenceStanding = s.tsm.silenceStanding ∧
    t.tsm.restartPending = s.tsm.restartPending ∧ t.freeCount = s.freeCount := by
  unfold refuseEvent
  split <;> simp
@[simp] theorem keeps_resolveConflict (k q p : Nat) (s : State) : let t := resolveConflict k q p s
    t.sli.passage = s.sli.passage ∧ t.sli.silence = s.sli.silence ∧ t.sli.silentMark = s.sli.silentMark ∧
    t.ylc = s.ylc ∧ t.frt.tagMap = s.frt.tagMap ∧ t.frt.plugQ = s.frt.plugQ ∧ t.sbu = s.sbu ∧ t.rdu = s.rdu ∧
    t.ale.pass = s.ale.pass ∧ t.ale.pending = s.ale.pending ∧ t.ale.timer = s.ale.timer ∧
    t.ale.snap = s.ale.snap ∧ t.ale.turn = s.ale.turn ∧ t.ale.overLimit = s.ale.overLimit ∧ t.rsu = s.rsu ∧
    t.stp = s.stp ∧ t.tsm.store = s.tsm.store ∧ t.tsm.active = s.tsm.active ∧ t.tsm.settings = s.tsm.settings ∧
    t.tsm.code = s.tsm.code ∧ t.tsm.staged = s.tsm.staged ∧ t.tsm.staging = s.tsm.staging ∧
    t.tsm.write = s.tsm.write ∧ t.tsm.waiting = s.tsm.waiting ∧ t.tsm.op = s.tsm.op ∧
    t.tsm.silenceStanding = s.tsm.silenceStanding ∧ t.tsm.restartPending = s.tsm.restartPending ∧
    t.freeCount = s.freeCount := by
  unfold resolveConflict
  split <;> simp
@[simp] theorem keeps_plugPost (p : Nat) (s : State) : let t := plugPost p s
    t.sli = s.sli ∧ t.ylc = s.ylc ∧ t.frt.buses = s.frt.buses ∧ t.frt.tagMap = s.frt.tagMap ∧
    t.frt.plugQ = s.frt.plugQ ∧ t.sbu = s.sbu ∧ t.rdu = s.rdu ∧ t.ale.pass = s.ale.pass ∧
    t.ale.pending = s.ale.pending ∧ t.ale.timer = s.ale.timer ∧ t.ale.snap = s.ale.snap ∧
    t.ale.turn = s.ale.turn ∧ t.ale.overLimit = s.ale.overLimit ∧ t.rsu = s.rsu ∧ t.stp = s.stp ∧ t.tsm = s.tsm ∧
    t.freeCount = s.freeCount := by
  unfold plugPost
  dsimp only
  (repeat' split) <;> simp
@[simp] theorem keeps_plugMapped (k p : Nat) (s : State) : let t := plugMapped k p s
    t.sli.passage = s.sli.passage ∧ t.sli.silence = s.sli.silence ∧ t.sli.silentMark = s.sli.silentMark ∧
    t.ylc = s.ylc ∧ t.frt.tagMap = s.frt.tagMap ∧ t.frt.plugQ = s.frt.plugQ ∧ t.sbu = s.sbu ∧ t.rdu = s.rdu ∧
    t.ale.pass = s.ale.pass ∧ t.ale.pending = s.ale.pending ∧ t.ale.timer = s.ale.timer ∧
    t.ale.snap = s.ale.snap ∧ t.ale.turn = s.ale.turn ∧ t.ale.overLimit = s.ale.overLimit ∧ t.rsu = s.rsu ∧
    t.stp = s.stp ∧ t.tsm.store = s.tsm.store ∧ t.tsm.active = s.tsm.active ∧ t.tsm.settings = s.tsm.settings ∧
    t.tsm.code = s.tsm.code ∧ t.tsm.staged = s.tsm.staged ∧ t.tsm.staging = s.tsm.staging ∧
    t.tsm.write = s.tsm.write ∧ t.tsm.waiting = s.tsm.waiting ∧ t.tsm.op = s.tsm.op ∧
    t.tsm.silenceStanding = s.tsm.silenceStanding ∧ t.tsm.restartPending = s.tsm.restartPending ∧
    t.freeCount = s.freeCount := by
  unfold plugMapped
  dsimp only
  (repeat' split) <;> simp
@[simp] theorem keeps_plugUnmapped (p : Nat) (s : State) : let t := plugUnmapped p s
    t.sli = s.sli ∧ t.ylc = s.ylc ∧ t.frt.tagMap = s.frt.tagMap ∧ t.frt.plugQ = s.frt.plugQ ∧ t.sbu = s.sbu ∧
    t.rdu = s.rdu ∧ t.ale.pass = s.ale.pass ∧ t.ale.pending = s.ale.pending ∧ t.ale.timer = s.ale.timer ∧
    t.ale.snap = s.ale.snap ∧ t.ale.turn = s.ale.turn ∧ t.ale.overLimit = s.ale.overLimit ∧ t.rsu = s.rsu ∧
    t.stp = s.stp ∧ t.tsm = s.tsm ∧ t.freeCount = s.freeCount := by
  unfold plugUnmapped
  dsimp only
  split <;> simp
@[simp] theorem keeps_unplugBus (p : Nat) (s : State) : let t := unplugBus p s
    t.sli.passage = s.sli.passage ∧ t.sli.silence = s.sli.silence ∧ t.sli.silentMark = s.sli.silentMark ∧
    t.ylc = s.ylc ∧ t.frt.tagMap = s.frt.tagMap ∧ t.frt.plugQ = s.frt.plugQ ∧ t.sbu = s.sbu ∧
    t.rdu.clock = s.rdu.clock ∧ t.ale = s.ale ∧ t.rsu = s.rsu ∧ t.stp = s.stp ∧ t.tsm.store = s.tsm.store ∧
    t.tsm.active = s.tsm.active ∧ t.tsm.settings = s.tsm.settings ∧ t.tsm.code = s.tsm.code ∧
    t.tsm.staged = s.tsm.staged ∧ t.tsm.staging = s.tsm.staging ∧ t.tsm.write = s.tsm.write ∧
    t.tsm.waiting = s.tsm.waiting ∧ t.tsm.op = s.tsm.op ∧ t.tsm.silenceStanding = s.tsm.silenceStanding ∧
    t.tsm.restartPending = s.tsm.restartPending ∧ t.freeCount = s.freeCount := by
  unfold unplugBus
  (repeat' split) <;> simp
@[simp] theorem keeps_unplugEvent (p : Nat) (s : State) : let t := unplugEvent p s
    t.sli.passage = s.sli.passage ∧ t.sli.silence = s.sli.silence ∧ t.sli.silentMark = s.sli.silentMark ∧
    t.ylc = s.ylc ∧ t.frt.tagMap = s.frt.tagMap ∧ t.frt.plugQ = s.frt.plugQ ∧ t.sbu = s.sbu ∧
    t.rdu.clock = s.rdu.clock ∧ t.ale.pass = s.ale.pass ∧ t.ale.pending = s.ale.pending ∧
    t.ale.timer = s.ale.timer ∧ t.ale.snap = s.ale.snap ∧ t.ale.turn = s.ale.turn ∧
    t.ale.overLimit = s.ale.overLimit ∧ t.rsu = s.rsu ∧ t.stp = s.stp ∧ t.tsm.store = s.tsm.store ∧
    t.tsm.active = s.tsm.active ∧ t.tsm.settings = s.tsm.settings ∧ t.tsm.code = s.tsm.code ∧
    t.tsm.staged = s.tsm.staged ∧ t.tsm.staging = s.tsm.staging ∧ t.tsm.write = s.tsm.write ∧
    t.tsm.waiting = s.tsm.waiting ∧ t.tsm.op = s.tsm.op ∧ t.tsm.silenceStanding = s.tsm.silenceStanding ∧
    t.tsm.restartPending = s.tsm.restartPending ∧ t.freeCount = s.freeCount := by
  unfold unplugEvent
  split <;> simp
@[simp] theorem keeps_faultEvent (p : Nat) (s : State) : let t := faultEvent p s
    t.sli = s.sli ∧ t.ylc = s.ylc ∧ t.frt.buses = s.frt.buses ∧ t.frt.tagMap = s.frt.tagMap ∧
    t.frt.plugQ = s.frt.plugQ ∧ t.sbu = s.sbu ∧ t.rdu = s.rdu ∧ t.ale.pass = s.ale.pass ∧
    t.ale.pending = s.ale.pending ∧ t.ale.timer = s.ale.timer ∧ t.ale.snap = s.ale.snap ∧
    t.ale.turn = s.ale.turn ∧ t.ale.overLimit = s.ale.overLimit ∧ t.rsu = s.rsu ∧ t.stp = s.stp ∧ t.tsm = s.tsm ∧
    t.freeCount = s.freeCount := by
  unfold faultEvent
  split <;> simp
@[simp] theorem keeps_faultClearEvent (p : Nat) (s : State) : let t := faultClearEvent p s
    t.sli = s.sli ∧ t.ylc = s.ylc ∧ t.frt.buses = s.frt.buses ∧ t.frt.tagMap = s.frt.tagMap ∧
    t.frt.plugQ = s.frt.plugQ ∧ t.sbu = s.sbu ∧ t.rdu = s.rdu ∧ t.ale.pass = s.ale.pass ∧
    t.ale.pending = s.ale.pending ∧ t.ale.timer = s.ale.timer ∧ t.ale.snap = s.ale.snap ∧
    t.ale.turn = s.ale.turn ∧ t.ale.overLimit = s.ale.overLimit ∧ t.rsu = s.rsu ∧ t.stp = s.stp ∧ t.tsm = s.tsm ∧
    t.freeCount = s.freeCount := by
  unfold faultClearEvent
  split <;> simp
@[simp] theorem keeps_processEvent (e : PlugEvent) (s : State) : let t := processEvent e s
    t.sli.passage = s.sli.passage ∧ t.sli.silence = s.sli.silence ∧ t.sli.silentMark = s.sli.silentMark ∧
    t.ylc = s.ylc ∧ t.frt.tagMap = s.frt.tagMap ∧ t.frt.plugQ = s.frt.plugQ ∧ t.sbu = s.sbu ∧
    t.rdu.clock = s.rdu.clock ∧ t.ale.pass = s.ale.pass ∧ t.ale.pending = s.ale.pending ∧
    t.ale.timer = s.ale.timer ∧ t.ale.snap = s.ale.snap ∧ t.ale.turn = s.ale.turn ∧
    t.ale.overLimit = s.ale.overLimit ∧ t.rsu = s.rsu ∧ t.stp = s.stp ∧ t.tsm.store = s.tsm.store ∧
    t.tsm.active = s.tsm.active ∧ t.tsm.settings = s.tsm.settings ∧ t.tsm.code = s.tsm.code ∧
    t.tsm.staged = s.tsm.staged ∧ t.tsm.staging = s.tsm.staging ∧ t.tsm.write = s.tsm.write ∧
    t.tsm.waiting = s.tsm.waiting ∧ t.tsm.op = s.tsm.op ∧ t.tsm.silenceStanding = s.tsm.silenceStanding ∧
    t.tsm.restartPending = s.tsm.restartPending ∧ t.freeCount = s.freeCount := by
  unfold processEvent
  (repeat' split) <;> simp
@[simp] theorem keeps_drain (s : State) : let t := drain s
    t.sli.passage = s.sli.passage ∧ t.sli.silence = s.sli.silence ∧ t.sli.silentMark = s.sli.silentMark ∧
    t.ylc = s.ylc ∧ t.frt.tagMap = s.frt.tagMap ∧ t.sbu = s.sbu ∧ t.rdu.clock = s.rdu.clock ∧
    t.ale.pass = s.ale.pass ∧ t.ale.pending = s.ale.pending ∧ t.ale.timer = s.ale.timer ∧
    t.ale.snap = s.ale.snap ∧ t.ale.turn = s.ale.turn ∧ t.ale.overLimit = s.ale.overLimit ∧ t.rsu = s.rsu ∧
    t.stp = s.stp ∧ t.tsm.store = s.tsm.store ∧ t.tsm.active = s.tsm.active ∧ t.tsm.settings = s.tsm.settings ∧
    t.tsm.code = s.tsm.code ∧ t.tsm.staged = s.tsm.staged ∧ t.tsm.staging = s.tsm.staging ∧
    t.tsm.write = s.tsm.write ∧ t.tsm.waiting = s.tsm.waiting ∧ t.tsm.op = s.tsm.op ∧
    t.tsm.silenceStanding = s.tsm.silenceStanding ∧ t.tsm.restartPending = s.tsm.restartPending ∧
    t.freeCount = s.freeCount := by
  simp [drain]
@[simp] theorem keeps_repairOccupancy (p : Nat) (s : State) : let t := repairOccupancy p s
    t.sli.passage = s.sli.passage ∧ t.sli.silence = s.sli.silence ∧ t.sli.silentMark = s.sli.silentMark ∧
    t.ylc.cabinets = s.ylc.cabinets ∧ t.ylc.roundTimer = s.ylc.roundTimer ∧ t.ylc.roundDue = s.ylc.roundDue ∧
    t.ylc.roundWanted = s.ylc.roundWanted ∧ t.ylc.round = s.ylc.round ∧ t.ylc.link = s.ylc.link ∧
    t.ylc.poolClaim = s.ylc.poolClaim ∧ t.ylc.fwdClaim = s.ylc.fwdClaim ∧ t.ylc.fwdQ = s.ylc.fwdQ ∧
    t.ylc.curtailReq = s.ylc.curtailReq ∧ t.frt.buses = s.frt.buses ∧ t.frt.tagMap = s.frt.tagMap ∧
    t.sbu = s.sbu ∧ t.rdu = s.rdu ∧ t.ale.pass = s.ale.pass ∧ t.ale.pending = s.ale.pending ∧
    t.ale.timer = s.ale.timer ∧ t.ale.snap = s.ale.snap ∧ t.ale.turn = s.ale.turn ∧
    t.ale.overLimit = s.ale.overLimit ∧ t.rsu = s.rsu ∧ t.stp = s.stp ∧ t.tsm.store = s.tsm.store ∧
    t.tsm.active = s.tsm.active ∧ t.tsm.settings = s.tsm.settings ∧ t.tsm.code = s.tsm.code ∧
    t.tsm.staged = s.tsm.staged ∧ t.tsm.staging = s.tsm.staging ∧ t.tsm.write = s.tsm.write ∧
    t.tsm.waiting = s.tsm.waiting ∧ t.tsm.op = s.tsm.op ∧ t.tsm.silenceStanding = s.tsm.silenceStanding ∧
    t.tsm.restartPending = s.tsm.restartPending ∧ t.freeCount = s.freeCount := by
  unfold repairOccupancy
  (repeat' split) <;> simp
@[simp] theorem keeps_compareOccupancy (p : Nat) (before : PostState) (occupied spoken : Bool) (s : State) :
    let t := compareOccupancy p before occupied spoken s
    t.sli.passage = s.sli.passage ∧ t.sli.silence = s.sli.silence ∧ t.sli.silentMark = s.sli.silentMark ∧
    t.ylc.cabinets = s.ylc.cabinets ∧ t.ylc.roundTimer = s.ylc.roundTimer ∧ t.ylc.roundDue = s.ylc.roundDue ∧
    t.ylc.roundWanted = s.ylc.roundWanted ∧ t.ylc.round = s.ylc.round ∧ t.ylc.link = s.ylc.link ∧
    t.ylc.poolClaim = s.ylc.poolClaim ∧ t.ylc.fwdClaim = s.ylc.fwdClaim ∧ t.ylc.fwdQ = s.ylc.fwdQ ∧
    t.ylc.curtailReq = s.ylc.curtailReq ∧ t.frt.buses = s.frt.buses ∧ t.frt.tagMap = s.frt.tagMap ∧
    t.sbu = s.sbu ∧ t.rdu = s.rdu ∧ t.ale.pass = s.ale.pass ∧ t.ale.pending = s.ale.pending ∧
    t.ale.timer = s.ale.timer ∧ t.ale.snap = s.ale.snap ∧ t.ale.turn = s.ale.turn ∧
    t.ale.overLimit = s.ale.overLimit ∧ t.rsu = s.rsu ∧ t.stp = s.stp ∧ t.tsm.store = s.tsm.store ∧
    t.tsm.active = s.tsm.active ∧ t.tsm.settings = s.tsm.settings ∧ t.tsm.code = s.tsm.code ∧
    t.tsm.staged = s.tsm.staged ∧ t.tsm.staging = s.tsm.staging ∧ t.tsm.write = s.tsm.write ∧
    t.tsm.waiting = s.tsm.waiting ∧ t.tsm.op = s.tsm.op ∧ t.tsm.silenceStanding = s.tsm.silenceStanding ∧
    t.tsm.restartPending = s.tsm.restartPending ∧ t.freeCount = s.freeCount := by
  unfold compareOccupancy
  (repeat' split) <;> simp
@[simp] theorem keeps_removeEvents (c : Nat) (s : State) : let t := removeEvents c s
    t.sli = s.sli ∧ t.ylc = s.ylc ∧ t.frt.buses = s.frt.buses ∧ t.frt.tagMap = s.frt.tagMap ∧
    t.frt.posts = s.frt.posts ∧ t.sbu = s.sbu ∧ t.rdu = s.rdu ∧ t.ale = s.ale ∧ t.rsu = s.rsu ∧ t.stp = s.stp ∧
    t.tsm = s.tsm ∧ t.freeCount = s.freeCount := by
  simp [removeEvents]
@[simp] theorem keeps_zeroGrants (c : Nat) (l : List Nat) (s : State) : let t := zeroGrants c l s
    t.sli = s.sli ∧ t.ylc = s.ylc ∧ t.frt.buses = s.frt.buses ∧ t.frt.tagMap = s.frt.tagMap ∧
    t.frt.plugQ = s.frt.plugQ ∧ t.sbu = s.sbu ∧ t.rdu = s.rdu ∧ t.ale = s.ale ∧ t.rsu = s.rsu ∧ t.stp = s.stp ∧
    t.tsm = s.tsm ∧ t.freeCount = s.freeCount := by
  simp [zeroGrants]
@[simp] theorem keeps_beginChange (c : Nat) (target : Mode) (s : State) : let t := beginChange c target s
    t.sli = s.sli ∧ t.ylc.roundTimer = s.ylc.roundTimer ∧ t.ylc.roundDue = s.ylc.roundDue ∧
    t.ylc.roundWanted = s.ylc.roundWanted ∧ t.ylc.round = s.ylc.round ∧ t.ylc.link = s.ylc.link ∧
    t.ylc.poolClaim = s.ylc.poolClaim ∧ t.ylc.fwdClaim = s.ylc.fwdClaim ∧ t.ylc.fwdQ = s.ylc.fwdQ ∧
    t.ylc.curtailReq = s.ylc.curtailReq ∧ t.ylc.refusal = s.ylc.refusal ∧ t.frt.buses = s.frt.buses ∧
    t.frt.tagMap = s.frt.tagMap ∧ t.frt.plugQ = s.frt.plugQ ∧ t.sbu = s.sbu ∧ t.rdu = s.rdu ∧ t.ale = s.ale ∧
    t.rsu = s.rsu ∧ t.stp = s.stp ∧ t.tsm = s.tsm ∧ t.freeCount = s.freeCount := by
  simp [beginChange]
@[simp] theorem keeps_compareMode (c : Nat) (wanted : Option Mode) (s : State) : let t := compareMode c wanted s
    t.sli = s.sli ∧ t.ylc.roundTimer = s.ylc.roundTimer ∧ t.ylc.roundDue = s.ylc.roundDue ∧
    t.ylc.roundWanted = s.ylc.roundWanted ∧ t.ylc.round = s.ylc.round ∧ t.ylc.link = s.ylc.link ∧
    t.ylc.poolClaim = s.ylc.poolClaim ∧ t.ylc.fwdClaim = s.ylc.fwdClaim ∧ t.ylc.fwdQ = s.ylc.fwdQ ∧
    t.ylc.curtailReq = s.ylc.curtailReq ∧ t.ylc.refusal = s.ylc.refusal ∧ t.frt.buses = s.frt.buses ∧
    t.frt.tagMap = s.frt.tagMap ∧ t.frt.plugQ = s.frt.plugQ ∧ t.sbu = s.sbu ∧ t.rdu = s.rdu ∧ t.ale = s.ale ∧
    t.rsu = s.rsu ∧ t.stp = s.stp ∧ t.tsm = s.tsm ∧ t.freeCount = s.freeCount := by
  unfold compareMode
  (repeat' split) <;> simp
@[simp] theorem keeps_reformSet (c : Nat) (target : Mode) (s : State) : let t := reformSet c target s
    t.sli = s.sli ∧ t.ylc.roundTimer = s.ylc.roundTimer ∧ t.ylc.roundDue = s.ylc.roundDue ∧
    t.ylc.roundWanted = s.ylc.roundWanted ∧ t.ylc.round = s.ylc.round ∧ t.ylc.link = s.ylc.link ∧
    t.ylc.poolClaim = s.ylc.poolClaim ∧ t.ylc.fwdClaim = s.ylc.fwdClaim ∧ t.ylc.fwdQ = s.ylc.fwdQ ∧
    t.ylc.curtailReq = s.ylc.curtailReq ∧ t.ylc.refusal = s.ylc.refusal ∧ t.frt.buses = s.frt.buses ∧
    t.frt.tagMap = s.frt.tagMap ∧ t.frt.plugQ = s.frt.plugQ ∧ t.sbu = s.sbu ∧ t.rdu = s.rdu ∧ t.ale = s.ale ∧
    t.rsu = s.rsu ∧ t.stp = s.stp ∧ t.tsm = s.tsm ∧ t.freeCount = s.freeCount := by
  simp [reformSet]
@[simp] theorem keeps_takePending (c : Nat) (s : State) : let t := takePending c s
    t.sli = s.sli ∧ t.ylc.roundTimer = s.ylc.roundTimer ∧ t.ylc.roundDue = s.ylc.roundDue ∧
    t.ylc.roundWanted = s.ylc.roundWanted ∧ t.ylc.round = s.ylc.round ∧ t.ylc.link = s.ylc.link ∧
    t.ylc.poolClaim = s.ylc.poolClaim ∧ t.ylc.fwdClaim = s.ylc.fwdClaim ∧ t.ylc.fwdQ = s.ylc.fwdQ ∧
    t.ylc.curtailReq = s.ylc.curtailReq ∧ t.ylc.refusal = s.ylc.refusal ∧ t.frt.buses = s.frt.buses ∧
    t.frt.tagMap = s.frt.tagMap ∧ t.frt.plugQ = s.frt.plugQ ∧ t.sbu = s.sbu ∧ t.rdu = s.rdu ∧ t.ale = s.ale ∧
    t.rsu = s.rsu ∧ t.stp = s.stp ∧ t.tsm = s.tsm ∧ t.freeCount = s.freeCount := by
  unfold takePending
  dsimp only
  split <;> simp
@[simp] theorem keeps_endDone (c : Nat) (s : State) : let t := endDone c s
    t.sli.passage = s.sli.passage ∧ t.sli.silence = s.sli.silence ∧ t.sli.silentMark = s.sli.silentMark ∧
    t.ylc.roundTimer = s.ylc.roundTimer ∧ t.ylc.roundDue = s.ylc.roundDue ∧
    t.ylc.roundWanted = s.ylc.roundWanted ∧ t.ylc.round = s.ylc.round ∧ t.ylc.link = s.ylc.link ∧
    t.ylc.poolClaim = s.ylc.poolClaim ∧ t.ylc.fwdClaim = s.ylc.fwdClaim ∧ t.ylc.fwdQ = s.ylc.fwdQ ∧
    t.ylc.curtailReq = s.ylc.curtailReq ∧ t.ylc.refusal = s.ylc.refusal ∧ t.frt.buses = s.frt.buses ∧
    t.frt.tagMap = s.frt.tagMap ∧ t.frt.plugQ = s.frt.plugQ ∧ t.sbu = s.sbu ∧ t.rdu = s.rdu ∧ t.ale = s.ale ∧
    t.rsu = s.rsu ∧ t.stp = s.stp ∧ t.tsm.store = s.tsm.store ∧ t.tsm.active = s.tsm.active ∧
    t.tsm.settings = s.tsm.settings ∧ t.tsm.code = s.tsm.code ∧ t.tsm.staged = s.tsm.staged ∧
    t.tsm.staging = s.tsm.staging ∧ t.tsm.write = s.tsm.write ∧ t.tsm.waiting = s.tsm.waiting ∧
    t.tsm.op = s.tsm.op ∧ t.tsm.silenceStanding = s.tsm.silenceStanding ∧
    t.tsm.restartPending = s.tsm.restartPending ∧ t.freeCount = s.freeCount := by
  unfold endDone
  split <;> simp
@[simp] theorem keeps_acceptTarget (c : Nat) (s : State) : let t := acceptTarget c s
    t.sli.passage = s.sli.passage ∧ t.sli.silence = s.sli.silence ∧ t.sli.silentMark = s.sli.silentMark ∧
    t.ylc.roundTimer = s.ylc.roundTimer ∧ t.ylc.roundDue = s.ylc.roundDue ∧
    t.ylc.roundWanted = s.ylc.roundWanted ∧ t.ylc.round = s.ylc.round ∧ t.ylc.link = s.ylc.link ∧
    t.ylc.poolClaim = s.ylc.poolClaim ∧ t.ylc.fwdClaim = s.ylc.fwdClaim ∧ t.ylc.fwdQ = s.ylc.fwdQ ∧
    t.ylc.curtailReq = s.ylc.curtailReq ∧ t.ylc.refusal = s.ylc.refusal ∧ t.frt.buses = s.frt.buses ∧
    t.frt.tagMap = s.frt.tagMap ∧ t.frt.plugQ = s.frt.plugQ ∧ t.sbu = s.sbu ∧ t.rdu = s.rdu ∧
    t.ale.pass = s.ale.pass ∧ t.ale.pending = s.ale.pending ∧ t.ale.timer = s.ale.timer ∧
    t.ale.snap = s.ale.snap ∧ t.ale.turn = s.ale.turn ∧ t.ale.overLimit = s.ale.overLimit ∧ t.rsu = s.rsu ∧
    t.stp = s.stp ∧ t.tsm.store = s.tsm.store ∧ t.tsm.active = s.tsm.active ∧ t.tsm.settings = s.tsm.settings ∧
    t.tsm.code = s.tsm.code ∧ t.tsm.staged = s.tsm.staged ∧ t.tsm.staging = s.tsm.staging ∧
    t.tsm.write = s.tsm.write ∧ t.tsm.waiting = s.tsm.waiting ∧ t.tsm.op = s.tsm.op ∧
    t.tsm.silenceStanding = s.tsm.silenceStanding ∧ t.tsm.restartPending = s.tsm.restartPending ∧
    t.freeCount = s.freeCount := by
  unfold acceptTarget
  split <;> simp
@[simp] theorem keeps_failAttempt (c : Nat) (cause : PoolCause) (s : State) : let t := failAttempt c cause s
    t.sli.passage = s.sli.passage ∧ t.sli.silence = s.sli.silence ∧ t.sli.silentMark = s.sli.silentMark ∧
    t.ylc.roundTimer = s.ylc.roundTimer ∧ t.ylc.roundDue = s.ylc.roundDue ∧
    t.ylc.roundWanted = s.ylc.roundWanted ∧ t.ylc.round = s.ylc.round ∧ t.ylc.link = s.ylc.link ∧
    t.ylc.poolClaim = s.ylc.poolClaim ∧ t.ylc.fwdClaim = s.ylc.fwdClaim ∧ t.ylc.fwdQ = s.ylc.fwdQ ∧
    t.ylc.curtailReq = s.ylc.curtailReq ∧ t.ylc.refusal = s.ylc.refusal ∧ t.frt.buses = s.frt.buses ∧
    t.frt.tagMap = s.frt.tagMap ∧ t.frt.plugQ = s.frt.plugQ ∧ t.sbu = s.sbu ∧ t.rdu = s.rdu ∧ t.ale = s.ale ∧
    t.rsu = s.rsu ∧ t.stp = s.stp ∧ t.tsm.store = s.tsm.store ∧ t.tsm.active = s.tsm.active ∧
    t.tsm.settings = s.tsm.settings ∧ t.tsm.code = s.tsm.code ∧ t.tsm.staged = s.tsm.staged ∧
    t.tsm.staging = s.tsm.staging ∧ t.tsm.write = s.tsm.write ∧ t.tsm.waiting = s.tsm.waiting ∧
    t.tsm.op = s.tsm.op ∧ t.tsm.silenceStanding = s.tsm.silenceStanding ∧
    t.tsm.restartPending = s.tsm.restartPending ∧ t.freeCount = s.freeCount := by
  unfold failAttempt
  dsimp only
  (repeat' split) <;> simp
@[simp] theorem keeps_failOffline (c : Nat) (s : State) : let t := failOffline c s
    t.sli.passage = s.sli.passage ∧ t.sli.silence = s.sli.silence ∧ t.sli.silentMark = s.sli.silentMark ∧
    t.ylc.roundTimer = s.ylc.roundTimer ∧ t.ylc.roundDue = s.ylc.roundDue ∧
    t.ylc.roundWanted = s.ylc.roundWanted ∧ t.ylc.round = s.ylc.round ∧ t.ylc.link = s.ylc.link ∧
    t.ylc.poolClaim = s.ylc.poolClaim ∧ t.ylc.fwdClaim = s.ylc.fwdClaim ∧ t.ylc.fwdQ = s.ylc.fwdQ ∧
    t.ylc.curtailReq = s.ylc.curtailReq ∧ t.ylc.refusal = s.ylc.refusal ∧ t.frt = s.frt ∧ t.sbu = s.sbu ∧
    t.rdu = s.rdu ∧ t.ale = s.ale ∧ t.rsu = s.rsu ∧ t.stp = s.stp ∧ t.tsm.store = s.tsm.store ∧
    t.tsm.active = s.tsm.active ∧ t.tsm.settings = s.tsm.settings ∧ t.tsm.code = s.tsm.code ∧
    t.tsm.staged = s.tsm.staged ∧ t.tsm.staging = s.tsm.staging ∧ t.tsm.write = s.tsm.write ∧
    t.tsm.waiting = s.tsm.waiting ∧ t.tsm.op = s.tsm.op ∧ t.tsm.silenceStanding = s.tsm.silenceStanding ∧
    t.tsm.restartPending = s.tsm.restartPending ∧ t.freeCount = s.freeCount := by
  unfold failOffline
  dsimp only
  (repeat' split) <;> simp
@[simp] theorem keeps_restartPool (c : Nat) (s : State) : let t := restartPool c s
    t.sli = s.sli ∧ t.ylc.roundTimer = s.ylc.roundTimer ∧ t.ylc.roundDue = s.ylc.roundDue ∧
    t.ylc.roundWanted = s.ylc.roundWanted ∧ t.ylc.round = s.ylc.round ∧ t.ylc.link = s.ylc.link ∧
    t.ylc.poolClaim = s.ylc.poolClaim ∧ t.ylc.fwdClaim = s.ylc.fwdClaim ∧ t.ylc.fwdQ = s.ylc.fwdQ ∧
    t.ylc.curtailReq = s.ylc.curtailReq ∧ t.ylc.refusal = s.ylc.refusal ∧ t.frt = s.frt ∧ t.sbu = s.sbu ∧
    t.rdu = s.rdu ∧ t.ale = s.ale ∧ t.rsu = s.rsu ∧ t.stp = s.stp ∧ t.tsm = s.tsm ∧ t.freeCount = s.freeCount := by
  simp [restartPool]
@[simp] theorem keeps_joinSet (c : Nat) (target : Mode) (s : State) : let t := joinSet c target s
    t.sli = s.sli ∧ t.ylc.roundTimer = s.ylc.roundTimer ∧ t.ylc.roundDue = s.ylc.roundDue ∧
    t.ylc.roundWanted = s.ylc.roundWanted ∧ t.ylc.round = s.ylc.round ∧ t.ylc.link = s.ylc.link ∧
    t.ylc.poolClaim = s.ylc.poolClaim ∧ t.ylc.fwdClaim = s.ylc.fwdClaim ∧ t.ylc.fwdQ = s.ylc.fwdQ ∧
    t.ylc.curtailReq = s.ylc.curtailReq ∧ t.ylc.refusal = s.ylc.refusal ∧ t.frt.buses = s.frt.buses ∧
    t.frt.tagMap = s.frt.tagMap ∧ t.frt.plugQ = s.frt.plugQ ∧ t.sbu = s.sbu ∧ t.rdu = s.rdu ∧ t.ale = s.ale ∧
    t.rsu = s.rsu ∧ t.stp = s.stp ∧ t.tsm = s.tsm ∧ t.freeCount = s.freeCount := by
  simp [joinSet]
@[simp] theorem keeps_afterReport (c : Nat) (m : Mode) (moved : Bool) (s : State) : let t := afterReport c m moved s
    t.sli.passage = s.sli.passage ∧ t.sli.silence = s.sli.silence ∧ t.sli.silentMark = s.sli.silentMark ∧
    t.ylc.roundTimer = s.ylc.roundTimer ∧ t.ylc.roundDue = s.ylc.roundDue ∧
    t.ylc.roundWanted = s.ylc.roundWanted ∧ t.ylc.round = s.ylc.round ∧ t.ylc.link = s.ylc.link ∧
    t.ylc.poolClaim = s.ylc.poolClaim ∧ t.ylc.fwdClaim = s.ylc.fwdClaim ∧ t.ylc.fwdQ = s.ylc.fwdQ ∧
    t.ylc.curtailReq = s.ylc.curtailReq ∧ t.ylc.refusal = s.ylc.refusal ∧ t.frt.buses = s.frt.buses ∧
    t.frt.tagMap = s.frt.tagMap ∧ t.frt.plugQ = s.frt.plugQ ∧ t.sbu = s.sbu ∧ t.rdu = s.rdu ∧ t.ale = s.ale ∧
    t.rsu = s.rsu ∧ t.stp = s.stp ∧ t.tsm.store = s.tsm.store ∧ t.tsm.active = s.tsm.active ∧
    t.tsm.settings = s.tsm.settings ∧ t.tsm.code = s.tsm.code ∧ t.tsm.staged = s.tsm.staged ∧
    t.tsm.staging = s.tsm.staging ∧ t.tsm.write = s.tsm.write ∧ t.tsm.waiting = s.tsm.waiting ∧
    t.tsm.op = s.tsm.op ∧ t.tsm.silenceStanding = s.tsm.silenceStanding ∧
    t.tsm.restartPending = s.tsm.restartPending ∧ t.freeCount = s.freeCount := by
  unfold afterReport
  (repeat' split) <;> simp
@[simp] theorem keeps_reportMode (c : Nat) (code : Byte) (s : State) : let t := reportMode c code s
    t.sli.passage = s.sli.passage ∧ t.sli.silence = s.sli.silence ∧ t.sli.silentMark = s.sli.silentMark ∧
    t.ylc.roundTimer = s.ylc.roundTimer ∧ t.ylc.roundDue = s.ylc.roundDue ∧
    t.ylc.roundWanted = s.ylc.roundWanted ∧ t.ylc.round = s.ylc.round ∧ t.ylc.link = s.ylc.link ∧
    t.ylc.poolClaim = s.ylc.poolClaim ∧ t.ylc.fwdClaim = s.ylc.fwdClaim ∧ t.ylc.fwdQ = s.ylc.fwdQ ∧
    t.ylc.curtailReq = s.ylc.curtailReq ∧ t.ylc.refusal = s.ylc.refusal ∧ t.frt.buses = s.frt.buses ∧
    t.frt.tagMap = s.frt.tagMap ∧ t.frt.plugQ = s.frt.plugQ ∧ t.sbu = s.sbu ∧ t.rdu = s.rdu ∧
    t.ale.pass = s.ale.pass ∧ t.ale.pending = s.ale.pending ∧ t.ale.timer = s.ale.timer ∧
    t.ale.snap = s.ale.snap ∧ t.ale.turn = s.ale.turn ∧ t.ale.overLimit = s.ale.overLimit ∧ t.rsu = s.rsu ∧
    t.stp = s.stp ∧ t.tsm.store = s.tsm.store ∧ t.tsm.active = s.tsm.active ∧ t.tsm.settings = s.tsm.settings ∧
    t.tsm.code = s.tsm.code ∧ t.tsm.staged = s.tsm.staged ∧ t.tsm.staging = s.tsm.staging ∧
    t.tsm.write = s.tsm.write ∧ t.tsm.waiting = s.tsm.waiting ∧ t.tsm.op = s.tsm.op ∧
    t.tsm.silenceStanding = s.tsm.silenceStanding ∧ t.tsm.restartPending = s.tsm.restartPending ∧
    t.freeCount = s.freeCount := by
  unfold reportMode
  split <;> simp
@[simp] theorem keeps_markQuiet (c : Nat) (s : State) : let t := markQuiet c s
    t.sli = s.sli ∧ t.ylc.roundTimer = s.ylc.roundTimer ∧ t.ylc.roundDue = s.ylc.roundDue ∧
    t.ylc.roundWanted = s.ylc.roundWanted ∧ t.ylc.round = s.ylc.round ∧ t.ylc.link = s.ylc.link ∧
    t.ylc.poolClaim = s.ylc.poolClaim ∧ t.ylc.fwdClaim = s.ylc.fwdClaim ∧ t.ylc.fwdQ = s.ylc.fwdQ ∧
    t.ylc.curtailReq = s.ylc.curtailReq ∧ t.ylc.refusal = s.ylc.refusal ∧ t.frt = s.frt ∧ t.sbu = s.sbu ∧
    t.rdu = s.rdu ∧ t.ale = s.ale ∧ t.rsu = s.rsu ∧ t.stp = s.stp ∧ t.tsm = s.tsm ∧ t.freeCount = s.freeCount := by
  unfold markQuiet
  dsimp only
  split <;> simp
@[simp] theorem keeps_wantMode (c : Nat) (d : Mode) (s : State) : let t := wantMode c d s
    t.sli = s.sli ∧ t.ylc.roundTimer = s.ylc.roundTimer ∧ t.ylc.roundDue = s.ylc.roundDue ∧
    t.ylc.roundWanted = s.ylc.roundWanted ∧ t.ylc.round = s.ylc.round ∧ t.ylc.link = s.ylc.link ∧
    t.ylc.poolClaim = s.ylc.poolClaim ∧ t.ylc.fwdClaim = s.ylc.fwdClaim ∧ t.ylc.fwdQ = s.ylc.fwdQ ∧
    t.ylc.curtailReq = s.ylc.curtailReq ∧ t.ylc.refusal = s.ylc.refusal ∧ t.frt.buses = s.frt.buses ∧
    t.frt.tagMap = s.frt.tagMap ∧ t.frt.plugQ = s.frt.plugQ ∧ t.sbu = s.sbu ∧ t.rdu = s.rdu ∧ t.ale = s.ale ∧
    t.rsu = s.rsu ∧ t.stp = s.stp ∧ t.tsm = s.tsm ∧ t.freeCount = s.freeCount := by
  unfold wantMode
  dsimp only
  (repeat' split) <;> simp
@[simp] theorem keeps_buildStorage (s : State) : let t := buildStorage s
    t.sli = s.sli ∧ t.ylc = s.ylc ∧ t.frt = s.frt ∧ t.sbu = s.sbu ∧ t.rdu = s.rdu ∧ t.ale = s.ale ∧
    t.rsu = s.rsu ∧ t.stp.season = s.stp.season ∧ t.stp.viewDue = s.stp.viewDue ∧ t.stp.view = s.stp.view ∧
    t.tsm = s.tsm ∧ t.freeCount = s.freeCount := by
  simp [buildStorage]
@[simp] theorem keeps_reband (s : State) : let t := reband s
    t.sli = s.sli ∧ t.ylc = s.ylc ∧ t.frt = s.frt ∧ t.sbu = s.sbu ∧ t.rdu = s.rdu ∧ t.ale = s.ale ∧
    t.rsu = s.rsu ∧ t.stp.season = s.stp.season ∧ t.stp.viewDue = s.stp.viewDue ∧ t.stp.view = s.stp.view ∧
    t.tsm = s.tsm ∧ t.freeCount = s.freeCount := by
  simp [reband]
@[simp] theorem keeps_classify (k : Nat) (s : State) : let t := classify k s
    t.sli = s.sli ∧ t.ylc = s.ylc ∧ t.frt.tagMap = s.frt.tagMap ∧ t.frt.posts = s.frt.posts ∧
    t.frt.plugQ = s.frt.plugQ ∧ t.sbu = s.sbu ∧ t.rdu = s.rdu ∧ t.ale = s.ale ∧ t.rsu = s.rsu ∧
    t.stp.season = s.stp.season ∧ t.stp.viewDue = s.stp.viewDue ∧ t.stp.view = s.stp.view ∧ t.tsm = s.tsm ∧
    t.freeCount = s.freeCount := by
  unfold classify
  dsimp only
  (repeat' split) <;> simp
@[simp] theorem keeps_queueStorage (s : State) : let t := queueStorage s
    t.sli.passage = s.sli.passage ∧ t.sli.silence = s.sli.silence ∧ t.sli.silentMark = s.sli.silentMark ∧
    t.ylc = s.ylc ∧ t.frt = s.frt ∧ t.sbu = s.sbu ∧ t.rdu = s.rdu ∧ t.ale = s.ale ∧ t.rsu = s.rsu ∧
    t.stp = s.stp ∧ t.tsm.store = s.tsm.store ∧ t.tsm.active = s.tsm.active ∧ t.tsm.settings = s.tsm.settings ∧
    t.tsm.code = s.tsm.code ∧ t.tsm.staged = s.tsm.staged ∧ t.tsm.staging = s.tsm.staging ∧
    t.tsm.write = s.tsm.write ∧ t.tsm.waiting = s.tsm.waiting ∧ t.tsm.op = s.tsm.op ∧
    t.tsm.silenceStanding = s.tsm.silenceStanding ∧ t.tsm.restartPending = s.tsm.restartPending ∧
    t.freeCount = s.freeCount := by
  simp [queueStorage]
@[simp] theorem keeps_completeStorage (f : PassFacts) (s : State) : let t := completeStorage f s
    t.sli.passage = s.sli.passage ∧ t.sli.silence = s.sli.silence ∧ t.sli.silentMark = s.sli.silentMark ∧
    t.ylc = s.ylc ∧ t.frt.tagMap = s.frt.tagMap ∧ t.frt.posts = s.frt.posts ∧ t.frt.plugQ = s.frt.plugQ ∧
    t.sbu = s.sbu ∧ t.rdu = s.rdu ∧ t.ale = s.ale ∧ t.rsu = s.rsu ∧ t.stp.season = s.stp.season ∧
    t.tsm.store = s.tsm.store ∧ t.tsm.active = s.tsm.active ∧ t.tsm.settings = s.tsm.settings ∧
    t.tsm.code = s.tsm.code ∧ t.tsm.staged = s.tsm.staged ∧ t.tsm.staging = s.tsm.staging ∧
    t.tsm.write = s.tsm.write ∧ t.tsm.waiting = s.tsm.waiting ∧ t.tsm.op = s.tsm.op ∧
    t.tsm.silenceStanding = s.tsm.silenceStanding ∧ t.tsm.restartPending = s.tsm.restartPending ∧
    t.freeCount = s.freeCount := by
  unfold completeStorage
  dsimp only
  split <;> simp
@[simp] theorem keeps_queueCapability (slot : Nat) (s : State) : let t := queueCapability slot s
    t.sli.passage = s.sli.passage ∧ t.sli.silence = s.sli.silence ∧ t.sli.silentMark = s.sli.silentMark ∧
    t.ylc = s.ylc ∧ t.frt = s.frt ∧ t.sbu = s.sbu ∧ t.rdu = s.rdu ∧ t.ale = s.ale ∧ t.rsu = s.rsu ∧
    t.stp = s.stp ∧ t.tsm.store = s.tsm.store ∧ t.tsm.active = s.tsm.active ∧ t.tsm.settings = s.tsm.settings ∧
    t.tsm.code = s.tsm.code ∧ t.tsm.staged = s.tsm.staged ∧ t.tsm.staging = s.tsm.staging ∧
    t.tsm.write = s.tsm.write ∧ t.tsm.waiting = s.tsm.waiting ∧ t.tsm.op = s.tsm.op ∧
    t.tsm.silenceStanding = s.tsm.silenceStanding ∧ t.tsm.restartPending = s.tsm.restartPending ∧
    t.freeCount = s.freeCount := by
  simp [queueCapability]
@[simp] theorem keeps_recordSides (slot : Nat) (s : State) : let t := recordSides slot s
    t.sli = s.sli ∧ t.ylc = s.ylc ∧ t.frt = s.frt ∧ t.sbu = s.sbu ∧ t.rdu = s.rdu ∧ t.ale = s.ale ∧
    t.rsu.slots = s.rsu.slots ∧ t.rsu.upCap = s.rsu.upCap ∧ t.rsu.downCap = s.rsu.downCap ∧
    t.rsu.slot = s.rsu.slot ∧ t.rsu.highId = s.rsu.highId ∧ t.rsu.lastReply = s.rsu.lastReply ∧
    t.rsu.active = s.rsu.active ∧ t.rsu.armed = s.rsu.armed ∧ t.stp = s.stp ∧ t.tsm = s.tsm ∧
    t.freeCount = s.freeCount := by
  simp [recordSides]
@[simp] theorem keeps_slotStart (slot : Nat) (s : State) : let t := slotStart slot s
    t.sli.passage = s.sli.passage ∧ t.sli.silence = s.sli.silence ∧ t.sli.silentMark = s.sli.silentMark ∧
    t.ylc = s.ylc ∧ t.frt = s.frt ∧ t.sbu = s.sbu ∧ t.rdu = s.rdu ∧ t.ale = s.ale ∧ t.rsu.slots = s.rsu.slots ∧
    t.rsu.upCap = s.rsu.upCap ∧ t.rsu.downCap = s.rsu.downCap ∧ t.rsu.highId = s.rsu.highId ∧
    t.rsu.lastReply = s.rsu.lastReply ∧ t.rsu.active = s.rsu.active ∧ t.rsu.armed = s.rsu.armed ∧ t.stp = s.stp ∧
    t.tsm.store = s.tsm.store ∧ t.tsm.active = s.tsm.active ∧ t.tsm.settings = s.tsm.settings ∧
    t.tsm.code = s.tsm.code ∧ t.tsm.staged = s.tsm.staged ∧ t.tsm.staging = s.tsm.staging ∧
    t.tsm.write = s.tsm.write ∧ t.tsm.waiting = s.tsm.waiting ∧ t.tsm.op = s.tsm.op ∧
    t.tsm.silenceStanding = s.tsm.silenceStanding ∧ t.tsm.restartPending = s.tsm.restartPending ∧
    t.freeCount = s.freeCount := by
  simp [slotStart]
@[simp] theorem keeps_takeSlot (s : State) : let t := takeSlot s
    t.sli.passage = s.sli.passage ∧ t.sli.silence = s.sli.silence ∧ t.sli.silentMark = s.sli.silentMark ∧
    t.ylc = s.ylc ∧ t.frt = s.frt ∧ t.sbu = s.sbu ∧ t.rdu = s.rdu ∧ t.ale = s.ale ∧ t.rsu.slots = s.rsu.slots ∧
    t.rsu.upCap = s.rsu.upCap ∧ t.rsu.downCap = s.rsu.downCap ∧ t.rsu.highId = s.rsu.highId ∧
    t.rsu.lastReply = s.rsu.lastReply ∧ t.rsu.active = s.rsu.active ∧ t.rsu.armed = s.rsu.armed ∧ t.stp = s.stp ∧
    t.tsm.store = s.tsm.store ∧ t.tsm.active = s.tsm.active ∧ t.tsm.settings = s.tsm.settings ∧
    t.tsm.code = s.tsm.code ∧ t.tsm.staged = s.tsm.staged ∧ t.tsm.staging = s.tsm.staging ∧
    t.tsm.write = s.tsm.write ∧ t.tsm.waiting = s.tsm.waiting ∧ t.tsm.op = s.tsm.op ∧
    t.tsm.silenceStanding = s.tsm.silenceStanding ∧ t.tsm.restartPending = s.tsm.restartPending ∧
    t.freeCount = s.freeCount := by
  unfold takeSlot
  dsimp only
  split <;> simp
@[simp] theorem keeps_compareSides (s : State) : let t := compareSides s
    t.sli.passage = s.sli.passage ∧ t.sli.silence = s.sli.silence ∧ t.sli.silentMark = s.sli.silentMark ∧
    t.ylc = s.ylc ∧ t.frt = s.frt ∧ t.sbu = s.sbu ∧ t.rdu = s.rdu ∧ t.ale = s.ale ∧ t.rsu.slots = s.rsu.slots ∧
    t.rsu.upCap = s.rsu.upCap ∧ t.rsu.downCap = s.rsu.downCap ∧ t.rsu.slot = s.rsu.slot ∧
    t.rsu.highId = s.rsu.highId ∧ t.rsu.lastReply = s.rsu.lastReply ∧ t.rsu.active = s.rsu.active ∧
    t.rsu.armed = s.rsu.armed ∧ t.stp = s.stp ∧ t.tsm.store = s.tsm.store ∧ t.tsm.active = s.tsm.active ∧
    t.tsm.settings = s.tsm.settings ∧ t.tsm.code = s.tsm.code ∧ t.tsm.staged = s.tsm.staged ∧
    t.tsm.staging = s.tsm.staging ∧ t.tsm.write = s.tsm.write ∧ t.tsm.waiting = s.tsm.waiting ∧
    t.tsm.op = s.tsm.op ∧ t.tsm.silenceStanding = s.tsm.silenceStanding ∧
    t.tsm.restartPending = s.tsm.restartPending ∧ t.freeCount = s.freeCount := by
  unfold compareSides
  (repeat' split) <;> simp
@[simp] theorem keeps_updActive (f : Dispatch → Dispatch) (s : State) : let t := updActive f s
    t.sli = s.sli ∧ t.ylc = s.ylc ∧ t.frt = s.frt ∧ t.sbu = s.sbu ∧ t.rdu = s.rdu ∧ t.ale = s.ale ∧
    t.rsu.slots = s.rsu.slots ∧ t.rsu.upCap = s.rsu.upCap ∧ t.rsu.downCap = s.rsu.downCap ∧
    t.rsu.slot = s.rsu.slot ∧ t.rsu.highId = s.rsu.highId ∧ t.rsu.lastReply = s.rsu.lastReply ∧
    t.rsu.armed = s.rsu.armed ∧ t.stp = s.stp ∧ t.tsm = s.tsm ∧ t.freeCount = s.freeCount := by
  simp [updActive]
@[simp] theorem keeps_evalBand (s : State) : let t := evalBand s
    t.sli = s.sli ∧ t.ylc = s.ylc ∧ t.frt = s.frt ∧ t.sbu = s.sbu ∧ t.rdu = s.rdu ∧ t.ale = s.ale ∧
    t.rsu.slots = s.rsu.slots ∧ t.rsu.upCap = s.rsu.upCap ∧ t.rsu.downCap = s.rsu.downCap ∧
    t.rsu.slot = s.rsu.slot ∧ t.rsu.highId = s.rsu.highId ∧ t.rsu.lastReply = s.rsu.lastReply ∧
    t.rsu.armed = s.rsu.armed ∧ t.stp = s.stp ∧ t.tsm = s.tsm ∧ t.freeCount = s.freeCount := by
  simp [evalBand]
@[simp] theorem keeps_accumulate (s : State) : let t := accumulate s
    t.sli = s.sli ∧ t.ylc = s.ylc ∧ t.frt = s.frt ∧ t.sbu = s.sbu ∧ t.rdu = s.rdu ∧ t.ale = s.ale ∧
    t.rsu.slots = s.rsu.slots ∧ t.rsu.upCap = s.rsu.upCap ∧ t.rsu.downCap = s.rsu.downCap ∧
    t.rsu.slot = s.rsu.slot ∧ t.rsu.highId = s.rsu.highId ∧ t.rsu.lastReply = s.rsu.lastReply ∧
    t.rsu.armed = s.rsu.armed ∧ t.stp = s.stp ∧ t.tsm = s.tsm ∧ t.freeCount = s.freeCount := by
  simp [accumulate]
@[simp] theorem keeps_takeShortfall (found : Option (Nat × ShortCause)) (s : State) : let t := takeShortfall found s
    t.sli.passage = s.sli.passage ∧ t.sli.silence = s.sli.silence ∧ t.sli.silentMark = s.sli.silentMark ∧
    t.ylc = s.ylc ∧ t.frt = s.frt ∧ t.sbu = s.sbu ∧ t.rdu = s.rdu ∧ t.ale = s.ale ∧ t.rsu.slots = s.rsu.slots ∧
    t.rsu.upCap = s.rsu.upCap ∧ t.rsu.downCap = s.rsu.downCap ∧ t.rsu.slot = s.rsu.slot ∧
    t.rsu.highId = s.rsu.highId ∧ t.rsu.lastReply = s.rsu.lastReply ∧ t.rsu.armed = s.rsu.armed ∧ t.stp = s.stp ∧
    t.tsm.store = s.tsm.store ∧ t.tsm.active = s.tsm.active ∧ t.tsm.settings = s.tsm.settings ∧
    t.tsm.code = s.tsm.code ∧ t.tsm.staged = s.tsm.staged ∧ t.tsm.staging = s.tsm.staging ∧
    t.tsm.write = s.tsm.write ∧ t.tsm.waiting = s.tsm.waiting ∧ t.tsm.op = s.tsm.op ∧
    t.tsm.silenceStanding = s.tsm.silenceStanding ∧ t.tsm.restartPending = s.tsm.restartPending ∧
    t.freeCount = s.freeCount := by
  unfold takeShortfall
  (repeat' split) <;> simp
@[simp] theorem keeps_completeReserve (f : PassFacts) (found : Option (Nat × ShortCause)) (s : State) :
    let t := completeReserve f found s
    t.sli.passage = s.sli.passage ∧ t.sli.silence = s.sli.silence ∧ t.sli.silentMark = s.sli.silentMark ∧
    t.ylc = s.ylc ∧ t.frt = s.frt ∧ t.sbu = s.sbu ∧ t.rdu = s.rdu ∧ t.ale = s.ale ∧ t.rsu.slots = s.rsu.slots ∧
    t.rsu.slot = s.rsu.slot ∧ t.rsu.highId = s.rsu.highId ∧ t.rsu.lastReply = s.rsu.lastReply ∧
    t.rsu.armed = s.rsu.armed ∧ t.stp = s.stp ∧ t.tsm.store = s.tsm.store ∧ t.tsm.active = s.tsm.active ∧
    t.tsm.settings = s.tsm.settings ∧ t.tsm.code = s.tsm.code ∧ t.tsm.staged = s.tsm.staged ∧
    t.tsm.staging = s.tsm.staging ∧ t.tsm.write = s.tsm.write ∧ t.tsm.waiting = s.tsm.waiting ∧
    t.tsm.op = s.tsm.op ∧ t.tsm.silenceStanding = s.tsm.silenceStanding ∧
    t.tsm.restartPending = s.tsm.restartPending ∧ t.freeCount = s.freeCount := by
  simp [completeReserve]
@[simp] theorem keeps_endActive (e : EndState) (s : State) : let t := endActive e s
    t.sli.passage = s.sli.passage ∧ t.sli.silence = s.sli.silence ∧ t.sli.silentMark = s.sli.silentMark ∧
    t.ylc = s.ylc ∧ t.frt = s.frt ∧ t.sbu = s.sbu ∧ t.rdu = s.rdu ∧ t.ale = s.ale ∧ t.rsu.slots = s.rsu.slots ∧
    t.rsu.upCap = s.rsu.upCap ∧ t.rsu.downCap = s.rsu.downCap ∧ t.rsu.slot = s.rsu.slot ∧
    t.rsu.highId = s.rsu.highId ∧ t.rsu.lastReply = s.rsu.lastReply ∧ t.rsu.armed = s.rsu.armed ∧ t.stp = s.stp ∧
    t.tsm.store = s.tsm.store ∧ t.tsm.active = s.tsm.active ∧ t.tsm.settings = s.tsm.settings ∧
    t.tsm.code = s.tsm.code ∧ t.tsm.staged = s.tsm.staged ∧ t.tsm.staging = s.tsm.staging ∧
    t.tsm.write = s.tsm.write ∧ t.tsm.waiting = s.tsm.waiting ∧ t.tsm.op = s.tsm.op ∧
    t.tsm.silenceStanding = s.tsm.silenceStanding ∧ t.tsm.restartPending = s.tsm.restartPending ∧
    t.freeCount = s.freeCount := by
  unfold endActive
  split <;> simp
@[simp] theorem keeps_dropArmed (cause : DropCause) (s : State) : let t := dropArmed cause s
    t.sli.passage = s.sli.passage ∧ t.sli.silence = s.sli.silence ∧ t.sli.silentMark = s.sli.silentMark ∧
    t.ylc = s.ylc ∧ t.frt = s.frt ∧ t.sbu = s.sbu ∧ t.rdu = s.rdu ∧ t.ale = s.ale ∧ t.rsu.slots = s.rsu.slots ∧
    t.rsu.upCap = s.rsu.upCap ∧ t.rsu.downCap = s.rsu.downCap ∧ t.rsu.slot = s.rsu.slot ∧
    t.rsu.highId = s.rsu.highId ∧ t.rsu.lastReply = s.rsu.lastReply ∧ t.rsu.active = s.rsu.active ∧
    t.stp = s.stp ∧ t.tsm.store = s.tsm.store ∧ t.tsm.active = s.tsm.active ∧ t.tsm.settings = s.tsm.settings ∧
    t.tsm.code = s.tsm.code ∧ t.tsm.staged = s.tsm.staged ∧ t.tsm.staging = s.tsm.staging ∧
    t.tsm.write = s.tsm.write ∧ t.tsm.waiting = s.tsm.waiting ∧ t.tsm.op = s.tsm.op ∧
    t.tsm.silenceStanding = s.tsm.silenceStanding ∧ t.tsm.restartPending = s.tsm.restartPending ∧
    t.freeCount = s.freeCount := by
  unfold dropArmed
  split <;> simp
@[simp] theorem keeps_abandonDispatches (cause : DropCause) (s : State) : let t := abandonDispatches cause s
    t.sli.passage = s.sli.passage ∧ t.sli.silence = s.sli.silence ∧ t.sli.silentMark = s.sli.silentMark ∧
    t.ylc = s.ylc ∧ t.frt = s.frt ∧ t.sbu = s.sbu ∧ t.rdu = s.rdu ∧ t.ale.pass = s.ale.pass ∧
    t.ale.timer = s.ale.timer ∧ t.ale.snap = s.ale.snap ∧ t.ale.tiers = s.ale.tiers ∧ t.ale.ring = s.ale.ring ∧
    t.ale.turn = s.ale.turn ∧ t.ale.overLimit = s.ale.overLimit ∧ t.rsu.slots = s.rsu.slots ∧
    t.rsu.upCap = s.rsu.upCap ∧ t.rsu.downCap = s.rsu.downCap ∧ t.rsu.slot = s.rsu.slot ∧
    t.rsu.highId = s.rsu.highId ∧ t.rsu.lastReply = s.rsu.lastReply ∧ t.stp = s.stp ∧ t.tsm.store = s.tsm.store ∧
    t.tsm.active = s.tsm.active ∧ t.tsm.settings = s.tsm.settings ∧ t.tsm.code = s.tsm.code ∧
    t.tsm.staged = s.tsm.staged ∧ t.tsm.staging = s.tsm.staging ∧ t.tsm.write = s.tsm.write ∧
    t.tsm.waiting = s.tsm.waiting ∧ t.tsm.op = s.tsm.op ∧ t.tsm.silenceStanding = s.tsm.silenceStanding ∧
    t.tsm.restartPending = s.tsm.restartPending ∧ t.freeCount = s.freeCount := by
  unfold abandonDispatches
  split <;> simp
@[simp] theorem keeps_startDispatch (d : Dispatch) (s : State) : let t := startDispatch d s
    t.sli.passage = s.sli.passage ∧ t.sli.silence = s.sli.silence ∧ t.sli.silentMark = s.sli.silentMark ∧
    t.ylc = s.ylc ∧ t.frt = s.frt ∧ t.sbu = s.sbu ∧ t.rdu = s.rdu ∧ t.ale.pass = s.ale.pass ∧
    t.ale.timer = s.ale.timer ∧ t.ale.snap = s.ale.snap ∧ t.ale.tiers = s.ale.tiers ∧ t.ale.ring = s.ale.ring ∧
    t.ale.turn = s.ale.turn ∧ t.ale.overLimit = s.ale.overLimit ∧ t.rsu.slots = s.rsu.slots ∧
    t.rsu.upCap = s.rsu.upCap ∧ t.rsu.downCap = s.rsu.downCap ∧ t.rsu.slot = s.rsu.slot ∧
    t.rsu.highId = s.rsu.highId ∧ t.rsu.lastReply = s.rsu.lastReply ∧ t.stp = s.stp ∧ t.tsm.store = s.tsm.store ∧
    t.tsm.active = s.tsm.active ∧ t.tsm.settings = s.tsm.settings ∧ t.tsm.code = s.tsm.code ∧
    t.tsm.staged = s.tsm.staged ∧ t.tsm.staging = s.tsm.staging ∧ t.tsm.write = s.tsm.write ∧
    t.tsm.waiting = s.tsm.waiting ∧ t.tsm.op = s.tsm.op ∧ t.tsm.silenceStanding = s.tsm.silenceStanding ∧
    t.tsm.restartPending = s.tsm.restartPending ∧ t.freeCount = s.freeCount := by
  simp [startDispatch]
@[simp] theorem keeps_placeDispatch (d : Dispatch) (s : State) : let t := placeDispatch d s
    t.sli.passage = s.sli.passage ∧ t.sli.silence = s.sli.silence ∧ t.sli.silentMark = s.sli.silentMark ∧
    t.ylc = s.ylc ∧ t.frt = s.frt ∧ t.sbu = s.sbu ∧ t.rdu = s.rdu ∧ t.ale.pass = s.ale.pass ∧
    t.ale.timer = s.ale.timer ∧ t.ale.snap = s.ale.snap ∧ t.ale.tiers = s.ale.tiers ∧ t.ale.ring = s.ale.ring ∧
    t.ale.turn = s.ale.turn ∧ t.ale.overLimit = s.ale.overLimit ∧ t.rsu.slots = s.rsu.slots ∧
    t.rsu.upCap = s.rsu.upCap ∧ t.rsu.downCap = s.rsu.downCap ∧ t.rsu.slot = s.rsu.slot ∧
    t.rsu.highId = s.rsu.highId ∧ t.rsu.lastReply = s.rsu.lastReply ∧ t.stp = s.stp ∧ t.tsm.store = s.tsm.store ∧
    t.tsm.active = s.tsm.active ∧ t.tsm.settings = s.tsm.settings ∧ t.tsm.code = s.tsm.code ∧
    t.tsm.staged = s.tsm.staged ∧ t.tsm.staging = s.tsm.staging ∧ t.tsm.write = s.tsm.write ∧
    t.tsm.waiting = s.tsm.waiting ∧ t.tsm.op = s.tsm.op ∧ t.tsm.silenceStanding = s.tsm.silenceStanding ∧
    t.tsm.restartPending = s.tsm.restartPending ∧ t.freeCount = s.freeCount := by
  unfold placeDispatch
  split <;> simp
@[simp] theorem keeps_startArmed (s : State) : let t := startArmed s
    t.sli.passage = s.sli.passage ∧ t.sli.silence = s.sli.silence ∧ t.sli.silentMark = s.sli.silentMark ∧
    t.ylc = s.ylc ∧ t.frt = s.frt ∧ t.sbu = s.sbu ∧ t.rdu = s.rdu ∧ t.ale.pass = s.ale.pass ∧
    t.ale.timer = s.ale.timer ∧ t.ale.snap = s.ale.snap ∧ t.ale.tiers = s.ale.tiers ∧ t.ale.ring = s.ale.ring ∧
    t.ale.turn = s.ale.turn ∧ t.ale.overLimit = s.ale.overLimit ∧ t.rsu.slots = s.rsu.slots ∧
    t.rsu.upCap = s.rsu.upCap ∧ t.rsu.downCap = s.rsu.downCap ∧ t.rsu.slot = s.rsu.slot ∧
    t.rsu.highId = s.rsu.highId ∧ t.rsu.lastReply = s.rsu.lastReply ∧ t.stp = s.stp ∧ t.tsm.store = s.tsm.store ∧
    t.tsm.active = s.tsm.active ∧ t.tsm.settings = s.tsm.settings ∧ t.tsm.code = s.tsm.code ∧
    t.tsm.staged = s.tsm.staged ∧ t.tsm.staging = s.tsm.staging ∧ t.tsm.write = s.tsm.write ∧
    t.tsm.waiting = s.tsm.waiting ∧ t.tsm.op = s.tsm.op ∧ t.tsm.silenceStanding = s.tsm.silenceStanding ∧
    t.tsm.restartPending = s.tsm.restartPending ∧ t.freeCount = s.freeCount := by
  unfold startArmed
  split <;> simp
@[simp] theorem keeps_raiseHighId (id : Nat) (s : State) : let t := raiseHighId id s
    t.sli = s.sli ∧ t.ylc = s.ylc ∧ t.frt = s.frt ∧ t.sbu = s.sbu ∧ t.rdu = s.rdu ∧ t.ale = s.ale ∧
    t.rsu.slots = s.rsu.slots ∧ t.rsu.upCap = s.rsu.upCap ∧ t.rsu.downCap = s.rsu.downCap ∧
    t.rsu.slot = s.rsu.slot ∧ t.rsu.lastReply = s.rsu.lastReply ∧ t.rsu.active = s.rsu.active ∧
    t.rsu.armed = s.rsu.armed ∧ t.stp = s.stp ∧ t.tsm = s.tsm ∧ t.freeCount = s.freeCount := by
  simp [raiseHighId]
@[simp] theorem keeps_drainForPass (s : State) : let t := drainForPass s
    t.sli.passage = s.sli.passage ∧ t.sli.silence = s.sli.silence ∧ t.sli.silentMark = s.sli.silentMark ∧
    t.ylc.cabinets = s.ylc.cabinets ∧ t.ylc.roundTimer = s.ylc.roundTimer ∧ t.ylc.roundDue = s.ylc.roundDue ∧
    t.ylc.roundWanted = s.ylc.roundWanted ∧ t.ylc.round = s.ylc.round ∧ t.ylc.link = s.ylc.link ∧
    t.ylc.poolClaim = s.ylc.poolClaim ∧ t.ylc.fwdClaim = s.ylc.fwdClaim ∧ t.ylc.fwdQ = s.ylc.fwdQ ∧
    t.ylc.curtailReq = s.ylc.curtailReq ∧ t.frt.tagMap = s.frt.tagMap ∧ t.sbu = s.sbu ∧
    t.rdu.clock = s.rdu.clock ∧ t.ale.pass = s.ale.pass ∧ t.ale.pending = s.ale.pending ∧
    t.ale.timer = s.ale.timer ∧ t.ale.snap = s.ale.snap ∧ t.ale.turn = s.ale.turn ∧
    t.ale.overLimit = s.ale.overLimit ∧ t.rsu = s.rsu ∧ t.stp = s.stp ∧ t.tsm.store = s.tsm.store ∧
    t.tsm.active = s.tsm.active ∧ t.tsm.settings = s.tsm.settings ∧ t.tsm.code = s.tsm.code ∧
    t.tsm.staged = s.tsm.staged ∧ t.tsm.staging = s.tsm.staging ∧ t.tsm.write = s.tsm.write ∧
    t.tsm.waiting = s.tsm.waiting ∧ t.tsm.op = s.tsm.op ∧ t.tsm.silenceStanding = s.tsm.silenceStanding ∧
    t.tsm.restartPending = s.tsm.restartPending ∧ t.freeCount = s.freeCount := by
  simp [drainForPass]
@[simp] theorem keeps_beginPass (s : State) : let t := beginPass s
    t.sli.passage = s.sli.passage ∧ t.sli.silence = s.sli.silence ∧ t.sli.silentMark = s.sli.silentMark ∧
    t.ylc.cabinets = s.ylc.cabinets ∧ t.ylc.roundTimer = s.ylc.roundTimer ∧ t.ylc.roundDue = s.ylc.roundDue ∧
    t.ylc.roundWanted = s.ylc.roundWanted ∧ t.ylc.round = s.ylc.round ∧ t.ylc.link = s.ylc.link ∧
    t.ylc.poolClaim = s.ylc.poolClaim ∧ t.ylc.fwdClaim = s.ylc.fwdClaim ∧ t.ylc.fwdQ = s.ylc.fwdQ ∧
    t.ylc.curtailReq = s.ylc.curtailReq ∧ t.frt.tagMap = s.frt.tagMap ∧ t.sbu = s.sbu ∧
    t.rdu.clock = s.rdu.clock ∧ t.ale.pending = s.ale.pending ∧ t.ale.timer = s.ale.timer ∧
    t.ale.turn = s.ale.turn ∧ t.ale.overLimit = s.ale.overLimit ∧ t.rsu = s.rsu ∧ t.stp = s.stp ∧
    t.tsm.store = s.tsm.store ∧ t.tsm.active = s.tsm.active ∧ t.tsm.settings = s.tsm.settings ∧
    t.tsm.code = s.tsm.code ∧ t.tsm.staged = s.tsm.staged ∧ t.tsm.staging = s.tsm.staging ∧
    t.tsm.write = s.tsm.write ∧ t.tsm.waiting = s.tsm.waiting ∧ t.tsm.op = s.tsm.op ∧
    t.tsm.silenceStanding = s.tsm.silenceStanding ∧ t.tsm.restartPending = s.tsm.restartPending ∧
    t.freeCount = s.freeCount := by
  simp [beginPass]
@[simp] theorem keeps_writeGrants (n : Snapshot) (r : AllocResult) (s : State) : let t := writeGrants n r s
    t.sli = s.sli ∧ t.ylc = s.ylc ∧ t.frt.buses = s.frt.buses ∧ t.frt.tagMap = s.frt.tagMap ∧
    t.frt.plugQ = s.frt.plugQ ∧ t.sbu = s.sbu ∧ t.rdu = s.rdu ∧ t.ale = s.ale ∧ t.rsu = s.rsu ∧ t.stp = s.stp ∧
    t.tsm = s.tsm ∧ t.freeCount = s.freeCount := by
  simp [writeGrants]
@[simp] theorem keeps_writeTiers (tierOf : Nat → Tier) (s : State) : let t := writeTiers tierOf s
    t.sli = s.sli ∧ t.ylc = s.ylc ∧ t.frt.tagMap = s.frt.tagMap ∧ t.frt.posts = s.frt.posts ∧
    t.frt.plugQ = s.frt.plugQ ∧ t.sbu = s.sbu ∧ t.rdu = s.rdu ∧ t.ale.pass = s.ale.pass ∧
    t.ale.pending = s.ale.pending ∧ t.ale.timer = s.ale.timer ∧ t.ale.snap = s.ale.snap ∧
    t.ale.ring = s.ale.ring ∧ t.ale.turn = s.ale.turn ∧ t.ale.overLimit = s.ale.overLimit ∧ t.rsu = s.rsu ∧
    t.stp = s.stp ∧ t.tsm = s.tsm ∧ t.freeCount = s.freeCount := by
  simp [writeTiers]
@[simp] theorem keeps_writeRing (old new : Nat → Tier) (n : Snapshot) (r : AllocResult) (s : State) :
    let t := writeRing old new n r s
    t.sli = s.sli ∧ t.ylc = s.ylc ∧ t.frt = s.frt ∧ t.sbu = s.sbu ∧ t.rdu = s.rdu ∧ t.ale.pass = s.ale.pass ∧
    t.ale.pending = s.ale.pending ∧ t.ale.timer = s.ale.timer ∧ t.ale.snap = s.ale.snap ∧
    t.ale.tiers = s.ale.tiers ∧ t.ale.overLimit = s.ale.overLimit ∧ t.rsu = s.rsu ∧ t.stp = s.stp ∧
    t.tsm = s.tsm ∧ t.freeCount = s.freeCount := by
  unfold writeRing
  (repeat' split) <;> simp
@[simp] theorem keeps_writeOverLimit (r : AllocResult) (s : State) : let t := writeOverLimit r s
    t.sli.passage = s.sli.passage ∧ t.sli.silence = s.sli.silence ∧ t.sli.silentMark = s.sli.silentMark ∧
    t.ylc = s.ylc ∧ t.frt = s.frt ∧ t.sbu = s.sbu ∧ t.rdu = s.rdu ∧ t.ale.pass = s.ale.pass ∧
    t.ale.pending = s.ale.pending ∧ t.ale.timer = s.ale.timer ∧ t.ale.snap = s.ale.snap ∧
    t.ale.tiers = s.ale.tiers ∧ t.ale.ring = s.ale.ring ∧ t.ale.turn = s.ale.turn ∧ t.rsu = s.rsu ∧
    t.stp = s.stp ∧ t.tsm.store = s.tsm.store ∧ t.tsm.active = s.tsm.active ∧ t.tsm.settings = s.tsm.settings ∧
    t.tsm.code = s.tsm.code ∧ t.tsm.staged = s.tsm.staged ∧ t.tsm.staging = s.tsm.staging ∧
    t.tsm.write = s.tsm.write ∧ t.tsm.waiting = s.tsm.waiting ∧ t.tsm.op = s.tsm.op ∧
    t.tsm.silenceStanding = s.tsm.silenceStanding ∧ t.tsm.restartPending = s.tsm.restartPending ∧
    t.freeCount = s.freeCount := by
  unfold writeOverLimit
  (repeat' split) <;> simp
@[simp] theorem keeps_completeWrites (n : Snapshot) (s : State) : let t := completeWrites n s
    t.sli.passage = s.sli.passage ∧ t.sli.silence = s.sli.silence ∧ t.sli.silentMark = s.sli.silentMark ∧
    t.ylc = s.ylc ∧ t.frt.tagMap = s.frt.tagMap ∧ t.frt.plugQ = s.frt.plugQ ∧ t.sbu = s.sbu ∧
    t.rdu.clock = s.rdu.clock ∧ t.rdu.list = s.rdu.list ∧ t.ale.pass = s.ale.pass ∧
    t.ale.pending = s.ale.pending ∧ t.ale.timer = s.ale.timer ∧ t.ale.snap = s.ale.snap ∧
    t.rsu.slots = s.rsu.slots ∧ t.rsu.slot = s.rsu.slot ∧ t.rsu.highId = s.rsu.highId ∧
    t.rsu.lastReply = s.rsu.lastReply ∧ t.rsu.armed = s.rsu.armed ∧ t.stp.season = s.stp.season ∧
    t.tsm.store = s.tsm.store ∧ t.tsm.active = s.tsm.active ∧ t.tsm.settings = s.tsm.settings ∧
    t.tsm.code = s.tsm.code ∧ t.tsm.staged = s.tsm.staged ∧ t.tsm.staging = s.tsm.staging ∧
    t.tsm.write = s.tsm.write ∧ t.tsm.waiting = s.tsm.waiting ∧ t.tsm.op = s.tsm.op ∧
    t.tsm.silenceStanding = s.tsm.silenceStanding ∧ t.tsm.restartPending = s.tsm.restartPending ∧
    t.freeCount = s.freeCount := by
  simp [completeWrites]
@[simp] theorem keeps_safePass (s : State) : let t := safePass s
    t.sli.passage = s.sli.passage ∧ t.sli.silence = s.sli.silence ∧ t.sli.silentMark = s.sli.silentMark ∧
    t.ylc.cabinets = s.ylc.cabinets ∧ t.ylc.roundTimer = s.ylc.roundTimer ∧ t.ylc.roundDue = s.ylc.roundDue ∧
    t.ylc.roundWanted = s.ylc.roundWanted ∧ t.ylc.round = s.ylc.round ∧ t.ylc.link = s.ylc.link ∧
    t.ylc.poolClaim = s.ylc.poolClaim ∧ t.ylc.fwdClaim = s.ylc.fwdClaim ∧ t.ylc.fwdQ = s.ylc.fwdQ ∧
    t.ylc.curtailReq = s.ylc.curtailReq ∧ t.frt.tagMap = s.frt.tagMap ∧ t.sbu = s.sbu ∧
    t.rdu.clock = s.rdu.clock ∧ t.ale.pass = s.ale.pass ∧ t.ale.pending = s.ale.pending ∧
    t.ale.timer = s.ale.timer ∧ t.ale.snap = s.ale.snap ∧ t.rsu.slots = s.rsu.slots ∧ t.rsu.slot = s.rsu.slot ∧
    t.rsu.highId = s.rsu.highId ∧ t.rsu.lastReply = s.rsu.lastReply ∧ t.rsu.armed = s.rsu.armed ∧
    t.stp.season = s.stp.season ∧ t.tsm.store = s.tsm.store ∧ t.tsm.active = s.tsm.active ∧
    t.tsm.settings = s.tsm.settings ∧ t.tsm.code = s.tsm.code ∧ t.tsm.staged = s.tsm.staged ∧
    t.tsm.staging = s.tsm.staging ∧ t.tsm.write = s.tsm.write ∧ t.tsm.waiting = s.tsm.waiting ∧
    t.tsm.op = s.tsm.op ∧ t.tsm.silenceStanding = s.tsm.silenceStanding ∧
    t.tsm.restartPending = s.tsm.restartPending ∧ t.freeCount = s.freeCount := by
  simp [safePass]
@[simp] theorem keeps_startPass (s : State) : let t := startPass s
    t.sli.passage = s.sli.passage ∧ t.sli.silence = s.sli.silence ∧ t.sli.silentMark = s.sli.silentMark ∧
    t.ylc.cabinets = s.ylc.cabinets ∧ t.ylc.roundTimer = s.ylc.roundTimer ∧ t.ylc.roundDue = s.ylc.roundDue ∧
    t.ylc.roundWanted = s.ylc.roundWanted ∧ t.ylc.round = s.ylc.round ∧ t.ylc.link = s.ylc.link ∧
    t.ylc.poolClaim = s.ylc.poolClaim ∧ t.ylc.fwdClaim = s.ylc.fwdClaim ∧ t.ylc.fwdQ = s.ylc.fwdQ ∧
    t.ylc.curtailReq = s.ylc.curtailReq ∧ t.frt.tagMap = s.frt.tagMap ∧ t.sbu = s.sbu ∧
    t.rdu.clock = s.rdu.clock ∧ t.ale.pending = s.ale.pending ∧ t.ale.timer = s.ale.timer ∧
    t.rsu.slots = s.rsu.slots ∧ t.rsu.slot = s.rsu.slot ∧ t.rsu.highId = s.rsu.highId ∧
    t.rsu.lastReply = s.rsu.lastReply ∧ t.rsu.armed = s.rsu.armed ∧ t.stp.season = s.stp.season ∧
    t.tsm.store = s.tsm.store ∧ t.tsm.active = s.tsm.active ∧ t.tsm.settings = s.tsm.settings ∧
    t.tsm.code = s.tsm.code ∧ t.tsm.staged = s.tsm.staged ∧ t.tsm.staging = s.tsm.staging ∧
    t.tsm.write = s.tsm.write ∧ t.tsm.waiting = s.tsm.waiting ∧ t.tsm.op = s.tsm.op ∧
    t.tsm.silenceStanding = s.tsm.silenceStanding ∧ t.tsm.restartPending = s.tsm.restartPending ∧
    t.freeCount = s.freeCount := by
  unfold startPass
  split <;> simp
@[simp] theorem keeps_loseBus (p : Nat) (s : State) : let t := loseBus p s
    t.sli = s.sli ∧ t.ylc = s.ylc ∧ t.frt.buses = s.frt.buses ∧ t.frt.tagMap = s.frt.tagMap ∧
    t.frt.plugQ = s.frt.plugQ ∧ t.sbu = s.sbu ∧ t.rdu = s.rdu ∧ t.ale.pass = s.ale.pass ∧
    t.ale.pending = s.ale.pending ∧ t.ale.timer = s.ale.timer ∧ t.ale.snap = s.ale.snap ∧
    t.ale.turn = s.ale.turn ∧ t.ale.overLimit = s.ale.overLimit ∧ t.rsu = s.rsu ∧ t.stp = s.stp ∧ t.tsm = s.tsm ∧
    t.freeCount = s.freeCount := by
  unfold loseBus
  split <;> simp
@[simp] theorem keeps_repost (old : State) (rows : List FleetRow) (p : Nat) (s : State) : let t := repost old rows p s
    t.sli = s.sli ∧ t.ylc = s.ylc ∧ t.frt.buses = s.frt.buses ∧ t.frt.tagMap = s.frt.tagMap ∧
    t.frt.plugQ = s.frt.plugQ ∧ t.sbu = s.sbu ∧ t.rdu = s.rdu ∧ t.ale.pass = s.ale.pass ∧
    t.ale.pending = s.ale.pending ∧ t.ale.timer = s.ale.timer ∧ t.ale.snap = s.ale.snap ∧
    t.ale.turn = s.ale.turn ∧ t.ale.overLimit = s.ale.overLimit ∧ t.rsu = s.rsu ∧ t.stp = s.stp ∧ t.tsm = s.tsm ∧
    t.freeCount = s.freeCount := by
  unfold repost
  (repeat' split) <;> simp
@[simp] theorem keeps_activateFleet (content : Option (List Row)) (s : State) : let t := activateFleet content s
    t.sli = s.sli ∧ t.ylc = s.ylc ∧ t.frt.plugQ = s.frt.plugQ ∧ t.sbu = s.sbu ∧ t.rdu.clock = s.rdu.clock ∧
    t.rdu.list = s.rdu.list ∧ t.ale.pass = s.ale.pass ∧ t.ale.pending = s.ale.pending ∧
    t.ale.timer = s.ale.timer ∧ t.ale.snap = s.ale.snap ∧ t.ale.turn = s.ale.turn ∧
    t.ale.overLimit = s.ale.overLimit ∧ t.rsu = s.rsu ∧ t.stp.season = s.stp.season ∧
    t.stp.viewDue = s.stp.viewDue ∧ t.stp.view = s.stp.view ∧ t.tsm = s.tsm ∧ t.freeCount = s.freeCount := by
  simp [activateFleet]
@[simp] theorem keeps_activateRoute (content : Option (List Row)) (s : State) : let t := activateRoute content s
    t.sli.passage = s.sli.passage ∧ t.sli.silence = s.sli.silence ∧ t.sli.silentMark = s.sli.silentMark ∧
    t.ylc = s.ylc ∧ t.frt = s.frt ∧ t.sbu = s.sbu ∧ t.rdu.clock = s.rdu.clock ∧ t.ale = s.ale ∧ t.rsu = s.rsu ∧
    t.stp = s.stp ∧ t.tsm.store = s.tsm.store ∧ t.tsm.active = s.tsm.active ∧ t.tsm.settings = s.tsm.settings ∧
    t.tsm.code = s.tsm.code ∧ t.tsm.staged = s.tsm.staged ∧ t.tsm.staging = s.tsm.staging ∧
    t.tsm.write = s.tsm.write ∧ t.tsm.waiting = s.tsm.waiting ∧ t.tsm.op = s.tsm.op ∧
    t.tsm.silenceStanding = s.tsm.silenceStanding ∧ t.tsm.restartPending = s.tsm.restartPending ∧
    t.freeCount = s.freeCount := by
  simp [activateRoute]
@[simp] theorem keeps_enterAll (c : Nat) (st : PostState) (s : State) : let t := enterAll c st s
    t.sli = s.sli ∧ t.ylc = s.ylc ∧ t.frt.buses = s.frt.buses ∧ t.frt.tagMap = s.frt.tagMap ∧
    t.frt.plugQ = s.frt.plugQ ∧ t.sbu = s.sbu ∧ t.rdu = s.rdu ∧ t.ale.pass = s.ale.pass ∧
    t.ale.pending = s.ale.pending ∧ t.ale.timer = s.ale.timer ∧ t.ale.snap = s.ale.snap ∧
    t.ale.turn = s.ale.turn ∧ t.ale.overLimit = s.ale.overLimit ∧ t.rsu = s.rsu ∧ t.stp = s.stp ∧ t.tsm = s.tsm ∧
    t.freeCount = s.freeCount := by
  simp [enterAll]
@[simp] theorem keeps_unlocateAll (c : Nat) (s : State) : let t := unlocateAll c s
    t.sli = s.sli ∧ t.ylc = s.ylc ∧ t.frt.tagMap = s.frt.tagMap ∧ t.frt.plugQ = s.frt.plugQ ∧ t.sbu = s.sbu ∧
    t.rdu = s.rdu ∧ t.ale = s.ale ∧ t.rsu = s.rsu ∧ t.stp = s.stp ∧ t.tsm = s.tsm ∧ t.freeCount = s.freeCount := by
  simp [unlocateAll]
@[simp] theorem keeps_clearSent (c : Nat) (s : State) : let t := clearSent c s
    t.sli = s.sli ∧ t.ylc = s.ylc ∧ t.frt.buses = s.frt.buses ∧ t.frt.tagMap = s.frt.tagMap ∧
    t.frt.plugQ = s.frt.plugQ ∧ t.sbu = s.sbu ∧ t.rdu = s.rdu ∧ t.ale = s.ale ∧ t.rsu = s.rsu ∧ t.stp = s.stp ∧
    t.tsm = s.tsm ∧ t.freeCount = s.freeCount := by
  simp [clearSent]
@[simp] theorem keeps_abandonVisit (c : Nat) (s : State) : let t := abandonVisit c s
    t.sli = s.sli ∧ t.ylc.cabinets = s.ylc.cabinets ∧ t.ylc.roundTimer = s.ylc.roundTimer ∧
    t.ylc.roundDue = s.ylc.roundDue ∧ t.ylc.roundWanted = s.ylc.roundWanted ∧ t.ylc.fwdQ = s.ylc.fwdQ ∧
    t.ylc.curtailReq = s.ylc.curtailReq ∧ t.ylc.refusal = s.ylc.refusal ∧ t.frt = s.frt ∧ t.sbu = s.sbu ∧
    t.rdu = s.rdu ∧ t.ale = s.ale ∧ t.rsu = s.rsu ∧ t.stp = s.stp ∧ t.tsm = s.tsm ∧ t.freeCount = s.freeCount := by
  simp [abandonVisit]
@[simp] theorem keeps_unconfigure (c : Nat) (s : State) : let t := unconfigure c s
    t.sli = s.sli ∧ t.ylc.roundTimer = s.ylc.roundTimer ∧ t.ylc.roundDue = s.ylc.roundDue ∧
    t.ylc.roundWanted = s.ylc.roundWanted ∧ t.ylc.fwdQ = s.ylc.fwdQ ∧ t.ylc.curtailReq = s.ylc.curtailReq ∧
    t.ylc.refusal = s.ylc.refusal ∧ t.frt.tagMap = s.frt.tagMap ∧ t.sbu = s.sbu ∧ t.rdu = s.rdu ∧
    t.ale.pass = s.ale.pass ∧ t.ale.pending = s.ale.pending ∧ t.ale.timer = s.ale.timer ∧
    t.ale.snap = s.ale.snap ∧ t.ale.turn = s.ale.turn ∧ t.ale.overLimit = s.ale.overLimit ∧ t.rsu = s.rsu ∧
    t.stp = s.stp ∧ t.tsm = s.tsm ∧ t.freeCount = s.freeCount := by
  unfold unconfigure
  dsimp only
  split <;> simp
@[simp] theorem keeps_reconfigure (c : Nat) (r : YardRow) (s : State) : let t := reconfigure c r s
    t.sli = s.sli ∧ t.ylc.roundTimer = s.ylc.roundTimer ∧ t.ylc.roundDue = s.ylc.roundDue ∧
    t.ylc.roundWanted = s.ylc.roundWanted ∧ t.ylc.round = s.ylc.round ∧ t.ylc.link = s.ylc.link ∧
    t.ylc.poolClaim = s.ylc.poolClaim ∧ t.ylc.fwdClaim = s.ylc.fwdClaim ∧ t.ylc.fwdQ = s.ylc.fwdQ ∧
    t.ylc.curtailReq = s.ylc.curtailReq ∧ t.ylc.refusal = s.ylc.refusal ∧ t.frt.buses = s.frt.buses ∧
    t.frt.tagMap = s.frt.tagMap ∧ t.frt.plugQ = s.frt.plugQ ∧ t.sbu = s.sbu ∧ t.rdu = s.rdu ∧
    t.ale.pass = s.ale.pass ∧ t.ale.pending = s.ale.pending ∧ t.ale.timer = s.ale.timer ∧
    t.ale.snap = s.ale.snap ∧ t.ale.turn = s.ale.turn ∧ t.ale.overLimit = s.ale.overLimit ∧ t.rsu = s.rsu ∧
    t.stp = s.stp ∧ t.tsm = s.tsm ∧ t.freeCount = s.freeCount := by
  unfold reconfigure
  dsimp only
  (repeat' split) <;> simp
@[simp] theorem keeps_rejoin (c : Nat) (r : YardRow) (s : State) : let t := rejoin c r s
    t.sli = s.sli ∧ t.ylc.roundTimer = s.ylc.roundTimer ∧ t.ylc.roundDue = s.ylc.roundDue ∧
    t.ylc.roundWanted = s.ylc.roundWanted ∧ t.ylc.round = s.ylc.round ∧ t.ylc.link = s.ylc.link ∧
    t.ylc.poolClaim = s.ylc.poolClaim ∧ t.ylc.fwdClaim = s.ylc.fwdClaim ∧ t.ylc.fwdQ = s.ylc.fwdQ ∧
    t.ylc.curtailReq = s.ylc.curtailReq ∧ t.ylc.refusal = s.ylc.refusal ∧ t.frt.buses = s.frt.buses ∧
    t.frt.tagMap = s.frt.tagMap ∧ t.frt.plugQ = s.frt.plugQ ∧ t.sbu = s.sbu ∧ t.rdu = s.rdu ∧
    t.ale.pass = s.ale.pass ∧ t.ale.pending = s.ale.pending ∧ t.ale.timer = s.ale.timer ∧
    t.ale.snap = s.ale.snap ∧ t.ale.turn = s.ale.turn ∧ t.ale.overLimit = s.ale.overLimit ∧ t.rsu = s.rsu ∧
    t.stp = s.stp ∧ t.tsm = s.tsm ∧ t.freeCount = s.freeCount := by
  simp [rejoin]
@[simp] theorem keeps_configure (c : Nat) (r : YardRow) (s : State) : let t := configure c r s
    t.sli = s.sli ∧ t.ylc.roundTimer = s.ylc.roundTimer ∧ t.ylc.roundDue = s.ylc.roundDue ∧
    t.ylc.roundWanted = s.ylc.roundWanted ∧ t.ylc.round = s.ylc.round ∧ t.ylc.link = s.ylc.link ∧
    t.ylc.poolClaim = s.ylc.poolClaim ∧ t.ylc.fwdClaim = s.ylc.fwdClaim ∧ t.ylc.fwdQ = s.ylc.fwdQ ∧
    t.ylc.curtailReq = s.ylc.curtailReq ∧ t.ylc.refusal = s.ylc.refusal ∧ t.frt.buses = s.frt.buses ∧
    t.frt.tagMap = s.frt.tagMap ∧ t.frt.plugQ = s.frt.plugQ ∧ t.sbu = s.sbu ∧ t.rdu = s.rdu ∧
    t.ale.pass = s.ale.pass ∧ t.ale.pending = s.ale.pending ∧ t.ale.timer = s.ale.timer ∧
    t.ale.snap = s.ale.snap ∧ t.ale.turn = s.ale.turn ∧ t.ale.overLimit = s.ale.overLimit ∧ t.rsu = s.rsu ∧
    t.stp = s.stp ∧ t.tsm = s.tsm ∧ t.freeCount = s.freeCount := by
  simp [configure]
@[simp] theorem keeps_activateStation (rows : List YardRow) (c : Nat) (s : State) : let t := activateStation rows c s
    t.sli = s.sli ∧ t.ylc.roundTimer = s.ylc.roundTimer ∧ t.ylc.roundDue = s.ylc.roundDue ∧
    t.ylc.roundWanted = s.ylc.roundWanted ∧ t.ylc.fwdQ = s.ylc.fwdQ ∧ t.ylc.curtailReq = s.ylc.curtailReq ∧
    t.ylc.refusal = s.ylc.refusal ∧ t.frt.tagMap = s.frt.tagMap ∧ t.sbu = s.sbu ∧ t.rdu = s.rdu ∧
    t.ale.pass = s.ale.pass ∧ t.ale.pending = s.ale.pending ∧ t.ale.timer = s.ale.timer ∧
    t.ale.snap = s.ale.snap ∧ t.ale.turn = s.ale.turn ∧ t.ale.overLimit = s.ale.overLimit ∧ t.rsu = s.rsu ∧
    t.stp = s.stp ∧ t.tsm = s.tsm ∧ t.freeCount = s.freeCount := by
  unfold activateStation
  split <;> simp
@[simp] theorem keeps_enterIsland (s : State) : let t := enterIsland s
    t.sli.passage = s.sli.passage ∧ t.sli.silence = s.sli.silence ∧ t.sli.silentMark = s.sli.silentMark ∧
    t.ylc = s.ylc ∧ t.frt = s.frt ∧ t.sbu.age = s.sbu.age ∧ t.sbu.ambient = s.sbu.ambient ∧
    t.sbu.tariff = s.sbu.tariff ∧ t.rdu = s.rdu ∧ t.ale.pass = s.ale.pass ∧ t.ale.timer = s.ale.timer ∧
    t.ale.snap = s.ale.snap ∧ t.ale.tiers = s.ale.tiers ∧ t.ale.ring = s.ale.ring ∧ t.ale.turn = s.ale.turn ∧
    t.ale.overLimit = s.ale.overLimit ∧ t.rsu.slots = s.rsu.slots ∧ t.rsu.upCap = s.rsu.upCap ∧
    t.rsu.downCap = s.rsu.downCap ∧ t.rsu.slot = s.rsu.slot ∧ t.rsu.highId = s.rsu.highId ∧
    t.rsu.lastReply = s.rsu.lastReply ∧ t.stp = s.stp ∧ t.tsm.store = s.tsm.store ∧ t.tsm.active = s.tsm.active ∧
    t.tsm.settings = s.tsm.settings ∧ t.tsm.code = s.tsm.code ∧ t.tsm.staged = s.tsm.staged ∧
    t.tsm.staging = s.tsm.staging ∧ t.tsm.write = s.tsm.write ∧ t.tsm.waiting = s.tsm.waiting ∧
    t.tsm.silenceStanding = s.tsm.silenceStanding ∧ t.tsm.restartPending = s.tsm.restartPending ∧
    t.freeCount = s.freeCount := by
  unfold enterIsland
  dsimp only
  split <;> simp
@[simp] theorem keeps_enterSafe (s : State) : let t := enterSafe s
    t.sli.passage = s.sli.passage ∧ t.sli.silence = s.sli.silence ∧ t.sli.silentMark = s.sli.silentMark ∧
    t.ylc.cabinets = s.ylc.cabinets ∧ t.ylc.roundTimer = s.ylc.roundTimer ∧ t.ylc.roundDue = s.ylc.roundDue ∧
    t.ylc.roundWanted = s.ylc.roundWanted ∧ t.ylc.round = s.ylc.round ∧ t.ylc.link = s.ylc.link ∧
    t.ylc.poolClaim = s.ylc.poolClaim ∧ t.ylc.fwdClaim = s.ylc.fwdClaim ∧ t.ylc.fwdQ = s.ylc.fwdQ ∧
    t.ylc.refusal = s.ylc.refusal ∧ t.frt = s.frt ∧ t.sbu = s.sbu ∧ t.rdu = s.rdu ∧ t.ale.pass = s.ale.pass ∧
    t.ale.timer = s.ale.timer ∧ t.ale.snap = s.ale.snap ∧ t.ale.tiers = s.ale.tiers ∧ t.ale.ring = s.ale.ring ∧
    t.ale.turn = s.ale.turn ∧ t.ale.overLimit = s.ale.overLimit ∧ t.rsu.slots = s.rsu.slots ∧
    t.rsu.upCap = s.rsu.upCap ∧ t.rsu.downCap = s.rsu.downCap ∧ t.rsu.slot = s.rsu.slot ∧
    t.rsu.highId = s.rsu.highId ∧ t.rsu.lastReply = s.rsu.lastReply ∧ t.stp = s.stp ∧ t.tsm.store = s.tsm.store ∧
    t.tsm.active = s.tsm.active ∧ t.tsm.settings = s.tsm.settings ∧ t.tsm.code = s.tsm.code ∧
    t.tsm.staged = s.tsm.staged ∧ t.tsm.staging = s.tsm.staging ∧ t.tsm.write = s.tsm.write ∧
    t.tsm.waiting = s.tsm.waiting ∧ t.tsm.silenceStanding = s.tsm.silenceStanding ∧
    t.tsm.restartPending = s.tsm.restartPending ∧ t.freeCount = s.freeCount := by
  simp [enterSafe]
@[simp] theorem keeps_yardArrived (s : State) : let t := yardArrived s
    t.sli.passage = s.sli.passage ∧ t.sli.silence = s.sli.silence ∧ t.sli.silentMark = s.sli.silentMark ∧
    t.ylc = s.ylc ∧ t.frt = s.frt ∧ t.sbu.age = s.sbu.age ∧ t.sbu.ambient = s.sbu.ambient ∧
    t.sbu.tariff = s.sbu.tariff ∧ t.rdu = s.rdu ∧ t.ale.pass = s.ale.pass ∧ t.ale.timer = s.ale.timer ∧
    t.ale.snap = s.ale.snap ∧ t.ale.tiers = s.ale.tiers ∧ t.ale.ring = s.ale.ring ∧ t.ale.turn = s.ale.turn ∧
    t.ale.overLimit = s.ale.overLimit ∧ t.rsu.slots = s.rsu.slots ∧ t.rsu.upCap = s.rsu.upCap ∧
    t.rsu.downCap = s.rsu.downCap ∧ t.rsu.slot = s.rsu.slot ∧ t.rsu.highId = s.rsu.highId ∧
    t.rsu.lastReply = s.rsu.lastReply ∧ t.stp = s.stp ∧ t.tsm.store = s.tsm.store ∧ t.tsm.active = s.tsm.active ∧
    t.tsm.settings = s.tsm.settings ∧ t.tsm.code = s.tsm.code ∧ t.tsm.staged = s.tsm.staged ∧
    t.tsm.staging = s.tsm.staging ∧ t.tsm.write = s.tsm.write ∧ t.tsm.waiting = s.tsm.waiting ∧
    t.tsm.silenceStanding = s.tsm.silenceStanding ∧ t.tsm.restartPending = s.tsm.restartPending ∧
    t.freeCount = s.freeCount := by
  unfold yardArrived
  (repeat' split) <;> simp
@[simp] theorem keeps_yardLeft (s : State) : let t := yardLeft s
    t.sli.passage = s.sli.passage ∧ t.sli.silence = s.sli.silence ∧ t.sli.silentMark = s.sli.silentMark ∧
    t.ylc.cabinets = s.ylc.cabinets ∧ t.ylc.roundTimer = s.ylc.roundTimer ∧ t.ylc.roundDue = s.ylc.roundDue ∧
    t.ylc.roundWanted = s.ylc.roundWanted ∧ t.ylc.round = s.ylc.round ∧ t.ylc.link = s.ylc.link ∧
    t.ylc.poolClaim = s.ylc.poolClaim ∧ t.ylc.fwdClaim = s.ylc.fwdClaim ∧ t.ylc.fwdQ = s.ylc.fwdQ ∧
    t.ylc.refusal = s.ylc.refusal ∧ t.frt = s.frt ∧ t.sbu = s.sbu ∧ t.rdu = s.rdu ∧ t.ale.pass = s.ale.pass ∧
    t.ale.timer = s.ale.timer ∧ t.ale.snap = s.ale.snap ∧ t.ale.tiers = s.ale.tiers ∧ t.ale.ring = s.ale.ring ∧
    t.ale.turn = s.ale.turn ∧ t.ale.overLimit = s.ale.overLimit ∧ t.rsu.slots = s.rsu.slots ∧
    t.rsu.upCap = s.rsu.upCap ∧ t.rsu.downCap = s.rsu.downCap ∧ t.rsu.slot = s.rsu.slot ∧
    t.rsu.highId = s.rsu.highId ∧ t.rsu.lastReply = s.rsu.lastReply ∧ t.stp = s.stp ∧ t.tsm.store = s.tsm.store ∧
    t.tsm.active = s.tsm.active ∧ t.tsm.settings = s.tsm.settings ∧ t.tsm.code = s.tsm.code ∧
    t.tsm.staged = s.tsm.staged ∧ t.tsm.staging = s.tsm.staging ∧ t.tsm.write = s.tsm.write ∧
    t.tsm.waiting = s.tsm.waiting ∧ t.tsm.silenceStanding = s.tsm.silenceStanding ∧
    t.tsm.restartPending = s.tsm.restartPending ∧ t.freeCount = s.freeCount := by
  unfold yardLeft
  split <;> simp
@[simp] theorem keeps_roundOver (s : State) : let t := roundOver s
    t.sli = s.sli ∧ t.ylc.framer = s.ylc.framer ∧ t.ylc.cabinets = s.ylc.cabinets ∧
    t.ylc.roundTimer = s.ylc.roundTimer ∧ t.ylc.roundDue = s.ylc.roundDue ∧
    t.ylc.roundWanted = s.ylc.roundWanted ∧ t.ylc.link = s.ylc.link ∧ t.ylc.poolClaim = s.ylc.poolClaim ∧
    t.ylc.fwdClaim = s.ylc.fwdClaim ∧ t.ylc.fwdQ = s.ylc.fwdQ ∧ t.ylc.curtailReq = s.ylc.curtailReq ∧
    t.ylc.refusal = s.ylc.refusal ∧ t.frt = s.frt ∧ t.sbu = s.sbu ∧ t.rdu = s.rdu ∧ t.ale.pass = s.ale.pass ∧
    t.ale.pending = s.ale.pending ∧ t.ale.snap = s.ale.snap ∧ t.ale.tiers = s.ale.tiers ∧
    t.ale.ring = s.ale.ring ∧ t.ale.turn = s.ale.turn ∧ t.ale.overLimit = s.ale.overLimit ∧ t.rsu = s.rsu ∧
    t.stp = s.stp ∧ t.tsm = s.tsm ∧ t.freeCount = s.freeCount := by
  simp [roundOver]
@[simp] theorem keeps_applyRoundDue (s : State) : let t := applyRoundDue s
    t.sli = s.sli ∧ t.ylc.framer = s.ylc.framer ∧ t.ylc.cabinets = s.ylc.cabinets ∧
    t.ylc.roundTimer = s.ylc.roundTimer ∧ t.ylc.round = s.ylc.round ∧ t.ylc.link = s.ylc.link ∧
    t.ylc.poolClaim = s.ylc.poolClaim ∧ t.ylc.fwdClaim = s.ylc.fwdClaim ∧ t.ylc.fwdQ = s.ylc.fwdQ ∧
    t.ylc.curtailReq = s.ylc.curtailReq ∧ t.ylc.refusal = s.ylc.refusal ∧ t.frt = s.frt ∧ t.sbu = s.sbu ∧
    t.rdu = s.rdu ∧ t.ale = s.ale ∧ t.rsu = s.rsu ∧ t.stp = s.stp ∧ t.tsm = s.tsm ∧
    t.freeCount = s.freeCount := by
  unfold applyRoundDue
  split <;> simp
@[simp] theorem keeps_closeRound (s : State) : let t := closeRound s
    t.sli = s.sli ∧ t.ylc.framer = s.ylc.framer ∧ t.ylc.cabinets = s.ylc.cabinets ∧
    t.ylc.roundTimer = s.ylc.roundTimer ∧ t.ylc.link = s.ylc.link ∧ t.ylc.poolClaim = s.ylc.poolClaim ∧
    t.ylc.fwdClaim = s.ylc.fwdClaim ∧ t.ylc.fwdQ = s.ylc.fwdQ ∧ t.ylc.curtailReq = s.ylc.curtailReq ∧
    t.ylc.refusal = s.ylc.refusal ∧ t.frt = s.frt ∧ t.sbu = s.sbu ∧ t.rdu = s.rdu ∧ t.ale.pass = s.ale.pass ∧
    t.ale.snap = s.ale.snap ∧ t.ale.tiers = s.ale.tiers ∧ t.ale.ring = s.ale.ring ∧ t.ale.turn = s.ale.turn ∧
    t.ale.overLimit = s.ale.overLimit ∧ t.rsu.slots = s.rsu.slots ∧ t.rsu.upCap = s.rsu.upCap ∧
    t.rsu.downCap = s.rsu.downCap ∧ t.rsu.slot = s.rsu.slot ∧ t.rsu.highId = s.rsu.highId ∧
    t.rsu.lastReply = s.rsu.lastReply ∧
    t.rsu.armed = s.rsu.armed ∧ t.stp = s.stp ∧ t.tsm = s.tsm ∧ t.freeCount = s.freeCount := by
  unfold closeRound
  (repeat' split) <;> simp
@[simp] theorem keeps_activateYard (content : Option (List Row)) (s : State) : let t := activateYard content s
    t.sli.passage = s.sli.passage ∧ t.sli.silence = s.sli.silence ∧ t.sli.silentMark = s.sli.silentMark ∧
    t.ylc.roundTimer = s.ylc.roundTimer ∧ t.ylc.fwdQ = s.ylc.fwdQ ∧ t.ylc.refusal = s.ylc.refusal ∧
    t.frt.tagMap = s.frt.tagMap ∧ t.sbu.age = s.sbu.age ∧ t.sbu.ambient = s.sbu.ambient ∧
    t.sbu.tariff = s.sbu.tariff ∧ t.rdu = s.rdu ∧ t.ale.pass = s.ale.pass ∧ t.ale.snap = s.ale.snap ∧ t.ale.turn = s.ale.turn ∧ t.ale.overLimit = s.ale.overLimit ∧
    t.rsu.slots = s.rsu.slots ∧ t.rsu.upCap = s.rsu.upCap ∧ t.rsu.downCap = s.rsu.downCap ∧
    t.rsu.slot = s.rsu.slot ∧ t.rsu.highId = s.rsu.highId ∧ t.rsu.lastReply = s.rsu.lastReply ∧ t.stp = s.stp ∧
    t.tsm.store = s.tsm.store ∧ t.tsm.active = s.tsm.active ∧ t.tsm.settings = s.tsm.settings ∧
    t.tsm.code = s.tsm.code ∧ t.tsm.staged = s.tsm.staged ∧ t.tsm.staging = s.tsm.staging ∧
    t.tsm.write = s.tsm.write ∧ t.tsm.waiting = s.tsm.waiting ∧ t.tsm.silenceStanding = s.tsm.silenceStanding ∧
    t.tsm.restartPending = s.tsm.restartPending ∧ t.freeCount = s.freeCount := by
  unfold activateYard
  (repeat' split) <;> simp
@[simp] theorem keeps_activateCommitment (content : Option (List Row)) (s : State) :
    let t := activateCommitment content s
    t.sli = s.sli ∧ t.ylc = s.ylc ∧ t.frt = s.frt ∧ t.sbu = s.sbu ∧ t.rdu = s.rdu ∧ t.ale = s.ale ∧
    t.rsu.upCap = s.rsu.upCap ∧ t.rsu.downCap = s.rsu.downCap ∧ t.rsu.slot = s.rsu.slot ∧
    t.rsu.highId = s.rsu.highId ∧ t.rsu.lastReply = s.rsu.lastReply ∧ t.rsu.active = s.rsu.active ∧
    t.rsu.armed = s.rsu.armed ∧ t.stp = s.stp ∧ t.tsm = s.tsm ∧ t.freeCount = s.freeCount := by
  simp [activateCommitment]
@[simp] theorem keeps_activateTariff (content : Option (List Row)) (s : State) : let t := activateTariff content s
    t.sli = s.sli ∧ t.ylc = s.ylc ∧ t.frt = s.frt ∧ t.sbu.meter = s.sbu.meter ∧ t.sbu.age = s.sbu.age ∧
    t.sbu.imp = s.sbu.imp ∧ t.sbu.building = s.sbu.building ∧ t.sbu.gridCap = s.sbu.gridCap ∧
    t.sbu.ambient = s.sbu.ambient ∧ t.sbu.breach = s.sbu.breach ∧ t.rdu = s.rdu ∧ t.ale.pass = s.ale.pass ∧
    t.ale.timer = s.ale.timer ∧ t.ale.snap = s.ale.snap ∧ t.ale.tiers = s.ale.tiers ∧ t.ale.ring = s.ale.ring ∧
    t.ale.turn = s.ale.turn ∧ t.ale.overLimit = s.ale.overLimit ∧ t.rsu = s.rsu ∧ t.stp = s.stp ∧ t.tsm = s.tsm ∧
    t.freeCount = s.freeCount := by
  simp [activateTariff]
@[simp] theorem keeps_activatePassage (content : Option (List Row)) (s : State) : let t := activatePassage content s
    t.sli.out = s.sli.out ∧ t.sli.tx = s.sli.tx ∧ t.sli.overflow = s.sli.overflow ∧
    t.sli.dropCount = s.sli.dropCount ∧ t.sli.silence = s.sli.silence ∧ t.sli.silentMark = s.sli.silentMark ∧
    t.ylc = s.ylc ∧ t.frt = s.frt ∧ t.sbu = s.sbu ∧ t.rdu = s.rdu ∧ t.ale = s.ale ∧ t.rsu = s.rsu ∧
    t.stp = s.stp ∧ t.tsm = s.tsm ∧ t.freeCount = s.freeCount := by
  simp [activatePassage]
@[simp] theorem keeps_changeSeason (season : Season) (s : State) : let t := changeSeason season s
    t.sli.passage = s.sli.passage ∧ t.sli.silence = s.sli.silence ∧ t.sli.silentMark = s.sli.silentMark ∧
    t.ylc = s.ylc ∧ t.frt = s.frt ∧ t.sbu.meter = s.sbu.meter ∧ t.sbu.age = s.sbu.age ∧ t.sbu.imp = s.sbu.imp ∧
    t.sbu.building = s.sbu.building ∧ t.sbu.gridCap = s.sbu.gridCap ∧ t.sbu.ambient = s.sbu.ambient ∧
    t.sbu.breach = s.sbu.breach ∧ t.rdu.clock = s.rdu.clock ∧ t.ale.pass = s.ale.pass ∧
    t.ale.timer = s.ale.timer ∧ t.ale.snap = s.ale.snap ∧ t.ale.tiers = s.ale.tiers ∧ t.ale.ring = s.ale.ring ∧
    t.ale.turn = s.ale.turn ∧ t.ale.overLimit = s.ale.overLimit ∧ t.rsu = s.rsu ∧ t.stp.table = s.stp.table ∧
    t.stp.view = s.stp.view ∧ t.tsm.store = s.tsm.store ∧ t.tsm.active = s.tsm.active ∧
    t.tsm.settings = s.tsm.settings ∧ t.tsm.code = s.tsm.code ∧ t.tsm.staged = s.tsm.staged ∧
    t.tsm.staging = s.tsm.staging ∧ t.tsm.write = s.tsm.write ∧ t.tsm.waiting = s.tsm.waiting ∧
    t.tsm.op = s.tsm.op ∧ t.tsm.silenceStanding = s.tsm.silenceStanding ∧
    t.tsm.restartPending = s.tsm.restartPending ∧ t.freeCount = s.freeCount := by
  unfold changeSeason
  split <;> simp
@[simp] theorem keeps_activateSettings (content : Option (List Row)) (s : State) : let t := activateSettings content s
    t.sli.passage = s.sli.passage ∧ t.sli.silence = s.sli.silence ∧ t.sli.silentMark = s.sli.silentMark ∧
    t.ylc = s.ylc ∧ t.frt = s.frt ∧ t.sbu.meter = s.sbu.meter ∧ t.sbu.age = s.sbu.age ∧ t.sbu.imp = s.sbu.imp ∧
    t.sbu.building = s.sbu.building ∧ t.sbu.gridCap = s.sbu.gridCap ∧ t.sbu.ambient = s.sbu.ambient ∧
    t.sbu.breach = s.sbu.breach ∧ t.rdu.clock = s.rdu.clock ∧ t.ale.pass = s.ale.pass ∧
    t.ale.timer = s.ale.timer ∧ t.ale.snap = s.ale.snap ∧ t.ale.tiers = s.ale.tiers ∧ t.ale.ring = s.ale.ring ∧
    t.ale.turn = s.ale.turn ∧ t.ale.overLimit = s.ale.overLimit ∧ t.rsu = s.rsu ∧ t.stp.view = s.stp.view ∧
    t.tsm.store = s.tsm.store ∧ t.tsm.active = s.tsm.active ∧ t.tsm.code = s.tsm.code ∧
    t.tsm.staged = s.tsm.staged ∧ t.tsm.staging = s.tsm.staging ∧ t.tsm.write = s.tsm.write ∧
    t.tsm.waiting = s.tsm.waiting ∧ t.tsm.op = s.tsm.op ∧ t.tsm.silenceStanding = s.tsm.silenceStanding ∧
    t.tsm.restartPending = s.tsm.restartPending ∧ t.freeCount = s.freeCount := by
  simp [activateSettings]
@[simp] theorem keeps_handContent (g : Segment) (content : Option (List Row)) (s : State) :
    let t := handContent g content s
    t.sli.silence = s.sli.silence ∧ t.sli.silentMark = s.sli.silentMark ∧ t.ylc.roundTimer = s.ylc.roundTimer ∧
    t.ylc.fwdQ = s.ylc.fwdQ ∧
    t.ylc.refusal = s.ylc.refusal ∧ t.sbu.age = s.sbu.age ∧ t.sbu.ambient = s.sbu.ambient ∧
    t.rdu.clock = s.rdu.clock ∧ t.ale.pass = s.ale.pass ∧ t.ale.snap = s.ale.snap ∧
    t.ale.turn = s.ale.turn ∧ t.ale.overLimit = s.ale.overLimit ∧ t.rsu.upCap = s.rsu.upCap ∧
    t.rsu.downCap = s.rsu.downCap ∧ t.rsu.slot = s.rsu.slot ∧ t.rsu.highId = s.rsu.highId ∧
    t.rsu.lastReply = s.rsu.lastReply ∧ t.stp.view = s.stp.view ∧ t.tsm.store = s.tsm.store ∧
    t.tsm.active = s.tsm.active ∧ t.tsm.code = s.tsm.code ∧ t.tsm.staged = s.tsm.staged ∧
    t.tsm.staging = s.tsm.staging ∧ t.tsm.write = s.tsm.write ∧ t.tsm.waiting = s.tsm.waiting ∧
    t.tsm.silenceStanding = s.tsm.silenceStanding ∧ t.tsm.restartPending = s.tsm.restartPending ∧
    t.freeCount = s.freeCount := by
  unfold handContent
  split <;> simp
@[simp] theorem keeps_applyActivation (a : Activation) (s : State) : let t := applyActivation a s
    t.sli.silence = s.sli.silence ∧ t.sli.silentMark = s.sli.silentMark ∧ t.ylc.roundTimer = s.ylc.roundTimer ∧
    t.ylc.fwdQ = s.ylc.fwdQ ∧
    t.ylc.refusal = s.ylc.refusal ∧ t.sbu.age = s.sbu.age ∧ t.sbu.ambient = s.sbu.ambient ∧
    t.rdu.clock = s.rdu.clock ∧ t.ale.pass = s.ale.pass ∧ t.ale.snap = s.ale.snap ∧
    t.ale.turn = s.ale.turn ∧ t.ale.overLimit = s.ale.overLimit ∧ t.rsu.upCap = s.rsu.upCap ∧
    t.rsu.downCap = s.rsu.downCap ∧ t.rsu.slot = s.rsu.slot ∧ t.rsu.highId = s.rsu.highId ∧
    t.rsu.lastReply = s.rsu.lastReply ∧ t.stp.view = s.stp.view ∧ t.tsm.store = s.tsm.store ∧
    t.tsm.code = s.tsm.code ∧ t.tsm.staged = s.tsm.staged ∧ t.tsm.staging = s.tsm.staging ∧
    t.tsm.write = s.tsm.write ∧ t.tsm.waiting = s.tsm.waiting ∧ t.tsm.silenceStanding = s.tsm.silenceStanding ∧
    t.tsm.restartPending = s.tsm.restartPending ∧ t.freeCount = s.freeCount := by
  simp [applyActivation]
@[simp] theorem keeps_applyWaiting (s : State) : let t := applyWaiting s
    t.sli.silence = s.sli.silence ∧ t.sli.silentMark = s.sli.silentMark ∧ t.ylc.roundTimer = s.ylc.roundTimer ∧
    t.ylc.fwdQ = s.ylc.fwdQ ∧
    t.ylc.refusal = s.ylc.refusal ∧ t.sbu.age = s.sbu.age ∧ t.sbu.ambient = s.sbu.ambient ∧
    t.rdu.clock = s.rdu.clock ∧ t.ale.pass = s.ale.pass ∧ t.ale.snap = s.ale.snap ∧
    t.ale.turn = s.ale.turn ∧ t.ale.overLimit = s.ale.overLimit ∧ t.rsu.upCap = s.rsu.upCap ∧
    t.rsu.downCap = s.rsu.downCap ∧ t.rsu.slot = s.rsu.slot ∧ t.rsu.highId = s.rsu.highId ∧
    t.rsu.lastReply = s.rsu.lastReply ∧ t.stp.view = s.stp.view ∧ t.tsm.store = s.tsm.store ∧
    t.tsm.code = s.tsm.code ∧ t.tsm.staged = s.tsm.staged ∧ t.tsm.staging = s.tsm.staging ∧
    t.tsm.write = s.tsm.write ∧ t.tsm.silenceStanding = s.tsm.silenceStanding ∧
    t.tsm.restartPending = s.tsm.restartPending ∧ t.freeCount = s.freeCount := by
  simp [applyWaiting]
@[simp] theorem keeps_makeReady (a : Activation) (s : State) : let t := makeReady a s
    t.sli = s.sli ∧ t.ylc = s.ylc ∧ t.frt = s.frt ∧ t.sbu = s.sbu ∧ t.rdu = s.rdu ∧ t.ale = s.ale ∧
    t.rsu = s.rsu ∧ t.stp = s.stp ∧ t.tsm.store = s.tsm.store ∧ t.tsm.active = s.tsm.active ∧
    t.tsm.settings = s.tsm.settings ∧ t.tsm.code = s.tsm.code ∧ t.tsm.staged = s.tsm.staged ∧
    t.tsm.staging = s.tsm.staging ∧ t.tsm.write = s.tsm.write ∧ t.tsm.op = s.tsm.op ∧
    t.tsm.silenceStanding = s.tsm.silenceStanding ∧ t.tsm.restartPending = s.tsm.restartPending ∧
    t.freeCount = s.freeCount := by
  simp [makeReady]
@[simp] theorem keeps_runTriggers (s : State) : let t := runTriggers s
    t.sli.silence = s.sli.silence ∧ t.sli.silentMark = s.sli.silentMark ∧ t.ylc.roundTimer = s.ylc.roundTimer ∧
    t.ylc.fwdQ = s.ylc.fwdQ ∧
    t.sbu.age = s.sbu.age ∧ t.sbu.ambient = s.sbu.ambient ∧ t.rdu.clock = s.rdu.clock ∧
    t.rsu.slot = s.rsu.slot ∧ t.rsu.highId = s.rsu.highId ∧
    t.rsu.lastReply = s.rsu.lastReply ∧ t.tsm.store = s.tsm.store ∧ t.tsm.code = s.tsm.code ∧
    t.tsm.staged = s.tsm.staged ∧ t.tsm.staging = s.tsm.staging ∧ t.tsm.write = s.tsm.write ∧
    t.tsm.silenceStanding = s.tsm.silenceStanding ∧ t.tsm.restartPending = s.tsm.restartPending ∧
    t.freeCount = s.freeCount := by
  unfold runTriggers
  dsimp only
  (repeat' split) <;> simp
@[simp] theorem keeps_trigger (s : State) : let t := trigger s
    t.sli.silence = s.sli.silence ∧ t.sli.silentMark = s.sli.silentMark ∧ t.ylc.roundTimer = s.ylc.roundTimer ∧
    t.ylc.fwdQ = s.ylc.fwdQ ∧
    t.sbu.age = s.sbu.age ∧ t.sbu.ambient = s.sbu.ambient ∧ t.rdu.clock = s.rdu.clock ∧
    t.rsu.slot = s.rsu.slot ∧ t.rsu.highId = s.rsu.highId ∧
    t.rsu.lastReply = s.rsu.lastReply ∧ t.tsm.store = s.tsm.store ∧ t.tsm.code = s.tsm.code ∧
    t.tsm.staged = s.tsm.staged ∧ t.tsm.staging = s.tsm.staging ∧ t.tsm.write = s.tsm.write ∧
    t.tsm.silenceStanding = s.tsm.silenceStanding ∧ t.tsm.restartPending = s.tsm.restartPending ∧
    t.freeCount = s.freeCount := by
  simp [trigger]
@[simp] theorem keeps_boundary (s : State) : let t := boundary s
    t.sli.silence = s.sli.silence ∧ t.sli.silentMark = s.sli.silentMark ∧ t.ylc.roundTimer = s.ylc.roundTimer ∧
    t.ylc.fwdQ = s.ylc.fwdQ ∧
    t.sbu.age = s.sbu.age ∧ t.sbu.ambient = s.sbu.ambient ∧ t.rdu.clock = s.rdu.clock ∧
    t.rsu.slot = s.rsu.slot ∧ t.rsu.highId = s.rsu.highId ∧
    t.rsu.lastReply = s.rsu.lastReply ∧ t.tsm.store = s.tsm.store ∧ t.tsm.code = s.tsm.code ∧
    t.tsm.staged = s.tsm.staged ∧ t.tsm.staging = s.tsm.staging ∧ t.tsm.write = s.tsm.write ∧
    t.tsm.silenceStanding = s.tsm.silenceStanding ∧ t.tsm.restartPending = s.tsm.restartPending ∧
    t.freeCount = s.freeCount := by
  simp [boundary]
@[simp] theorem keeps_endPass (s : State) : let t := endPass s
    t.sli = s.sli ∧ t.ylc = s.ylc ∧ t.frt = s.frt ∧ t.sbu = s.sbu ∧ t.rdu = s.rdu ∧
    t.ale.pending = s.ale.pending ∧ t.ale.timer = s.ale.timer ∧ t.ale.tiers = s.ale.tiers ∧
    t.ale.ring = s.ale.ring ∧ t.ale.turn = s.ale.turn ∧ t.ale.overLimit = s.ale.overLimit ∧ t.rsu = s.rsu ∧
    t.stp = s.stp ∧ t.tsm = s.tsm ∧ t.freeCount = s.freeCount := by
  simp [endPass]
@[simp] theorem keeps_handMinute (s : State) : let t := handMinute s
    t.sli.silence = s.sli.silence ∧ t.sli.silentMark = s.sli.silentMark ∧ t.ylc.roundTimer = s.ylc.roundTimer ∧
    t.ylc.fwdQ = s.ylc.fwdQ ∧
    t.sbu.age = s.sbu.age ∧ t.sbu.ambient = s.sbu.ambient ∧ t.rdu.clock = s.rdu.clock ∧
    t.rsu.highId = s.rsu.highId ∧ t.rsu.lastReply = s.rsu.lastReply ∧
    t.tsm.store = s.tsm.store ∧ t.tsm.code = s.tsm.code ∧ t.tsm.staged = s.tsm.staged ∧
    t.tsm.staging = s.tsm.staging ∧ t.tsm.write = s.tsm.write ∧ t.tsm.silenceStanding = s.tsm.silenceStanding ∧
    t.tsm.restartPending = s.tsm.restartPending ∧ t.freeCount = s.freeCount := by
  simp [handMinute]
@[simp] theorem keeps_timesAdvance (n : Nat) (s : State) : let t := timesDo advanceMinute n s
    t.sli.passage = s.sli.passage ∧ t.sli.silence = s.sli.silence ∧ t.sli.silentMark = s.sli.silentMark ∧
    t.ylc = s.ylc ∧ t.frt = s.frt ∧ t.sbu = s.sbu ∧ t.ale = s.ale ∧ t.rsu = s.rsu ∧ t.stp = s.stp ∧
    t.tsm.store = s.tsm.store ∧ t.tsm.active = s.tsm.active ∧ t.tsm.settings = s.tsm.settings ∧
    t.tsm.code = s.tsm.code ∧ t.tsm.staged = s.tsm.staged ∧ t.tsm.staging = s.tsm.staging ∧
    t.tsm.write = s.tsm.write ∧ t.tsm.waiting = s.tsm.waiting ∧ t.tsm.op = s.tsm.op ∧
    t.tsm.silenceStanding = s.tsm.silenceStanding ∧ t.tsm.restartPending = s.tsm.restartPending ∧
    t.freeCount = s.freeCount := by
  induction n generalizing s with
  | zero => simp [timesDo]
  | succ n ih =>
    dsimp only at ih ⊢
    simp [timesDo, ih]
@[simp] theorem keeps_adoptClock (minute weekday second : Nat) (s : State) :
    let t := adoptClock minute weekday second s
    t.sli = s.sli ∧ t.ylc = s.ylc ∧ t.frt = s.frt ∧ t.sbu = s.sbu ∧ t.rdu.legs = s.rdu.legs ∧
    t.rdu.list = s.rdu.list ∧ t.ale = s.ale ∧ t.rsu = s.rsu ∧ t.stp = s.stp ∧ t.tsm = s.tsm ∧
    t.freeCount = s.freeCount := by
  simp [adoptClock]
@[simp] theorem keeps_firstSetting (minute weekday second : Nat) (s : State) :
    let t := firstSetting minute weekday second s
    t.sli.silence = s.sli.silence ∧ t.sli.silentMark = s.sli.silentMark ∧ t.ylc.roundTimer = s.ylc.roundTimer ∧
    t.ylc.fwdQ = s.ylc.fwdQ ∧
    t.sbu.age = s.sbu.age ∧ t.sbu.ambient = s.sbu.ambient ∧ t.rsu.highId = s.rsu.highId ∧ t.rsu.lastReply = s.rsu.lastReply ∧ t.tsm.store = s.tsm.store ∧
    t.tsm.code = s.tsm.code ∧ t.tsm.staged = s.tsm.staged ∧ t.tsm.staging = s.tsm.staging ∧
    t.tsm.write = s.tsm.write ∧ t.tsm.silenceStanding = s.tsm.silenceStanding ∧
    t.tsm.restartPending = s.tsm.restartPending ∧ t.freeCount = s.freeCount := by
  simp [firstSetting]
@[simp] theorem keeps_jump (minute weekday second : Nat) (s : State) : let t := jump minute weekday second s
    t.sli.silence = s.sli.silence ∧ t.sli.silentMark = s.sli.silentMark ∧ t.ylc.roundTimer = s.ylc.roundTimer ∧
    t.ylc.fwdQ = s.ylc.fwdQ ∧
    t.sbu.age = s.sbu.age ∧ t.sbu.ambient = s.sbu.ambient ∧ t.rsu.highId = s.rsu.highId ∧ t.rsu.lastReply = s.rsu.lastReply ∧ t.tsm.store = s.tsm.store ∧
    t.tsm.code = s.tsm.code ∧ t.tsm.staged = s.tsm.staged ∧ t.tsm.staging = s.tsm.staging ∧
    t.tsm.write = s.tsm.write ∧ t.tsm.silenceStanding = s.tsm.silenceStanding ∧
    t.tsm.restartPending = s.tsm.restartPending ∧ t.freeCount = s.freeCount := by
  unfold jump
  dsimp only
  split <;> simp
@[simp] theorem keeps_setSecond (second : Nat) (s : State) : let t := setSecond second s
    t.sli = s.sli ∧ t.ylc = s.ylc ∧ t.frt = s.frt ∧ t.sbu = s.sbu ∧ t.rdu.legs = s.rdu.legs ∧
    t.rdu.list = s.rdu.list ∧ t.ale = s.ale ∧ t.rsu = s.rsu ∧ t.stp = s.stp ∧ t.tsm = s.tsm ∧
    t.freeCount = s.freeCount := by
  simp [setSecond]
@[simp] theorem keeps_slewForward (seconds second : Nat) (s : State) : let t := slewForward seconds second s
    t.sli.silence = s.sli.silence ∧ t.sli.silentMark = s.sli.silentMark ∧ t.ylc.roundTimer = s.ylc.roundTimer ∧
    t.ylc.fwdQ = s.ylc.fwdQ ∧
    t.sbu.age = s.sbu.age ∧ t.sbu.ambient = s.sbu.ambient ∧ t.rsu.highId = s.rsu.highId ∧ t.rsu.lastReply = s.rsu.lastReply ∧ t.tsm.store = s.tsm.store ∧
    t.tsm.code = s.tsm.code ∧ t.tsm.staged = s.tsm.staged ∧ t.tsm.staging = s.tsm.staging ∧
    t.tsm.write = s.tsm.write ∧ t.tsm.silenceStanding = s.tsm.silenceStanding ∧
    t.tsm.restartPending = s.tsm.restartPending ∧ t.freeCount = s.freeCount := by
  unfold slewForward
  dsimp only
  split <;> simp
@[simp] theorem keeps_slewBackward (minute weekday second : Nat) (s : State) :
    let t := slewBackward minute weekday second s
    t.sli.silence = s.sli.silence ∧ t.sli.silentMark = s.sli.silentMark ∧ t.ylc.roundTimer = s.ylc.roundTimer ∧
    t.ylc.fwdQ = s.ylc.fwdQ ∧
    t.sbu.age = s.sbu.age ∧ t.sbu.ambient = s.sbu.ambient ∧ t.rsu.highId = s.rsu.highId ∧ t.rsu.lastReply = s.rsu.lastReply ∧ t.tsm.store = s.tsm.store ∧
    t.tsm.code = s.tsm.code ∧ t.tsm.staged = s.tsm.staged ∧ t.tsm.staging = s.tsm.staging ∧
    t.tsm.write = s.tsm.write ∧ t.tsm.silenceStanding = s.tsm.silenceStanding ∧
    t.tsm.restartPending = s.tsm.restartPending ∧ t.freeCount = s.freeCount := by
  unfold slewBackward
  split <;> simp
@[simp] theorem keeps_judgeTime (minute weekday second : Nat) (s : State) : let t := judgeTime minute weekday second s
    t.sli.silence = s.sli.silence ∧ t.sli.silentMark = s.sli.silentMark ∧ t.ylc.roundTimer = s.ylc.roundTimer ∧
    t.ylc.fwdQ = s.ylc.fwdQ ∧
    t.sbu.age = s.sbu.age ∧ t.sbu.ambient = s.sbu.ambient ∧ t.rsu.highId = s.rsu.highId ∧ t.rsu.lastReply = s.rsu.lastReply ∧ t.tsm.store = s.tsm.store ∧
    t.tsm.code = s.tsm.code ∧ t.tsm.staged = s.tsm.staged ∧ t.tsm.staging = s.tsm.staging ∧
    t.tsm.write = s.tsm.write ∧ t.tsm.silenceStanding = s.tsm.silenceStanding ∧
    t.tsm.restartPending = s.tsm.restartPending ∧ t.freeCount = s.freeCount := by
  unfold judgeTime
  dsimp only
  (repeat' split) <;> simp
@[simp] theorem keeps_takeTime (payload : List Byte) (s : State) : let t := takeTime payload s
    t.sli.silence = s.sli.silence ∧ t.sli.silentMark = s.sli.silentMark ∧ t.ylc.roundTimer = s.ylc.roundTimer ∧
    t.ylc.fwdQ = s.ylc.fwdQ ∧
    t.sbu.age = s.sbu.age ∧ t.sbu.ambient = s.sbu.ambient ∧ t.rsu.highId = s.rsu.highId ∧ t.rsu.lastReply = s.rsu.lastReply ∧ t.tsm.store = s.tsm.store ∧
    t.tsm.code = s.tsm.code ∧ t.tsm.staged = s.tsm.staged ∧ t.tsm.staging = s.tsm.staging ∧
    t.tsm.write = s.tsm.write ∧ t.tsm.silenceStanding = s.tsm.silenceStanding ∧
    t.tsm.restartPending = s.tsm.restartPending ∧ t.freeCount = s.freeCount := by
  unfold takeTime
  (repeat' split) <;> simp
@[simp] theorem keeps_takeLink (l : Link) (s : State) : let t := takeLink l s
    t.sli = s.sli ∧ t.ylc.cabinets = s.ylc.cabinets ∧ t.ylc.roundTimer = s.ylc.roundTimer ∧
    t.ylc.roundDue = s.ylc.roundDue ∧ t.ylc.roundWanted = s.ylc.roundWanted ∧ t.ylc.round = s.ylc.round ∧
    t.ylc.poolClaim = s.ylc.poolClaim ∧ t.ylc.fwdClaim = s.ylc.fwdClaim ∧ t.ylc.fwdQ = s.ylc.fwdQ ∧
    t.ylc.curtailReq = s.ylc.curtailReq ∧ t.ylc.refusal = s.ylc.refusal ∧ t.frt = s.frt ∧ t.sbu = s.sbu ∧
    t.rdu = s.rdu ∧ t.ale = s.ale ∧ t.rsu = s.rsu ∧ t.stp = s.stp ∧ t.tsm = s.tsm ∧ t.freeCount = s.freeCount := by
  simp [takeLink]
@[simp] theorem keeps_sendExchange (c waits : Nat) (s : State) : let t := sendExchange c waits s
    t.sli = s.sli ∧ t.ylc.cabinets = s.ylc.cabinets ∧ t.ylc.roundTimer = s.ylc.roundTimer ∧
    t.ylc.roundDue = s.ylc.roundDue ∧ t.ylc.roundWanted = s.ylc.roundWanted ∧ t.ylc.poolClaim = s.ylc.poolClaim ∧
    t.ylc.fwdClaim = s.ylc.fwdClaim ∧ t.ylc.fwdQ = s.ylc.fwdQ ∧ t.ylc.curtailReq = s.ylc.curtailReq ∧
    t.ylc.refusal = s.ylc.refusal ∧ t.frt = s.frt ∧ t.sbu = s.sbu ∧ t.rdu = s.rdu ∧ t.ale = s.ale ∧
    t.rsu = s.rsu ∧ t.stp = s.stp ∧ t.tsm = s.tsm := by
  simp [sendExchange]
@[simp] theorem keeps_sendCurtail (s : State) : let t := sendCurtail s
    t.sli = s.sli ∧ t.ylc.cabinets = s.ylc.cabinets ∧ t.ylc.roundTimer = s.ylc.roundTimer ∧
    t.ylc.roundDue = s.ylc.roundDue ∧ t.ylc.roundWanted = s.ylc.roundWanted ∧ t.ylc.round = s.ylc.round ∧
    t.ylc.poolClaim = s.ylc.poolClaim ∧ t.ylc.fwdClaim = s.ylc.fwdClaim ∧ t.ylc.fwdQ = s.ylc.fwdQ ∧
    t.ylc.refusal = s.ylc.refusal ∧ t.frt = s.frt ∧ t.sbu = s.sbu ∧ t.rdu = s.rdu ∧ t.ale = s.ale ∧
    t.rsu = s.rsu ∧ t.stp = s.stp ∧ t.tsm = s.tsm := by
  simp [sendCurtail]
@[simp] theorem keeps_sendPool (c : Nat) (target : Mode) (s : State) : let t := sendPool c target s
    t.sli = s.sli ∧ t.ylc.cabinets = s.ylc.cabinets ∧ t.ylc.roundTimer = s.ylc.roundTimer ∧
    t.ylc.roundDue = s.ylc.roundDue ∧ t.ylc.roundWanted = s.ylc.roundWanted ∧ t.ylc.round = s.ylc.round ∧
    t.ylc.fwdClaim = s.ylc.fwdClaim ∧ t.ylc.fwdQ = s.ylc.fwdQ ∧ t.ylc.curtailReq = s.ylc.curtailReq ∧
    t.ylc.refusal = s.ylc.refusal ∧ t.frt = s.frt ∧ t.sbu = s.sbu ∧ t.rdu = s.rdu ∧ t.ale = s.ale ∧
    t.rsu = s.rsu ∧ t.stp = s.stp ∧ t.tsm = s.tsm := by
  simp [sendPool]
@[simp] theorem keeps_sendForward (t : Telegram) (rest : List Telegram) (s : State) : let t := sendForward t rest s
    t.sli = s.sli ∧ t.ylc.cabinets = s.ylc.cabinets ∧ t.ylc.roundTimer = s.ylc.roundTimer ∧
    t.ylc.roundDue = s.ylc.roundDue ∧ t.ylc.roundWanted = s.ylc.roundWanted ∧ t.ylc.round = s.ylc.round ∧
    t.ylc.poolClaim = s.ylc.poolClaim ∧ t.ylc.curtailReq = s.ylc.curtailReq ∧ t.ylc.refusal = s.ylc.refusal ∧
    t.frt = s.frt ∧ t.sbu = s.sbu ∧ t.rdu = s.rdu ∧ t.ale = s.ale ∧ t.rsu = s.rsu ∧ t.stp = s.stp ∧
    t.tsm = s.tsm ∧ t.freeCount = s.freeCount := by
  simp [sendForward]
@[simp] theorem keeps_freeLink (s : State) : let t := freeLink s
    t.sli = s.sli ∧ t.ylc.cabinets = s.ylc.cabinets ∧ t.ylc.roundTimer = s.ylc.roundTimer ∧
    t.ylc.roundDue = s.ylc.roundDue ∧ t.ylc.roundWanted = s.ylc.roundWanted ∧ t.ylc.round = s.ylc.round ∧
    t.ylc.poolClaim = s.ylc.poolClaim ∧ t.ylc.fwdClaim = s.ylc.fwdClaim ∧ t.ylc.fwdQ = s.ylc.fwdQ ∧
    t.ylc.curtailReq = s.ylc.curtailReq ∧ t.ylc.refusal = s.ylc.refusal ∧ t.frt = s.frt ∧ t.sbu = s.sbu ∧
    t.rdu = s.rdu ∧ t.ale = s.ale ∧ t.rsu = s.rsu ∧ t.stp = s.stp ∧ t.tsm = s.tsm ∧ t.freeCount = s.freeCount := by
  simp [freeLink]
@[simp] theorem keeps_completeRound (s : State) : let t := completeRound s
    t.sli.silence = s.sli.silence ∧ t.sli.silentMark = s.sli.silentMark ∧ t.ylc.roundTimer = s.ylc.roundTimer ∧
    t.ylc.fwdQ = s.ylc.fwdQ ∧ t.sbu.age = s.sbu.age ∧ t.sbu.ambient = s.sbu.ambient ∧ t.rdu.clock = s.rdu.clock ∧
    t.rsu.slot = s.rsu.slot ∧ t.rsu.highId = s.rsu.highId ∧ t.rsu.lastReply = s.rsu.lastReply ∧
    t.tsm.store = s.tsm.store ∧ t.tsm.code = s.tsm.code ∧ t.tsm.staged = s.tsm.staged ∧
    t.tsm.staging = s.tsm.staging ∧ t.tsm.write = s.tsm.write ∧ t.tsm.silenceStanding = s.tsm.silenceStanding ∧
    t.tsm.restartPending = s.tsm.restartPending ∧ t.freeCount = s.freeCount := by
  simp [completeRound]
@[simp] theorem keeps_continueRound (last : Nat) (s : State) : let t := continueRound last s
    t.sli.silence = s.sli.silence ∧ t.sli.silentMark = s.sli.silentMark ∧ t.ylc.roundTimer = s.ylc.roundTimer ∧
    t.ylc.fwdQ = s.ylc.fwdQ ∧ t.sbu.age = s.sbu.age ∧ t.sbu.ambient = s.sbu.ambient ∧ t.rdu.clock = s.rdu.clock ∧
    t.rsu.slot = s.rsu.slot ∧ t.rsu.highId = s.rsu.highId ∧ t.rsu.lastReply = s.rsu.lastReply ∧
    t.tsm.store = s.tsm.store ∧ t.tsm.code = s.tsm.code ∧ t.tsm.staged = s.tsm.staged ∧
    t.tsm.staging = s.tsm.staging ∧ t.tsm.write = s.tsm.write ∧ t.tsm.silenceStanding = s.tsm.silenceStanding ∧
    t.tsm.restartPending = s.tsm.restartPending := by
  unfold continueRound
  split <;> simp
@[simp] theorem keeps_startRound (s : State) : let t := startRound s
    t.sli.silence = s.sli.silence ∧ t.sli.silentMark = s.sli.silentMark ∧ t.ylc.fwdQ = s.ylc.fwdQ ∧
    t.sbu.age = s.sbu.age ∧ t.sbu.ambient = s.sbu.ambient ∧ t.rdu.clock = s.rdu.clock ∧ t.rsu.slot = s.rsu.slot ∧
    t.rsu.highId = s.rsu.highId ∧ t.rsu.lastReply = s.rsu.lastReply ∧ t.tsm.store = s.tsm.store ∧
    t.tsm.code = s.tsm.code ∧ t.tsm.staged = s.tsm.staged ∧ t.tsm.staging = s.tsm.staging ∧
    t.tsm.write = s.tsm.write ∧ t.tsm.silenceStanding = s.tsm.silenceStanding ∧
    t.tsm.restartPending = s.tsm.restartPending := by
  simp [startRound]
@[simp] theorem keeps_endVisit (c : Nat) (answered : Bool) (s : State) : let t := endVisit c answered s
    t.sli.silence = s.sli.silence ∧ t.sli.silentMark = s.sli.silentMark ∧ t.ylc.roundTimer = s.ylc.roundTimer ∧
    t.ylc.fwdQ = s.ylc.fwdQ ∧ t.sbu.age = s.sbu.age ∧ t.sbu.ambient = s.sbu.ambient ∧ t.rdu.clock = s.rdu.clock ∧
    t.rsu.slot = s.rsu.slot ∧ t.rsu.highId = s.rsu.highId ∧ t.rsu.lastReply = s.rsu.lastReply ∧
    t.tsm.store = s.tsm.store ∧ t.tsm.code = s.tsm.code ∧ t.tsm.staged = s.tsm.staged ∧
    t.tsm.staging = s.tsm.staging ∧ t.tsm.write = s.tsm.write ∧ t.tsm.silenceStanding = s.tsm.silenceStanding ∧
    t.tsm.restartPending = s.tsm.restartPending ∧ t.freeCount = s.freeCount := by
  unfold endVisit
  dsimp only
  (repeat' split) <;> simp
@[simp] theorem keeps_giveLink (g : Grantee) (s : State) : let t := giveLink g s
    t.sli.silence = s.sli.silence ∧ t.sli.silentMark = s.sli.silentMark ∧ t.sbu.age = s.sbu.age ∧
    t.sbu.ambient = s.sbu.ambient ∧ t.rdu.clock = s.rdu.clock ∧ t.rsu.slot = s.rsu.slot ∧
    t.rsu.highId = s.rsu.highId ∧ t.rsu.lastReply = s.rsu.lastReply ∧ t.tsm.store = s.tsm.store ∧
    t.tsm.code = s.tsm.code ∧ t.tsm.staged = s.tsm.staged ∧ t.tsm.staging = s.tsm.staging ∧
    t.tsm.write = s.tsm.write ∧ t.tsm.silenceStanding = s.tsm.silenceStanding ∧
    t.tsm.restartPending = s.tsm.restartPending := by
  unfold giveLink
  split <;> simp
@[simp] theorem keeps_closeClaims (s : State) : let t := closeClaims s
    t.sli = s.sli ∧ t.ylc.cabinets = s.ylc.cabinets ∧ t.ylc.roundTimer = s.ylc.roundTimer ∧
    t.ylc.roundDue = s.ylc.roundDue ∧ t.ylc.roundWanted = s.ylc.roundWanted ∧ t.ylc.round = s.ylc.round ∧
    t.ylc.link = s.ylc.link ∧ t.ylc.fwdQ = s.ylc.fwdQ ∧ t.ylc.curtailReq = s.ylc.curtailReq ∧
    t.ylc.refusal = s.ylc.refusal ∧ t.frt = s.frt ∧ t.sbu = s.sbu ∧ t.rdu = s.rdu ∧ t.ale = s.ale ∧
    t.rsu = s.rsu ∧ t.stp = s.stp ∧ t.tsm = s.tsm ∧ t.freeCount = s.freeCount := by
  simp [closeClaims]
@[simp] theorem keeps_settleLink (n : Nat) (s : State) : let t := settleLink n s
    t.sli.silence = s.sli.silence ∧ t.sli.silentMark = s.sli.silentMark ∧ t.sbu.age = s.sbu.age ∧
    t.sbu.ambient = s.sbu.ambient ∧ t.rdu.clock = s.rdu.clock ∧ t.rsu.slot = s.rsu.slot ∧
    t.rsu.highId = s.rsu.highId ∧ t.rsu.lastReply = s.rsu.lastReply ∧ t.tsm.store = s.tsm.store ∧
    t.tsm.code = s.tsm.code ∧ t.tsm.staged = s.tsm.staged ∧ t.tsm.staging = s.tsm.staging ∧
    t.tsm.write = s.tsm.write ∧ t.tsm.silenceStanding = s.tsm.silenceStanding ∧
    t.tsm.restartPending = s.tsm.restartPending := by
  induction n generalizing s with
  | zero => simp [settleLink]
  | succ n ih =>
    unfold settleLink
    dsimp only at ih ⊢
    (repeat' split) <;> simp [ih]
@[simp] theorem keeps_finish (s : State) : let t := finish s
    t.sli.silence = s.sli.silence ∧ t.sli.silentMark = s.sli.silentMark ∧ t.sbu.age = s.sbu.age ∧
    t.sbu.ambient = s.sbu.ambient ∧ t.rdu.clock = s.rdu.clock ∧ t.rsu.slot = s.rsu.slot ∧
    t.rsu.highId = s.rsu.highId ∧ t.rsu.lastReply = s.rsu.lastReply ∧ t.tsm.store = s.tsm.store ∧
    t.tsm.code = s.tsm.code ∧ t.tsm.staged = s.tsm.staged ∧ t.tsm.staging = s.tsm.staging ∧
    t.tsm.write = s.tsm.write ∧ t.tsm.silenceStanding = s.tsm.silenceStanding ∧
    t.tsm.restartPending = s.tsm.restartPending := by
  simp [finish]
@[simp] theorem keeps_goOffline (c : Nat) (s : State) : let t := goOffline c s
    t.sli.passage = s.sli.passage ∧ t.sli.silence = s.sli.silence ∧ t.sli.silentMark = s.sli.silentMark ∧
    t.ylc.roundTimer = s.ylc.roundTimer ∧ t.ylc.roundDue = s.ylc.roundDue ∧
    t.ylc.roundWanted = s.ylc.roundWanted ∧ t.ylc.round = s.ylc.round ∧ t.ylc.link = s.ylc.link ∧
    t.ylc.poolClaim = s.ylc.poolClaim ∧ t.ylc.fwdClaim = s.ylc.fwdClaim ∧ t.ylc.fwdQ = s.ylc.fwdQ ∧
    t.ylc.curtailReq = s.ylc.curtailReq ∧ t.ylc.refusal = s.ylc.refusal ∧ t.frt.buses = s.frt.buses ∧
    t.frt.tagMap = s.frt.tagMap ∧ t.frt.plugQ = s.frt.plugQ ∧ t.sbu = s.sbu ∧ t.rdu = s.rdu ∧
    t.ale.pass = s.ale.pass ∧ t.ale.pending = s.ale.pending ∧ t.ale.timer = s.ale.timer ∧
    t.ale.snap = s.ale.snap ∧ t.ale.turn = s.ale.turn ∧ t.ale.overLimit = s.ale.overLimit ∧ t.rsu = s.rsu ∧
    t.stp = s.stp ∧ t.tsm.store = s.tsm.store ∧ t.tsm.active = s.tsm.active ∧ t.tsm.settings = s.tsm.settings ∧
    t.tsm.code = s.tsm.code ∧ t.tsm.staged = s.tsm.staged ∧ t.tsm.staging = s.tsm.staging ∧
    t.tsm.write = s.tsm.write ∧ t.tsm.waiting = s.tsm.waiting ∧ t.tsm.op = s.tsm.op ∧
    t.tsm.silenceStanding = s.tsm.silenceStanding ∧ t.tsm.restartPending = s.tsm.restartPending ∧
    t.freeCount = s.freeCount := by
  simp [goOffline]
@[simp] theorem keeps_countMiss (c : Nat) (s : State) : let t := countMiss c s
    t.sli.passage = s.sli.passage ∧ t.sli.silence = s.sli.silence ∧ t.sli.silentMark = s.sli.silentMark ∧
    t.ylc.roundTimer = s.ylc.roundTimer ∧ t.ylc.roundDue = s.ylc.roundDue ∧
    t.ylc.roundWanted = s.ylc.roundWanted ∧ t.ylc.round = s.ylc.round ∧ t.ylc.link = s.ylc.link ∧
    t.ylc.poolClaim = s.ylc.poolClaim ∧ t.ylc.fwdClaim = s.ylc.fwdClaim ∧ t.ylc.fwdQ = s.ylc.fwdQ ∧
    t.ylc.curtailReq = s.ylc.curtailReq ∧ t.ylc.refusal = s.ylc.refusal ∧ t.frt.buses = s.frt.buses ∧
    t.frt.tagMap = s.frt.tagMap ∧ t.frt.plugQ = s.frt.plugQ ∧ t.sbu = s.sbu ∧ t.rdu = s.rdu ∧
    t.ale.pass = s.ale.pass ∧ t.ale.pending = s.ale.pending ∧ t.ale.timer = s.ale.timer ∧
    t.ale.snap = s.ale.snap ∧ t.ale.turn = s.ale.turn ∧ t.ale.overLimit = s.ale.overLimit ∧ t.rsu = s.rsu ∧
    t.stp = s.stp ∧ t.tsm.store = s.tsm.store ∧ t.tsm.active = s.tsm.active ∧ t.tsm.settings = s.tsm.settings ∧
    t.tsm.code = s.tsm.code ∧ t.tsm.staged = s.tsm.staged ∧ t.tsm.staging = s.tsm.staging ∧
    t.tsm.write = s.tsm.write ∧ t.tsm.waiting = s.tsm.waiting ∧ t.tsm.op = s.tsm.op ∧
    t.tsm.silenceStanding = s.tsm.silenceStanding ∧ t.tsm.restartPending = s.tsm.restartPending ∧
    t.freeCount = s.freeCount := by
  unfold countMiss
  dsimp only
  (repeat' split) <;> simp
@[simp] theorem keeps_missVisit (c : Nat) (s : State) : let t := missVisit c s
    t.sli.silence = s.sli.silence ∧ t.sli.silentMark = s.sli.silentMark ∧ t.ylc.roundTimer = s.ylc.roundTimer ∧
    t.ylc.fwdQ = s.ylc.fwdQ ∧ t.sbu.age = s.sbu.age ∧ t.sbu.ambient = s.sbu.ambient ∧ t.rdu.clock = s.rdu.clock ∧
    t.rsu.slot = s.rsu.slot ∧ t.rsu.highId = s.rsu.highId ∧ t.rsu.lastReply = s.rsu.lastReply ∧
    t.tsm.store = s.tsm.store ∧ t.tsm.code = s.tsm.code ∧ t.tsm.staged = s.tsm.staged ∧
    t.tsm.staging = s.tsm.staging ∧ t.tsm.write = s.tsm.write ∧ t.tsm.silenceStanding = s.tsm.silenceStanding ∧
    t.tsm.restartPending = s.tsm.restartPending ∧ t.freeCount = s.freeCount := by
  simp [missVisit]
@[simp] theorem keeps_cabinetRestart (c : Nat) (s : State) : let t := cabinetRestart c s
    t.sli.passage = s.sli.passage ∧ t.sli.silence = s.sli.silence ∧ t.sli.silentMark = s.sli.silentMark ∧
    t.ylc.roundTimer = s.ylc.roundTimer ∧ t.ylc.roundDue = s.ylc.roundDue ∧
    t.ylc.roundWanted = s.ylc.roundWanted ∧ t.ylc.round = s.ylc.round ∧ t.ylc.link = s.ylc.link ∧
    t.ylc.poolClaim = s.ylc.poolClaim ∧ t.ylc.fwdClaim = s.ylc.fwdClaim ∧ t.ylc.fwdQ = s.ylc.fwdQ ∧
    t.ylc.curtailReq = s.ylc.curtailReq ∧ t.ylc.refusal = s.ylc.refusal ∧ t.frt.tagMap = s.frt.tagMap ∧
    t.sbu = s.sbu ∧ t.rdu = s.rdu ∧ t.ale.pass = s.ale.pass ∧ t.ale.pending = s.ale.pending ∧
    t.ale.timer = s.ale.timer ∧ t.ale.snap = s.ale.snap ∧ t.ale.turn = s.ale.turn ∧
    t.ale.overLimit = s.ale.overLimit ∧ t.rsu = s.rsu ∧ t.stp = s.stp ∧ t.tsm.store = s.tsm.store ∧
    t.tsm.active = s.tsm.active ∧ t.tsm.settings = s.tsm.settings ∧ t.tsm.code = s.tsm.code ∧
    t.tsm.staged = s.tsm.staged ∧ t.tsm.staging = s.tsm.staging ∧ t.tsm.write = s.tsm.write ∧
    t.tsm.waiting = s.tsm.waiting ∧ t.tsm.op = s.tsm.op ∧ t.tsm.silenceStanding = s.tsm.silenceStanding ∧
    t.tsm.restartPending = s.tsm.restartPending ∧ t.freeCount = s.freeCount := by
  simp [cabinetRestart]
@[simp] theorem keeps_statusRestart (c : Nat) (restarted : Bool) (s : State) : let t := statusRestart c restarted s
    t.sli.passage = s.sli.passage ∧ t.sli.silence = s.sli.silence ∧ t.sli.silentMark = s.sli.silentMark ∧
    t.ylc.roundTimer = s.ylc.roundTimer ∧ t.ylc.roundDue = s.ylc.roundDue ∧
    t.ylc.roundWanted = s.ylc.roundWanted ∧ t.ylc.round = s.ylc.round ∧ t.ylc.link = s.ylc.link ∧
    t.ylc.poolClaim = s.ylc.poolClaim ∧ t.ylc.fwdClaim = s.ylc.fwdClaim ∧ t.ylc.fwdQ = s.ylc.fwdQ ∧
    t.ylc.curtailReq = s.ylc.curtailReq ∧ t.ylc.refusal = s.ylc.refusal ∧ t.frt.tagMap = s.frt.tagMap ∧
    t.sbu = s.sbu ∧ t.rdu = s.rdu ∧ t.ale.pass = s.ale.pass ∧ t.ale.pending = s.ale.pending ∧
    t.ale.timer = s.ale.timer ∧ t.ale.snap = s.ale.snap ∧ t.ale.turn = s.ale.turn ∧
    t.ale.overLimit = s.ale.overLimit ∧ t.rsu = s.rsu ∧ t.stp = s.stp ∧ t.tsm.store = s.tsm.store ∧
    t.tsm.active = s.tsm.active ∧ t.tsm.settings = s.tsm.settings ∧ t.tsm.code = s.tsm.code ∧
    t.tsm.staged = s.tsm.staged ∧ t.tsm.staging = s.tsm.staging ∧ t.tsm.write = s.tsm.write ∧
    t.tsm.waiting = s.tsm.waiting ∧ t.tsm.op = s.tsm.op ∧ t.tsm.silenceStanding = s.tsm.silenceStanding ∧
    t.tsm.restartPending = s.tsm.restartPending ∧ t.freeCount = s.freeCount := by
  unfold statusRestart
  (repeat' split) <;> simp
@[simp] theorem keeps_statusLink (c : Nat) (grants : List Int) (s : State) : let t := statusLink c grants s
    t.sli.passage = s.sli.passage ∧ t.sli.silence = s.sli.silence ∧ t.sli.silentMark = s.sli.silentMark ∧
    t.ylc.roundTimer = s.ylc.roundTimer ∧ t.ylc.roundDue = s.ylc.roundDue ∧
    t.ylc.roundWanted = s.ylc.roundWanted ∧ t.ylc.round = s.ylc.round ∧ t.ylc.link = s.ylc.link ∧
    t.ylc.poolClaim = s.ylc.poolClaim ∧ t.ylc.fwdClaim = s.ylc.fwdClaim ∧ t.ylc.fwdQ = s.ylc.fwdQ ∧
    t.ylc.curtailReq = s.ylc.curtailReq ∧ t.ylc.refusal = s.ylc.refusal ∧ t.frt.buses = s.frt.buses ∧
    t.frt.tagMap = s.frt.tagMap ∧ t.frt.plugQ = s.frt.plugQ ∧ t.sbu = s.sbu ∧ t.rdu = s.rdu ∧ t.ale = s.ale ∧
    t.rsu = s.rsu ∧ t.stp = s.stp ∧ t.tsm.store = s.tsm.store ∧ t.tsm.active = s.tsm.active ∧
    t.tsm.settings = s.tsm.settings ∧ t.tsm.code = s.tsm.code ∧ t.tsm.staged = s.tsm.staged ∧
    t.tsm.staging = s.tsm.staging ∧ t.tsm.write = s.tsm.write ∧ t.tsm.waiting = s.tsm.waiting ∧
    t.tsm.op = s.tsm.op ∧ t.tsm.silenceStanding = s.tsm.silenceStanding ∧
    t.tsm.restartPending = s.tsm.restartPending ∧ t.freeCount = s.freeCount := by
  unfold statusLink
  split <;> simp
@[simp] theorem keeps_statusReport (c : Nat) (m : StatusMsg) (before : List PostState) (i : Nat) (s : State) :
    let t := statusReport c m before i s
    t.sli.passage = s.sli.passage ∧ t.sli.silence = s.sli.silence ∧ t.sli.silentMark = s.sli.silentMark ∧
    t.ylc.cabinets = s.ylc.cabinets ∧ t.ylc.roundTimer = s.ylc.roundTimer ∧ t.ylc.roundDue = s.ylc.roundDue ∧
    t.ylc.roundWanted = s.ylc.roundWanted ∧ t.ylc.round = s.ylc.round ∧ t.ylc.link = s.ylc.link ∧
    t.ylc.poolClaim = s.ylc.poolClaim ∧ t.ylc.fwdClaim = s.ylc.fwdClaim ∧ t.ylc.fwdQ = s.ylc.fwdQ ∧
    t.ylc.curtailReq = s.ylc.curtailReq ∧ t.frt.tagMap = s.frt.tagMap ∧ t.sbu = s.sbu ∧ t.rdu = s.rdu ∧
    t.ale.pass = s.ale.pass ∧ t.ale.pending = s.ale.pending ∧ t.ale.timer = s.ale.timer ∧
    t.ale.snap = s.ale.snap ∧ t.ale.turn = s.ale.turn ∧ t.ale.overLimit = s.ale.overLimit ∧ t.rsu = s.rsu ∧
    t.stp = s.stp ∧ t.tsm.store = s.tsm.store ∧ t.tsm.active = s.tsm.active ∧ t.tsm.settings = s.tsm.settings ∧
    t.tsm.code = s.tsm.code ∧ t.tsm.staged = s.tsm.staged ∧ t.tsm.staging = s.tsm.staging ∧
    t.tsm.write = s.tsm.write ∧ t.tsm.waiting = s.tsm.waiting ∧ t.tsm.op = s.tsm.op ∧
    t.tsm.silenceStanding = s.tsm.silenceStanding ∧ t.tsm.restartPending = s.tsm.restartPending ∧
    t.freeCount = s.freeCount := by
  unfold statusReport
  dsimp only
  (repeat' split) <;> simp
@[simp] theorem keeps_statusSettle (c i : Nat) (s : State) : let t := statusSettle c i s
    t.sli = s.sli ∧ t.ylc = s.ylc ∧ t.frt.buses = s.frt.buses ∧ t.frt.tagMap = s.frt.tagMap ∧
    t.frt.plugQ = s.frt.plugQ ∧ t.sbu = s.sbu ∧ t.rdu = s.rdu ∧ t.ale.pass = s.ale.pass ∧
    t.ale.pending = s.ale.pending ∧ t.ale.timer = s.ale.timer ∧ t.ale.snap = s.ale.snap ∧
    t.ale.turn = s.ale.turn ∧ t.ale.overLimit = s.ale.overLimit ∧ t.rsu = s.rsu ∧ t.stp = s.stp ∧ t.tsm = s.tsm ∧
    t.freeCount = s.freeCount := by
  unfold statusSettle
  dsimp only
  split <;> simp
@[simp] theorem keeps_statusHandOff (c : Nat) (m : StatusMsg) (grants : List Int) (js : List Judgement) (s : State) :
    let t := statusHandOff c m grants js s
    t.sli.passage = s.sli.passage ∧ t.sli.silence = s.sli.silence ∧ t.sli.silentMark = s.sli.silentMark ∧
    t.ylc = s.ylc ∧ t.frt = s.frt ∧ t.sbu = s.sbu ∧ t.rdu = s.rdu ∧ t.ale = s.ale ∧ t.rsu = s.rsu ∧
    t.stp = s.stp ∧ t.tsm.store = s.tsm.store ∧ t.tsm.active = s.tsm.active ∧ t.tsm.settings = s.tsm.settings ∧
    t.tsm.code = s.tsm.code ∧ t.tsm.staged = s.tsm.staged ∧ t.tsm.staging = s.tsm.staging ∧
    t.tsm.write = s.tsm.write ∧ t.tsm.waiting = s.tsm.waiting ∧ t.tsm.op = s.tsm.op ∧
    t.tsm.silenceStanding = s.tsm.silenceStanding ∧ t.tsm.restartPending = s.tsm.restartPending ∧
    t.freeCount = s.freeCount := by
  unfold statusHandOff
  split <;> simp
@[simp] theorem keeps_applyReports (c : Nat) (m : StatusMsg) (grants : List Int) (s : State) :
    let t := applyReports c m grants s
    t.sli.passage = s.sli.passage ∧ t.sli.silence = s.sli.silence ∧ t.sli.silentMark = s.sli.silentMark ∧
    t.ylc.roundTimer = s.ylc.roundTimer ∧ t.ylc.roundDue = s.ylc.roundDue ∧
    t.ylc.roundWanted = s.ylc.roundWanted ∧ t.ylc.round = s.ylc.round ∧ t.ylc.link = s.ylc.link ∧
    t.ylc.poolClaim = s.ylc.poolClaim ∧ t.ylc.fwdClaim = s.ylc.fwdClaim ∧ t.ylc.fwdQ = s.ylc.fwdQ ∧
    t.ylc.curtailReq = s.ylc.curtailReq ∧ t.frt.tagMap = s.frt.tagMap ∧ t.sbu = s.sbu ∧ t.rdu = s.rdu ∧
    t.ale.pass = s.ale.pass ∧ t.ale.pending = s.ale.pending ∧ t.ale.timer = s.ale.timer ∧
    t.ale.snap = s.ale.snap ∧ t.ale.turn = s.ale.turn ∧ t.ale.overLimit = s.ale.overLimit ∧ t.rsu = s.rsu ∧
    t.stp = s.stp ∧ t.tsm.store = s.tsm.store ∧ t.tsm.active = s.tsm.active ∧ t.tsm.settings = s.tsm.settings ∧
    t.tsm.code = s.tsm.code ∧ t.tsm.staged = s.tsm.staged ∧ t.tsm.staging = s.tsm.staging ∧
    t.tsm.write = s.tsm.write ∧ t.tsm.waiting = s.tsm.waiting ∧ t.tsm.op = s.tsm.op ∧
    t.tsm.silenceStanding = s.tsm.silenceStanding ∧ t.tsm.restartPending = s.tsm.restartPending ∧
    t.freeCount = s.freeCount := by
  simp [applyReports]
@[simp] theorem keeps_offerEvents (c : Nat) (r : Bool) (l : List RawEvent) (s : State) :
    let t := (offerEvents c r l s).1
    t.sli.passage = s.sli.passage ∧ t.sli.silence = s.sli.silence ∧ t.sli.silentMark = s.sli.silentMark ∧
    t.ylc.roundTimer = s.ylc.roundTimer ∧ t.ylc.roundDue = s.ylc.roundDue ∧
    t.ylc.roundWanted = s.ylc.roundWanted ∧ t.ylc.round = s.ylc.round ∧ t.ylc.link = s.ylc.link ∧
    t.ylc.poolClaim = s.ylc.poolClaim ∧ t.ylc.fwdClaim = s.ylc.fwdClaim ∧ t.ylc.fwdQ = s.ylc.fwdQ ∧
    t.ylc.curtailReq = s.ylc.curtailReq ∧ t.frt.buses = s.frt.buses ∧ t.frt.tagMap = s.frt.tagMap ∧
    t.frt.posts = s.frt.posts ∧ t.sbu = s.sbu ∧ t.rdu = s.rdu ∧ t.ale = s.ale ∧ t.rsu = s.rsu ∧ t.stp = s.stp ∧
    t.tsm.store = s.tsm.store ∧ t.tsm.active = s.tsm.active ∧ t.tsm.settings = s.tsm.settings ∧
    t.tsm.code = s.tsm.code ∧ t.tsm.staged = s.tsm.staged ∧ t.tsm.staging = s.tsm.staging ∧
    t.tsm.write = s.tsm.write ∧ t.tsm.waiting = s.tsm.waiting ∧ t.tsm.op = s.tsm.op ∧
    t.tsm.silenceStanding = s.tsm.silenceStanding ∧ t.tsm.restartPending = s.tsm.restartPending ∧
    t.freeCount = s.freeCount := by
  induction l generalizing r s with
  | nil => simp [offerEvents]
  | cons e l ih =>
    unfold offerEvents
    dsimp only at ih ⊢
    (repeat' split) <;> simp [ih]
@[simp] theorem keeps_takeStatus (c : Nat) (m : StatusMsg) (grants : List Int) (s : State) :
    let t := takeStatus c m grants s
    t.sli.silence = s.sli.silence ∧ t.sli.silentMark = s.sli.silentMark ∧ t.ylc.roundTimer = s.ylc.roundTimer ∧
    t.ylc.fwdQ = s.ylc.fwdQ ∧ t.sbu.age = s.sbu.age ∧ t.sbu.ambient = s.sbu.ambient ∧ t.rdu.clock = s.rdu.clock ∧
    t.rsu.slot = s.rsu.slot ∧ t.rsu.highId = s.rsu.highId ∧ t.rsu.lastReply = s.rsu.lastReply ∧
    t.tsm.store = s.tsm.store ∧ t.tsm.code = s.tsm.code ∧ t.tsm.staged = s.tsm.staged ∧
    t.tsm.staging = s.tsm.staging ∧ t.tsm.write = s.tsm.write ∧ t.tsm.silenceStanding = s.tsm.silenceStanding ∧
    t.tsm.restartPending = s.tsm.restartPending ∧ t.freeCount = s.freeCount := by
  simp [takeStatus]
@[simp] theorem keeps_zeroAll (s : State) : let t := zeroAll s
    t.sli = s.sli ∧ t.ylc = s.ylc ∧ t.frt.buses = s.frt.buses ∧ t.frt.tagMap = s.frt.tagMap ∧
    t.frt.plugQ = s.frt.plugQ ∧ t.sbu = s.sbu ∧ t.rdu = s.rdu ∧ t.ale = s.ale ∧ t.rsu = s.rsu ∧ t.stp = s.stp ∧
    t.tsm = s.tsm ∧ t.freeCount = s.freeCount := by
  simp [zeroAll]
@[simp] theorem keeps_curtailDone (s : State) : let t := curtailDone s
    t.sli.silence = s.sli.silence ∧ t.sli.silentMark = s.sli.silentMark ∧ t.ylc.roundTimer = s.ylc.roundTimer ∧
    t.ylc.fwdQ = s.ylc.fwdQ ∧
    t.sbu.age = s.sbu.age ∧ t.sbu.ambient = s.sbu.ambient ∧ t.rdu.clock = s.rdu.clock ∧
    t.rsu.slot = s.rsu.slot ∧ t.rsu.highId = s.rsu.highId ∧
    t.rsu.lastReply = s.rsu.lastReply ∧ t.tsm.store = s.tsm.store ∧ t.tsm.code = s.tsm.code ∧
    t.tsm.staged = s.tsm.staged ∧ t.tsm.staging = s.tsm.staging ∧ t.tsm.write = s.tsm.write ∧
    t.tsm.silenceStanding = s.tsm.silenceStanding ∧ t.tsm.restartPending = s.tsm.restartPending ∧
    t.freeCount = s.freeCount := by
  unfold curtailDone
  dsimp only
  split <;> simp
@[simp] theorem keeps_siteSilent (s : State) : let t := siteSilent s
    t.sli.silence = s.sli.silence ∧ t.ylc.roundTimer = s.ylc.roundTimer ∧ t.ylc.fwdQ = s.ylc.fwdQ ∧ t.sbu.age = s.sbu.age ∧
    t.sbu.ambient = s.sbu.ambient ∧ t.rdu.clock = s.rdu.clock ∧ t.rsu.slot = s.rsu.slot ∧ t.rsu.highId = s.rsu.highId ∧ t.rsu.lastReply = s.rsu.lastReply ∧
    t.tsm.store = s.tsm.store ∧ t.tsm.code = s.tsm.code ∧ t.tsm.staged = s.tsm.staged ∧
    t.tsm.staging = s.tsm.staging ∧ t.tsm.write = s.tsm.write ∧ t.tsm.restartPending = s.tsm.restartPending ∧
    t.freeCount = s.freeCount := by
  unfold siteSilent
  dsimp only
  split <;> simp
@[simp] theorem keeps_siteReturn (s : State) : let t := siteReturn s
    t.sli.passage = s.sli.passage ∧ t.sli.silence = s.sli.silence ∧ t.sli.silentMark = s.sli.silentMark ∧
    t.ylc = s.ylc ∧ t.frt = s.frt ∧ t.sbu = s.sbu ∧ t.rdu = s.rdu ∧ t.ale = s.ale ∧ t.rsu = s.rsu ∧
    t.stp = s.stp ∧ t.tsm.store = s.tsm.store ∧ t.tsm.active = s.tsm.active ∧ t.tsm.settings = s.tsm.settings ∧
    t.tsm.code = s.tsm.code ∧ t.tsm.staged = s.tsm.staged ∧ t.tsm.staging = s.tsm.staging ∧
    t.tsm.write = s.tsm.write ∧ t.tsm.waiting = s.tsm.waiting ∧ t.tsm.restartPending = s.tsm.restartPending ∧
    t.freeCount = s.freeCount := by
  unfold siteReturn
  dsimp only
  split <;> simp
@[simp] theorem keeps_siteArrived (s : State) : let t := siteArrived s
    t.sli.passage = s.sli.passage ∧ t.ylc = s.ylc ∧ t.frt = s.frt ∧ t.sbu = s.sbu ∧ t.rdu = s.rdu ∧
    t.ale = s.ale ∧ t.rsu = s.rsu ∧ t.stp = s.stp ∧ t.tsm.store = s.tsm.store ∧ t.tsm.active = s.tsm.active ∧
    t.tsm.settings = s.tsm.settings ∧ t.tsm.code = s.tsm.code ∧ t.tsm.staged = s.tsm.staged ∧
    t.tsm.staging = s.tsm.staging ∧ t.tsm.write = s.tsm.write ∧ t.tsm.waiting = s.tsm.waiting ∧
    t.tsm.restartPending = s.tsm.restartPending ∧ t.freeCount = s.freeCount := by
  unfold siteArrived
  (repeat' split) <;> simp
@[simp] theorem keeps_siteLeft (b s : State) : let t := siteLeft b s
    t.sli.passage = s.sli.passage ∧ t.sli.silence = s.sli.silence ∧ t.sli.silentMark = s.sli.silentMark ∧
    t.ylc = s.ylc ∧ t.frt = s.frt ∧ t.sbu = s.sbu ∧ t.rdu = s.rdu ∧ t.ale = s.ale ∧ t.rsu = s.rsu ∧
    t.stp = s.stp ∧ t.tsm.store = s.tsm.store ∧ t.tsm.active = s.tsm.active ∧ t.tsm.settings = s.tsm.settings ∧
    t.tsm.code = s.tsm.code ∧ t.tsm.staged = s.tsm.staged ∧ t.tsm.staging = s.tsm.staging ∧
    t.tsm.write = s.tsm.write ∧ t.tsm.waiting = s.tsm.waiting ∧ t.tsm.restartPending = s.tsm.restartPending ∧
    t.freeCount = s.freeCount := by
  unfold siteLeft
  split <;> simp
@[simp] theorem keeps_siteFramed (s : State) : let t := siteFramed s
    t.sli.passage = s.sli.passage ∧ t.sli.out = s.sli.out ∧ t.sli.tx = s.sli.tx ∧
    t.sli.overflow = s.sli.overflow ∧ t.sli.dropCount = s.sli.dropCount ∧ t.sli.silence = s.sli.silence ∧
    t.sli.silentMark = s.sli.silentMark ∧ t.ylc = s.ylc ∧ t.frt = s.frt ∧ t.sbu = s.sbu ∧ t.rdu = s.rdu ∧
    t.ale = s.ale ∧ t.rsu = s.rsu ∧ t.stp = s.stp ∧ t.tsm = s.tsm ∧ t.freeCount = s.freeCount := by
  simp [siteFramed]
@[simp] theorem keeps_judgeBreach (s : State) : let t := judgeBreach s
    t.sli.silence = s.sli.silence ∧ t.sli.silentMark = s.sli.silentMark ∧ t.ylc.roundTimer = s.ylc.roundTimer ∧
    t.ylc.fwdQ = s.ylc.fwdQ ∧
    t.sbu.age = s.sbu.age ∧ t.sbu.ambient = s.sbu.ambient ∧ t.rdu.clock = s.rdu.clock ∧
    t.rsu.slot = s.rsu.slot ∧ t.rsu.highId = s.rsu.highId ∧
    t.rsu.lastReply = s.rsu.lastReply ∧ t.tsm.store = s.tsm.store ∧ t.tsm.code = s.tsm.code ∧
    t.tsm.staged = s.tsm.staged ∧ t.tsm.staging = s.tsm.staging ∧ t.tsm.write = s.tsm.write ∧
    t.tsm.silenceStanding = s.tsm.silenceStanding ∧ t.tsm.restartPending = s.tsm.restartPending ∧
    t.freeCount = s.freeCount := by
  unfold judgeBreach
  dsimp only
  (repeat' split) <;> simp
@[simp] theorem keeps_readMeter (imp : Int) (cap ambient : Option Int) (s : State) :
    let t := readMeter imp cap ambient s
    t.sli = s.sli ∧ t.ylc = s.ylc ∧ t.frt = s.frt ∧ t.sbu.breach = s.sbu.breach ∧ t.sbu.tariff = s.sbu.tariff ∧
    t.rdu = s.rdu ∧ t.ale = s.ale ∧ t.rsu = s.rsu ∧ t.stp = s.stp ∧ t.tsm = s.tsm ∧ t.freeCount = s.freeCount := by
  simp [readMeter]
@[simp] theorem keeps_queueDispReply (src : Byte) (r : DispReply) (s : State) : let t := queueDispReply src r s
    t.sli.passage = s.sli.passage ∧ t.sli.silence = s.sli.silence ∧ t.sli.silentMark = s.sli.silentMark ∧
    t.ylc = s.ylc ∧ t.frt = s.frt ∧ t.sbu = s.sbu ∧ t.rdu = s.rdu ∧ t.ale = s.ale ∧ t.rsu = s.rsu ∧
    t.stp = s.stp ∧ t.tsm.store = s.tsm.store ∧ t.tsm.active = s.tsm.active ∧ t.tsm.settings = s.tsm.settings ∧
    t.tsm.code = s.tsm.code ∧ t.tsm.staged = s.tsm.staged ∧ t.tsm.staging = s.tsm.staging ∧
    t.tsm.write = s.tsm.write ∧ t.tsm.waiting = s.tsm.waiting ∧ t.tsm.op = s.tsm.op ∧
    t.tsm.silenceStanding = s.tsm.silenceStanding ∧ t.tsm.restartPending = s.tsm.restartPending ∧
    t.freeCount = s.freeCount := by
  simp [queueDispReply]
@[simp] theorem keeps_repeatReply (src : Byte) (s : State) : let t := repeatReply src s
    t.sli.passage = s.sli.passage ∧ t.sli.silence = s.sli.silence ∧ t.sli.silentMark = s.sli.silentMark ∧
    t.ylc = s.ylc ∧ t.frt = s.frt ∧ t.sbu = s.sbu ∧ t.rdu = s.rdu ∧ t.ale = s.ale ∧ t.rsu = s.rsu ∧
    t.stp = s.stp ∧ t.tsm.store = s.tsm.store ∧ t.tsm.active = s.tsm.active ∧ t.tsm.settings = s.tsm.settings ∧
    t.tsm.code = s.tsm.code ∧ t.tsm.staged = s.tsm.staged ∧ t.tsm.staging = s.tsm.staging ∧
    t.tsm.write = s.tsm.write ∧ t.tsm.waiting = s.tsm.waiting ∧ t.tsm.op = s.tsm.op ∧
    t.tsm.silenceStanding = s.tsm.silenceStanding ∧ t.tsm.restartPending = s.tsm.restartPending ∧
    t.freeCount = s.freeCount := by
  unfold repeatReply
  split <;> simp
@[simp] theorem keeps_answerDispatch (src seq : Byte) (f : DispatchFields) (s : State) :
    let t := answerDispatch src seq f s
    t.sli.silence = s.sli.silence ∧ t.sli.silentMark = s.sli.silentMark ∧ t.ylc.roundTimer = s.ylc.roundTimer ∧
    t.ylc.fwdQ = s.ylc.fwdQ ∧
    t.sbu.age = s.sbu.age ∧ t.sbu.ambient = s.sbu.ambient ∧ t.rdu.clock = s.rdu.clock ∧
    t.rsu.slot = s.rsu.slot ∧ t.tsm.store = s.tsm.store ∧ t.tsm.code = s.tsm.code ∧
    t.tsm.staged = s.tsm.staged ∧ t.tsm.staging = s.tsm.staging ∧ t.tsm.write = s.tsm.write ∧
    t.tsm.silenceStanding = s.tsm.silenceStanding ∧ t.tsm.restartPending = s.tsm.restartPending := by
  unfold answerDispatch
  dsimp only
  (repeat' split) <;> simp
@[simp] theorem keeps_cancelDispatch (id : Nat) (s : State) : let t := cancelDispatch id s
    t.sli.silence = s.sli.silence ∧ t.sli.silentMark = s.sli.silentMark ∧ t.ylc.roundTimer = s.ylc.roundTimer ∧
    t.ylc.fwdQ = s.ylc.fwdQ ∧
    t.sbu.age = s.sbu.age ∧ t.sbu.ambient = s.sbu.ambient ∧ t.rdu.clock = s.rdu.clock ∧
    t.rsu.slot = s.rsu.slot ∧ t.rsu.highId = s.rsu.highId ∧
    t.rsu.lastReply = s.rsu.lastReply ∧ t.tsm.store = s.tsm.store ∧ t.tsm.code = s.tsm.code ∧
    t.tsm.staged = s.tsm.staged ∧ t.tsm.staging = s.tsm.staging ∧ t.tsm.write = s.tsm.write ∧
    t.tsm.silenceStanding = s.tsm.silenceStanding ∧ t.tsm.restartPending = s.tsm.restartPending ∧
    t.freeCount = s.freeCount := by
  unfold cancelDispatch
  (repeat' split) <;> simp
@[simp] theorem keeps_joinForward (t : Telegram) (s : State) : let t := joinForward t s
    t.sli = s.sli ∧ t.ylc.cabinets = s.ylc.cabinets ∧ t.ylc.roundTimer = s.ylc.roundTimer ∧
    t.ylc.roundDue = s.ylc.roundDue ∧ t.ylc.roundWanted = s.ylc.roundWanted ∧ t.ylc.round = s.ylc.round ∧
    t.ylc.link = s.ylc.link ∧ t.ylc.poolClaim = s.ylc.poolClaim ∧ t.ylc.fwdClaim = s.ylc.fwdClaim ∧
    t.ylc.curtailReq = s.ylc.curtailReq ∧ t.ylc.refusal = s.ylc.refusal ∧ t.frt = s.frt ∧ t.sbu = s.sbu ∧
    t.rdu = s.rdu ∧ t.ale = s.ale ∧ t.rsu = s.rsu ∧ t.stp = s.stp ∧ t.tsm = s.tsm ∧ t.freeCount = s.freeCount := by
  simp [joinForward]
@[simp] theorem keeps_forwardOrRefuse (t : Telegram) (s : State) : let t := forwardOrRefuse t s
    t.sli.passage = s.sli.passage ∧ t.sli.silence = s.sli.silence ∧ t.sli.silentMark = s.sli.silentMark ∧
    t.ylc.cabinets = s.ylc.cabinets ∧ t.ylc.roundTimer = s.ylc.roundTimer ∧ t.ylc.roundDue = s.ylc.roundDue ∧
    t.ylc.roundWanted = s.ylc.roundWanted ∧ t.ylc.round = s.ylc.round ∧ t.ylc.link = s.ylc.link ∧
    t.ylc.poolClaim = s.ylc.poolClaim ∧ t.ylc.fwdClaim = s.ylc.fwdClaim ∧ t.ylc.curtailReq = s.ylc.curtailReq ∧
    t.ylc.refusal = s.ylc.refusal ∧ t.frt = s.frt ∧ t.sbu = s.sbu ∧ t.rdu = s.rdu ∧ t.ale = s.ale ∧
    t.rsu = s.rsu ∧ t.stp = s.stp ∧ t.tsm.store = s.tsm.store ∧ t.tsm.active = s.tsm.active ∧
    t.tsm.settings = s.tsm.settings ∧ t.tsm.code = s.tsm.code ∧ t.tsm.staged = s.tsm.staged ∧
    t.tsm.staging = s.tsm.staging ∧ t.tsm.write = s.tsm.write ∧ t.tsm.waiting = s.tsm.waiting ∧
    t.tsm.op = s.tsm.op ∧ t.tsm.silenceStanding = s.tsm.silenceStanding ∧
    t.tsm.restartPending = s.tsm.restartPending ∧ t.freeCount = s.freeCount := by
  unfold forwardOrRefuse
  split <;> simp
@[simp] theorem keeps_queueSetreqReply (src : Byte) (r : SetreqReply) (s : State) : let t := queueSetreqReply src r s
    t.sli.passage = s.sli.passage ∧ t.sli.silence = s.sli.silence ∧ t.sli.silentMark = s.sli.silentMark ∧
    t.ylc = s.ylc ∧ t.frt = s.frt ∧ t.sbu = s.sbu ∧ t.rdu = s.rdu ∧ t.ale = s.ale ∧ t.rsu = s.rsu ∧
    t.stp = s.stp ∧ t.tsm.store = s.tsm.store ∧ t.tsm.active = s.tsm.active ∧ t.tsm.settings = s.tsm.settings ∧
    t.tsm.code = s.tsm.code ∧ t.tsm.staged = s.tsm.staged ∧ t.tsm.staging = s.tsm.staging ∧
    t.tsm.write = s.tsm.write ∧ t.tsm.waiting = s.tsm.waiting ∧ t.tsm.op = s.tsm.op ∧
    t.tsm.silenceStanding = s.tsm.silenceStanding ∧ t.tsm.restartPending = s.tsm.restartPending ∧
    t.freeCount = s.freeCount := by
  simp [queueSetreqReply]
@[simp] theorem keeps_refuseSetreq (dst src seq : Byte) (position : Nat) (why : SetreqResult) (s : State) :
    let t := refuseSetreq dst src seq position why s
    t.sli.passage = s.sli.passage ∧ t.sli.silence = s.sli.silence ∧ t.sli.silentMark = s.sli.silentMark ∧
    t.ylc = s.ylc ∧ t.frt = s.frt ∧ t.sbu = s.sbu ∧ t.rdu = s.rdu ∧ t.ale = s.ale ∧ t.rsu = s.rsu ∧
    t.stp = s.stp ∧ t.tsm.store = s.tsm.store ∧ t.tsm.active = s.tsm.active ∧ t.tsm.settings = s.tsm.settings ∧
    t.tsm.code = s.tsm.code ∧ t.tsm.staged = s.tsm.staged ∧ t.tsm.staging = s.tsm.staging ∧
    t.tsm.write = s.tsm.write ∧ t.tsm.waiting = s.tsm.waiting ∧ t.tsm.op = s.tsm.op ∧
    t.tsm.silenceStanding = s.tsm.silenceStanding ∧ t.tsm.restartPending = s.tsm.restartPending ∧
    t.freeCount = s.freeCount := by
  simp [refuseSetreq]
@[simp] theorem keeps_clampSetreq (dst src seq : Byte) (position p : Nat) (request : Option Int) (boost : Bool) (s : State) :
    let t := clampSetreq dst src seq position p request boost s
    t.sli.silence = s.sli.silence ∧ t.sli.silentMark = s.sli.silentMark ∧ t.ylc.roundTimer = s.ylc.roundTimer ∧
    t.sbu.age = s.sbu.age ∧
    t.sbu.ambient = s.sbu.ambient ∧ t.rdu.clock = s.rdu.clock ∧ t.rsu.slot = s.rsu.slot ∧ t.rsu.highId = s.rsu.highId ∧ t.rsu.lastReply = s.rsu.lastReply ∧
    t.tsm.store = s.tsm.store ∧ t.tsm.code = s.tsm.code ∧ t.tsm.staged = s.tsm.staged ∧
    t.tsm.staging = s.tsm.staging ∧ t.tsm.write = s.tsm.write ∧ t.tsm.silenceStanding = s.tsm.silenceStanding ∧
    t.tsm.restartPending = s.tsm.restartPending ∧ t.freeCount = s.freeCount := by
  unfold clampSetreq
  split <;> simp
@[simp] theorem keeps_judgeClamp (dst src seq : Byte) (position : Nat) (request : Option Int) (boost : Bool) (s : State) :
    let t := judgeClamp dst src seq position request boost s
    t.sli.silence = s.sli.silence ∧ t.sli.silentMark = s.sli.silentMark ∧ t.ylc.roundTimer = s.ylc.roundTimer ∧
    t.sbu.age = s.sbu.age ∧
    t.sbu.ambient = s.sbu.ambient ∧ t.rdu.clock = s.rdu.clock ∧ t.rsu.slot = s.rsu.slot ∧ t.rsu.highId = s.rsu.highId ∧ t.rsu.lastReply = s.rsu.lastReply ∧
    t.tsm.store = s.tsm.store ∧ t.tsm.code = s.tsm.code ∧ t.tsm.staged = s.tsm.staged ∧
    t.tsm.staging = s.tsm.staging ∧ t.tsm.write = s.tsm.write ∧ t.tsm.silenceStanding = s.tsm.silenceStanding ∧
    t.tsm.restartPending = s.tsm.restartPending ∧ t.freeCount = s.freeCount := by
  unfold judgeClamp
  (repeat' split) <;> simp
@[simp] theorem keeps_takeForwardReply (t : Telegram) (s : State) : let t := takeForwardReply t s
    t.sli.passage = s.sli.passage ∧ t.sli.silence = s.sli.silence ∧ t.sli.silentMark = s.sli.silentMark ∧
    t.ylc = s.ylc ∧ t.frt = s.frt ∧ t.sbu = s.sbu ∧ t.rdu = s.rdu ∧ t.ale = s.ale ∧ t.rsu = s.rsu ∧
    t.stp = s.stp ∧ t.tsm.store = s.tsm.store ∧ t.tsm.active = s.tsm.active ∧ t.tsm.settings = s.tsm.settings ∧
    t.tsm.code = s.tsm.code ∧ t.tsm.staged = s.tsm.staged ∧ t.tsm.staging = s.tsm.staging ∧
    t.tsm.write = s.tsm.write ∧ t.tsm.waiting = s.tsm.waiting ∧ t.tsm.op = s.tsm.op ∧
    t.tsm.silenceStanding = s.tsm.silenceStanding ∧ t.tsm.restartPending = s.tsm.restartPending ∧
    t.freeCount = s.freeCount := by
  unfold takeForwardReply
  split <;> simp
@[simp] theorem keeps_yardFramed (s : State) : let t := yardFramed s
    t.sli = s.sli ∧ t.ylc.cabinets = s.ylc.cabinets ∧ t.ylc.roundTimer = s.ylc.roundTimer ∧
    t.ylc.roundDue = s.ylc.roundDue ∧ t.ylc.roundWanted = s.ylc.roundWanted ∧ t.ylc.round = s.ylc.round ∧
    t.ylc.link = s.ylc.link ∧ t.ylc.poolClaim = s.ylc.poolClaim ∧ t.ylc.fwdClaim = s.ylc.fwdClaim ∧
    t.ylc.fwdQ = s.ylc.fwdQ ∧ t.ylc.curtailReq = s.ylc.curtailReq ∧ t.ylc.refusal = s.ylc.refusal ∧
    t.frt = s.frt ∧ t.sbu = s.sbu ∧ t.rdu = s.rdu ∧ t.ale = s.ale ∧ t.rsu = s.rsu ∧ t.stp = s.stp ∧
    t.tsm = s.tsm ∧ t.freeCount = s.freeCount := by
  simp [yardFramed]
@[simp] theorem keeps_holdOff (c waits : Nat) (s : State) : let t := holdOff c waits s
    t.sli.silence = s.sli.silence ∧ t.sli.silentMark = s.sli.silentMark ∧ t.ylc.roundTimer = s.ylc.roundTimer ∧
    t.ylc.fwdQ = s.ylc.fwdQ ∧ t.sbu.age = s.sbu.age ∧ t.sbu.ambient = s.sbu.ambient ∧ t.rdu.clock = s.rdu.clock ∧
    t.rsu.slot = s.rsu.slot ∧ t.rsu.highId = s.rsu.highId ∧ t.rsu.lastReply = s.rsu.lastReply ∧
    t.tsm.store = s.tsm.store ∧ t.tsm.code = s.tsm.code ∧ t.tsm.staged = s.tsm.staged ∧
    t.tsm.staging = s.tsm.staging ∧ t.tsm.write = s.tsm.write ∧ t.tsm.silenceStanding = s.tsm.silenceStanding ∧
    t.tsm.restartPending = s.tsm.restartPending ∧ t.freeCount = s.freeCount := by
  unfold holdOff
  split <;> simp
@[simp] theorem keeps_poolAnswer (c : Nat) (result : Byte) (reason : Nat) (s : State) : let t := poolAnswer c result reason s
    t.sli.passage = s.sli.passage ∧ t.sli.silence = s.sli.silence ∧ t.sli.silentMark = s.sli.silentMark ∧
    t.ylc.roundTimer = s.ylc.roundTimer ∧ t.ylc.roundDue = s.ylc.roundDue ∧
    t.ylc.roundWanted = s.ylc.roundWanted ∧ t.ylc.round = s.ylc.round ∧ t.ylc.link = s.ylc.link ∧
    t.ylc.poolClaim = s.ylc.poolClaim ∧ t.ylc.fwdClaim = s.ylc.fwdClaim ∧ t.ylc.fwdQ = s.ylc.fwdQ ∧
    t.ylc.curtailReq = s.ylc.curtailReq ∧ t.ylc.refusal = s.ylc.refusal ∧ t.frt.buses = s.frt.buses ∧
    t.frt.tagMap = s.frt.tagMap ∧ t.frt.plugQ = s.frt.plugQ ∧ t.sbu = s.sbu ∧ t.rdu = s.rdu ∧
    t.ale.pass = s.ale.pass ∧ t.ale.pending = s.ale.pending ∧ t.ale.timer = s.ale.timer ∧
    t.ale.snap = s.ale.snap ∧ t.ale.turn = s.ale.turn ∧ t.ale.overLimit = s.ale.overLimit ∧ t.rsu = s.rsu ∧
    t.stp = s.stp ∧ t.tsm.store = s.tsm.store ∧ t.tsm.active = s.tsm.active ∧ t.tsm.settings = s.tsm.settings ∧
    t.tsm.code = s.tsm.code ∧ t.tsm.staged = s.tsm.staged ∧ t.tsm.staging = s.tsm.staging ∧
    t.tsm.write = s.tsm.write ∧ t.tsm.waiting = s.tsm.waiting ∧ t.tsm.op = s.tsm.op ∧
    t.tsm.silenceStanding = s.tsm.silenceStanding ∧ t.tsm.restartPending = s.tsm.restartPending ∧
    t.freeCount = s.freeCount := by
  unfold poolAnswer
  split <;> simp
@[simp] theorem keeps_mgmtReply (h : MgmtHead) (result : MgmtResult) (details : MgmtDetails) (s : State) :
    let t := mgmtReply h result details s
    t.sli.passage = s.sli.passage ∧ t.sli.silence = s.sli.silence ∧ t.sli.silentMark = s.sli.silentMark ∧
    t.ylc = s.ylc ∧ t.frt = s.frt ∧ t.sbu = s.sbu ∧ t.rdu = s.rdu ∧ t.ale = s.ale ∧ t.rsu = s.rsu ∧
    t.stp = s.stp ∧ t.tsm.store = s.tsm.store ∧ t.tsm.active = s.tsm.active ∧ t.tsm.settings = s.tsm.settings ∧
    t.tsm.code = s.tsm.code ∧ t.tsm.staged = s.tsm.staged ∧ t.tsm.staging = s.tsm.staging ∧
    t.tsm.write = s.tsm.write ∧ t.tsm.waiting = s.tsm.waiting ∧ t.tsm.op = s.tsm.op ∧
    t.tsm.silenceStanding = s.tsm.silenceStanding ∧ t.tsm.restartPending = s.tsm.restartPending ∧
    t.freeCount = s.freeCount := by
  simp [mgmtReply]
@[simp] theorem keeps_answer (h : MgmtHead) (result : MgmtResult) (details : MgmtDetails) (s : State) :
    let t := answer h result details s
    t.sli.passage = s.sli.passage ∧ t.sli.silence = s.sli.silence ∧ t.sli.silentMark = s.sli.silentMark ∧
    t.ylc = s.ylc ∧ t.frt = s.frt ∧ t.sbu = s.sbu ∧ t.rdu = s.rdu ∧ t.ale = s.ale ∧ t.rsu = s.rsu ∧
    t.stp = s.stp ∧ t.tsm.store = s.tsm.store ∧ t.tsm.active = s.tsm.active ∧ t.tsm.settings = s.tsm.settings ∧
    t.tsm.code = s.tsm.code ∧ t.tsm.staged = s.tsm.staged ∧ t.tsm.staging = s.tsm.staging ∧
    t.tsm.write = s.tsm.write ∧ t.tsm.waiting = s.tsm.waiting ∧ t.tsm.op = s.tsm.op ∧
    t.tsm.silenceStanding = s.tsm.silenceStanding ∧ t.tsm.restartPending = s.tsm.restartPending ∧
    t.freeCount = s.freeCount := by
  unfold answer
  split <;> simp
@[simp] theorem keeps_markIncomplete (job : WriteJob) (s : State) : let t := markIncomplete job s
    t.sli = s.sli ∧ t.ylc = s.ylc ∧ t.frt = s.frt ∧ t.sbu = s.sbu ∧ t.rdu = s.rdu ∧ t.ale = s.ale ∧
    t.rsu = s.rsu ∧ t.stp = s.stp ∧ t.tsm.active = s.tsm.active ∧ t.tsm.settings = s.tsm.settings ∧
    t.tsm.code = s.tsm.code ∧ t.tsm.staged = s.tsm.staged ∧ t.tsm.staging = s.tsm.staging ∧
    t.tsm.write = s.tsm.write ∧ t.tsm.waiting = s.tsm.waiting ∧ t.tsm.op = s.tsm.op ∧
    t.tsm.silenceStanding = s.tsm.silenceStanding ∧ t.tsm.restartPending = s.tsm.restartPending ∧
    t.freeCount = s.freeCount := by
  unfold markIncomplete
  split <;> simp
@[simp] theorem keeps_beginWrite (h : MgmtHead) (job : WriteJob) (s : State) : let t := beginWrite h job s
    t.sli = s.sli ∧ t.ylc = s.ylc ∧ t.frt = s.frt ∧ t.sbu = s.sbu ∧ t.rdu = s.rdu ∧ t.ale = s.ale ∧
    t.rsu = s.rsu ∧ t.stp = s.stp ∧ t.tsm.active = s.tsm.active ∧ t.tsm.settings = s.tsm.settings ∧
    t.tsm.code = s.tsm.code ∧ t.tsm.staged = s.tsm.staged ∧ t.tsm.staging = s.tsm.staging ∧
    t.tsm.waiting = s.tsm.waiting ∧ t.tsm.op = s.tsm.op ∧ t.tsm.silenceStanding = s.tsm.silenceStanding ∧
    t.tsm.restartPending = s.tsm.restartPending ∧ t.freeCount = s.freeCount := by
  simp [beginWrite]
@[simp] theorem keeps_storeWritten (job : WriteJob) (s : State) : let t := storeWritten job s
    t.sli = s.sli ∧ t.ylc = s.ylc ∧ t.frt = s.frt ∧ t.sbu = s.sbu ∧ t.rdu = s.rdu ∧ t.ale = s.ale ∧
    t.rsu = s.rsu ∧ t.stp = s.stp ∧ t.tsm.active = s.tsm.active ∧ t.tsm.settings = s.tsm.settings ∧
    t.tsm.staged = s.tsm.staged ∧ t.tsm.staging = s.tsm.staging ∧ t.tsm.write = s.tsm.write ∧
    t.tsm.waiting = s.tsm.waiting ∧ t.tsm.op = s.tsm.op ∧ t.tsm.silenceStanding = s.tsm.silenceStanding ∧
    t.tsm.restartPending = s.tsm.restartPending ∧ t.freeCount = s.freeCount := by
  unfold storeWritten
  split <;> simp
@[simp] theorem keeps_storeFaulted (job : WriteJob) (s : State) : let t := storeFaulted job s
    t.sli = s.sli ∧ t.ylc = s.ylc ∧ t.frt = s.frt ∧ t.sbu = s.sbu ∧ t.rdu = s.rdu ∧ t.ale = s.ale ∧
    t.rsu = s.rsu ∧ t.stp = s.stp ∧ t.tsm.active = s.tsm.active ∧ t.tsm.settings = s.tsm.settings ∧
    t.tsm.code = s.tsm.code ∧ t.tsm.staged = s.tsm.staged ∧ t.tsm.staging = s.tsm.staging ∧
    t.tsm.write = s.tsm.write ∧ t.tsm.waiting = s.tsm.waiting ∧ t.tsm.op = s.tsm.op ∧
    t.tsm.silenceStanding = s.tsm.silenceStanding ∧ t.tsm.restartPending = s.tsm.restartPending ∧
    t.freeCount = s.freeCount := by
  unfold storeFaulted
  split <;> simp
@[simp] theorem keeps_readyAfter (job : WriteJob) (written : Bool) (s : State) : let t := readyAfter job written s
    t.sli = s.sli ∧ t.ylc = s.ylc ∧ t.frt = s.frt ∧ t.sbu = s.sbu ∧ t.rdu = s.rdu ∧ t.ale = s.ale ∧
    t.rsu = s.rsu ∧ t.stp = s.stp ∧ t.tsm.store = s.tsm.store ∧ t.tsm.active = s.tsm.active ∧
    t.tsm.settings = s.tsm.settings ∧ t.tsm.code = s.tsm.code ∧ t.tsm.staged = s.tsm.staged ∧
    t.tsm.staging = s.tsm.staging ∧ t.tsm.write = s.tsm.write ∧ t.tsm.op = s.tsm.op ∧
    t.tsm.silenceStanding = s.tsm.silenceStanding ∧ t.tsm.restartPending = s.tsm.restartPending ∧
    t.freeCount = s.freeCount := by
  unfold readyAfter
  (repeat' split) <;> simp
@[simp] theorem keeps_applyIfIdle (s : State) : let t := applyIfIdle s
    t.sli.silence = s.sli.silence ∧ t.sli.silentMark = s.sli.silentMark ∧ t.ylc.roundTimer = s.ylc.roundTimer ∧
    t.ylc.fwdQ = s.ylc.fwdQ ∧
    t.sbu.age = s.sbu.age ∧ t.sbu.ambient = s.sbu.ambient ∧ t.rdu.clock = s.rdu.clock ∧
    t.rsu.slot = s.rsu.slot ∧ t.rsu.highId = s.rsu.highId ∧
    t.rsu.lastReply = s.rsu.lastReply ∧ t.tsm.store = s.tsm.store ∧ t.tsm.code = s.tsm.code ∧
    t.tsm.staged = s.tsm.staged ∧ t.tsm.staging = s.tsm.staging ∧ t.tsm.write = s.tsm.write ∧
    t.tsm.silenceStanding = s.tsm.silenceStanding ∧ t.tsm.restartPending = s.tsm.restartPending ∧
    t.freeCount = s.freeCount := by
  unfold applyIfIdle
  split <;> simp
@[simp] theorem keeps_endWrite (written : Bool) (s : State) : let t := endWrite written s
    t.sli.silence = s.sli.silence ∧ t.sli.silentMark = s.sli.silentMark ∧ t.ylc.roundTimer = s.ylc.roundTimer ∧
    t.ylc.fwdQ = s.ylc.fwdQ ∧
    t.sbu.age = s.sbu.age ∧ t.sbu.ambient = s.sbu.ambient ∧ t.rdu.clock = s.rdu.clock ∧
    t.rsu.slot = s.rsu.slot ∧ t.rsu.highId = s.rsu.highId ∧
    t.rsu.lastReply = s.rsu.lastReply ∧ t.tsm.staged = s.tsm.staged ∧ t.tsm.staging = s.tsm.staging ∧
    t.tsm.silenceStanding = s.tsm.silenceStanding ∧ t.tsm.restartPending = s.tsm.restartPending ∧
    t.freeCount = s.freeCount := by
  unfold endWrite
  (repeat' split) <;> simp
@[simp] theorem keeps_stageRow (g : Segment) (i : Nat) (r : Row) (s : State) : let t := stageRow g i r s
    t.sli = s.sli ∧ t.ylc = s.ylc ∧ t.frt = s.frt ∧ t.sbu = s.sbu ∧ t.rdu = s.rdu ∧ t.ale = s.ale ∧
    t.rsu = s.rsu ∧ t.stp = s.stp ∧ t.tsm.store = s.tsm.store ∧ t.tsm.active = s.tsm.active ∧
    t.tsm.settings = s.tsm.settings ∧ t.tsm.code = s.tsm.code ∧ t.tsm.write = s.tsm.write ∧
    t.tsm.waiting = s.tsm.waiting ∧ t.tsm.op = s.tsm.op ∧ t.tsm.silenceStanding = s.tsm.silenceStanding ∧
    t.tsm.restartPending = s.tsm.restartPending ∧ t.freeCount = s.freeCount := by
  simp [stageRow]
@[simp] theorem keeps_clearStaging (s : State) : let t := clearStaging s
    t.sli = s.sli ∧ t.ylc = s.ylc ∧ t.frt = s.frt ∧ t.sbu = s.sbu ∧ t.rdu = s.rdu ∧ t.ale = s.ale ∧
    t.rsu = s.rsu ∧ t.stp = s.stp ∧ t.tsm.store = s.tsm.store ∧ t.tsm.active = s.tsm.active ∧
    t.tsm.settings = s.tsm.settings ∧ t.tsm.code = s.tsm.code ∧ t.tsm.write = s.tsm.write ∧
    t.tsm.waiting = s.tsm.waiting ∧ t.tsm.op = s.tsm.op ∧ t.tsm.silenceStanding = s.tsm.silenceStanding ∧
    t.tsm.restartPending = s.tsm.restartPending ∧ t.freeCount = s.freeCount := by
  simp [clearStaging]
@[simp] theorem keeps_rejudge (legNo : Nat) (s : State) : let t := rejudge legNo s
    t.sli.passage = s.sli.passage ∧ t.sli.silence = s.sli.silence ∧ t.sli.silentMark = s.sli.silentMark ∧
    t.ylc = s.ylc ∧ t.frt = s.frt ∧ t.sbu = s.sbu ∧ t.rdu.clock = s.rdu.clock ∧ t.ale = s.ale ∧ t.rsu = s.rsu ∧
    t.stp = s.stp ∧ t.tsm.store = s.tsm.store ∧ t.tsm.active = s.tsm.active ∧ t.tsm.settings = s.tsm.settings ∧
    t.tsm.code = s.tsm.code ∧ t.tsm.staged = s.tsm.staged ∧ t.tsm.staging = s.tsm.staging ∧
    t.tsm.write = s.tsm.write ∧ t.tsm.waiting = s.tsm.waiting ∧ t.tsm.op = s.tsm.op ∧
    t.tsm.silenceStanding = s.tsm.silenceStanding ∧ t.tsm.restartPending = s.tsm.restartPending ∧
    t.freeCount = s.freeCount := by
  unfold rejudge
  dsimp only
  (repeat' split) <;> simp
@[simp] theorem keeps_substitute (legNo : Nat) (bus : Option Nat) (s : State) : let t := substitute legNo bus s
    t.sli.passage = s.sli.passage ∧ t.sli.silence = s.sli.silence ∧ t.sli.silentMark = s.sli.silentMark ∧
    t.ylc = s.ylc ∧ t.frt = s.frt ∧ t.sbu = s.sbu ∧ t.rdu.clock = s.rdu.clock ∧ t.ale = s.ale ∧ t.rsu = s.rsu ∧
    t.stp = s.stp ∧ t.tsm.store = s.tsm.store ∧ t.tsm.active = s.tsm.active ∧ t.tsm.settings = s.tsm.settings ∧
    t.tsm.code = s.tsm.code ∧ t.tsm.staged = s.tsm.staged ∧ t.tsm.staging = s.tsm.staging ∧
    t.tsm.write = s.tsm.write ∧ t.tsm.waiting = s.tsm.waiting ∧ t.tsm.op = s.tsm.op ∧
    t.tsm.silenceStanding = s.tsm.silenceStanding ∧ t.tsm.restartPending = s.tsm.restartPending ∧
    t.freeCount = s.freeCount := by
  unfold substitute
  dsimp only
  split <;> simp

end Sys2Proof.Machine
end

