-- ==== Sys2Proof/Laws/Completion.lean ====
section
/-! SUPPORT. What the parts of a pass completion leave: RDU's (R86, R88, R89), STP's (R160, R161, R166) and RSU's
(R133 to R136, R148, R152). -/

namespace Sys2Proof.Machine

set_option Elab.async false

/-- A bus record but for the readiness fields that RDU writes at a completion (R89). -/
def Bus.bare (b : Bus) : Bus :=
  { b with nextLeg := none, nextDay := none, floor := 0, dischargeFloor := 0, verdict := .unknown }

/-- A leg but for its two markers (R86, R88). -/
def Leg.bare (l : Leg) : RouteRow × Option Nat × LegOutcome := (l.row, l.substitute, l.outcome)

/-- TSM but for the flag that a drop of the outbound queue sets (R180). -/
def Tsm.quiet (t : Tsm) : Tsm := { t with outOverflow := false }

@[simp] theorem quiet_putOut (m : OutMsg) (s : State) : (putOut m s).tsm.quiet = s.tsm.quiet := by
  simp only [putOut, countDrop, modSli, modTsm]; split <;> rfl
@[simp] theorem quiet_reportOverflow (s : State) : (reportOverflow s).tsm.quiet = s.tsm.quiet := by
  unfold reportOverflow; (repeat' split) <;> simp
@[simp] theorem quiet_reportWaiting (w : Bool) (s : State) : (reportWaiting w s).tsm.quiet = s.tsm.quiet := by
  unfold reportWaiting; split <;> simp
@[simp] theorem quiet_placeFreed (w : Bool) (s : State) : (placeFreed w s).tsm.quiet = s.tsm.quiet := by
  unfold placeFreed; (repeat' split) <;> simp
@[simp] theorem quiet_trySend (s : State) : (trySend s).tsm.quiet = s.tsm.quiet := by
  unfold trySend; (repeat' split) <;> simp [beginSend]
@[simp] theorem quiet_queueOut (m : OutMsg) (s : State) : (queueOut m s).tsm.quiet = s.tsm.quiet := by simp [queueOut]
@[simp] theorem quiet_notice (n : Notice) (s : State) : (notice n s).tsm.quiet = s.tsm.quiet := by simp [notice]

theorem Tsm.eq_of_quiet {t u : Tsm} (h : t.quiet = u.quiet) : t = { u with outOverflow := t.outOverflow } := by
  cases t; cases u; simpa [Tsm.quiet] using h

/-- All that RDU's part of a completion leaves: every block but SLI, TSM's overflow flag, the markers of the legs and the
readiness fields of the buses. -/
def readinessFrame (s : State) : State :=
  { s with
    sli := State.reset.sli, tsm := s.tsm.quiet
    rdu := { s.rdu with legs := [] }, frt := { s.frt with buses := s.frt.buses.map Bus.bare } }

/-- The supply and the queue of commands stay where a step keeps them. -/
theorem power_pending_of_still {s t : State} (h : still t = still s) : t.power = s.power ∧ t.pending = s.pending := by
  simp only [still, Prod.mk.injEq] at h
  exact ⟨h.1, h.2.1⟩

@[simp] theorem readinessFrame_queueOut (m : OutMsg) (s : State) : readinessFrame (queueOut m s) = readinessFrame s := by
  simp [readinessFrame, power_pending_of_still (still_queueOut m s)]
@[simp] theorem readinessFrame_notice (n : Notice) (s : State) : readinessFrame (notice n s) = readinessFrame s := by
  simp [notice]
@[simp] theorem readinessFrame_updLeg (n : Nat) (f : Leg → Leg) (s : State) :
    readinessFrame (updLeg n f s) = readinessFrame s := by
  simp [readinessFrame, updLeg, modRdu]
@[simp] theorem readinessFrame_reviewLegs (s : State) : readinessFrame (reviewLegs s) = readinessFrame s := by
  unfold reviewLegs
  split
  · apply foldl_keeps
    intro s l
    unfold reviewLeg; (repeat' split) <;> simp
  · rfl
@[simp] theorem readinessFrame_reviewInfeasible (b : Bus) (next : Option NextLeg) (s : State) :
    readinessFrame (reviewInfeasible b next s) = readinessFrame s := by
  unfold reviewInfeasible; (repeat' split) <;> simp
theorem readinessFrame_updBus (k : Nat) (f : Bus → Bus) (s : State) (h : ∀ b, (f b).bare = b.bare) :
    readinessFrame (updBus k f s) = readinessFrame s := by
  have : (s.frt.buses.modify k f).map Bus.bare = s.frt.buses.map Bus.bare := by
    apply List.ext_getElem?
    intro i
    simp only [List.getElem?_map, List.getElem?_modify]
    split <;> cases s.frt.buses[i]? <;> simp [h]
  simp [readinessFrame, updBus, modFrt, this]
@[simp] theorem readinessFrame_writeReadiness (k : Nat) (s : State) :
    readinessFrame (writeReadiness k s) = readinessFrame s := by
  unfold writeReadiness
  dsimp only
  split
  · rfl
  · split
    · refine (readinessFrame_updBus k _ _ ?_).trans ?_
      · intro b; rfl
      · simp
    · unfold queueReadiness
      split
      · refine (readinessFrame_updBus k _ _ ?_).trans ?_
        · intro b; rfl
        · simp
      · rw [readinessFrame_queueOut]
        refine (readinessFrame_updBus k _ _ ?_).trans ?_
        · intro b; rfl
        · simp
/-- RDU's part of a completion writes the legs' markers and the buses' readiness fields, and queues telegrams. -/
theorem readinessFrame_completeReadiness (s : State) : readinessFrame (completeReadiness s) = readinessFrame s := by
  unfold completeReadiness
  rw [foldl_keeps readinessFrame _ (fun s k => readinessFrame_writeReadiness k s), readinessFrame_reviewLegs]

/-! ### The legs -/

theorem bareLegs_updLeg (n : Nat) (f : Leg → Leg) (s : State) (h : ∀ l, (f l).bare = l.bare) :
    (updLeg n f s).rdu.legs.map Leg.bare = s.rdu.legs.map Leg.bare := by
  simp only [updLeg, modRdu, List.map_map]
  apply List.map_congr_left
  intro l _
  simp only [Function.comp]
  split <;> simp [h]
@[simp] theorem bareLegs_reviewLeg (l : Leg) (s : State) : (reviewLeg l s).rdu.legs.map Leg.bare = s.rdu.legs.map Leg.bare := by
  unfold reviewLeg
  (repeat' split) <;> first | rfl | exact bareLegs_updLeg _ _ _ (fun _ => rfl) | skip
  rw [(keeps_notice _ _).2.2.2.2.2.2.1]
  exact bareLegs_updLeg _ _ _ (fun _ => rfl)
@[simp] theorem bareLegs_reviewInfeasible (b : Bus) (next : Option NextLeg) (s : State) :
    (reviewInfeasible b next s).rdu.legs.map Leg.bare = s.rdu.legs.map Leg.bare := by
  unfold reviewInfeasible
  (repeat' split) <;> first | rfl | exact bareLegs_updLeg _ _ _ (fun _ => rfl) | skip
  rw [(keeps_notice _ _).2.2.2.2.2.2.1]
  exact bareLegs_updLeg _ _ _ (fun _ => rfl)
@[simp] theorem bareLegs_writeReadiness (k : Nat) (s : State) :
    (writeReadiness k s).rdu.legs.map Leg.bare = s.rdu.legs.map Leg.bare := by
  unfold writeReadiness
  dsimp only
  split
  · rfl
  · split <;> simp
/-- A completion writes no more of a leg than its markers. -/
theorem bareLegs_completeReadiness (s : State) :
    (completeReadiness s).rdu.legs.map Leg.bare = s.rdu.legs.map Leg.bare := by
  unfold completeReadiness
  rw [foldl_keeps (fun s => s.rdu.legs.map Leg.bare) _ (fun s k => bareLegs_writeReadiness k s)]
  unfold reviewLegs
  split
  · exact foldl_keeps (fun s => s.rdu.legs.map Leg.bare) _ (fun s l => bareLegs_reviewLeg l s) _ _
  · rfl

/-- What RDU's part of a completion leaves, block by block. -/
theorem completeReadiness_leaves (s : State) : let t := completeReadiness s
    t.frt.buses.map Bus.bare = s.frt.buses.map Bus.bare ∧ t.frt.posts = s.frt.posts ∧ t.frt.plugQ = s.frt.plugQ ∧
    t.frt.tagMap = s.frt.tagMap ∧ t.ylc = s.ylc ∧ t.sbu = s.sbu ∧ t.ale = s.ale ∧ t.rsu = s.rsu ∧ t.stp = s.stp ∧
    t.rdu = { s.rdu with legs := t.rdu.legs } ∧ t.tsm = { s.tsm with outOverflow := t.tsm.outOverflow } ∧
    t.freeCount = s.freeCount := by
  have h := readinessFrame_completeReadiness s
  generalize completeReadiness s = t at h ⊢
  simp only [readinessFrame, State.mk.injEq, Frt.mk.injEq, Rdu.mk.injEq] at h
  obtain ⟨-, -, hy, ⟨hb, hm, hp, hq⟩, hs, ⟨hc, -, hl, ho⟩, ha, hr, hst, ht, hf, -⟩ := h
  refine ⟨hb, ?_, ?_, ?_, hy, hs, ha, hr, hst, ?_, Tsm.eq_of_quiet ht, hf⟩
  · assumption
  · assumption
  · assumption
  · show (⟨t.rdu.clock, t.rdu.legs, t.rdu.list, t.rdu.lastOutcomes⟩ : Rdu) =
      ⟨s.rdu.clock, t.rdu.legs, s.rdu.list, s.rdu.lastOutcomes⟩
    rw [hc, hl, ho]

/-! ### The classes (R160, R161) -/

/-- A bus record but for its discharge floor. -/
def Bus.unfloored (b : Bus) : Bus := { b with dischargeFloor := 0 }

theorem busAt_unfloored {s t : State} (h : t.frt.buses.map Bus.unfloored = s.frt.buses.map Bus.unfloored) (k : Nat) :
    (busAt t k).map Bus.unfloored = (busAt s k).map Bus.unfloored := by
  have := congrArg (fun l => l[k]?) h
  simpa [busAt] using this

theorem slotOf_unfloored {s t : State} (h : t.frt.buses.map Bus.unfloored = s.frt.buses.map Bus.unfloored) (n : Nat) :
    slotOf t n = slotOf s n := by
  have (l : List Bus) : l.findIdx? (fun b => b.fleetNo = n) = (l.map Bus.unfloored).findIdx? (fun b => b.fleetNo = n) := by
    rw [List.findIdx?_map]; rfl
  unfold slotOf
  rw [this t.frt.buses, h, ← this]

theorem legSlot_unfloored {s t : State} (h : t.frt.buses.map Bus.unfloored = s.frt.buses.map Bus.unfloored) (l : Leg) :
    legSlot t l = legSlot s l := by
  have hs := slotOf_unfloored h
  have hu : unassignedReason t l = unassignedReason s l := by
    unfold unassignedReason
    split
    · rfl
    · rename_i n _
      rw [hs n]
      cases slotOf s n with
      | none => rfl
      | some k =>
        have hk := busAt_unfloored h k
        simp only [Option.bind_some]
        cases hb : busAt s k <;> cases ht : busAt t k <;> simp_all [Bus.unfloored]
  unfold legSlot
  rw [hu]
  simp [hs]

/-- The parked class reads the season, the legs, the clock, and of the buses all but the discharge floor. -/
theorem parkedClass_unfloored {s t : State} (h : t.frt.buses.map Bus.unfloored = s.frt.buses.map Bus.unfloored)
    (hr : t.rdu = s.rdu) (hs : t.stp.season = s.stp.season) (k : Nat) {b c : Bus} (hb : b.unfloored = c.unfloored) :
    parkedClass t k b = parkedClass s k c := by
  have hl := legSlot_unfloored h
  have h1 : b.state = c.state ∧ b.cls = c.cls ∧ b.nextLeg = c.nextLeg := by
    simp only [Bus.unfloored, Bus.mk.injEq] at hb; simp [hb]
  unfold parkedClass recordedLeg
  rw [h1.1, h1.2.1, h1.2.2, hr]
  split
  · rfl
  · split
    · rfl
    · cases c.nextLeg.bind (findLeg s.rdu.legs) with
      | none => rfl
      | some l => simp [recessParked, hr, hs, hl]

/-- The entry of a slot after the classes of the slots below `n` have been written. -/
def classed (s : State) (n k : Nat) (e : StorageEntry) : StorageEntry :=
  match busAt s k with
  | none => e
  | some b => if k < n then { e with cls := parkedClass s k b } else e

theorem classify_range (s : State) (n : Nat) (hn : n ≤ s.frt.buses.length) :
    let t := (List.range n).foldl (fun s k => classify k s) s
    t.frt.buses.map Bus.unfloored = s.frt.buses.map Bus.unfloored ∧
    t = { s with frt := { s.frt with buses := t.frt.buses },
                 stp := { s.stp with table := s.stp.table.mapIdx (classed s n) } } := by
  induction n with
  | zero =>
    refine ⟨rfl, ?_⟩
    have : s.stp.table.mapIdx (classed s 0) = s.stp.table := by
      apply List.ext_getElem?
      intro i
      rw [List.getElem?_mapIdx]
      cases s.stp.table[i]? with
      | none => rfl
      | some e => simp only [Option.map_some, classed]; split <;> simp
    simp [this]
  | succ n ih =>
    obtain ⟨hb, ht⟩ := ih (by omega)
    rw [List.range_succ, List.foldl_append]
    generalize (List.range n).foldl (fun s k => classify k s) s = t at hb ht
    simp only [List.foldl_cons, List.foldl_nil]
    obtain ⟨b, hbn⟩ : ∃ b, busAt s n = some b := ⟨_, List.getElem?_eq_getElem (by omega)⟩
    have hk := busAt_unfloored hb n
    rw [hbn] at hk
    obtain ⟨c, hc, hcu⟩ := Option.map_eq_some_iff.1 hk
    have hp : parkedClass t n c = parkedClass s n b :=
      parkedClass_unfloored hb (by rw [ht]) (by rw [ht]) n hcu
    have htab : t.stp.table.modify n (fun e => { e with cls := parkedClass s n b }) = s.stp.table.mapIdx (classed s (n + 1)) := by
      rw [ht]
      apply List.ext_getElem?
      intro i
      simp only [List.getElem?_modify, List.getElem?_mapIdx]
      cases s.stp.table[i]? with
      | none => simp
      | some e =>
        by_cases hi : n = i
        · subst hi; simp [classed, hbn]
        · simp only [if_neg hi, Option.map_some]
          unfold classed
          cases busAt s i with
          | none => rfl
          | some x => have : i < n + 1 ↔ i < n := by omega
                      simp [this]
    unfold classify
    rw [hc]
    simp only [hp]
    have hf : ∀ f : Bus → Bus, (∀ x, (f x).unfloored = x.unfloored) →
        (t.frt.buses.modify n f).map Bus.unfloored = s.frt.buses.map Bus.unfloored := by
      intro f hf
      rw [← hb]
      apply List.ext_getElem?
      intro i
      simp only [List.getElem?_map, List.getElem?_modify]
      split <;> cases t.frt.buses[i]? <;> simp [hf]
    split
    · refine ⟨by simpa using hb, ?_⟩
      simp only [modStp, htab]
      rw [ht]
    · refine ⟨?_, ?_⟩
      · refine hf _ ?_
        intro b; rfl
      · simp only [updBus, modStp, modFrt, htab]
        rw [ht]

/-- The view reads the tables of FRT, YLC, ALE and STP, the settings and the clock. -/
theorem viewOf_same {s t : State} (f : PassFacts) (h1 : t.frt = s.frt) (h2 : t.ylc = s.ylc) (h3 : t.ale.tiers = s.ale.tiers)
    (h4 : t.stp.table = s.stp.table) (h5 : t.tsm.settings = s.tsm.settings) (h6 : t.rdu.clock = s.rdu.clock) :
    viewOf t f = viewOf s f := by
  have hb : busAt t = busAt s := by funext k; simp [busAt, h1]
  have hp : postAt t = postAt s := by funext p; simp [postAt, h1]
  have hc : cabAt t = cabAt s := by funext c; simp [cabAt, h2]
  have hst : storageAt t = storageAt s := by funext k; simp [storageAt, h4]
  have hpl : pluggedBus t = pluggedBus s := by funext p; simp [pluggedBus, hb, hp]
  have hsu : surplusAt t = surplusAt s := by funext p; simp [surplusAt, hb, hp]
  have hr : roomAt t = roomAt s := by funext p; simp [roomAt, hpl, hst]
  have het : eligibleBarTemp t f = eligibleBarTemp s f := by
    funext p; simp [eligibleBarTemp, testedPost, inQuiesce, hb, hp, hc, h3]
  have he : eligible t f = eligible s f := by funext p; simp [eligible, het, hp, h5]
  have hcx : coldExcluded t f = coldExcluded s f := by funext p; simp [coldExcluded, het, hp, h5]
  have hcl : clockReading t = clockReading s := by simp [clockReading, h6]
  simp [viewOf, hp, hst, hpl, hsu, hr, he, hcx, hcl, slots, h1]

/-- STP's part of a completion: the class of every occupied slot, the discharge floors of the buses, the view, and the
STORAGE left due. -/
theorem completeStorage_does (f : PassFacts) (s : State) :
    let t := completeStorage f s
    let v : State := { s with
      frt := { s.frt with buses := t.frt.buses }
      stp := { s.stp with
        table := s.stp.table.mapIdx (fun k e => match busAt t k with
          | none => e
          | some b => { e with cls := parkedClass t k b })
        viewDue := false, view := some (viewOf t f) } }
    t.frt.buses.map Bus.unfloored = s.frt.buses.map Bus.unfloored ∧
    t = if s.stp.viewDue then queueStorage v else v := by
  obtain ⟨hb, ht⟩ := classify_range s s.frt.buses.length (Nat.le_refl _)
  unfold completeStorage slots
  generalize (List.range s.frt.buses.length).foldl (fun s k => classify k s) s = u at hb ht
  dsimp only
  have key : ∀ t : State, t.frt = u.frt → t.rdu = u.rdu → t.stp.season = u.stp.season →
      s.stp.table.mapIdx (fun k e => match busAt t k with
          | none => e
          | some b => { e with cls := parkedClass t k b }) = u.stp.table := by
    intro t h1 h2 h3
    rw [ht]
    apply List.ext_getElem?
    intro i
    simp only [List.getElem?_mapIdx]
    cases s.stp.table[i]? with
    | none => rfl
    | some e =>
      simp only [Option.map_some, classed]
      have hbt : t.frt.buses.map Bus.unfloored = s.frt.buses.map Bus.unfloored := by rw [h1, hb]
      have hk := busAt_unfloored hbt i
      cases hi : busAt s i with
      | none =>
        rw [hi] at hk
        have : busAt t i = none := by simpa using hk
        simp [this]
      | some b =>
        rw [hi] at hk
        obtain ⟨c, hc, hcu⟩ := Option.map_eq_some_iff.1 hk
        have hlt : i < s.frt.buses.length := by
          have := hi; unfold busAt at this
          exact (List.getElem?_eq_some_iff.1 this).1
        rw [hc]
        simp only [hlt, if_true]
        rw [parkedClass_unfloored hbt (by rw [h2, ht]) (by rw [h3, ht]) i hcu]
  have whole : ∀ t : State, t.frt = u.frt → t.ylc = u.ylc → t.rdu = u.rdu → t.ale = u.ale → t.stp.table = u.stp.table →
      t.stp.season = u.stp.season → t.tsm.settings = u.tsm.settings →
      ({ s with
        frt := { s.frt with buses := t.frt.buses }
        stp := { s.stp with
          table := s.stp.table.mapIdx (fun k e => match busAt t k with
            | none => e
            | some b => { e with cls := parkedClass t k b })
          viewDue := false, view := some (viewOf t f) } } : State) =
      modStp (fun x => { x with viewDue := false, view := some (viewOf u f) }) u := by
    intro t h1 h2 h3 h4 h5 h6 h7
    rw [key t h1 h3 h6, viewOf_same (s := u) f h1 h2 (by rw [h4]) h5 h7 (by rw [h3]), h1]
    generalize viewOf u f = view
    rw [ht]
    rfl
  have hd' : u.stp.viewDue = s.stp.viewDue := by rw [ht]
  have hw : (modStp (fun x => { x with viewDue := false }) (modStp (fun x => { x with view := some (viewOf u f) }) u)) =
      modStp (fun x => { x with viewDue := false, view := some (viewOf u f) }) u := rfl
  rw [hw]
  simp only [modStp_stp, hd']
  cases hd : s.stp.viewDue with
  | false =>
    simp only [Bool.false_eq_true, if_false]
    refine ⟨hb, ?_⟩
    rw [whole] <;> try rfl
    show modStp _ u = modStp _ u
    have : ∀ x : Stp, x = u.stp → ({ x with view := some (viewOf u f) } : Stp) = { x with viewDue := false, view := some (viewOf u f) } := by
      rintro x rfl; rw [← hd, ← hd']
    simp only [modStp, this _ rfl]
  | true =>
    simp only [if_true]
    have hq := keeps_queueStorage (modStp (fun t => { t with viewDue := false, view := some (viewOf u f) }) u)
    refine ⟨by rw [hq.2.2.2.2.1]; exact hb, ?_⟩
    rw [whole] <;> first | rfl | simp

/-! ### Capability, sides, accumulator (R133 to R136, R148, R152) -/

/-- The UP capability reads the tables of FRT, YLC and ALE, the settings and the clock. -/
theorem upCapability_same {s t : State} (f : PassFacts) (h1 : t.frt = s.frt) (h2 : t.ylc = s.ylc)
    (h3 : t.ale.tiers = s.ale.tiers) (h5 : t.tsm.settings = s.tsm.settings) (h6 : t.rdu.clock = s.rdu.clock) :
    upCapability t f = upCapability s f := by
  have hb : busAt t = busAt s := by funext k; simp [busAt, h1]
  have hp : postAt t = postAt s := by funext p; simp [postAt, h1]
  have hc : cabAt t = cabAt s := by funext c; simp [cabAt, h2]
  have hsu : surplusAt t = surplusAt s := by funext p; simp [surplusAt, hb, hp]
  have het : eligibleBarTemp t f = eligibleBarTemp s f := by
    funext p; simp [eligibleBarTemp, testedPost, inQuiesce, hb, hp, hc, h3]
  have he : eligible t f = eligible s f := by funext p; simp [eligible, het, hp, h5]
  have hcb : capabilityBound t = capabilityBound s := by funext p; simp [capabilityBound, hp, hsu, slotLeft, h6]
  simp [upCapability, curtailable, hp, h3, he, hcb]

theorem limitInForce_same {s t : State} (h1 : t.sbu = s.sbu) (h2 : t.tsm.settings = s.tsm.settings) :
    limitInForce t = limitInForce s := by
  simp [limitInForce, h1, h2]

theorem fSite_same {s t : State} (h1 : t.frt = s.frt) (h2 : t.ylc = s.ylc) (h3 : t.sbu = s.sbu)
    (h4 : t.tsm.settings = s.tsm.settings) (h5 : t.tsm.op = s.tsm.op) : fSite t = fSite s := by
  have hp : postAt t = postAt s := by funext p; simp [postAt, h1]
  have hc : cabAt t = cabAt s := by funext c; simp [cabAt, h2]
  have hbu : buildingOr0 t = buildingOr0 s := by simp [buildingOr0, h3]
  have hst : chargeBackStands t = chargeBackStands s := by funext c; unfold chargeBackStands fallbackTicks; rw [h4]
  simp [fSite, limitInForce_same h3 h4, chargeBack, onFallback, hp, hc, hbu, hst, h3, h4, h5]

/-- The DOWN capability reads the tables of FRT and YLC, SBU, the storage table, the settings and the operating state. -/
theorem downCapability_same {s t : State} (f : PassFacts) (h1 : t.frt = s.frt) (h2 : t.ylc = s.ylc) (h3 : t.sbu = s.sbu)
    (h4 : t.tsm.settings = s.tsm.settings) (h5 : t.tsm.op = s.tsm.op) (h6 : t.stp.table = s.stp.table) :
    downCapability t f = downCapability s f := by
  have hb : busAt t = busAt s := by funext k; simp [busAt, h1]
  have hp : postAt t = postAt s := by funext p; simp [postAt, h1]
  have hst : storageAt t = storageAt s := by funext k; simp [storageAt, h6]
  have hpl : pluggedBus t = pluggedBus s := by funext p; simp [pluggedBus, hb, hp]
  have hr : hasRoom t = hasRoom s := by funext p; simp [hasRoom, hpl, hst]
  simp [downCapability, fSite_same h1 h2 h3 h4 h5, absorptionRoom, grantSum, hr, hp, h1]

/-- A compared side is the one that stands (R136). -/
theorem compareSides_does (s : State) :
    let t := compareSides s
    (s.rdu.clock.set = false ∨ s.rsu.slot = none → t = s) ∧
    (∀ k, s.rdu.clock.set = true → s.rsu.slot = some k →
      t = if s.rsu.upSide = some (sideOf s k .up) ∧ s.rsu.downSide = some (sideOf s k .down) then s
        else queueCapability k (recordSides k s)) := by
  refine ⟨?_, ?_⟩
  · rintro (h | h) <;> unfold compareSides <;> split <;> simp_all
  · intro k h1 h2
    unfold compareSides
    rw [h2]
    by_cases h : s.rsu.upSide = some (sideOf s k .up) <;> by_cases h' : s.rsu.downSide = some (sideOf s k .down) <;>
      simp [h1, h, h']

end Sys2Proof.Machine
end

