-- ==== Sys2Proof/Laws/Content.lean ====
section
/-! SUPPORT. What the content check of R191 asks: each row against its fields and the rows before it, and when two tariff
windows share a minute. -/

namespace Sys2Proof.Machine

/-- Of some checks none fails exactly where every one passes. -/
theorem firstFailing_eq_none (l : List (Bool × ContentReason)) : firstFailing l = none ↔ ∀ x ∈ l, x.1 = true := by
  induction l with
  | nil => simp [firstFailing]
  | cons x l ih =>
    obtain ⟨ok, why⟩ := x
    cases ok <;> simp [firstFailing, ih]

/-- The rows pass exactly where each passes against the rows before it, the latest first. -/
theorem checkRows_eq_none (g : Segment) (l : List Row) : ∀ (i : Nat) (before : List Row),
    checkRows g i before l = none ↔
      ∀ k r, l[k]? = some r → checkRow g ((l.take k).reverse ++ before) r = none := by
  induction l with
  | nil => intro i b; simp [checkRows]
  | cons x l ih =>
    intro i b
    rw [checkRows]
    constructor
    · intro h
      split at h
      · cases h
      · rename_i hx
        rw [ih] at h
        intro k r hk
        cases k with
        | zero => simp at hk; subst hk; simpa using hx
        | succ k => simpa using h k r (by simpa using hk)
    · intro h
      have h0 := h 0 x rfl
      simp only [List.take_zero, List.reverse_nil, List.nil_append] at h0
      rw [h0]
      simp only
      rw [ih]
      intro k r hk
      simpa using h (k + 1) r (by simpa using hk)

/-- A content is valid exactly where its rows pass, and a COMMITMENT has 48 of them. -/
theorem validate_eq_none (g : Segment) (l : List Row) :
    validate g l = none ↔ checkRows g 0 [] l = none ∧ (g = .commitment → l.length = 48) := by
  unfold validate
  split
  · rename_i f h; simp [h]
  · rename_i h; rw [h]; simp

/-- An element of the first rows stands at a place before theirs. -/
theorem mem_take_iff {α : Type} (l : List α) (k : Nat) (x : α) : x ∈ l.take k ↔ ∃ j, j < k ∧ l[j]? = some x := by
  rw [List.mem_iff_getElem?]
  constructor
  · rintro ⟨j, h⟩
    rw [List.getElem?_take] at h
    split at h
    · exact ⟨j, by assumption, h⟩
    · cases h
  · rintro ⟨j, hj, h⟩
    exact ⟨j, by rw [List.getElem?_take, if_pos hj, h]⟩

/-- A relation between each element and every later one, place by place. -/
theorem pairwise_iff_places {α : Type} (R : α → α → Prop) (l : List α) :
    l.Pairwise R ↔ ∀ (j k : Nat) x y, j < k → l[j]? = some x → l[k]? = some y → R x y := by
  rw [List.pairwise_iff_getElem]
  constructor
  · intro h j k x y hjk hx hy
    rw [List.getElem?_eq_some_iff] at hx hy
    obtain ⟨a, rfl⟩ := hx
    obtain ⟨b, rfl⟩ := hy
    exact h j k a b hjk
  · intro h i j hi hj hij
    exact h i j _ _ hij (List.getElem?_eq_getElem hi) (List.getElem?_eq_getElem hj)

@[simp] theorem fleetRows_map (l : List FleetRow) : fleetRows (l.map .fleet) = l := by
  simp [fleetRows, List.filterMap_map]
@[simp] theorem routeRows_map (l : List RouteRow) : routeRows (l.map .route) = l := by
  simp [routeRows, List.filterMap_map]
@[simp] theorem yardRows_map (l : List YardRow) : yardRows (l.map .yard) = l := by
  simp [yardRows, List.filterMap_map]
@[simp] theorem commitRows_map (l : List CommitRow) : commitRows (l.map .commitment) = l := by
  simp [commitRows, List.filterMap_map]
@[simp] theorem tariffRows_map (l : List TariffRow) : tariffRows (l.map .tariff) = l := by
  simp [tariffRows, List.filterMap_map]
@[simp] theorem passageRows_map (l : List PassageRow) : passageRows (l.map .passage) = l := by
  simp [passageRows, List.filterMap_map]

/-- A window covers a minute, for windows that are not empty. -/
theorem covers_iff (w : Window) (m : Nat) : w.covers m = true ↔
    (w.start < w.stop ∧ w.start ≤ m ∧ m < w.stop) ∨ (w.stop ≤ w.start ∧ (w.start ≤ m ∨ m < w.stop)) := by
  unfold Window.covers
  split <;> simp <;> omega

/-- Two windows share no minute of the day exactly where neither covers the other's start. -/
theorem covers_disjoint (a b : TariffRow) (ha : a.start ≤ 1439 ∧ a.stop ≤ 1439 ∧ a.stop ≠ a.start)
    (hb : b.start ≤ 1439 ∧ b.stop ≤ 1439 ∧ b.stop ≠ b.start) :
    ((windowOf a).covers b.start || (windowOf b).covers a.start) = false ↔
      ∀ m, m ≤ 1439 → ((windowOf a).covers m && (windowOf b).covers m) = false := by
  have ea : (windowOf a).start = a.start ∧ (windowOf a).stop = a.stop := ⟨rfl, rfl⟩
  have eb : (windowOf b).start = b.start ∧ (windowOf b).stop = b.stop := ⟨rfl, rfl⟩
  simp only [Bool.eq_false_iff, ne_eq, Bool.and_eq_true, Bool.or_eq_true, covers_iff, ea, eb]
  constructor
  · intro h m hm
    omega
  · intro h
    have h1 := h a.start ha.1
    have h2 := h b.start hb.1
    omega

end Sys2Proof.Machine
end

