-- ==== Sys2Proof/Laws/Links.lean ====
section
/-! SUPPORT. What the pairing of buses and posts rests on (R11), and the operations that leave all of it as it was. -/

namespace Sys2Proof.Machine

set_option Elab.async false

/-- All that the pairing of buses and posts rests on: the posts' bus fields, the buses' tags and posts, the tag map, the plug
events, the visit in progress, and the FLEET rows in the store, in a write and waiting. -/
def links (s : State) :
    (List (Option Nat) × List (List Byte × Option Nat) × List (List Byte × Nat)) ×
    (List PlugEvent × Round × StoredSeg × Option Write × List Activation) :=
  ((s.frt.posts.map Post.bus, s.frt.buses.map (fun b => (b.tag, b.post)), s.frt.tagMap),
   (s.frt.plugQ, s.ylc.round, s.tsm.store.fleet, s.tsm.write, s.tsm.waiting))

@[simp] theorem links_foldl {α : Type} (f : State → α → State) (l : List α) (s : State)
    (h : ∀ s a, links (f s a) = links s) : links (l.foldl f s) = links s := foldl_keeps links f h l s

@[simp] theorem links_modSli (f : Sli → Sli) (s : State) : links (modSli f s) = links s := rfl

@[simp] theorem links_modYlc (f : Ylc → Ylc) (s : State) (h : (f s.ylc).round = s.ylc.round) :
    links (modYlc f s) = links s := by simp [links, h]

@[simp] theorem links_modSbu (f : Sbu → Sbu) (s : State) : links (modSbu f s) = links s := rfl

@[simp] theorem links_modRdu (f : Rdu → Rdu) (s : State) : links (modRdu f s) = links s := rfl

@[simp] theorem links_modAle (f : Ale → Ale) (s : State) : links (modAle f s) = links s := rfl

@[simp] theorem links_modRsu (f : Rsu → Rsu) (s : State) : links (modRsu f s) = links s := rfl

@[simp] theorem links_modStp (f : Stp → Stp) (s : State) : links (modStp f s) = links s := rfl

@[simp] theorem links_modTsm (f : Tsm → Tsm) (s : State) (h1 : (f s.tsm).store.fleet = s.tsm.store.fleet)
    (h2 : (f s.tsm).write = s.tsm.write) (h3 : (f s.tsm).waiting = s.tsm.waiting) : links (modTsm f s) = links s := by
  simp [links, h1, h2, h3]

@[simp] theorem links_countFree (s : State) : links (countFree s) = links s := rfl

theorem map_modify_same {α β : Type} (g : α → β) (f : α → α) (h : ∀ a, g (f a) = g a) (l : List α) (i : Nat) :
    (l.modify i f).map g = l.map g := by
  apply List.ext_getElem?
  intro j
  simp only [List.getElem?_map, List.getElem?_modify]
  split <;> cases l[j]? <;> simp [h]

@[simp] theorem links_updPost (p : Nat) (f : Post → Post) (s : State) (h : ∀ q, (f q).bus = q.bus) :
    links (updPost p f s) = links s := by
  unfold updPost
  split
  · rfl
  · simp [links, modFrt, map_modify_same Post.bus f h]

@[simp] theorem links_mapPosts (f : Nat → Post → Post) (s : State) (h : ∀ p q, (f p q).bus = q.bus) :
    links (mapPosts f s) = links s := by
  have : (s.frt.posts.mapIdx (fun i q => f (i + 4) q)).map Post.bus = s.frt.posts.map Post.bus := by
    apply List.ext_getElem?
    intro j
    simp only [List.getElem?_map, List.getElem?_mapIdx]
    cases s.frt.posts[j]? <;> simp [h]
  simp [links, mapPosts, modFrt, this]

@[simp] theorem links_updBus (k : Nat) (f : Bus → Bus) (s : State) (h : ∀ b, (f b).tag = b.tag ∧ (f b).post = b.post) :
    links (updBus k f s) = links s := by
  have := map_modify_same (fun b : Bus => (b.tag, b.post)) f (fun b => by simp [h]) s.frt.buses k
  simp [links, updBus, modFrt, this]

@[simp] theorem links_updCab (c : Nat) (f : Cabinet → Cabinet) (s : State) : links (updCab c f s) = links s := by
  unfold updCab
  split <;> simp

@[simp] theorem links_updPool (c : Nat) (f : Sequencer → Sequencer) (s : State) :
    links (updPool c f s) = links s := by
  simp [updPool]

@[simp] theorem links_updLeg (n : Nat) (f : Leg → Leg) (s : State) : links (updLeg n f s) = links s := by
  simp [updLeg]

@[simp] theorem links_setLastOutcome (k : Nat) (l : LastOutcome) (s : State) :
    links (setLastOutcome k l s) = links s := by
  simp [setLastOutcome]

@[simp] theorem links_wantPass (s : State) : links (wantPass s) = links s := by
  unfold wantPass
  split <;> simp

@[simp] theorem links_countDrop (s : State) : links (countDrop s) = links s := by
  rfl

@[simp] theorem links_putOut (m : OutMsg) (s : State) : links (putOut m s) = links s := by
  unfold putOut
  split <;> simp

@[simp] theorem links_beginSend (m : OutMsg) (rest : List OutMsg) (s : State) :
    links (beginSend m rest s) = links s := by
  simp [beginSend]

@[simp] theorem links_reportOverflow (s : State) : links (reportOverflow s) = links s := by
  unfold reportOverflow
  (repeat' split) <;> simp

@[simp] theorem links_placeFreed (waited : Bool) (s : State) : links (placeFreed waited s) = links s := by
  unfold placeFreed
  (repeat' split) <;> simp
@[simp] theorem links_reportWaiting (waits : Bool) (s : State) : links (reportWaiting waits s) = links s := by
  unfold reportWaiting
  split <;> simp
@[simp] theorem links_trySend (s : State) : links (trySend s) = links s := by
  unfold trySend
  (repeat' split) <;> simp

@[simp] theorem links_queueOut (m : OutMsg) (s : State) : links (queueOut m s) = links s := by
  simp [queueOut]

@[simp] theorem links_notice (n : Notice) (s : State) : links (notice n s) = links s := by
  simp [notice]

@[simp] theorem links_evalTariff (s : State) : links (evalTariff s) = links s := by
  unfold evalTariff
  dsimp only
  (repeat' split) <;> simp

@[simp] theorem links_leaveRing (p : Nat) (s : State) : links (leaveRing p s) = links s := by
  simp [leaveRing]

@[simp] theorem links_setPostState (p : Nat) (st : PostState) (s : State) : links (setPostState p st s) = links s := by
  have h : ∀ q : Post, (q.enter st).bus = q.bus := fun _ => rfl
  unfold setPostState
  (repeat' split) <;> simp [h]

@[simp] theorem links_takeHeld (k p : Nat) (s : State) : links (takeHeld k p s) = links s := by
  unfold takeHeld
  split <;> simp

@[simp] theorem links_settle (p : Nat) (faultTest : Bool) (s : State) : links (settle p faultTest s) = links s := by
  simp [settle]

@[simp] theorem links_refeed (c i : Nat) (s : State) : links (refeed c i s) = links s := by
  unfold refeed
  dsimp only
  (repeat' split) <;> simp

@[simp] theorem links_refeedAll (c : Nat) (s : State) : links (refeedAll c s) = links s := by
  simp [refeedAll]

@[simp] theorem links_setModeInForce (c : Nat) (m : Option Mode) (s : State) :
    links (setModeInForce c m s) = links s := by
  unfold setModeInForce
  split <;> simp

@[simp] theorem links_queueReadiness (k : Nat) (s : State) : links (queueReadiness k s) = links s := by
  unfold queueReadiness
  split <;> simp

@[simp] theorem links_writeOutcome (legNo k : Nat) (o : LegOutcome) (s : State) :
    links (writeOutcome legNo k o s) = links s := by
  simp [writeOutcome]

@[simp] theorem links_dropEntry (legNo : Nat) (s : State) : links (dropEntry legNo s) = links s := by
  simp [dropEntry]

@[simp] theorem links_judgeDue (l : Leg) (s : State) : links (judgeDue l s).1 = links s := by
  unfold judgeDue
  dsimp only
  (repeat' split) <;> simp

@[simp] theorem links_closeLeg (l : Leg) (s : State) : links (closeLeg l s) = links s := by
  unfold closeLeg
  (repeat' split) <;> simp

@[simp] theorem links_refillFrom (e : Bool) (l : List Leg) (s : State) : links (refillFrom e l s) = links s := by
  induction l generalizing s with
  | nil => rfl
  | cons a l ih =>
    unfold refillFrom
    dsimp only
    (repeat' split) <;> simp [ih]

@[simp] theorem links_leaveList (endOfDay : Bool) (legNo : Nat) (s : State) :
    links (leaveList endOfDay legNo s) = links s := by
  simp [leaveList]

@[simp] theorem links_fallDue (when : Leg → Bool) (legNo : Nat) (s : State) :
    links (fallDue when legNo s) = links s := by
  unfold fallDue
  dsimp only
  (repeat' split) <;> simp

@[simp] theorem links_closeEntry (endOfDay : Bool) (legNo : Nat) (s : State) :
    links (closeEntry endOfDay legNo s) = links s := by
  unfold closeEntry
  (repeat' split) <;> simp

@[simp] theorem links_fallDueAll (when : Leg → Bool) (s : State) : links (fallDueAll when s) = links s := by
  simp [fallDueAll]

@[simp] theorem links_closeAll (endOfDay : Bool) (s : State) : links (closeAll endOfDay s) = links s := by
  simp [closeAll]

@[simp] theorem links_processMinute (s : State) : links (processMinute s) = links s := by
  simp [processMinute]

@[simp] theorem links_formList (kept : List DepEntry) (s : State) : links (formList kept s) = links s := by
  unfold formList
  split <;> simp

@[simp] theorem links_buildList (s : State) : links (buildList s) = links s := by
  simp [buildList]

@[simp] theorem links_closeKept (legNo : Nat) (s : State) : links (closeKept legNo s) = links s := by
  unfold closeKept
  (repeat' split) <;> simp

@[simp] theorem links_holdDue (s : State) : links (holdDue s) = links s := by
  simp [holdDue]

@[simp] theorem links_rebuildList (s : State) : links (rebuildList s) = links s := by
  unfold rebuildList
  split <;> simp

@[simp] theorem links_resetOutcomes (s : State) : links (resetOutcomes s) = links s := by
  simp [resetOutcomes]

@[simp] theorem links_clearMarkers (s : State) : links (clearMarkers s) = links s := by
  simp [clearMarkers]

@[simp] theorem links_clearSubstitutes (s : State) : links (clearSubstitutes s) = links s := by
  simp [clearSubstitutes]

@[simp] theorem links_resetOpenOutcomes (s : State) : links (resetOpenOutcomes s) = links s := by
  simp [resetOpenOutcomes]

@[simp] theorem links_dayChange (s : State) : links (dayChange s) = links s := by
  simp [dayChange]

@[simp] theorem links_advanceMinute (s : State) : links (advanceMinute s) = links s := by
  unfold advanceMinute
  dsimp only
  (repeat' split) <;> simp

@[simp] theorem links_judgeUnplug (k : Nat) (s : State) : links (judgeUnplug k s) = links s := by
  unfold judgeUnplug
  dsimp only
  (repeat' split) <;> simp

@[simp] theorem links_reviewLeg (l : Leg) (s : State) : links (reviewLeg l s) = links s := by
  unfold reviewLeg
  (repeat' split) <;> simp

@[simp] theorem links_reviewLegs (s : State) : links (reviewLegs s) = links s := by
  unfold reviewLegs
  split <;> simp

@[simp] theorem links_reviewInfeasible (b : Bus) (next : Option NextLeg) (s : State) :
    links (reviewInfeasible b next s) = links s := by
  unfold reviewInfeasible
  (repeat' split) <;> simp

@[simp] theorem links_writeReadiness (k : Nat) (s : State) : links (writeReadiness k s) = links s := by
  unfold writeReadiness
  dsimp only
  (repeat' split) <;> simp

@[simp] theorem links_completeReadiness (s : State) : links (completeReadiness s) = links s := by
  simp [completeReadiness]

@[simp] theorem links_refuseEvent (s : State) : links (refuseEvent s) = links s := by
  unfold refuseEvent
  split
  · rfl
  · rw [links_notice]; rfl

@[simp] theorem links_plugPost (p : Nat) (s : State) : links (plugPost p s) = links s := by
  unfold plugPost
  dsimp only
  (repeat' split) <;> simp

@[simp] theorem links_faultEvent (p : Nat) (s : State) : links (faultEvent p s) = links s := by
  unfold faultEvent
  split <;> simp

@[simp] theorem links_faultClearEvent (p : Nat) (s : State) : links (faultClearEvent p s) = links s := by
  unfold faultClearEvent
  split <;> simp

@[simp] theorem links_zeroGrants (c : Nat) (l : List Nat) (s : State) : links (zeroGrants c l s) = links s := by
  simp [zeroGrants]

@[simp] theorem links_beginChange (c : Nat) (target : Mode) (s : State) :
    links (beginChange c target s) = links s := by
  simp [beginChange]

@[simp] theorem links_compareMode (c : Nat) (wanted : Option Mode) (s : State) :
    links (compareMode c wanted s) = links s := by
  unfold compareMode
  (repeat' split) <;> simp

@[simp] theorem links_reformSet (c : Nat) (target : Mode) (s : State) : links (reformSet c target s) = links s := by
  simp [reformSet]

@[simp] theorem links_takePending (c : Nat) (s : State) : links (takePending c s) = links s := by
  unfold takePending
  dsimp only
  (repeat' split) <;> simp

@[simp] theorem links_endDone (c : Nat) (s : State) : links (endDone c s) = links s := by
  unfold endDone
  split <;> simp

@[simp] theorem links_acceptTarget (c : Nat) (s : State) : links (acceptTarget c s) = links s := by
  unfold acceptTarget
  split <;> simp

@[simp] theorem links_failAttempt (c : Nat) (cause : PoolCause) (s : State) :
    links (failAttempt c cause s) = links s := by
  unfold failAttempt
  dsimp only
  (repeat' split) <;> simp

@[simp] theorem links_failOffline (c : Nat) (s : State) : links (failOffline c s) = links s := by
  unfold failOffline
  dsimp only
  (repeat' split) <;> simp

@[simp] theorem links_restartPool (c : Nat) (s : State) : links (restartPool c s) = links s := by
  simp [restartPool]

@[simp] theorem links_joinSet (c : Nat) (target : Mode) (s : State) : links (joinSet c target s) = links s := by
  simp [joinSet]

@[simp] theorem links_afterReport (c : Nat) (m : Mode) (moved : Bool) (s : State) :
    links (afterReport c m moved s) = links s := by
  unfold afterReport
  (repeat' split) <;> simp

@[simp] theorem links_reportMode (c : Nat) (code : Byte) (s : State) : links (reportMode c code s) = links s := by
  unfold reportMode
  split <;> simp

@[simp] theorem links_markQuiet (c : Nat) (s : State) : links (markQuiet c s) = links s := by
  unfold markQuiet
  dsimp only
  (repeat' split) <;> simp

@[simp] theorem links_wantMode (c : Nat) (d : Mode) (s : State) : links (wantMode c d s) = links s := by
  unfold wantMode
  dsimp only
  (repeat' split) <;> simp

@[simp] theorem links_buildStorage (s : State) : links (buildStorage s) = links s := by
  simp [buildStorage]

@[simp] theorem links_reband (s : State) : links (reband s) = links s := by
  simp [reband]

@[simp] theorem links_classify (k : Nat) (s : State) : links (classify k s) = links s := by
  unfold classify
  dsimp only
  (repeat' split) <;> simp

@[simp] theorem links_queueStorage (s : State) : links (queueStorage s) = links s := by
  simp [queueStorage]

@[simp] theorem links_completeStorage (f : PassFacts) (s : State) : links (completeStorage f s) = links s := by
  unfold completeStorage
  dsimp only
  (repeat' split) <;> simp

@[simp] theorem links_queueCapability (slot : Nat) (s : State) : links (queueCapability slot s) = links s := by
  simp [queueCapability]

@[simp] theorem links_recordSides (slot : Nat) (s : State) : links (recordSides slot s) = links s := by
  simp [recordSides]

@[simp] theorem links_slotStart (slot : Nat) (s : State) : links (slotStart slot s) = links s := by
  simp [slotStart]

@[simp] theorem links_takeSlot (s : State) : links (takeSlot s) = links s := by
  unfold takeSlot
  dsimp only
  (repeat' split) <;> simp

@[simp] theorem links_compareSides (s : State) : links (compareSides s) = links s := by
  unfold compareSides
  (repeat' split) <;> simp

@[simp] theorem links_updActive (f : Dispatch → Dispatch) (s : State) : links (updActive f s) = links s := by
  simp [updActive]

@[simp] theorem links_evalBand (s : State) : links (evalBand s) = links s := by
  simp [evalBand]

@[simp] theorem links_accumulate (s : State) : links (accumulate s) = links s := by
  simp [accumulate]

@[simp] theorem links_takeShortfall (found : Option (Nat × ShortCause)) (s : State) :
    links (takeShortfall found s) = links s := by
  unfold takeShortfall
  (repeat' split) <;> simp

@[simp] theorem links_completeReserve (f : PassFacts) (found : Option (Nat × ShortCause)) (s : State) :
    links (completeReserve f found s) = links s := by
  simp [completeReserve]

@[simp] theorem links_endActive (e : EndState) (s : State) : links (endActive e s) = links s := by
  unfold endActive
  split <;> simp

@[simp] theorem links_dropArmed (cause : DropCause) (s : State) : links (dropArmed cause s) = links s := by
  unfold dropArmed
  split <;> simp

@[simp] theorem links_abandonDispatches (cause : DropCause) (s : State) :
    links (abandonDispatches cause s) = links s := by
  unfold abandonDispatches
  split <;> simp

@[simp] theorem links_startDispatch (d : Dispatch) (s : State) : links (startDispatch d s) = links s := by
  simp [startDispatch]

@[simp] theorem links_placeDispatch (d : Dispatch) (s : State) : links (placeDispatch d s) = links s := by
  unfold placeDispatch
  split <;> simp

@[simp] theorem links_startArmed (s : State) : links (startArmed s) = links s := by
  unfold startArmed
  split <;> simp

@[simp] theorem links_raiseHighId (id : Nat) (s : State) : links (raiseHighId id s) = links s := by
  simp [raiseHighId]

@[simp] theorem links_writeGrants (n : Snapshot) (r : AllocResult) (s : State) : links (writeGrants n r s) = links s := by
  unfold writeGrants
  apply links_mapPosts
  intro p q
  dsimp only
  split <;> rfl

@[simp] theorem links_writeTiers (tierOf : Nat → Tier) (s : State) : links (writeTiers tierOf s) = links s := by
  simp [links, writeTiers, modFrt, modAle, Function.comp_def]

@[simp] theorem links_writeRing (old new : Nat → Tier) (n : Snapshot) (r : AllocResult) (s : State) :
    links (writeRing old new n r s) = links s := by
  unfold writeRing
  (repeat' split) <;> simp

@[simp] theorem links_writeOverLimit (r : AllocResult) (s : State) : links (writeOverLimit r s) = links s := by
  unfold writeOverLimit
  (repeat' split) <;> simp

@[simp] theorem links_completeWrites (n : Snapshot) (s : State) : links (completeWrites n s) = links s := by
  simp [completeWrites]

@[simp] theorem links_activateRoute (content : Option (List Row)) (s : State) :
    links (activateRoute content s) = links s := by
  simp [activateRoute]

@[simp] theorem links_enterAll (c : Nat) (st : PostState) (s : State) : links (enterAll c st s) = links s := by
  simp [enterAll]

@[simp] theorem links_clearSent (c : Nat) (s : State) : links (clearSent c s) = links s := by
  simp [clearSent]

@[simp] theorem links_reconfigure (c : Nat) (r : YardRow) (s : State) : links (reconfigure c r s) = links s := by
  unfold reconfigure
  dsimp only
  (repeat' split) <;> simp

@[simp] theorem links_rejoin (c : Nat) (r : YardRow) (s : State) : links (rejoin c r s) = links s := by
  simp [rejoin]

@[simp] theorem links_configure (c : Nat) (r : YardRow) (s : State) : links (configure c r s) = links s := by
  simp [configure]

@[simp] theorem links_applyRoundDue (s : State) : links (applyRoundDue s) = links s := by
  unfold applyRoundDue
  split <;> simp

@[simp] theorem links_enterIsland (s : State) : links (enterIsland s) = links s := by
  unfold enterIsland
  dsimp only
  (repeat' split) <;> simp

@[simp] theorem links_enterSafe (s : State) : links (enterSafe s) = links s := by
  unfold enterSafe
  rw [links_trySend, links_abandonDispatches]
  rfl

@[simp] theorem links_yardArrived (s : State) : links (yardArrived s) = links s := by
  unfold yardArrived
  (repeat' split) <;> simp

@[simp] theorem links_yardLeft (s : State) : links (yardLeft s) = links s := by
  unfold yardLeft
  split <;> simp

@[simp] theorem links_activateCommitment (content : Option (List Row)) (s : State) :
    links (activateCommitment content s) = links s := by
  simp [activateCommitment]

@[simp] theorem links_activateTariff (content : Option (List Row)) (s : State) :
    links (activateTariff content s) = links s := by
  simp [activateTariff]

@[simp] theorem links_activatePassage (content : Option (List Row)) (s : State) :
    links (activatePassage content s) = links s := by
  simp [activatePassage]

@[simp] theorem links_changeSeason (season : Season) (s : State) : links (changeSeason season s) = links s := by
  unfold changeSeason
  split <;> simp

@[simp] theorem links_activateSettings (content : Option (List Row)) (s : State) :
    links (activateSettings content s) = links s := by
  simp [activateSettings]

@[simp] theorem links_endPass (s : State) : links (endPass s) = links s := by
  simp [endPass]

@[simp] theorem links_adoptClock (minute weekday second : Nat) (s : State) :
    links (adoptClock minute weekday second s) = links s := by
  simp [adoptClock]

@[simp] theorem links_setSecond (second : Nat) (s : State) : links (setSecond second s) = links s := by
  simp [setSecond]

@[simp] theorem links_takeLink (l : Link) (s : State) : links (takeLink l s) = links s := by
  simp [takeLink]

@[simp] theorem links_sendCurtail (s : State) : links (sendCurtail s) = links s := by
  simp [sendCurtail]

@[simp] theorem links_sendPool (c : Nat) (target : Mode) (s : State) : links (sendPool c target s) = links s := by
  simp [sendPool]

@[simp] theorem links_sendForward (t : Telegram) (rest : List Telegram) (s : State) :
    links (sendForward t rest s) = links s := by
  simp [sendForward]

@[simp] theorem links_freeLink (s : State) : links (freeLink s) = links s := by
  simp [freeLink]

@[simp] theorem links_closeClaims (s : State) : links (closeClaims s) = links s := by
  simp [closeClaims]

@[simp] theorem links_goOffline (c : Nat) (s : State) : links (goOffline c s) = links s := by
  simp [goOffline]

@[simp] theorem links_countMiss (c : Nat) (s : State) : links (countMiss c s) = links s := by
  unfold countMiss
  dsimp only
  (repeat' split) <;> simp

@[simp] theorem links_statusLink (c : Nat) (grants : List Int) (s : State) :
    links (statusLink c grants s) = links s := by
  unfold statusLink
  split <;> simp

@[simp] theorem links_statusSettle (c i : Nat) (s : State) : links (statusSettle c i s) = links s := by
  unfold statusSettle
  dsimp only
  (repeat' split) <;> simp

@[simp] theorem links_statusHandOff (c : Nat) (m : StatusMsg) (grants : List Int) (js : List Judgement) (s : State) :
    links (statusHandOff c m grants js s) = links s := by
  unfold statusHandOff
  split <;> simp

@[simp] theorem links_zeroAll (s : State) : links (zeroAll s) = links s := by
  simp [zeroAll]

@[simp] theorem links_siteFramed (s : State) : links (siteFramed s) = links s := by
  simp [siteFramed]

@[simp] theorem links_readMeter (imp : Int) (cap ambient : Option Int) (s : State) :
    links (readMeter imp cap ambient s) = links s := by
  simp [readMeter]

@[simp] theorem links_queueDispReply (src : Byte) (r : DispReply) (s : State) :
    links (queueDispReply src r s) = links s := by
  simp [queueDispReply]

@[simp] theorem links_repeatReply (src : Byte) (s : State) : links (repeatReply src s) = links s := by
  unfold repeatReply
  split <;> simp

@[simp] theorem links_joinForward (t : Telegram) (s : State) : links (joinForward t s) = links s := by
  simp [joinForward]

@[simp] theorem links_forwardOrRefuse (t : Telegram) (s : State) : links (forwardOrRefuse t s) = links s := by
  unfold forwardOrRefuse
  split <;> simp

@[simp] theorem links_takePassThrough (t : Telegram) (s : State) : links (takePassThrough t s) = links s := by
  unfold takePassThrough
  (repeat' split) <;> simp

@[simp] theorem links_queueSetreqReply (src : Byte) (r : SetreqReply) (s : State) :
    links (queueSetreqReply src r s) = links s := by
  simp [queueSetreqReply]

@[simp] theorem links_refuseSetreq (dst src seq : Byte) (position : Nat) (why : SetreqResult) (s : State) :
    links (refuseSetreq dst src seq position why s) = links s := by
  simp [refuseSetreq]

@[simp] theorem links_takeForwardReply (t : Telegram) (s : State) : links (takeForwardReply t s) = links s := by
  unfold takeForwardReply
  split <;> simp

@[simp] theorem links_sendDone (s : State) : links (sendDone s) = links s := by
  unfold sendDone
  split <;> simp

@[simp] theorem links_yardFramed (s : State) : links (yardFramed s) = links s := by
  simp [yardFramed]

@[simp] theorem links_poolSendDone (s : State) : links (poolSendDone s) = links s := by
  unfold poolSendDone
  (repeat' split) <;> simp

@[simp] theorem links_poolAnswer (c : Nat) (result : Byte) (reason : Nat) (s : State) :
    links (poolAnswer c result reason s) = links s := by
  unfold poolAnswer
  split <;> simp

@[simp] theorem links_replyPoolAck (src : Byte) (payload : List Byte) (s : State) :
    links (replyPoolAck src payload s) = links s := by
  unfold replyPoolAck
  (repeat' split) <;> simp

@[simp] theorem links_replyPoolWait (src : Byte) (payload : List Byte) (s : State) :
    links (replyPoolWait src payload s) = links s := by
  unfold replyPoolWait
  (repeat' split) <;> simp

@[simp] theorem links_poolTimeout (s : State) : links (poolTimeout s) = links s := by
  unfold poolTimeout
  split <;> simp

@[simp] theorem links_replyForward (t : Telegram) (s : State) : links (replyForward t s) = links s := by
  unfold replyForward
  (repeat' split) <;> simp

@[simp] theorem links_forwardTimeout (s : State) : links (forwardTimeout s) = links s := by
  unfold forwardTimeout
  (repeat' split) <;> simp

@[simp] theorem links_broadcastDone (s : State) : links (broadcastDone s) = links s := by
  unfold broadcastDone
  (repeat' split) <;> simp

@[simp] theorem links_mgmtReply (h : MgmtHead) (result : MgmtResult) (details : MgmtDetails) (s : State) :
    links (mgmtReply h result details s) = links s := by
  simp [mgmtReply]

@[simp] theorem links_answer (h : MgmtHead) (result : MgmtResult) (details : MgmtDetails) (s : State) :
    links (answer h result details s) = links s := by
  unfold answer
  split <;> simp

@[simp] theorem links_stageRow (g : Segment) (i : Nat) (r : Row) (s : State) :
    links (stageRow g i r s) = links s := by
  simp [stageRow]

@[simp] theorem links_serveStage (h : MgmtHead) (f : List Byte) (s : State) : links (serveStage h f s) = links s := by
  unfold serveStage
  dsimp only
  (repeat' split) <;> simp

@[simp] theorem links_clearStaging (s : State) : links (clearStaging s) = links s := by
  simp [clearStaging]

@[simp] theorem links_serveDiscard (h : MgmtHead) (s : State) : links (serveDiscard h s) = links s := by
  simp [serveDiscard]

@[simp] theorem links_serveRead (h : MgmtHead) (f : List Byte) (s : State) : links (serveRead h f s) = links s := by
  unfold serveRead
  (repeat' split) <;> simp

@[simp] theorem links_serveStatus (h : MgmtHead) (s : State) : links (serveStatus h s) = links s := by
  simp [serveStatus]

@[simp] theorem links_serveClearStatus (h : MgmtHead) (s : State) : links (serveClearStatus h s) = links s := by
  simp [serveClearStatus]

@[simp] theorem links_serveWithdraw (h : MgmtHead) (f : List Byte) (s : State) :
    links (serveWithdraw h f s) = links s := by
  unfold serveWithdraw
  split <;> simp

@[simp] theorem links_rejudge (legNo : Nat) (s : State) : links (rejudge legNo s) = links s := by
  unfold rejudge
  dsimp only
  (repeat' split) <;> simp

@[simp] theorem links_substitute (legNo : Nat) (bus : Option Nat) (s : State) :
    links (substitute legNo bus s) = links s := by
  unfold substitute
  split <;> simp

@[simp] theorem links_serveSubstitute (h : MgmtHead) (f : List Byte) (s : State) :
    links (serveSubstitute h f s) = links s := by
  unfold serveSubstitute
  dsimp only
  (repeat' split) <;> simp

@[simp] theorem links_serveRestart (h : MgmtHead) (f : List Byte) (s : State) :
    links (serveRestart h f s) = links s := by
  unfold serveRestart
  split <;> simp

@[simp] theorem links_leaveStarting (s : State) : links (leaveStarting s) = links s := by
  unfold leaveStarting
  (repeat' split) <;> rfl

@[simp] theorem links_startTimers (s : State) : links (startTimers s) = links s := by
  simp [startTimers]

@[simp] theorem links_roundExpired (s : State) : links (roundExpired s) = links s := by
  unfold roundExpired
  split <;> simp

@[simp] theorem links_meterStaled (s : State) : links (meterStaled s) = links s := by
  unfold meterStaled
  split <;> simp

@[simp] theorem links_meterFellBack (s : State) : links (meterFellBack s) = links s := by
  unfold meterFellBack
  split <;> simp

@[simp] theorem links_quiesceExpired (c : Nat) (s : State) : links (quiesceExpired c s) = links s := by
  unfold quiesceExpired
  split <;> simp

@[simp] theorem links_answerAged (c : Nat) (s : State) : links (answerAged c s) = links s := by
  unfold answerAged
  (repeat' split) <;> simp

end Sys2Proof.Machine
end

