-- ==== Sys2Proof/Laws/Pairing.lean ====
section
/-! SUPPORT. The pairing of buses and posts (R11): what each operation that changes it does to it. -/

namespace Sys2Proof.Machine
set_option Elab.async false

/-- `Linked` over the data of `links`. -/
structure LinkedData (pb : List (Option Nat)) (bp : List (List Byte × Option Nat)) (tm : List (List Byte × Nat))
    (q : List PlugEvent) (r : Round) (st : StoredSeg) (w : Option Write) (wa : List Activation) : Prop where
  busPost : ∀ k t p, bp[k]? = some (t, some p) → (4 ≤ p ∧ p ≤ 67) ∧ pb[p - 4]? = some (some k)
  postBus : ∀ i k, pb[i]? = some (some k) → ∃ t, bp[k]? = some (t, some (i + 4))
  len : pb.length = 64
  map : tm = bp.mapIdx (fun k e => (e.1, k))
  tags : (bp.map Prod.fst).Nodup
  plug : ∀ e ∈ q, e.ofPost
  round : ∀ c w p, r = .visit c w p → IsStation c
  stored : TagsDistinct st.rows
  write : ∀ w' rows, w = some w' → w'.job = .commit .fleet rows → TagsDistinct rows
  waiting : ∀ a ∈ wa, a.seg = .fleet → ∀ rows, a.content = some rows → TagsDistinct rows

/-- The data of `links` are linked. -/
def LinkedL (x : (List (Option Nat) × List (List Byte × Option Nat) × List (List Byte × Nat)) ×
    (List PlugEvent × Round × StoredSeg × Option Write × List Activation)) : Prop :=
  LinkedData x.1.1 x.1.2.1 x.1.2.2 x.2.1 x.2.2.1 x.2.2.2.1 x.2.2.2.2.1 x.2.2.2.2.2

theorem busAt_post (s : State) (k : Nat) (t : List Byte) (o : Option Nat) :
    (s.frt.buses.map (fun b => (b.tag, b.post)))[k]? = some (t, o) ↔
    ∃ b, busAt s k = some b ∧ b.tag = t ∧ b.post = o := by
  simp [busAt, List.getElem?_map]

theorem postAt_bus (s : State) (i k : Nat) :
    (s.frt.posts.map Post.bus)[i]? = some (some k) ↔ i < s.frt.posts.length ∧ (postAt s (i + 4)).bus = some k := by
  simp only [postAt, List.getElem?_map, List.getD, Nat.add_sub_cancel]
  rcases h : s.frt.posts[i]? with _ | q
  · simp at h ⊢; omega
  · have := List.getElem?_eq_some_iff.1 h
    obtain ⟨h1, _⟩ := this
    simp [h1]

theorem linked_iff (s : State) : Linked s ↔ LinkedL (links s) := by
  constructor
  · rintro ⟨⟨hp1, hp2⟩, hl, hm, ht, hq, hr, h1, h2, h3⟩
    refine ⟨?_, ?_, ?_, ?_, ?_, hq, hr, h1, h2, h3⟩
    · intro k t p h
      obtain ⟨b, hb, -, hp⟩ := (busAt_post s k t (some p)).1 h
      obtain ⟨hr, hb'⟩ := hp1 k b hb p hp
      refine ⟨hr, (postAt_bus s _ k).2 ⟨?_, ?_⟩⟩
      · omega
      · rwa [show p - 4 + 4 = p by omega]
    · intro i k h
      obtain ⟨h1, h2⟩ := (postAt_bus s i k).1 h
      obtain ⟨b, hb, hp⟩ := hp2 (i + 4) (by omega) k h2
      exact ⟨b.tag, (busAt_post s k b.tag _).2 ⟨b, hb, rfl, hp⟩⟩
    · simpa [links] using hl
    · simp only [links, hm]
      apply List.ext_getElem?
      intro j
      simp only [List.getElem?_mapIdx, List.getElem?_map]
      cases s.frt.buses[j]? <;> rfl
    · simpa [links, Function.comp_def] using ht
  · rintro ⟨h1, h2, h3, h4, h5, h6, h7, h8, h9, h10⟩
    have hl : s.frt.posts.length = 64 := by simpa [links] using h3
    refine ⟨⟨?_, ?_⟩, hl, ?_, ?_, h6, h7, h8, h9, h10⟩
    · intro k b hb p hp
      obtain ⟨hr, h⟩ := h1 k b.tag p ((busAt_post s k _ _).2 ⟨b, hb, rfl, hp⟩)
      obtain ⟨-, h⟩ := (postAt_bus s _ k).1 h
      rw [show p - 4 + 4 = p by omega] at h
      exact ⟨hr, h⟩
    · intro p hp k hk
      obtain ⟨t, h⟩ := h2 (p - 4) k ((postAt_bus s _ k).2 ⟨by omega, by rwa [show p - 4 + 4 = p by omega]⟩)
      rw [show p - 4 + 4 = p by omega] at h
      obtain ⟨b, hb, -, hp⟩ := (busAt_post s k t _).1 h
      exact ⟨b, hb, hp⟩
    · rw [show s.frt.tagMap = _ from h4]
      simp only [links]
      apply List.ext_getElem?
      intro j
      simp only [List.getElem?_mapIdx, List.getElem?_map]
      cases s.frt.buses[j]? <;> rfl
    · simpa [links, Function.comp_def] using h5

theorem linkedL_modYlc (f : Ylc → Ylc) (s : State) (h : ∀ c w p, (f s.ylc).round = .visit c w p → IsStation c)
    (hs : LinkedL (links s)) : LinkedL (links (modYlc f s)) :=
  ⟨hs.1, hs.2, hs.3, hs.4, hs.5, hs.6, h, hs.8, hs.9, hs.10⟩

theorem linkedL_modTsm (f : Tsm → Tsm) (s : State) (h1 : TagsDistinct (f s.tsm).store.fleet.rows)
    (h2 : ∀ w rows, (f s.tsm).write = some w → w.job = .commit .fleet rows → TagsDistinct rows)
    (h3 : ∀ a ∈ (f s.tsm).waiting, a.seg = .fleet → ∀ rows, a.content = some rows → TagsDistinct rows)
    (hs : LinkedL (links s)) : LinkedL (links (modTsm f s)) :=
  ⟨hs.1, hs.2, hs.3, hs.4, hs.5, hs.6, hs.7, h1, h2, h3⟩

theorem linkedL_plugQ (f : List PlugEvent → List PlugEvent) (s : State) (h : ∀ e ∈ f s.frt.plugQ, e.ofPost)
    (hs : LinkedL (links s)) : LinkedL (links (modFrt (fun t => { t with plugQ := f t.plugQ }) s)) :=
  ⟨hs.1, hs.2, hs.3, hs.4, hs.5, h, hs.7, hs.8, hs.9, hs.10⟩

/-! ### The two changes of a pairing -/

/-- The pairing's data with posts' and buses' fields replaced. -/
def withPairs (s : State) (pb : List (Option Nat)) (bp : List (List Byte × Option Nat)) :
    (List (Option Nat) × List (List Byte × Option Nat) × List (List Byte × Nat)) ×
    (List PlugEvent × Round × StoredSeg × Option Write × List Activation) :=
  ((pb, bp, (links s).1.2.2), (links s).2)

theorem map_modify {α β : Type} (g : α → β) (f : α → α) (f' : β → β) (h : ∀ a, g (f a) = f' (g a)) (l : List α) (i : Nat) :
    (l.modify i f).map g = (l.map g).modify i f' := by
  apply List.ext_getElem?
  intro j
  simp only [List.getElem?_map, List.getElem?_modify]
  split <;> cases l[j]? <;> simp [h]

theorem links_setBus (p : Nat) (o : Option Nat) (f : Post → Post) (hf : ∀ q, (f q).bus = o) (s : State) (hp : 4 ≤ p) :
    links (updPost p f s) = withPairs s ((links s).1.1.modify (p - 4) (fun _ => o)) (links s).1.2.1 := by
  simp [updPost, Nat.not_lt.2 hp, withPairs, links, modFrt, map_modify Post.bus f (fun _ => o) hf]

theorem links_setPost (k : Nat) (o : Option Nat) (f : Bus → Bus) (hf : ∀ b, (f b).tag = b.tag ∧ (f b).post = o) (s : State) :
    links (updBus k f s) = withPairs s (links s).1.1 ((links s).1.2.1.modify k (fun e => (e.1, o))) := by
  have := map_modify (fun b : Bus => (b.tag, b.post)) f (fun e => (e.1, o)) (fun b => by simp [hf b]) s.frt.buses k
  simp [updBus, withPairs, links, modFrt, this]

theorem mapIdx_modify {α β : Type} (f : α → α) (g : Nat → α → β) (h : ∀ k a, g k (f a) = g k a) (l : List α) (i : Nat) :
    (l.modify i f).mapIdx g = l.mapIdx g := by
  apply List.ext_getElem?
  intro j
  simp only [List.getElem?_mapIdx, List.getElem?_modify]
  split <;> cases l[j]? <;> simp [h]

/-- A post and its bus part. -/
theorem LinkedData.part {pb bp tm q r st w wa} (h : LinkedData pb bp tm q r st w wa) (i k : Nat)
    (hi : pb[i]? = some (some k)) :
    LinkedData (pb.modify i (fun _ => none)) (bp.modify k (fun e => (e.1, none))) tm q r st w wa := by
  obtain ⟨t0, hk⟩ := h.postBus i k hi
  refine ⟨?_, ?_, ?_, ?_, ?_, h.plug, h.round, h.stored, h.write, h.waiting⟩
  · intro k' t p hp
    rw [List.getElem?_modify] at hp
    by_cases hkk : k = k'
    · rcases hb : bp[k']? with _ | e <;> simp [hkk, hb] at hp
    · simp only [hkk, if_false, Option.map_eq_map, Option.map_id_fun', id] at hp
      obtain ⟨hr, hb⟩ := h.busPost k' t p hp
      refine ⟨hr, ?_⟩
      rw [List.getElem?_modify]
      by_cases hip : i = p - 4
      · rw [← hip, hi] at hb
        simp at hb
        exact absurd hb hkk
      · simp [hip, hb]
  · intro j k' hj
    rw [List.getElem?_modify] at hj
    by_cases hij : i = j
    · rcases hb : pb[j]? with _ | e <;> simp [hij, hb] at hj
    · simp only [hij, if_false, Option.map_eq_map, Option.map_id_fun', id] at hj
      obtain ⟨t, ht⟩ := h.postBus j k' hj
      refine ⟨t, ?_⟩
      rw [List.getElem?_modify]
      by_cases hkk : k = k'
      · subst hkk
        rw [hk] at ht
        simp at ht
        omega
      · simp [hkk, ht]
  · simpa using h.len
  · rw [h.map, mapIdx_modify]
    exact fun _ _ => rfl
  · rw [map_modify_same Prod.fst (fun e => (e.1, none)) (fun _ => rfl)]
    exact h.tags

/-- A post without a bus and a bus without a post join. -/
theorem LinkedData.join {pb bp tm q r st w wa} (h : LinkedData pb bp tm q r st w wa) (i k : Nat) (t0 : List Byte)
    (hi : pb[i]? = some none) (hk : bp[k]? = some (t0, none)) :
    LinkedData (pb.modify i (fun _ => some k)) (bp.modify k (fun e => (e.1, some (i + 4)))) tm q r st w wa := by
  have hlt : i < 64 := by
    rw [← h.len]
    exact (List.getElem?_eq_some_iff.1 hi).1
  refine ⟨?_, ?_, ?_, ?_, ?_, h.plug, h.round, h.stored, h.write, h.waiting⟩
  · intro k' t p hp
    rw [List.getElem?_modify] at hp
    by_cases hkk : k = k'
    · subst hkk
      simp [hk] at hp
      obtain ⟨-, rfl⟩ := hp
      refine ⟨by omega, ?_⟩
      rw [List.getElem?_modify]
      simp [hi]
    · simp only [hkk, if_false, Option.map_eq_map, Option.map_id_fun', id] at hp
      obtain ⟨hr, hb⟩ := h.busPost k' t p hp
      refine ⟨hr, ?_⟩
      rw [List.getElem?_modify]
      by_cases hip : i = p - 4
      · rw [← hip, hi] at hb
        simp at hb
      · simp [hip, hb]
  · intro j k' hj
    rw [List.getElem?_modify] at hj
    by_cases hij : i = j
    · subst hij
      simp [hi] at hj
      subst hj
      refine ⟨t0, ?_⟩
      rw [List.getElem?_modify]
      simp [hk]
    · simp only [hij, if_false, Option.map_eq_map, Option.map_id_fun', id] at hj
      obtain ⟨t, ht⟩ := h.postBus j k' hj
      refine ⟨t, ?_⟩
      rw [List.getElem?_modify]
      by_cases hkk : k = k'
      · subst hkk
        rw [hk] at ht
        simp at ht
      · simp [hkk, ht]
  · simpa using h.len
  · rw [h.map, mapIdx_modify]
    exact fun _ _ => rfl
  · rw [map_modify_same Prod.fst (fun e => (e.1, some (i + 4))) (fun _ => rfl)]
    exact h.tags

theorem postBus_links (s : State) (p k : Nat) (hp : 4 ≤ p) (h : (postAt s p).bus = some k) :
    (links s).1.1[p - 4]? = some (some k) := by
  refine (postAt_bus s (p - 4) k).2 ?_
  rw [show p - 4 + 4 = p by omega]
  refine ⟨?_, h⟩
  rcases hh : s.frt.posts[p - 4]? with _ | q
  · simp [postAt, List.getD, hh, Post.initial] at h
  · exact (List.getElem?_eq_some_iff.1 hh).1

theorem links_clearBusField (p : Nat) (s : State) (hp : 4 ≤ p) :
    links (clearBusField p s) = withPairs s ((links s).1.1.modify (p - 4) (fun _ => none)) (links s).1.2.1 := by
  unfold clearBusField
  exact links_setBus p none _ (fun _ => rfl) s hp

theorem links_unlocate (p k : Nat) (next : BusState) (s : State) (hp : 4 ≤ p) (h : (postAt s p).bus = some k) :
    links (unlocate p next s) =
      withPairs s ((links s).1.1.modify (p - 4) (fun _ => none)) ((links s).1.2.1.modify k (fun e => (e.1, none))) := by
  unfold unlocate
  simp only [h]
  rw [links_setPost k none]
  on_goal 2 => exact fun _ => ⟨rfl, rfl⟩
  simp only [withPairs, links_clearBusField p s hp]

theorem linkedL_unlocate (p : Nat) (next : BusState) (s : State) (hp : 4 ≤ p) (hs : LinkedL (links s)) :
    LinkedL (links (unlocate p next s)) := by
  rcases h : (postAt s p).bus with _ | k
  · unfold unlocate
    simpa [h] using hs
  · rw [links_unlocate p k next s hp h]
    exact LinkedData.part hs (p - 4) k (postBus_links s p k hp h)

theorem unlocate_clears (p : Nat) (next : BusState) (s : State) (hp : 4 ≤ p ∧ p ≤ 67) (hl : LinkedL (links s)) :
    (links (unlocate p next s)).1.1[p - 4]? = some none := by
  have hlen : p - 4 < (links s).1.1.length := by
    have := hl.len
    omega
  rcases h : (postAt s p).bus with _ | k
  · unfold unlocate
    simp only [h]
    rcases hx : (links s).1.1[p - 4]? with _ | o
    · rw [List.getElem?_eq_none_iff] at hx; omega
    · rcases o with _ | k
      · rfl
      · have := ((postAt_bus s (p - 4) k).1 hx).2
        rw [show p - 4 + 4 = p by omega, h] at this
        simp at this
  · rw [links_unlocate p k next s hp.1 h]
    simp only [withPairs, List.getElem?_modify]
    simp [postBus_links s p k hp.1 h]

theorem linkedL_resolveConflict (k q p : Nat) (s : State) (hq : 4 ≤ q) (h : (links s).1.1[q - 4]? = some (some k))
    (hs : LinkedL (links s)) :
    LinkedL (links (resolveConflict k q p s)) ∧
    (links (resolveConflict k q p s)).1 = ((links s).1.1.modify (q - 4) (fun _ => none),
      (links s).1.2.1.modify k (fun e => (e.1, none)), (links s).1.2.2) := by
  have he : links (resolveConflict k q p s) =
      withPairs s ((links s).1.1.modify (q - 4) (fun _ => none)) ((links s).1.2.1.modify k (fun e => (e.1, none))) := by
    unfold resolveConflict
    dsimp only
    rw [links_notice]
    have : links (updBus k (fun b => { b with post := none }) (clearBusField q s)) =
      withPairs s ((links s).1.1.modify (q - 4) (fun _ => none)) ((links s).1.2.1.modify k (fun e => (e.1, none))) := by
      rw [links_setPost k none]
      on_goal 2 => exact fun _ => ⟨rfl, rfl⟩
      simp only [withPairs, links_clearBusField q s hq]
    split
    · rw [links_setPostState, this]
    · exact this
  rw [he]
  exact ⟨LinkedData.part hs (q - 4) k h, rfl⟩

theorem linkedL_locate (k p : Nat) (t0 : List Byte) (s : State) (hp : 4 ≤ p) (h1 : (links s).1.1[p - 4]? = some none)
    (h2 : (links s).1.2.1[k]? = some (t0, none)) (hs : LinkedL (links s)) : LinkedL (links (locate k p s)) := by
  unfold locate
  rw [links_takeHeld, links_setPost k (some p)]
  on_goal 2 => exact fun _ => ⟨rfl, rfl⟩
  simp only [withPairs]
  rw [links_setBus p (some k) (fun q => { q with bus := some k }) (fun _ => rfl) s hp]
  simp only [withPairs]
  have := LinkedData.join hs (p - 4) k t0 h1 h2
  rw [show p - 4 + 4 = p by omega] at this
  exact this

theorem linkedL_plugMapped (k p : Nat) (s : State) (hp : 4 ≤ p ∧ p ≤ 67) (hk : k < s.frt.buses.length)
    (hs : LinkedL (links s)) : LinkedL (links (plugMapped k p s)) := by
  unfold plugMapped
  split
  · rwa [links_takeHeld]
  · rename_i hne
    dsimp only
    rw [links_plugPost]
    have hs1 := linkedL_unlocate p .yard s hp.1 hs
    have hc := unlocate_clears p .yard s hp hs
    have hk1 : k < (links (unlocate p .yard s)).1.2.1.length := by
      rcases h : (postAt s p).bus with _ | j
      · unfold unlocate; simp [h, links, hk]
      · rw [links_unlocate p j _ s hp.1 h]; simp [withPairs, links, hk]
    generalize unlocate p .yard s = s1 at *
    obtain ⟨e, he⟩ : ∃ e, (links s1).1.2.1[k]? = some e := ⟨_, List.getElem?_eq_getElem hk1⟩
    obtain ⟨t, o⟩ := e
    obtain ⟨b, hb, ht, ho⟩ := (busAt_post s1 k t o).1 he
    simp only [hb, Option.bind_some, ho]
    rcases o with _ | q
    · exact linkedL_locate k p t s1 hp.1 hc he hs1
    · obtain ⟨hq, hpq⟩ := hs1.busPost k t q he
      obtain ⟨h1, h2⟩ := linkedL_resolveConflict k q p s1 hq.1 hpq hs1
      refine linkedL_locate k p t _ hp.1 ?_ ?_ h1
      · rw [h2]
        dsimp only
        rw [List.getElem?_modify]
        split <;> simp [hc]
      · rw [h2]
        dsimp only
        rw [List.getElem?_modify]
        simp [he]

theorem linked_reset : Linked State.reset := by
  rw [linked_iff]
  refine ⟨?_, ?_, by decide, rfl, by decide, ?_, ?_, ?_, ?_, ?_⟩
  · intro k t p h
    simp [links, State.reset, State.afterPowerOn, Frt.initial] at h
  · intro i k h
    exfalso
    have : ∀ o ∈ (links State.reset).1.1, o = none := by decide
    have := this _ (List.mem_of_getElem? h)
    simp at this
  · intro e h
    simp [links, State.reset, State.afterPowerOn, Frt.initial] at h
  · intro c w p h
    simp [links, State.reset, State.afterPowerOn, Ylc.initial] at h
  · show TagsDistinct []
    exact List.nodup_nil
  · intro w rows h
    simp [links, State.reset, State.afterPowerOn, Tsm.initial] at h
  · intro w h
    simp [links, State.reset, State.afterPowerOn, Tsm.initial] at h

theorem linkedL_foldl {α : Type} (f : State → α → State) (l : List α) (s : State)
    (h : ∀ s, ∀ a ∈ l, LinkedL (links s) → LinkedL (links (f s a))) (hs : LinkedL (links s)) :
    LinkedL (links (l.foldl f s)) := by
  induction l generalizing s with
  | nil => exact hs
  | cons a l ih =>
    exact ih _ (fun s b hb => h s b (List.mem_cons_of_mem _ hb)) (h s a List.mem_cons_self hs)

theorem taggedBus_lt (s : State) (tag : List Byte) (k : Nat) (hs : LinkedL (links s)) (h : taggedBus s tag = some k) :
    k < s.frt.buses.length := by
  unfold taggedBus at h
  rcases hf : s.frt.tagMap.find? (fun e => e.1 = tag) with _ | e <;> simp [hf] at h
  have hm := List.mem_of_find?_eq_some hf
  have hmap : s.frt.tagMap = _ := hs.map
  rw [hmap, List.mem_mapIdx] at hm
  obtain ⟨j, hj, rfl⟩ := hm
  subst h
  simpa [links] using hj

theorem linkedL_plugUnmapped (p : Nat) (s : State) (hp : 4 ≤ p) (hs : LinkedL (links s)) :
    LinkedL (links (plugUnmapped p s)) := by
  unfold plugUnmapped
  dsimp only
  split <;> simp [linkedL_unlocate, hp, hs]

theorem linkedL_unplugBus (p : Nat) (s : State) (hp : 4 ≤ p) (hs : LinkedL (links s)) :
    LinkedL (links (unplugBus p s)) := by
  unfold unplugBus
  split
  · exact hs
  · dsimp only
    split <;> simp [linkedL_unlocate, hp, hs]

theorem linkedL_unplugEvent (p : Nat) (s : State) (hp : 4 ≤ p) (hs : LinkedL (links s)) :
    LinkedL (links (unplugEvent p s)) := by
  unfold unplugEvent
  split <;> simp [linkedL_unplugBus, hp, hs]

theorem linkedL_processEvent (e : PlugEvent) (s : State) (he : e.ofPost) (hs : LinkedL (links s)) :
    LinkedL (links (processEvent e s)) := by
  have hp : 4 ≤ postNo e.cabinet e.position ∧ postNo e.cabinet e.position ≤ 67 := by
    obtain ⟨h1, h2⟩ := he
    unfold postNo
    omega
  unfold processEvent
  dsimp only
  rw [links_updPost]
  · (repeat' split)
    · rename_i k hk
      exact linkedL_plugMapped _ _ s hp (taggedBus_lt s _ _ hs hk) hs
    · exact linkedL_plugUnmapped _ s hp.1 hs
    · exact linkedL_unplugEvent _ s hp.1 hs
    · simpa using hs
    · simpa using hs
  · exact fun _ => rfl

theorem linkedL_drain (s : State) (hs : LinkedL (links s)) : LinkedL (links (drain s)) := by
  unfold drain
  refine linkedL_foldl _ _ _ (fun s e he h => linkedL_processEvent e s (hs.plug e he) h) ?_
  exact linkedL_plugQ (fun _ => []) s (by simp) hs

theorem linkedL_drainForPass (s : State) (hs : LinkedL (links s)) : LinkedL (links (drainForPass s)) := by
  unfold drainForPass
  rw [links_modYlc]
  · exact linkedL_drain s hs
  · rfl

/-! ### A FLEET activation (R8) -/

/-- The bus field of a post after a FLEET activation. -/
def newBus (s : State) (rows : List FleetRow) (p : Nat) (o : Option Nat) : Option Nat :=
  match (postAt s p).bus with
  | none => o
  | some k => movedSlot s rows k

theorem links_repost (old : State) (rows : List FleetRow) (p : Nat) (s : State) (hp : 4 ≤ p) :
    links (repost old rows p s) = withPairs s ((links s).1.1.modify (p - 4) (newBus old rows p)) (links s).1.2.1 := by
  unfold repost
  rcases h : (postAt old p).bus with _ | k
  · have : newBus old rows p = id := by
      funext o
      simp [newBus, h]
    simp [this, withPairs]
  · have hn : newBus old rows p = fun _ => movedSlot old rows k := by
      funext o
      simp [newBus, h]
    rw [hn]
    dsimp only
    rcases hm : movedSlot old rows k with _ | j
    · dsimp only
      unfold loseBus
      dsimp only
      split
      · rw [links_setPostState, links_clearBusField p s hp]
      · rw [links_clearBusField p s hp]
    · exact links_setBus p (some j) _ (fun _ => rfl) s hp

theorem links_repostAll (old : State) (rows : List FleetRow) (l : List Nat) (s : State) (hl : ∀ p ∈ l, 4 ≤ p) :
    (links (l.foldl (fun t p => repost old rows p t) s)).1.2 = (links s).1.2 ∧
    (links (l.foldl (fun t p => repost old rows p t) s)).2 = (links s).2 ∧
    ∀ i, (links (l.foldl (fun t p => repost old rows p t) s)).1.1[i]? =
      if i + 4 ∈ l then (links s).1.1[i]?.map (newBus old rows (i + 4)) else (links s).1.1[i]? := by
  induction l generalizing s with
  | nil => simp
  | cons p l ih =>
    have hp := hl p List.mem_cons_self
    obtain ⟨h1, h2, h3⟩ := ih (repost old rows p s) (fun q hq => hl q (List.mem_cons_of_mem _ hq))
    simp only [List.foldl_cons]
    refine ⟨?_, ?_, ?_⟩
    · rw [h1, links_repost old rows p s hp]
      rfl
    · rw [h2, links_repost old rows p s hp]
      rfl
    · intro i
      rw [h3, links_repost old rows p s hp]
      simp only [withPairs, List.getElem?_modify, List.mem_cons]
      by_cases hip : p - 4 = i
      · have hip' : i + 4 = p := by omega
        have hid : ∀ o, newBus old rows p (newBus old rows p o) = newBus old rows p o := by
          intro o
          simp only [newBus]
          split <;> rfl
        subst hip'
        rcases (links s).1.1[i]? with _ | o <;> simp [hip, hid]
      · have hip' : ¬ i + 4 = p := by omega
        rcases (links s).1.1[i]? with _ | o <;> simp [hip, hip']

/-- The slot of a tag that the buses carry once. -/
theorem taggedBus_iff (s : State) (hs : LinkedL (links s)) (tag : List Byte) (k : Nat) :
    taggedBus s tag = some k ↔ (busAt s k).map Bus.tag = some tag := by
  have hmap : s.frt.tagMap = (links s).1.2.1.mapIdx (fun k e => (e.1, k)) := hs.map
  have htags := hs.tags
  have hmem : ∀ e, e ∈ s.frt.tagMap ↔ (busAt s e.2).map Bus.tag = some e.1 := by
    intro e
    rw [hmap, List.mem_mapIdx]
    constructor
    · rintro ⟨j, hj, rfl⟩
      simp [links, busAt, List.getElem?_eq_getElem (show j < s.frt.buses.length by simpa [links] using hj)]
    · intro h
      rcases hb : busAt s e.2 with _ | b <;> simp [hb] at h
      have hj : e.2 < s.frt.buses.length := (List.getElem?_eq_some_iff.1 hb).1
      refine ⟨e.2, by simpa [links] using hj, ?_⟩
      have : s.frt.buses[e.2] = b := (List.getElem?_eq_some_iff.1 hb).2
      simp [links, this, h]
  have huniq : ∀ j b, busAt s j = some b → ∀ j' b', busAt s j' = some b' → b.tag = b'.tag → j = j' := by
    intro j b hb j' b' hb' ht
    have h1 : ((links s).1.2.1.map Prod.fst)[j]? = some b.tag := by
      simp only [links, List.map_map, List.getElem?_map]
      rw [show s.frt.buses[j]? = some b from hb]
      rfl
    have h2 : ((links s).1.2.1.map Prod.fst)[j']? = some b.tag := by
      simp only [links, List.map_map, List.getElem?_map]
      rw [show s.frt.buses[j']? = some b' from hb', ht]
      rfl
    obtain ⟨l1, e1⟩ := List.getElem?_eq_some_iff.1 h1
    obtain ⟨l2, e2⟩ := List.getElem?_eq_some_iff.1 h2
    exact (List.Nodup.getElem_inj_iff htags).1 (e1.trans e2.symm)
  unfold taggedBus
  constructor
  · intro h
    rcases hf : s.frt.tagMap.find? (fun e => e.1 = tag) with _ | e <;> simp [hf] at h
    have h1 := (hmem e).1 (List.mem_of_find?_eq_some hf)
    have h2 := List.find?_some hf
    simp at h2
    rw [← h, h1, h2]
  · intro h
    have hm : (tag, k) ∈ s.frt.tagMap := (hmem (tag, k)).2 h
    rcases hf : s.frt.tagMap.find? (fun e => e.1 = tag) with _ | e
    · have := List.find?_eq_none.1 hf _ hm
      simp at this
    · have h1 := (hmem e).1 (List.mem_of_find?_eq_some hf)
      have h2 := List.find?_some hf
      simp at h2
      rw [hf]
      refine congrArg some ?_
      rcases hb : busAt s k with _ | b <;> simp [hb] at h
      rcases hb' : busAt s e.2 with _ | b' <;> simp [hb'] at h1
      exact huniq _ _ hb' _ _ hb (by rw [h1, h, h2])

theorem movedSlot_iff (s : State) (hs : LinkedL (links s)) (rows : List FleetRow) (hr : (rows.map FleetRow.tag).Nodup)
    (k j : Nat) :
    movedSlot s rows k = some j ↔ ∃ b r, busAt s k = some b ∧ rows[j]? = some r ∧ r.tag = b.tag := by
  have hmap : s.frt.tagMap = (links s).1.2.1.mapIdx (fun k e => (e.1, k)) := hs.map
  have hfind : s.frt.tagMap.find? (fun e => e.2 = k) = (busAt s k).map (fun b => (b.tag, k)) := by
    rcases hb : busAt s k with _ | b
    · simp only [Option.map_none, List.find?_eq_none]
      intro e he
      rw [hmap, List.mem_mapIdx] at he
      obtain ⟨i, hi, rfl⟩ := he
      have hi' : i < s.frt.buses.length := by simpa [links] using hi
      simp only [decide_eq_true_eq]
      rintro rfl
      have := List.getElem?_eq_none_iff.1 hb
      omega
    · have hk : k < s.frt.buses.length := (List.getElem?_eq_some_iff.1 hb).1
      have hbk : s.frt.buses[k] = b := (List.getElem?_eq_some_iff.1 hb).2
      rcases hf : s.frt.tagMap.find? (fun e => e.2 = k) with _ | e
      · have hm : (b.tag, k) ∈ s.frt.tagMap := by
          rw [hmap, List.mem_mapIdx]
          exact ⟨k, by simpa [links] using hk, by simp [links, hbk]⟩
        have := List.find?_eq_none.1 hf _ hm
        simp at this
      · have h1 := List.mem_of_find?_eq_some hf
        have h2 := List.find?_some hf
        rw [hmap, List.mem_mapIdx] at h1
        obtain ⟨i, hi, rfl⟩ := h1
        simp at h2
        subst h2
        rw [hf]
        simp [links, hbk]
  unfold movedSlot
  rw [hfind]
  rcases hb : busAt s k with _ | b
  · simp
  · simp only [Option.map_some, List.findIdx?_eq_some_iff_getElem]
    constructor
    · rintro ⟨hj, h1, -⟩
      exact ⟨b, rows[j], rfl, List.getElem?_eq_getElem hj, by simpa using h1⟩
    · rintro ⟨b', r, hb', hj, ht⟩
      obtain ⟨hl, hr'⟩ := List.getElem?_eq_some_iff.1 hj
      simp at hb'
      subst hb'
      refine ⟨hl, by simp [hr', ht], ?_⟩
      intro i hi
      simp only [Bool.not_eq_true, decide_eq_false_iff_not]
      intro hc
      have hi1 : i < (rows.map FleetRow.tag).length := by simp; omega
      have hj1 : j < (rows.map FleetRow.tag).length := by simpa using hl
      have : (rows.map FleetRow.tag)[i]'hi1 = (rows.map FleetRow.tag)[j]'hj1 := by simp [hc, hr', ht]
      have := (List.Nodup.getElem_inj_iff hr).1 this
      omega

theorem fleetSlot_tag (s : State) (r : FleetRow) : (fleetSlot s r).tag = r.tag := by
  unfold fleetSlot
  split <;> rfl

theorem fleetSlot_post (s : State) (r : FleetRow) :
    (fleetSlot s r).post = ((taggedBus s r.tag).bind (busAt s)).bind Bus.post := by
  unfold fleetSlot
  rcases h : (taggedBus s r.tag).bind (busAt s) with _ | b <;> simp [busOfRow, Bus.inherit]

theorem linkedL_activateFleet (content : Option (List Row)) (s : State) (hr : TagsDistinct (content.getD []))
    (hs : LinkedL (links s)) : LinkedL (links (activateFleet content s)) := by
  unfold activateFleet
  dsimp only
  rw [links_buildStorage]
  unfold TagsDistinct at hr
  generalize fleetRows (content.getD []) = rows at hr
  generalize hs2 : modRdu _ _ = s2
  have hl2 : links s2 = (((links s).1.1, rows.map (fun r => (r.tag, (fleetSlot s r).post)),
      rows.mapIdx (fun k r => (r.tag, k))), (links s).2) := by
    rw [← hs2]
    simp [links, modFrt, modRdu, Function.comp_def, fleetSlot_tag]
  obtain ⟨h1, h2, h3⟩ := links_repostAll s rows postNos s2 (by decide)
  rw [hl2] at h1 h2 h3
  dsimp only at h1 h2 h3
  have hin : ∀ i, i + 4 ∈ postNos ↔ i < 64 := by
    intro i
    simp [postNos, List.mem_range'_1]
    omega
  have hbus : ∀ k b p, busAt s k = some b → b.post = some p → (4 ≤ p ∧ p ≤ 67) ∧ (postAt s p).bus = some k := by
    intro k b p hb hp
    obtain ⟨hr, h⟩ := hs.busPost k b.tag p ((busAt_post s k _ _).2 ⟨b, hb, rfl, hp⟩)
    obtain ⟨-, h⟩ := (postAt_bus s _ k).1 h
    rw [show p - 4 + 4 = p by omega] at h
    exact ⟨hr, h⟩
  refine ⟨?_, ?_, ?_, ?_, ?_, ?_, ?_, ?_, ?_, ?_⟩
  · intro j t p hj
    rw [h1] at hj
    simp only [List.getElem?_map, Option.map_eq_some_iff, Prod.mk.injEq] at hj
    obtain ⟨r, hjr, -, hp⟩ := hj
    rw [fleetSlot_post] at hp
    simp only [Option.bind_eq_some_iff] at hp
    obtain ⟨b, ⟨k, hk, hb⟩, hp⟩ := hp
    obtain ⟨hr', hpk⟩ := hbus k b p hb hp
    refine ⟨hr', ?_⟩
    rw [h3, if_pos ((hin _).2 (by omega))]
    have hlt : p - 4 < (links s).1.1.length := by
      have := hs.len
      omega
    rw [List.getElem?_eq_getElem hlt, Option.map_some, show p - 4 + 4 = p by omega]
    have ht := (taggedBus_iff s hs r.tag k).1 hk
    rw [hb] at ht
    simp only [newBus, hpk, Option.some.injEq]
    exact (movedSlot_iff s hs rows hr k j).2 ⟨b, r, hb, hjr, by simpa using ht.symm⟩
  · intro i j hij
    rw [h3] at hij
    have hi : i < 64 := by
      by_contra hc
      rw [if_neg (fun h => hc ((hin i).1 h))] at hij
      have := (List.getElem?_eq_some_iff.1 hij).1
      have := hs.len
      omega
    rw [if_pos ((hin i).2 hi)] at hij
    simp only [Option.map_eq_some_iff] at hij
    obtain ⟨o, ho, hn⟩ := hij
    rcases hb : (postAt s (i + 4)).bus with _ | k
    · simp only [newBus, hb] at hn
      subst hn
      have := ((postAt_bus s i j).1 ho).2
      rw [hb] at this
      simp at this
    · simp only [newBus, hb] at hn
      obtain ⟨b, r, hbk, hjr, ht⟩ := (movedSlot_iff s hs rows hr k j).1 hn
      refine ⟨r.tag, ?_⟩
      rw [h1]
      simp only [List.getElem?_map, hjr, Option.map_some, Option.some.injEq, Prod.mk.injEq, true_and]
      rw [fleetSlot_post, (taggedBus_iff s hs r.tag k).2 (by rw [hbk, Option.map_some, ht])]
      simp only [Option.bind_some, hbk]
      obtain ⟨t, h⟩ := hs.postBus i k (postBus_links s (i + 4) k (by omega) hb)
      obtain ⟨b', hb', -, hp⟩ := (busAt_post s k t _).1 h
      rw [hbk] at hb'
      simp at hb'
      rw [hb', hp]
  · have hlen : (links s).1.1.length = 64 := hs.len
    apply Nat.le_antisymm
    · by_contra hc
      have h := h3 64
      rw [if_neg (by rw [hin]; omega), List.getElem?_eq_none (by omega : (links s).1.1.length ≤ 64), List.getElem?_eq_none_iff] at h
      omega
    · by_contra hc
      have h := h3 63
      rw [if_pos (by rw [hin]; omega), List.getElem?_eq_none (by omega), List.getElem?_eq_getElem (by omega : 63 < (links s).1.1.length)] at h
      simp at h
  · rw [h1]
    apply List.ext_getElem?
    intro i
    simp only [List.getElem?_mapIdx, List.getElem?_map]
    cases rows[i]? <;> rfl
  · rw [h1]
    simpa [Function.comp_def] using hr
  · rw [h2]; exact hs.plug
  · rw [h2]; exact hs.round
  · rw [h2]; exact hs.stored
  · rw [h2]; exact hs.write
  · rw [h2]; exact hs.waiting

/-! ### The store -/

theorem linkedL_updStored (g : Segment) (f : StoredSeg → StoredSeg) (s : State)
    (h : g = .fleet → TagsDistinct (f s.tsm.store.fleet).rows) (hs : LinkedL (links s)) :
    LinkedL (links (updStored g f s)) := by
  unfold updStored
  refine linkedL_modTsm _ s ?_ hs.write hs.waiting hs
  cases g <;> first | exact hs.stored | exact h rfl

theorem linkedL_markIncomplete (job : WriteJob) (s : State) (hs : LinkedL (links s)) :
    LinkedL (links (markIncomplete job s)) := by
  unfold markIncomplete
  split
  · exact linkedL_updStored _ _ s (fun _ => List.nodup_nil) hs
  · exact linkedL_updStored _ _ s (fun _ => List.nodup_nil) hs
  · exact hs

theorem linkedL_beginWrite (h : MgmtHead) (job : WriteJob) (s : State)
    (hj : ∀ rows, job = .commit .fleet rows → TagsDistinct rows) (hs : LinkedL (links s)) :
    LinkedL (links (beginWrite h job s)) := by
  have h1 := linkedL_markIncomplete job s hs
  unfold beginWrite
  refine linkedL_modTsm _ _ h1.stored ?_ h1.waiting h1
  intro w rows hw hjob
  simp at hw
  subst hw
  exact hj rows hjob

theorem linkedL_storeWritten (job : WriteJob) (s : State) (hj : ∀ rows, job = .commit .fleet rows → TagsDistinct rows)
    (hs : LinkedL (links s)) : LinkedL (links (storeWritten job s)) := by
  unfold storeWritten
  split
  · exact linkedL_updStored _ _ s (fun hg => hj _ (by rw [hg])) hs
  · exact linkedL_updStored _ _ s (fun _ => List.nodup_nil) hs
  · refine linkedL_updStored _ _ s (fun _ => hs.stored) hs
  · rwa [links_modTsm] <;> rfl

theorem linkedL_storeFaulted (job : WriteJob) (s : State) (hs : LinkedL (links s)) :
    LinkedL (links (storeFaulted job s)) := by
  unfold storeFaulted
  split
  · exact linkedL_updStored _ _ s (fun _ => List.nodup_nil) hs
  · exact linkedL_updStored _ _ s (fun _ => List.nodup_nil) hs
  · exact hs
  · exact hs

theorem linkedL_makeReady (a : Activation) (s : State)
    (ha : a.seg = .fleet → ∀ rows, a.content = some rows → TagsDistinct rows) (hs : LinkedL (links s)) :
    LinkedL (links (makeReady a s)) := by
  unfold makeReady
  refine linkedL_modTsm _ s hs.stored hs.write ?_ hs
  intro b hb
  simp only [List.mem_append, List.mem_filter, List.mem_singleton] at hb
  rcases hb with hb | rfl
  · exact hs.waiting b hb.1
  · exact ha

theorem linkedL_readyAfter (job : WriteJob) (written : Bool) (s : State)
    (hj : ∀ rows, job = .commit .fleet rows → TagsDistinct rows) (hs : LinkedL (links s)) :
    LinkedL (links (readyAfter job written s)) := by
  unfold readyAfter
  (repeat' split)
  · refine linkedL_makeReady _ s ?_ hs
    rintro hg rows hr
    simp at hg hr
    subst hg hr
    exact hj _ rfl
  all_goals first | exact hs | exact linkedL_makeReady _ s (by simp) hs

theorem checkRows_fleet (i : Nat) (before l : List Row) (h : checkRows .fleet i before l = none)
    (hb : TagsDistinct before) : ((fleetRows before.reverse ++ fleetRows l).map FleetRow.tag).Nodup := by
  induction l generalizing i before with
  | nil => 
    simp only [fleetRows, List.filterMap_nil, List.append_nil]
    rw [List.filterMap_reverse, List.map_reverse, List.nodup_reverse]
    exact hb
  | cons r l ih =>
    unfold checkRows at h
    split at h
    · simp at h
    · rename_i hr
      unfold checkRow at hr
      split at hr <;> try (simp at *; done)
      rename_i r _
      simp only [firstFailing] at hr
      split at hr
      · split at hr
        · rename_i hq
          have := ih (i + 1) (.fleet r :: before) h ?_
          · simpa [fleetRows] using this
          · simp only [TagsDistinct, fleetRows, List.filterMap_cons, List.map_cons, List.nodup_cons]
            refine ⟨?_, hb⟩
            simp only [List.mem_map, not_exists, not_and]
            intro x hx hxt
            have := List.all_eq_true.1 hq x hx
            simp at this
            exact this.2 hxt
        · simp at hr
      · simp at hr

theorem validate_fleet (rows : List Row) (h : validate .fleet rows = none) : TagsDistinct rows := by
  unfold validate at h
  split at h
  · simp at h
  · rename_i hc
    simpa [fleetRows, TagsDistinct] using checkRows_fleet 0 [] rows hc List.nodup_nil

theorem linkedL_serveCommit (h : MgmtHead) (f : List Byte) (s : State) (hs : LinkedL (links s)) :
    LinkedL (links (serveCommit h f s)) := by
  unfold serveCommit
  split
  · simpa using hs
  · rename_i g rows hw
    refine linkedL_beginWrite h _ _ ?_ (by simpa using hs)
    intro rows' hj
    simp at hj
    obtain ⟨rfl, rfl⟩ := hj
    unfold judgeCommit at hw
    (repeat' split at hw) <;> simp at hw
    rename_i hv
    obtain ⟨rfl, rfl⟩ := hw
    exact validate_fleet _ hv

theorem linkedL_serveLock (h : MgmtHead) (f : List Byte) (s : State) (hs : LinkedL (links s)) :
    LinkedL (links (serveLock h f s)) := by
  unfold serveLock
  (repeat' split)
  · simpa using hs
  · simpa using hs
  · exact linkedL_beginWrite h _ s (by simp) hs

theorem linkedL_serveRelease (h : MgmtHead) (f : List Byte) (s : State) (hs : LinkedL (links s)) :
    LinkedL (links (serveRelease h f s)) := by
  unfold serveRelease
  (repeat' split)
  · simpa using hs
  · simpa using hs
  · simpa using hs
  · exact linkedL_beginWrite h _ s (by simp) hs

theorem linkedL_serveSetCode (h : MgmtHead) (f : List Byte) (s : State) (hs : LinkedL (links s)) :
    LinkedL (links (serveSetCode h f s)) := by
  unfold serveSetCode
  (repeat' split)
  · simpa using hs
  · exact linkedL_beginWrite h _ s (by simp) hs

theorem linkedL_serveSeason (h : MgmtHead) (f : List Byte) (s : State) (hs : LinkedL (links s)) :
    LinkedL (links (serveSeason h f s)) := by
  unfold serveSeason
  (repeat' split)
  · simpa using hs
  · simpa using hs
  · simpa using hs
  · exact linkedL_beginWrite h _ s (by simp) hs

@[simp] theorem links_serveReturn (h : MgmtHead) (f : List Byte) (s : State) :
    links (serveReturn h f s) = links s := by
  unfold serveReturn
  split
  · simp
  · rw [links_answer, links_updBus]
    intro b
    unfold Bus.returned
    split <;> exact ⟨rfl, rfl⟩

theorem linkedL_ite (c : Prop) [Decidable c] (a b : State) (ha : LinkedL (links a)) (hb : LinkedL (links b)) :
    LinkedL (links (if c then a else b)) := by
  split
  · exact ha
  · exact hb

theorem linkedL_serveOp (h : MgmtHead) (f : List Byte) (s : State) (hs : LinkedL (links s)) :
    LinkedL (links (serveOp h f s)) := by
  unfold serveOp
  refine linkedL_ite _ _ _ (by rwa [links_serveStage]) ?_
  refine linkedL_ite _ _ _ (linkedL_serveCommit h f s hs) ?_
  refine linkedL_ite _ _ _ (by rwa [links_serveDiscard]) ?_
  refine linkedL_ite _ _ _ (by rwa [links_serveRead]) ?_
  refine linkedL_ite _ _ _ (by rwa [links_serveStatus]) ?_
  refine linkedL_ite _ _ _ (linkedL_serveLock h f s hs) ?_
  refine linkedL_ite _ _ _ (linkedL_serveRelease h f s hs) ?_
  refine linkedL_ite _ _ _ (linkedL_serveSetCode h f s hs) ?_
  refine linkedL_ite _ _ _ (by rwa [links_serveClearStatus]) ?_
  refine linkedL_ite _ _ _ (by rwa [links_serveWithdraw]) ?_
  refine linkedL_ite _ _ _ (by rwa [links_serveReturn]) ?_
  refine linkedL_ite _ _ _ (by rwa [links_serveSubstitute]) ?_
  refine linkedL_ite _ _ _ (linkedL_serveSeason h f s hs) ?_
  rwa [links_serveRestart]

theorem linkedL_takeMgmt (src seq op : Byte) (access fields : List Byte) (s : State) (hs : LinkedL (links s)) :
    LinkedL (links (takeMgmt src seq op access fields s)) := by
  unfold takeMgmt judgeMgmt
  split
  · rwa [links_answer]
  · exact linkedL_serveOp _ _ s hs

theorem linkedL_handMgmt (t : Telegram) (s : State) (hs : LinkedL (links s)) : LinkedL (links (handMgmt t s)) := by
  unfold handMgmt
  split
  · exact hs
  · exact linkedL_takeMgmt _ _ _ _ _ s hs

/-! ### Stations -/

theorem station_posts (c : Nat) (hc : IsStation c) : ∀ p ∈ postsOf c, 4 ≤ p ∧ p ≤ 67 := by
  obtain ⟨h1, h2⟩ := hc
  intro p hp
  simp only [postsOf, positions, postNo, List.map_cons, List.map_nil, List.mem_cons, List.not_mem_nil, or_false] at hp
  omega

theorem stations_are (c : Nat) (hc : c ∈ stations) : IsStation c := by
  simp only [stations, List.mem_cons, List.not_mem_nil, or_false] at hc
  unfold IsStation
  omega

theorem nextStation_is (s : State) (a c : Nat) (h : nextStation s a = some c) : IsStation c :=
  stations_are c (List.mem_of_find?_eq_some h)

theorem linkedL_unlocateAll (c : Nat) (s : State) (hc : IsStation c) (hs : LinkedL (links s)) :
    LinkedL (links (unlocateAll c s)) := by
  unfold unlocateAll
  exact linkedL_foldl _ _ _ (fun s p hp h => linkedL_unlocate p .yard s (station_posts c hc p hp).1 h) hs

theorem linkedL_removeEvents (c : Nat) (s : State) (hs : LinkedL (links s)) : LinkedL (links (removeEvents c s)) := by
  unfold removeEvents
  refine linkedL_plugQ (fun l => l.filter (fun e => e.cabinet ≠ c)) s ?_ hs
  intro e he
  exact hs.plug e (List.mem_of_mem_filter he)

theorem linkedL_joinPlug (e : PlugEvent) (s : State) (he : e.ofPost) (hs : LinkedL (links s)) :
    LinkedL (links (joinPlug e s)) := by
  unfold joinPlug
  refine linkedL_plugQ (fun l => l ++ [e]) s ?_ hs
  intro x hx
  rcases List.mem_append.1 hx with hx | hx
  · exact hs.plug x hx
  · simp at hx
    subst hx
    exact he

theorem linkedL_abandonVisit (c : Nat) (s : State) (hs : LinkedL (links s)) : LinkedL (links (abandonVisit c s)) := by
  unfold abandonVisit
  dsimp only
  refine linkedL_modYlc _ s ?_ hs
  intro d w p h
  dsimp only at h
  split at h <;> first | exact hs.round d w p h | (split at h <;> first | exact hs.round d w p h | simp at h)

theorem linkedL_unconfigure (c : Nat) (s : State) (hc : IsStation c) (hs : LinkedL (links s)) :
    LinkedL (links (unconfigure c s)) := by
  unfold unconfigure
  dsimp only
  rw [links_foldl]
  · rw [links_enterAll]
    refine linkedL_unlocateAll c _ hc (linkedL_removeEvents c _ ?_)
    split <;> simp [linkedL_abandonVisit, hs]
  · intro s p
    exact links_updPost _ _ _ (fun _ => rfl)

theorem linkedL_activateStation (rows : List YardRow) (c : Nat) (s : State) (hc : IsStation c) (hs : LinkedL (links s)) :
    LinkedL (links (activateStation rows c s)) := by
  unfold activateStation
  split
  · exact linkedL_unconfigure c s hc hs
  · exact hs
  · rwa [links_reconfigure]
  · rwa [links_rejoin]
  · rwa [links_configure]

theorem linkedL_roundOver (s : State) (hs : LinkedL (links s)) : LinkedL (links (roundOver s)) := by
  unfold roundOver
  rw [links_modAle]
  exact linkedL_modYlc _ s (by simp) hs

theorem linkedL_closeRound (s : State) (hs : LinkedL (links s)) : LinkedL (links (closeRound s)) := by
  unfold closeRound
  (repeat' split) <;> simp [linkedL_roundOver, hs]

theorem linkedL_activateYard (content : Option (List Row)) (s : State) (hs : LinkedL (links s)) :
    LinkedL (links (activateYard content s)) := by
  unfold activateYard
  split
  · simpa using hs
  · rw [links_yardArrived]
    exact linkedL_closeRound _ (linkedL_foldl _ _ _ (fun s c hc h => linkedL_activateStation _ c s (stations_are c hc) h) hs)

theorem linkedL_handContent (g : Segment) (content : Option (List Row)) (s : State)
    (h : g = .fleet → ∀ rows, content = some rows → TagsDistinct rows) (hs : LinkedL (links s)) :
    LinkedL (links (handContent g content s)) := by
  unfold handContent
  split <;> try (simp [hs, linkedL_activateYard])
  refine linkedL_activateFleet content s ?_ hs
  rcases content with _ | rows
  · exact List.nodup_nil
  · exact h rfl rows rfl

theorem linkedL_applyActivation (a : Activation) (s : State)
    (h : a.seg = .fleet → ∀ rows, a.content = some rows → TagsDistinct rows) (hs : LinkedL (links s)) :
    LinkedL (links (applyActivation a s)) := by
  unfold applyActivation
  rw [links_wantPass]
  refine linkedL_handContent _ _ _ h ?_
  rwa [links_modTsm] <;> rfl

theorem linkedL_applyWaiting (s : State) (hs : LinkedL (links s)) : LinkedL (links (applyWaiting s)) := by
  unfold applyWaiting
  refine linkedL_foldl _ _ _ (fun s a ha h => linkedL_applyActivation a s (hs.waiting a ha) h) ?_
  exact linkedL_modTsm _ s hs.stored hs.write (by simp) hs

/-! ### The other operations -/

theorem linkedL_repairOccupancy (p : Nat) (s : State) (hp : 4 ≤ p ∧ p ≤ 67) (hs : LinkedL (links s)) :
    LinkedL (links (repairOccupancy p s)) := by
  have hu : ∀ n, links (updPost p (fun q => { q with mismatch := n }) s) = links s := fun n => links_updPost _ _ _ (fun _ => rfl)
  have hj : ∀ (t : State), LinkedL (links t) → LinkedL (links (joinPlug ⟨p / 4, p % 4, .unplugged, [], none⟩ t)) := by
    intro t ht
    refine linkedL_joinPlug _ t ?_ ht
    refine ⟨⟨?_, ?_⟩, ?_⟩ <;> (dsimp only; omega)
  unfold repairOccupancy
  split
  · simpa using hs
  · simpa using hs
  · split
    · rwa [links_refuseEvent, hu]
    · exact hj _ (by rwa [hu])
  · split
    · rwa [links_refuseEvent, hu]
    · exact hj _ (by rwa [hu])
  · exact hs

theorem linkedL_compareOccupancy (p : Nat) (before : PostState) (occupied spoken : Bool) (s : State) (hp : 4 ≤ p ∧ p ≤ 67)
    (hs : LinkedL (links s)) : LinkedL (links (compareOccupancy p before occupied spoken s)) := by
  unfold compareOccupancy
  (repeat' split) <;> first | exact hs | exact linkedL_repairOccupancy p s hp hs | (rw [links_updPost] <;> first | exact hs | exact fun _ => rfl)

theorem linkedL_beginPass (s : State) (hs : LinkedL (links s)) :
    LinkedL (links (beginPass s)) := by
  unfold beginPass
  simp [hs, linkedL_drainForPass]

theorem linkedL_safePass (s : State) (hs : LinkedL (links s)) :
    LinkedL (links (safePass s)) := by
  unfold safePass
  simp [hs, linkedL_drainForPass]

theorem linkedL_startPass (s : State) (hs : LinkedL (links s)) :
    LinkedL (links (startPass s)) := by
  unfold startPass
  split <;> simp [hs, linkedL_beginPass, linkedL_safePass]

theorem linkedL_runTriggers (s : State) (hs : LinkedL (links s)) : LinkedL (links (runTriggers s)) := by
  have h : ∀ t : State, LinkedL (links t) → LinkedL (links (startPass (modAle (fun a => { a with pending := false }) t))) :=
    fun t ht => linkedL_startPass _ (by rwa [links_modAle])
  unfold runTriggers
  dsimp only
  (repeat' split) <;> first
    | exact hs
    | exact h _ (linkedL_applyWaiting _ (h s hs))
    | exact linkedL_applyWaiting _ (h s hs)
    | exact h s hs

theorem linkedL_trigger (s : State) (hs : LinkedL (links s)) :
    LinkedL (links (trigger s)) := by
  unfold trigger
  simp [hs, linkedL_runTriggers]

theorem linkedL_boundary (s : State) (hs : LinkedL (links s)) :
    LinkedL (links (boundary s)) := by
  unfold boundary
  simp [hs, linkedL_applyWaiting, linkedL_runTriggers]

theorem linkedL_handMinute (s : State) (hs : LinkedL (links s)) : LinkedL (links (handMinute s)) := by
  unfold handMinute
  rw [links_takeSlot]
  exact linkedL_runTriggers _ (by rwa [links_evalTariff])

theorem linkedL_firstSetting (minute weekday second : Nat) (s : State) (hs : LinkedL (links s)) :
    LinkedL (links (firstSetting minute weekday second s)) := by
  unfold firstSetting
  simp [hs, linkedL_handMinute]

theorem linkedL_jump (minute weekday second : Nat) (s : State) (hs : LinkedL (links s)) :
    LinkedL (links (jump minute weekday second s)) := by
  unfold jump
  dsimp only
  refine linkedL_handMinute _ ?_
  rw [links_notice, links_buildList]
  split
  · rwa [links_adoptClock]
  · rwa [links_clearMarkers, links_clearSubstitutes, links_resetOutcomes, links_adoptClock]

theorem links_timesDo (n : Nat) (s : State) : links (timesDo advanceMinute n s) = links s := by
  induction n generalizing s with
  | zero => rfl
  | succ n ih => rw [timesDo, ih, links_advanceMinute]

theorem linkedL_slewForward (seconds second : Nat) (s : State) (hs : LinkedL (links s)) :
    LinkedL (links (slewForward seconds second s)) := by
  have h : LinkedL (links (setSecond second (timesDo advanceMinute ((s.rdu.clock.second + seconds) / 60) s))) := by
    rwa [links_setSecond, links_timesDo]
  unfold slewForward
  dsimp only
  split
  · exact h
  · exact linkedL_handMinute _ h

theorem linkedL_slewBackward (minute weekday second : Nat) (s : State) (hs : LinkedL (links s)) :
    LinkedL (links (slewBackward minute weekday second s)) := by
  unfold slewBackward
  split <;> simp [hs, linkedL_handMinute]

theorem linkedL_judgeTime (minute weekday second : Nat) (s : State) (hs : LinkedL (links s)) :
    LinkedL (links (judgeTime minute weekday second s)) := by
  unfold judgeTime
  dsimp only
  exact linkedL_ite _ _ _ (linkedL_slewForward _ _ s hs)
    (linkedL_ite _ _ _ (linkedL_slewBackward _ _ _ s hs) (linkedL_jump _ _ _ s hs))

theorem linkedL_takeTime (payload : List Byte) (s : State) (hs : LinkedL (links s)) :
    LinkedL (links (takeTime payload s)) := by
  unfold takeTime
  split
  · exact hs
  · exact linkedL_ite _ _ _ hs (linkedL_ite _ _ _ (by rwa [links_notice])
      (linkedL_ite _ _ _ (linkedL_judgeTime _ _ _ s hs) (linkedL_firstSetting _ _ _ s hs)))

theorem linkedL_sendExchange (c waits : Nat) (s : State) (hc : IsStation c) (hs : LinkedL (links s)) :
    LinkedL (links (sendExchange c waits s)) := by
  unfold sendExchange
  dsimp only
  rw [links_takeLink, links_countFree]
  refine linkedL_modYlc _ s ?_ hs
  intro d w p h
  simp at h
  rwa [← h.1]

theorem linkedL_completeRound (s : State) (hs : LinkedL (links s)) :
    LinkedL (links (completeRound s)) := by
  unfold completeRound
  simp [hs, linkedL_roundOver, linkedL_trigger]

theorem linkedL_continueRound (last : Nat) (s : State) (hs : LinkedL (links s)) :
    LinkedL (links (continueRound last s)) := by
  unfold continueRound
  split
  · rename_i c hc
    exact linkedL_sendExchange c 0 _ (nextStation_is s last c hc) (by rwa [links_modYlc]; rfl)
  · exact linkedL_completeRound s hs

theorem linkedL_startRound (s : State) (hs : LinkedL (links s)) :
    LinkedL (links (startRound s)) := by
  unfold startRound
  simp [hs, linkedL_continueRound]

theorem linkedL_endVisit (c : Nat) (answered : Bool) (s : State) (hs : LinkedL (links s)) :
    LinkedL (links (endVisit c answered s)) := by
  have h : ∀ y : Ylc, y.round = .between c → LinkedL (links { s with ylc := y }) := by
    intro y hy
    refine linkedL_modYlc (fun _ => y) s ?_ hs
    intro d w p h
    rw [hy] at h
    simp at h
  unfold endVisit
  dsimp only
  refine linkedL_ite _ _ _ (linkedL_completeRound _ ?_) ?_ <;> exact h _ rfl

theorem linkedL_giveLink (g : Grantee) (s : State) (hg : ∀ c w, g = .resend c w → IsStation c) (hs : LinkedL (links s)) :
    LinkedL (links (giveLink g s)) := by
  unfold giveLink
  split
  · rwa [links_sendCurtail]
  · exact linkedL_sendExchange _ _ s (hg _ _ rfl) hs
  · rwa [links_sendPool]
  · rwa [links_sendForward]
  · exact linkedL_continueRound _ s hs
  · exact linkedL_startRound s hs
  · exact hs

theorem pick_resend (s : State) (c w : Nat) (hs : LinkedL (links s)) (h : pick s = .resend c w) : IsStation c := by
  unfold pick at h
  split at h
  · simp at h
  · split at h
    · rename_i hr
      simp at h
      rw [← h.1]
      exact hs.round _ _ _ hr
    · simp at h
    · unfold pickOther at h
      (repeat' split at h) <;> simp at h

theorem linkedL_settleLink (n : Nat) (s : State) (hs : LinkedL (links s)) : LinkedL (links (settleLink n s)) := by
  induction n generalizing s with
  | zero => exact hs
  | succ n ih =>
    unfold settleLink
    (repeat' split)
    · rwa [links_closeClaims]
    · exact ih _ (linkedL_giveLink _ s (fun c w h => pick_resend s c w hs h) hs)
    · exact hs

theorem linkedL_finish (s : State) (hs : LinkedL (links s)) : LinkedL (links (finish s)) := by
  unfold finish
  exact linkedL_settleLink 3 s hs

theorem linkedL_missVisit (c : Nat) (s : State) (hs : LinkedL (links s)) : LinkedL (links (missVisit c s)) := by
  unfold missVisit
  exact linkedL_endVisit c false _ (by rwa [links_countMiss])

theorem linkedL_cabinetRestart (c : Nat) (s : State) (hc : IsStation c) (hs : LinkedL (links s)) :
    LinkedL (links (cabinetRestart c s)) := by
  unfold cabinetRestart
  dsimp only
  rw [links_updCab, links_notice, links_restartPool]
  refine linkedL_unlocateAll c _ hc ?_
  rw [links_enterAll]
  refine linkedL_removeEvents c _ ?_
  rwa [links_updCab]

theorem linkedL_statusRestart (c : Nat) (restarted : Bool) (s : State) (hc : IsStation c) (hs : LinkedL (links s)) :
    LinkedL (links (statusRestart c restarted s)) := by
  unfold statusRestart
  (repeat' split)
  · exact hs
  · exact linkedL_cabinetRestart c s hc hs
  · rwa [links_updCab]

theorem linkedL_statusReport (c : Nat) (m : StatusMsg) (before : List PostState) (i : Nat) (s : State) (hc : IsStation c)
    (hi : i ∈ positions) (hs : LinkedL (links s)) : LinkedL (links (statusReport c m before i s)) := by
  have hp : 4 ≤ postNo c i ∧ postNo c i ≤ 67 := by
    refine station_posts c hc _ ?_
    exact List.mem_map_of_mem hi
  have h : ∀ (r : RawReport) (st : PostState) (o : Bool) (f : Post → Post), (∀ q, (f q).bus = q.bus) →
      LinkedL (links (compareOccupancy (postNo c i) st o (speaksOf m i) (updPost (postNo c i) f s))) := by
    intro r st o f hf
    refine linkedL_compareOccupancy _ _ _ _ _ hp ?_
    rwa [links_updPost _ _ _ hf]
  unfold statusReport
  split
  · exact hs
  · dsimp only
    split
    · exact h ‹_› _ _ _ (fun _ => rfl)
    · rw [links_takeHeld]
      exact h ‹_› _ _ _ (fun _ => rfl)

theorem linkedL_offerEvents (c : Nat) (hc : IsStation c) (refused : Bool) (l : List RawEvent) (s : State)
    (hs : LinkedL (links s)) : LinkedL (links (offerEvents c refused l s).1) := by
  induction l generalizing refused s with
  | nil => exact hs
  | cons e l ih =>
    have ha : LinkedL (links (updCab c (fun r => { r with lastSeq := some e.seq.toNat }) s)) := by rwa [links_updCab]
    unfold offerEvents
    dsimp only
    (repeat' split)
    · exact ih _ _ hs
    · exact ih _ _ hs
    · exact ih _ _ ha
    · exact ih _ _ (by rwa [links_refuseEvent])
    · rename_i entry he _
      refine ih _ _ (linkedL_joinPlug entry _ ?_ ha)
      unfold entryOf at he
      (repeat' split at he) <;> simp at he <;> (subst he; refine ⟨hc, ?_⟩; dsimp only; omega)

theorem linkedL_applyReports (c : Nat) (m : StatusMsg) (grants : List Int) (s : State) (hc : IsStation c)
    (hs : LinkedL (links s)) : LinkedL (links (applyReports c m grants s)) := by
  unfold applyReports
  dsimp only
  rw [links_foldl]
  · rw [links_markQuiet]
    refine linkedL_foldl _ _ _ (fun s i hi h => linkedL_statusReport c m _ i s hc hi h) ?_
    rw [links_reportMode, links_statusLink]
    exact linkedL_statusRestart c _ s hc hs
  · intro s i
    exact links_statusSettle c i s

theorem linkedL_takeStatus (c : Nat) (m : StatusMsg) (grants : List Int) (s : State) (hc : IsStation c)
    (hs : LinkedL (links s)) : LinkedL (links (takeStatus c m grants s)) := by
  unfold takeStatus
  dsimp only
  refine linkedL_endVisit c true _ ?_
  rw [links_statusHandOff]
  exact linkedL_offerEvents c hc _ _ _ (linkedL_applyReports c m grants s hc hs)

theorem linkedL_curtailDone (s : State) (hs : LinkedL (links s)) : LinkedL (links (curtailDone s)) := by
  unfold curtailDone
  dsimp only
  rw [links_notice]
  split
  · exact linkedL_boundary _ (by rwa [links_wantPass, links_endPass, links_modAle, links_zeroAll])
  · exact linkedL_trigger _ (by rwa [links_modAle, links_zeroAll])

theorem linkedL_siteSilent (s : State) (hs : LinkedL (links s)) : LinkedL (links (siteSilent s)) := by
  unfold siteSilent
  dsimp only
  refine linkedL_ite _ _ _ (linkedL_runTriggers _ ?_) ?_
  · rw [links_enterIsland]
    exact hs
  · exact hs

theorem linkedL_siteReturn (s : State) (hs : LinkedL (links s)) : LinkedL (links (siteReturn s)) := by
  unfold siteReturn
  dsimp only
  refine linkedL_ite _ _ _ ?_ hs
  rw [links_trySend]
  exact hs

theorem linkedL_siteArrived (s : State) (hs : LinkedL (links s)) : LinkedL (links (siteArrived s)) := by
  unfold siteArrived
  dsimp only
  exact linkedL_ite _ _ _ (linkedL_siteReturn _ hs) hs

theorem linkedL_siteLeft (b s : State) (hs : LinkedL (links s)) : LinkedL (links (siteLeft b s)) :=
  linkedL_ite _ _ _ (linkedL_siteReturn _ hs) hs

/-- A telegram's arrival and handling keep what the handling keeps. -/
theorem linkedL_siteHandled (f : State → State) (s : State) (hf : ∀ s, LinkedL (links s) → LinkedL (links (f s)))
    (hs : LinkedL (links s)) : LinkedL (links (siteHandled f s)) :=
  linkedL_siteLeft _ _ (hf _ (linkedL_siteArrived _ hs))

theorem linkedL_judgeBreach (s : State) (hs : LinkedL (links s)) : LinkedL (links (judgeBreach s)) := by
  unfold judgeBreach
  dsimp only
  refine linkedL_ite _ _ _ hs (linkedL_ite _ _ _ (linkedL_trigger _ ?_) (linkedL_trigger _ hs))
  rw [links_notice]
  exact hs

theorem linkedL_takeMeter (payload : List Byte) (s : State) (hs : LinkedL (links s)) :
    LinkedL (links (takeMeter payload s)) := by
  unfold takeMeter
  (repeat' split) <;> simp [hs, linkedL_judgeBreach]

theorem linkedL_answerDispatch (src seq : Byte) (f : DispatchFields) (s : State) (hs : LinkedL (links s)) :
    LinkedL (links (answerDispatch src seq f s)) := by
  unfold answerDispatch
  dsimp only
  (repeat' split) <;> simp [hs, linkedL_runTriggers]

theorem linkedL_takeDispatch (src seq : Byte) (payload : List Byte) (s : State) (hs : LinkedL (links s)) :
    LinkedL (links (takeDispatch src seq payload s)) := by
  unfold takeDispatch
  (repeat' split) <;> simp [hs, linkedL_answerDispatch]

theorem linkedL_cancelDispatch (id : Nat) (s : State) (hs : LinkedL (links s)) :
    LinkedL (links (cancelDispatch id s)) := by
  unfold cancelDispatch
  (repeat' split) <;> simp [hs, linkedL_trigger]

theorem linkedL_takeCancel (payload : List Byte) (s : State) (hs : LinkedL (links s)) :
    LinkedL (links (takeCancel payload s)) := by
  unfold takeCancel
  (repeat' split) <;> simp [hs, linkedL_cancelDispatch]

theorem linkedL_clampSetreq (dst src seq : Byte) (position p : Nat) (request : Option Int) (boost : Bool) (s : State) (hs : LinkedL (links s)) :
    LinkedL (links (clampSetreq dst src seq position p request boost s)) := by
  unfold clampSetreq
  split <;> simp [hs, linkedL_trigger]

theorem linkedL_judgeClamp (dst src seq : Byte) (position : Nat) (request : Option Int) (boost : Bool) (s : State) (hs : LinkedL (links s)) :
    LinkedL (links (judgeClamp dst src seq position request boost s)) := by
  unfold judgeClamp
  (repeat' split) <;> simp [hs, linkedL_clampSetreq]

theorem linkedL_takeSetreq (dst src seq : Byte) (payload : List Byte) (s : State) (hs : LinkedL (links s)) :
    LinkedL (links (takeSetreq dst src seq payload s)) := by
  unfold takeSetreq
  (repeat' split) <;> simp [hs, linkedL_judgeClamp]

theorem linkedL_awaited (s : State) (c w : Nat) (g : List Int) (hs : LinkedL (links s)) (h : awaited s = some (c, w, g)) :
    IsStation c := by
  unfold awaited at h
  split at h
  · rename_i hr
    simp at h
    rw [← h.1]
    exact hs.round _ _ _ hr
  · simp at h

theorem linkedL_replyStatus (src : Byte) (payload : List Byte) (s : State) (hs : LinkedL (links s)) :
    LinkedL (links (replyStatus src payload s)) := by
  unfold replyStatus
  split
  · split
    · rename_i h _ _
      exact linkedL_takeStatus _ _ _ s (linkedL_awaited s _ _ _ hs h) hs
    · exact hs
  · exact hs

theorem linkedL_holdOff (c waits : Nat) (s : State) (hc : IsStation c) (hs : LinkedL (links s)) :
    LinkedL (links (holdOff c waits s)) := by
  unfold holdOff
  split
  · refine linkedL_modYlc _ s ?_ hs
    intro d w p h
    simp at h
    rwa [← h.1]
  · exact linkedL_missVisit c s hs

theorem linkedL_replyWait (src : Byte) (payload : List Byte) (s : State) (hs : LinkedL (links s)) :
    LinkedL (links (replyWait src payload s)) := by
  unfold replyWait
  split
  · exact hs
  · rename_i h
    split
    · exact linkedL_holdOff _ _ s (linkedL_awaited s _ _ _ hs h) hs
    · exact hs

theorem linkedL_holdOffExpired (s : State) (hs : LinkedL (links s)) : LinkedL (links (holdOffExpired s)) := by
  unfold holdOffExpired
  split
  · rename_i hr
    refine linkedL_modYlc _ s ?_ hs
    intro d w p h
    simp at h
    rw [← h.1]
    exact hs.round _ _ _ hr
  · exact hs

theorem linkedL_exchangeTimeout (s : State) (hs : LinkedL (links s)) : LinkedL (links (exchangeTimeout s)) := by
  unfold exchangeTimeout
  split
  · exact hs
  · exact linkedL_missVisit _ s hs

theorem linkedL_curtailSendDone (s : State) (hs : LinkedL (links s)) :
    LinkedL (links (curtailSendDone s)) := by
  unfold curtailSendDone
  split <;> simp [hs, linkedL_curtailDone]

theorem linkedL_applyIfIdle (s : State) (hs : LinkedL (links s)) :
    LinkedL (links (applyIfIdle s)) := by
  unfold applyIfIdle
  split <;> simp [hs, linkedL_boundary]

theorem linkedL_endWrite (written : Bool) (s : State) (hs : LinkedL (links s)) : LinkedL (links (endWrite written s)) := by
  unfold endWrite
  split
  · exact hs
  · rename_i w hw
    have hj := hs.write w
    dsimp only
    refine linkedL_applyIfIdle _ (linkedL_readyAfter _ _ _ (fun rows h => hj rows hw h) ?_)
    rw [links_answer]
    have h1 : LinkedL (links (if written then storeWritten w.job s else storeFaulted w.job s)) :=
      linkedL_ite _ _ _ (linkedL_storeWritten _ s (fun rows h => hj rows hw h) hs) (linkedL_storeFaulted _ s hs)
    exact linkedL_modTsm _ _ h1.stored (by simp) h1.waiting h1

theorem linkedL_handOwn (t : Telegram) (s : State) (hs : LinkedL (links s)) :
    LinkedL (links (handOwn t s)) := by
  unfold handOwn
  (repeat' split) <;> simp [hs, linkedL_handMgmt, linkedL_takeTime, linkedL_takeMeter, linkedL_takeDispatch, linkedL_takeCancel]

theorem linkedL_handThrough (t : Telegram) (s : State) (hs : LinkedL (links s)) :
    LinkedL (links (handThrough t s)) := by
  unfold handThrough
  split <;> simp [hs, linkedL_takeSetreq]

theorem linkedL_deliverSite (t : Telegram) (s : State) (hs : LinkedL (links s)) :
    LinkedL (links (deliverSite t s)) := by
  unfold deliverSite
  refine linkedL_siteHandled _ _ (fun s hs => ?_) hs
  (repeat' split) <;> simp [hs, linkedL_handOwn, linkedL_handThrough]

theorem linkedL_deliverYard (t : Telegram) (s : State) (hs : LinkedL (links s)) :
    LinkedL (links (deliverYard t s)) := by
  unfold deliverYard
  (repeat' split) <;> simp [hs, linkedL_replyStatus, linkedL_replyWait]

theorem linkedL_siteBytes (l : List Byte) (s : State) (hs : LinkedL (links s)) : LinkedL (links (siteBytes l s)) := by
  unfold siteBytes
  exact linkedL_foldl _ _ _ (fun s t _ h => linkedL_deliverSite t s h) hs

theorem linkedL_yardBytes (l : List Byte) (s : State) (hs : LinkedL (links s)) : LinkedL (links (yardBytes l s)) := by
  unfold yardBytes
  exact linkedL_ite _ _ _ hs (linkedL_foldl _ _ _ (fun s t _ h => linkedL_deliverYard t s h) hs)

theorem linkedL_powerUp (s : State) (hs : LinkedL (links s)) : LinkedL (links (powerUp s)) := by
  have h := (linked_iff _).1 linked_reset
  exact ⟨h.1, h.2, h.3, h.4, h.5, h.6, h.7, hs.stored, h.9, h.10⟩

theorem linkedL_powerDown (s : State) (hs : LinkedL (links s)) : LinkedL (links (powerDown s)) := linkedL_powerUp s hs

theorem linkedL_loadSegment (g : Segment) (s : State) (hs : LinkedL (links s)) : LinkedL (links (loadSegment g s)) := by
  unfold loadSegment
  refine linkedL_handContent g _ _ ?_ hs
  rintro rfl rows h
  unfold loadedContent at h
  split at h
  · simp at h
    rw [← h]
    exact hs.stored
  · simp at h

theorem linkedL_loadStore (s : State) (hs : LinkedL (links s)) : LinkedL (links (loadStore s)) := by
  unfold loadStore
  rw [links_modStp]
  exact linkedL_foldl _ _ _ (fun s g _ h => linkedL_loadSegment g s h) hs

theorem linkedL_endStarting (s : State) (hs : LinkedL (links s)) :
    LinkedL (links (endStarting s)) := by
  unfold endStarting
  simp [hs, linkedL_trigger]

theorem linkedL_endLoading (s : State) (hs : LinkedL (links s)) : LinkedL (links (endLoading s)) := by
  unfold endLoading
  exact linkedL_ite _ _ _ (linkedL_endStarting _ (linkedL_loadStore s hs)) hs

@[simp] theorem links_restartRdu (s : State) : links (restartRdu s) = links s := by
  unfold restartRdu
  simp

theorem linkedL_restartBlocks (s : State) (hs : LinkedL (links s)) : LinkedL (links (restartBlocks s)) := by
  unfold restartBlocks
  dsimp only
  rw [links_buildStorage, links_restartRdu]
  have hn : ∀ o ∈ (restartPosts { s with
    sli := s.sli.restart, ylc := restartYlc s, sbu := s.sbu.restart, ale := Ale.initial, rsu := s.rsu.restart
    stp := s.stp.restart, tsm := s.tsm.restart }).map Post.bus, o = none := by
    intro o ho
    simp only [restartPosts, List.map_map, List.mem_map] at ho
    obtain ⟨p, -, rfl⟩ := ho
    rfl
  have hb : (s.frt.buses.map Bus.restart).map (fun b => (b.tag, b.post)) =
      (links s).1.2.1.map (fun e => (e.1, none)) := by
    simp [links, Bus.restart, Function.comp_def]
  refine ⟨?_, ?_, ?_, ?_, ?_, ?_, ?_, hs.stored, hs.write, hs.waiting⟩
  · intro k t p h
    replace h : ((s.frt.buses.map Bus.restart).map (fun b => (b.tag, b.post)))[k]? = some (t, some p) := h
    rw [hb] at h
    simp at h
  · intro i k h
    have := hn _ (List.mem_of_getElem? h)
    simp at this
  · show (List.map Post.bus (restartPosts _)).length = 64
    simp [restartPosts, postNos]
  · show s.frt.tagMap = ((s.frt.buses.map Bus.restart).map (fun b => (b.tag, b.post))).mapIdx _
    rw [hb]
    refine hs.map.trans ?_
    apply List.ext_getElem?
    intro j
    simp only [List.getElem?_mapIdx, List.getElem?_map]
    cases (links s).1.2.1[j]? <;> rfl
  · show (((s.frt.buses.map Bus.restart).map (fun b => (b.tag, b.post))).map Prod.fst).Nodup
    rw [hb]
    simpa [Function.comp_def] using hs.tags
  · exact fun e he => absurd he List.not_mem_nil
  · exact fun c w p h => nomatch h

theorem linkedL_partRestart (s : State) (hs : LinkedL (links s)) : LinkedL (links (partRestart s)) := by
  unfold partRestart
  exact linkedL_ite _ _ _ (linkedL_endStarting _ (linkedL_applyWaiting _ (linkedL_restartBlocks s hs))) hs

theorem linkedL_silenceExpired (s : State) (hs : LinkedL (links s)) : LinkedL (links (silenceExpired s)) := by
  unfold silenceExpired
  exact linkedL_ite _ _ _ hs (linkedL_siteSilent _ hs)

theorem linkedL_minutePassed (s : State) (hs : LinkedL (links s)) :
    LinkedL (links (minutePassed s)) := by
  unfold minutePassed
  split <;> simp [hs, linkedL_handMinute]

theorem linkedL_passTimerExpired (s : State) (hs : LinkedL (links s)) : LinkedL (links (passTimerExpired s)) := by
  unfold passTimerExpired
  exact linkedL_ite _ _ _ hs (linkedL_trigger _ hs)

theorem linkedL_armedCounted (s : State) (hs : LinkedL (links s)) :
    LinkedL (links (armedCounted s)) := by
  unfold armedCounted
  split <;> simp [hs, linkedL_runTriggers]

theorem linkedL_dispatchRanOut (s : State) (hs : LinkedL (links s)) :
    LinkedL (links (dispatchRanOut s)) := by
  unfold dispatchRanOut
  split <;> simp [hs, linkedL_trigger]

theorem linkedL_passCompleted (s : State) (hs : LinkedL (links s)) :
    LinkedL (links (passCompleted s)) := by
  unfold passCompleted
  (repeat' split) <;> simp [hs, linkedL_boundary]

@[simp] theorem links_closeTick (s : State) : links (closeTick s) = links s := by
  unfold closeTick
  split <;> simp

@[simp] theorem links_countTick (s : State) : links (countTick s) = links s := by
  simp [links, countTick, Function.comp_def]

theorem linkedL_fire (e : TimerEvent) (s : State) (hs : LinkedL (links s)) : LinkedL (links (e.fire s)) := by
  unfold TimerEvent.fire
  split <;> first
    | exact linkedL_silenceExpired s hs | exact linkedL_minutePassed s hs | exact linkedL_passTimerExpired s hs
    | exact linkedL_armedCounted s hs | exact linkedL_dispatchRanOut s hs | exact linkedL_partRestart s hs
    | (simp only [links_roundExpired, links_meterStaled, links_meterFellBack, links_quiesceExpired, links_answerAged]; exact hs)

theorem linkedL_carryOut (e : TimerEvent) (s : State) (hs : LinkedL (links s)) : LinkedL (links (carryOut e s)) := by
  unfold carryOut
  exact linkedL_ite _ _ _ (linkedL_fire e s hs) hs

theorem linkedL_carryOutAll (n choice : Nat) (l : List TimerEvent) (s : State) (hs : LinkedL (links s)) :
    LinkedL (links (carryOutAll n choice l s)) := by
  induction n generalizing choice l s with
  | zero => exact hs
  | succ n ih =>
    cases l with
    | nil => exact hs
    | cons e l => exact ih _ _ _ (linkedL_carryOut _ s hs)

theorem linkedL_runEvents (l : List TimerEvent) (s : State) (hs : LinkedL (links s)) : LinkedL (links (runEvents l s)) := by
  unfold runEvents
  split
  · exact hs
  · exact linkedL_carryOut _ s hs
  · exact linkedL_carryOutAll _ _ _ _ (by rwa [links_countFree])

theorem linkedL_tick (s : State) (hs : LinkedL (links s)) : LinkedL (links (tick s)) := by
  unfold tick
  exact linkedL_finish _ (linkedL_runEvents _ _ (by rwa [links_countTick, links_closeTick]))

/-! ### Commands -/

theorem linkedL_live (f : State → State) (s t : State) (hf : LinkedL (links s) → LinkedL (links (f s))) (hs : LinkedL (links s))
    (h : live f s = .next t) : LinkedL (links t) := by
  unfold live at h
  injection h with h
  subst h
  split
  · exact linkedL_finish _ (hf hs)
  · exact hs

theorem linkedL_onSite (f : State → State) (s t : State) (hf : ∀ s, LinkedL (links s) → LinkedL (links (f s))) (hs : LinkedL (links s))
    (h : onSite f s = .next t) : LinkedL (links t) :=
  linkedL_live (fun s => siteHandled f (siteFramed s)) s t (fun h => linkedL_siteHandled f _ hf (by rwa [links_siteFramed])) hs h

theorem linkedL_onYard (f : State → State) (s t : State) (hf : ∀ s, LinkedL (links s) → LinkedL (links (f s))) (hs : LinkedL (links s))
    (h : onYard f s = .next t) : LinkedL (links t) :=
  linkedL_live (fun s => f (yardFramed s)) s t (fun h => hf _ (by rwa [links_yardFramed])) hs h

theorem linkedL_onMgmt (src seq op : Byte) (a b : List Byte) (s t : State) (hs : LinkedL (links s))
    (h : onMgmt src seq op a b s = .next t) : LinkedL (links t) :=
  linkedL_onSite _ s t (fun s h => linkedL_takeMgmt _ _ _ _ _ s h) hs h

end Sys2Proof.Machine
end

