-- ==== Sys2Proof/Laws/PerInstr.lean ====
section
/-! SUPPORT. What holds of every command as syntax: a well-formed command carries a telegram whose payload a telegram
can hold (R202). One lemma per constructor. -/

namespace Sys2Proof.Laws.PayloadFits

/-- The payload of the telegram a command carries; empty where it carries none. -/
def payloadOf : Instr → List Byte
  | .siteTelegramDiscarded t => t.payload
  | .meter _ _ payload => payload
  | .time _ _ payload => payload
  | .dispatch _ _ payload => payload
  | .cancel _ _ payload => payload
  | .stage _ _ access fields => Machine.opStage :: (access ++ fields)
  | .commit _ _ access fields => Machine.opCommit :: (access ++ fields)
  | .discard _ _ access fields => Machine.opDiscard :: (access ++ fields)
  | .read _ _ access fields => Machine.opRead :: (access ++ fields)
  | .status _ _ access fields => Machine.opStatus :: (access ++ fields)
  | .lock _ _ access fields => Machine.opLock :: (access ++ fields)
  | .release _ _ access fields => Machine.opRelease :: (access ++ fields)
  | .setCode _ _ access fields => Machine.opSetCode :: (access ++ fields)
  | .clearStatus _ _ access fields => Machine.opClearStatus :: (access ++ fields)
  | .withdraw _ _ access fields => Machine.opWithdraw :: (access ++ fields)
  | .returnBus _ _ access fields => Machine.opReturn :: (access ++ fields)
  | .substitute _ _ access fields => Machine.opSubstitute :: (access ++ fields)
  | .season _ _ access fields => Machine.opSeason :: (access ++ fields)
  | .restart _ _ access fields => Machine.opRestart :: (access ++ fields)
  | .mgmtUnknownOp _ _ op access fields => op :: (access ++ fields)
  | .passThrough t => t.payload
  | .setreq _ _ _ payload => payload
  | .yardStatus _ _ payload => payload
  | .exchangeWait _ _ payload => payload
  | .yardTelegramDiscarded t => t.payload
  | .poolAck _ _ payload => payload
  | .poolWait _ _ payload => payload
  | .forwardReply t => t.payload
  | _ => []

/-- A well-formed command's payload is at most 200 bytes long. -/
def Statement (i : Instr) : Prop := i.wf = true → (payloadOf i).length ≤ Machine.maxPayload

/-- The left part of a conjunction. -/
theorem left_of {a b : Bool} (h : (a && b) = true) : a = true := by
  cases a
  · exact h
  · rfl

/-- The right part of a conjunction. -/
theorem right_of {a b : Bool} (h : (a && b) = true) : b = true := by
  cases a
  · cases h
  · exact h

/-- A payload that fits. -/
theorem of_payload {p : List Byte} (h : payloadFits p = true) : p.length ≤ Machine.maxPayload := of_decide_eq_true h

/-- A MGMT that fits. -/
theorem of_mgmt {op : Byte} {access fields : List Byte} (h : mgmtFits access fields = true) :
    (op :: (access ++ fields)).length ≤ Machine.maxPayload := by
  have h1 : access.length = 8 := of_decide_eq_true (left_of h)
  have h2 : fields.length + 9 ≤ Machine.maxPayload := of_decide_eq_true (right_of h)
  rw [List.length_cons, List.length_append]
  omega

theorem powerOn : Statement (.powerOn) := fun _ => Nat.zero_le _
theorem endOfStarting : Statement (.endOfStarting) := fun _ => Nat.zero_le _
theorem partRestart : Statement (.partRestart) := fun _ => Nat.zero_le _
theorem framerDiscard (link : LinkName) (bytes : List Byte) :
    Statement (.framerDiscard link bytes) := fun _ => Nat.zero_le _
theorem siteTelegramDiscarded (t : Telegram) :
    Statement (.siteTelegramDiscarded t) := fun h => of_payload (left_of h)
theorem meter (src : Byte) (seq : Byte) (payload : List Byte) :
    Statement (.meter src seq payload) := fun h => of_payload h
theorem time (src : Byte) (seq : Byte) (payload : List Byte) :
    Statement (.time src seq payload) := fun h => of_payload h
theorem dispatch (src : Byte) (seq : Byte) (payload : List Byte) :
    Statement (.dispatch src seq payload) := fun h => of_payload h
theorem cancel (src : Byte) (seq : Byte) (payload : List Byte) :
    Statement (.cancel src seq payload) := fun h => of_payload h
theorem stage (src : Byte) (seq : Byte) (access : List Byte) (fields : List Byte) :
    Statement (.stage src seq access fields) := fun h => of_mgmt h
theorem commit (src : Byte) (seq : Byte) (access : List Byte) (fields : List Byte) :
    Statement (.commit src seq access fields) := fun h => of_mgmt h
theorem discard (src : Byte) (seq : Byte) (access : List Byte) (fields : List Byte) :
    Statement (.discard src seq access fields) := fun h => of_mgmt h
theorem read (src : Byte) (seq : Byte) (access : List Byte) (fields : List Byte) :
    Statement (.read src seq access fields) := fun h => of_mgmt h
theorem status (src : Byte) (seq : Byte) (access : List Byte) (fields : List Byte) :
    Statement (.status src seq access fields) := fun h => of_mgmt h
theorem lock (src : Byte) (seq : Byte) (access : List Byte) (fields : List Byte) :
    Statement (.lock src seq access fields) := fun h => of_mgmt h
theorem release (src : Byte) (seq : Byte) (access : List Byte) (fields : List Byte) :
    Statement (.release src seq access fields) := fun h => of_mgmt h
theorem setCode (src : Byte) (seq : Byte) (access : List Byte) (fields : List Byte) :
    Statement (.setCode src seq access fields) := fun h => of_mgmt h
theorem clearStatus (src : Byte) (seq : Byte) (access : List Byte) (fields : List Byte) :
    Statement (.clearStatus src seq access fields) := fun h => of_mgmt h
theorem withdraw (src : Byte) (seq : Byte) (access : List Byte) (fields : List Byte) :
    Statement (.withdraw src seq access fields) := fun h => of_mgmt h
theorem returnBus (src : Byte) (seq : Byte) (access : List Byte) (fields : List Byte) :
    Statement (.returnBus src seq access fields) := fun h => of_mgmt h
theorem substitute (src : Byte) (seq : Byte) (access : List Byte) (fields : List Byte) :
    Statement (.substitute src seq access fields) := fun h => of_mgmt h
theorem season (src : Byte) (seq : Byte) (access : List Byte) (fields : List Byte) :
    Statement (.season src seq access fields) := fun h => of_mgmt h
theorem restart (src : Byte) (seq : Byte) (access : List Byte) (fields : List Byte) :
    Statement (.restart src seq access fields) := fun h => of_mgmt h
theorem mgmtUnknownOp (src : Byte) (seq : Byte) (op : Byte) (access : List Byte) (fields : List Byte) :
    Statement (.mgmtUnknownOp src seq op access fields) := fun h => of_mgmt (right_of h)
theorem passThrough (t : Telegram) : Statement (.passThrough t) := fun h => of_payload (left_of (left_of h))
theorem setreq (dst : Byte) (src : Byte) (seq : Byte) (payload : List Byte) :
    Statement (.setreq dst src seq payload) := fun h => of_payload (right_of h)
theorem siteSendDone : Statement (.siteSendDone) := fun _ => Nat.zero_le _
theorem silenceTimeout : Statement (.silenceTimeout) := fun _ => Nat.zero_le _
theorem roundTimerExpiry : Statement (.roundTimerExpiry) := fun _ => Nat.zero_le _
theorem yardStatus (src : Byte) (seq : Byte) (payload : List Byte) :
    Statement (.yardStatus src seq payload) := fun h => of_payload (right_of h)
theorem exchangeWait (src : Byte) (seq : Byte) (payload : List Byte) :
    Statement (.exchangeWait src seq payload) := fun h => of_payload (right_of h)
theorem waitHoldOffExpiry : Statement (.waitHoldOffExpiry) := fun _ => Nat.zero_le _
theorem replyTimeout : Statement (.replyTimeout) := fun _ => Nat.zero_le _
theorem yardTelegramDiscarded (t : Telegram) : Statement (.yardTelegramDiscarded t) := fun h => of_payload h
theorem curtailSent : Statement (.curtailSent) := fun _ => Nat.zero_le _
theorem poolSent : Statement (.poolSent) := fun _ => Nat.zero_le _
theorem poolAck (src : Byte) (seq : Byte) (payload : List Byte) :
    Statement (.poolAck src seq payload) := fun h => of_payload (right_of h)
theorem poolWait (src : Byte) (seq : Byte) (payload : List Byte) :
    Statement (.poolWait src seq payload) := fun h => of_payload (right_of h)
theorem poolReplyTimeout : Statement (.poolReplyTimeout) := fun _ => Nat.zero_le _
theorem quiesceTimeout (station : Nat) : Statement (.quiesceTimeout station) := fun _ => Nat.zero_le _
theorem forwardReply (t : Telegram) : Statement (.forwardReply t) := fun h => of_payload (left_of (left_of h))
theorem forwardReplyTimeout : Statement (.forwardReplyTimeout) := fun _ => Nat.zero_le _
theorem forwardBroadcastSent : Statement (.forwardBroadcastSent) := fun _ => Nat.zero_le _
theorem answerAgeFallback (station : Nat) : Statement (.answerAgeFallback station) := fun _ => Nat.zero_le _
theorem meterStale : Statement (.meterStale) := fun _ => Nat.zero_le _
theorem meterFallback : Statement (.meterFallback) := fun _ => Nat.zero_le _
theorem minuteAdvance : Statement (.minuteAdvance) := fun _ => Nat.zero_le _
theorem passTimerExpiry : Statement (.passTimerExpiry) := fun _ => Nat.zero_le _
theorem passCompletion : Statement (.passCompletion) := fun _ => Nat.zero_le _
theorem armedStart : Statement (.armedStart) := fun _ => Nat.zero_le _
theorem dispatchExpiry : Statement (.dispatchExpiry) := fun _ => Nat.zero_le _
theorem storeWriteDone : Statement (.storeWriteDone) := fun _ => Nat.zero_le _
theorem storeWriteFault : Statement (.storeWriteFault) := fun _ => Nat.zero_le _
theorem supplyFailure : Statement (.supplyFailure) := fun _ => Nat.zero_le _

end Sys2Proof.Laws.PayloadFits
end

