-- ==== Sys2Proof/Laws/Tick.lean ====
section
/-! SUPPORT. What a tick does: when each timer is due, that its event is its command's, what falls due at a tick, and that the
due events are carried out one after another in some order. -/

namespace Sys2Proof.Machine

/-! ### When a timer is due -/

@[simp] theorem due_silence (s : State) : TimerEvent.due s .silence = true ↔ 600 ≤ s.sli.silence ∧ s.sli.silentMark = false := by
  simp [TimerEvent.due]
@[simp] theorem due_round (s : State) :
    TimerEvent.due s .round = true ↔ ∃ t, s.ylc.roundTimer = some t ∧ s.tsm.settings.passPre + 1 ≤ t := by
  cases h : s.ylc.roundTimer <;> simp [TimerEvent.due, passInterval, h]
@[simp] theorem due_meterStale (s : State) :
    TimerEvent.due s .meterStale = true ↔ s.sbu.meter = .fresh ∧ 50 ≤ s.sbu.age := by
  rw [TimerEvent.due, Bool.and_eq_true, decide_eq_true_eq, decide_eq_true_eq, staleAge]
@[simp] theorem due_meterFallback (s : State) :
    TimerEvent.due s .meterFallback = true ↔ (s.sbu.meter = .stale ∨ s.sbu.meter = .none) ∧ 300 ≤ s.sbu.age := by
  rw [TimerEvent.due, Bool.and_eq_true, decide_eq_true_eq, decide_eq_true_eq, fallbackAge]
@[simp] theorem due_minute (s : State) :
    TimerEvent.due s .minute = true ↔ s.rdu.clock.set = true ∧ 59 ≤ s.rdu.clock.second ∧ 9 ≤ s.rdu.clock.tick := by
  simp [TimerEvent.due]
@[simp] theorem due_pass (s : State) :
    TimerEvent.due s .pass = true ↔ ∃ t, s.ale.timer = some t ∧ 2 * (s.tsm.settings.passPre + 1) ≤ t := by
  cases h : s.ale.timer <;> simp [TimerEvent.due, passInterval, h]
@[simp] theorem due_armedStart (s : State) :
    TimerEvent.due s .armedStart = true ↔ ∃ d, s.rsu.armed = some d ∧ d.countdown = 0 := by
  simp [TimerEvent.due]
@[simp] theorem due_dispatchExpiry (s : State) :
    TimerEvent.due s .dispatchExpiry = true ↔ ∃ d, s.rsu.active = some d ∧ d.remaining = 0 := by
  simp [TimerEvent.due]
@[simp] theorem due_quiesce (c : Nat) (s : State) :
    TimerEvent.due s (.quiesce c) = true ↔ (cabAt s c).pool.state = .quiesce ∧ 100 ≤ (cabAt s c).pool.timer := by
  rw [TimerEvent.due, Bool.and_eq_true, decide_eq_true_eq, decide_eq_true_eq, quiesceLimit]
@[simp] theorem due_answerAge (c : Nat) (s : State) :
    TimerEvent.due s (.answerAge c) = true ↔ (cabAt s c).link = .offline ∧ (cabAt s c).configured = false ∧
      s.tsm.settings.fallbackTime * 10 ≤ (cabAt s c).age := by
  rw [TimerEvent.due, Bool.and_eq_true, Bool.and_eq_true, decide_eq_true_eq, decide_eq_true_eq, Bool.not_eq_true', fallbackTicks,
    and_assoc]
@[simp] theorem due_restart (s : State) :
    TimerEvent.due s .restart = true ↔ s.tsm.restartPending = true ∧ s.tsm.write = none := by
  simp [TimerEvent.due]

/-- What an event does is what its command does (log 3). -/
theorem exec_command (e : TimerEvent) (s : State) (h : s.power = true) : exec e.command s = .next (finish (e.fire s)) := by
  have live_eq (f : State → State) : live f s = .next (finish (f s)) := by simp [live, h]
  cases e <;> exact live_eq _

/-! ### What falls due at a tick -/

theorem mem_stations (c : Nat) : c ∈ stations ↔ IsStation c := by
  simp only [stations, List.mem_cons, List.not_mem_nil, or_false]
  omega

/-- The list of due events holds what falls due, each event once. -/
theorem mem_dueEvents (s u : State) (e : TimerEvent) : e ∈ dueEvents (TimerEvent.due s .minute) u ↔ FallsDue s u e := by
  unfold dueEvents
  rw [List.mem_append, List.mem_filter]
  cases e <;> cases h : TimerEvent.due s .minute <;>
    simp [FallsDue, h, mem_stations, timerEvents, -due_minute, -due_quiesce, -due_answerAge]

theorem dueEvents_nodup (full : Bool) (u : State) : (dueEvents full u).Nodup := by
  have hn : (TimerEvent.minute :: timerEvents).Nodup := by decide +kernel
  cases full
  · exact (List.nodup_cons.1 hn).2.filter _
  · exact List.nodup_cons.2 ⟨fun h => (List.nodup_cons.1 hn).1 (List.mem_filter.1 h).1, (List.nodup_cons.1 hn).2.filter _⟩

/-! ### The order -/

/-- The events are carried out one after another, each of them once, in some order. -/
theorem carryOutAll_order (n choice : Nat) (l : List TimerEvent) (s : State) (h : l.length ≤ n) :
    ∃ order : List TimerEvent, order.Perm l ∧ carryOutAll n choice l s = order.foldl (fun u e => carryOut e u) s := by
  induction n generalizing choice l s with
  | zero =>
    have : l = [] := List.length_eq_zero_iff.1 (by omega)
    exact ⟨[], by simp [this], rfl⟩
  | succ n ih =>
    cases l with
    | nil => exact ⟨[], .refl _, rfl⟩
    | cons e l =>
      have hk : choice % (l.length + 1) < (e :: l).length := Nat.mod_lt _ (Nat.succ_pos _)
      obtain ⟨order, hp, he⟩ := ih (choice / (l.length + 1)) ((e :: l).eraseIdx (choice % (l.length + 1)))
        (carryOut ((e :: l).getD (choice % (l.length + 1)) e) s)
        (by rw [List.length_eraseIdx_of_lt hk]; exact Nat.sub_le_of_le_add h)
      refine ⟨(e :: l).getD (choice % (l.length + 1)) e :: order, ?_, by simpa [carryOutAll] using he⟩
      rw [List.getD_eq_getElem _ _ hk]
      exact (hp.cons _).trans (List.getElem_cons_eraseIdx_perm hk)

/-- The due events of a tick: none, one, or two and more in an order that takes one free value (log 2). -/
theorem runEvents_order (l : List TimerEvent) (s : State) : ∃ order : List TimerEvent, order.Perm l ∧
    runEvents l s = order.foldl (fun u e => carryOut e u) (if order.length < 2 then s else countFree s) := by
  match l with
  | [] => exact ⟨[], .refl _, rfl⟩
  | [e] => exact ⟨[e], .refl _, rfl⟩
  | e :: f :: l =>
    obtain ⟨order, hp, he⟩ := carryOutAll_order (e :: f :: l).length (Config.tickOrder s.freeCount) (e :: f :: l) (countFree s) (le_refl _)
    refine ⟨order, hp, ?_⟩
    have : ¬ order.length < 2 := by have := hp.length_eq; simp at this; omega
    rw [if_neg this]
    exact he

/-! ### Before the count -/

/-- Sending the head changes SLI alone, and neither its silence timer nor its mark. -/
theorem trySend_silence (s : State) (h : s.sli.overflow = false) : ∃ out tx seq,
    trySend s = { s with sli := { s.sli with out := out, tx := tx, ownSeq := seq } } := by
  unfold trySend
  split
  · split
    · exact ⟨_, _, _, rfl⟩
    · simp only [placeFreed, reportOverflow, beginSend, modSli, h, Bool.false_and, Bool.false_eq_true, if_false]
      exact ⟨_, _, _, rfl⟩
  · exact ⟨_, _, _, rfl⟩

/-- The notice that waits is queued with the marker and count cleared, and the head is sent where it can be (R181). -/
theorem closeTick_eq (s : State) : closeTick s =
    if s.sli.overflow = true ∧ s.sli.out.length < 32 then
      trySend { s with sli := { s.sli with
        out := s.sli.out ++ [⟨105, .notice (.outOverflow s.sli.dropCount) (clockReading s)⟩], overflow := false, dropCount := 0 } }
    else s := by
  have hw : noticeWaits s = true ↔ s.sli.overflow = true ∧ s.sli.out.length < 32 := by
    rw [noticeWaits, Bool.and_eq_true, decide_eq_true_eq, outCapacity]
  unfold closeTick
  by_cases h : s.sli.overflow = true ∧ s.sli.out.length < 32
  · have hr : reportOverflow s = { s with sli := { s.sli with
        out := s.sli.out ++ [⟨105, .notice (.outOverflow s.sli.dropCount) (clockReading s)⟩], overflow := false, dropCount := 0 } } := by
      have hd : outDropped s.sli.out = false := by
        simp only [outDropped, outCapacity, Nat.not_le.2 h.2, decide_false, Bool.false_and]
      simp [reportOverflow, putOut, joinQueue, OutMsg.key, outCapacity, modSli, h.1, h.2, hd, operatorStation]
    rw [if_pos (hw.2 h), if_pos h, hr]
  · rw [if_neg (fun hc => h (hw.1 hc)), if_neg h]

/-- The close of the last tick changes what SLI holds of its queue and transmitter, and nothing else. -/
theorem closeTick_sli (s : State) : ∃ i : Sli, closeTick s = { s with sli := i } ∧
    i.silence = s.sli.silence ∧ i.silentMark = s.sli.silentMark := by
  rw [closeTick_eq]
  split
  · obtain ⟨out, tx, seq, h⟩ := trySend_silence { s with sli := { s.sli with
      out := s.sli.out ++ [⟨105, .notice (.outOverflow s.sli.dropCount) (clockReading s)⟩], overflow := false, dropCount := 0 } } rfl
    exact ⟨_, h, rfl, rfl⟩
  · exact ⟨_, rfl, rfl, rfl⟩

/-- What is due after the count does not depend on it. -/
theorem dueEvents_closeTick (full : Bool) (s : State) :
    dueEvents full (countTick (closeTick s)) = dueEvents full (countTick s) := by
  obtain ⟨i, h, h1, h2⟩ := closeTick_sli s
  have hd : TimerEvent.due (countTick (closeTick s)) = TimerEvent.due (countTick s) := by
    rw [h]
    funext e
    cases e <;> simp only [TimerEvent.due, countTick, h1, h2] <;> rfl
  simp only [dueEvents, hd]

/-- What falls due at a tick is what the list of due events holds. -/
theorem fallsDue_iff (s : State) (e : TimerEvent) :
    FallsDue s (countTick (closeTick s)) e ↔ e ∈ dueEvents (TimerEvent.due s .minute) (countTick s) := by
  rw [← mem_dueEvents, dueEvents_closeTick]

/-- What falls due at a tick is due when the count is done: a full minute waits for its advance. -/
theorem due_of_fallsDue (s : State) (e : TimerEvent) (h : FallsDue s (countTick (closeTick s)) e) :
    TimerEvent.due (countTick (closeTick s)) e = true := by
  cases e with
  | minute =>
    obtain ⟨i, hi, -, -⟩ := closeTick_sli s
    rw [FallsDue, due_minute] at h
    have hc : s.rdu.clock.count = s.rdu.clock := by
      rw [Clock.count, if_pos h.1, if_neg (by omega), if_neg (by omega)]
    rw [due_minute, hi]
    simp only [countTick, hc]
    exact h
  | quiesce c => exact h.2
  | answerAge c => exact h.2
  | _ => exact h

/-! ### A step on an empty queue -/

/-- What falls due at a tick is carried out after the count, in some order, and the step ends as every other does. -/
theorem step_tick (s : State) (hp : s.power = true) (hq : s.pending = []) :
    ∃ order : List TimerEvent, order.Nodup ∧ (∀ e, e ∈ order ↔ FallsDue s (countTick (closeTick s)) e) ∧
      step s = .next (finish (order.foldl (fun u e => carryOut e u)
        (if order.length < 2 then countTick (closeTick s) else countFree (countTick (closeTick s))))) := by
  obtain ⟨order, hperm, he⟩ := runEvents_order (dueEvents (TimerEvent.due s .minute) (countTick s)) (countTick (closeTick s))
  refine ⟨order, hperm.nodup_iff.2 (dueEvents_nodup _ _), fun e => ?_, ?_⟩
  · rw [hperm.mem_iff, fallsDue_iff]
  · simp only [step, hq, hp, if_true, tick, he]

/-- A tick with one timer due does what its command does at the counted state. -/
theorem step_tick_one (s : State) (hp : s.power = true) (hq : s.pending = []) (e : TimerEvent)
    (h : FallsDue s (countTick (closeTick s)) e) (hu : ∀ x, FallsDue s (countTick (closeTick s)) x → x = e) :
    step s = exec e.command (countTick (closeTick s)) := by
  obtain ⟨order, hn, hf, he⟩ := step_tick s hp hq
  have ho : order = [e] := List.perm_singleton.1
    ((List.perm_ext_iff_of_nodup hn (List.nodup_singleton e)).2 fun x => by
      rw [hf, List.mem_singleton]; exact ⟨hu x, fun hx => hx ▸ h⟩)
  obtain ⟨i, hi, -, -⟩ := closeTick_sli s
  rw [exec_command e _ (by rw [hi]; exact hp), he, ho]
  simp [carryOut, due_of_fallsDue s e h]

/-- A tick at which none falls due is the count, and the end of the step. -/
theorem step_tick_none (s : State) (hp : s.power = true) (hq : s.pending = [])
    (h : ∀ e, ¬ FallsDue s (countTick (closeTick s)) e) : step s = .next (finish (countTick (closeTick s))) := by
  obtain ⟨order, -, hf, he⟩ := step_tick s hp hq
  have ho : order = [] := List.eq_nil_iff_forall_not_mem.2 fun e hx => h e ((hf e).1 hx)
  rw [he, ho]
  rfl


end Sys2Proof.Machine
end

