-- ==== Sys2Proof/Tests/Slice0.lean ====
section
/-! SUPPORT. Tests: ill-formed commands that the check refuses, values worked out in the manual, and for every claim
with hypotheses a state and operands that meet them, clause by clause. -/

namespace Sys2Proof.Tests

set_option Elab.async false

open Sys2Proof.Machine

/-! ### Well-formedness -/

/-- A telegram with a payload of n zero bytes. -/
def telegram (dst src kind : Byte) (n : Nat) : Telegram := ⟨dst, src, kind, 0, List.replicate n 0⟩

theorem test_wf_accepts :
    Instr.wf (.meter 101 0 (List.replicate 200 0)) = true ∧ Instr.wf (.stage 104 0 blankCode []) = true ∧
    Instr.wf (.mgmtUnknownOp 104 0 15 blankCode []) = true ∧ Instr.wf (.passThrough (telegram 16 102 0x50 0)) = true ∧
    Instr.wf (.setreq 1 102 0 []) = true ∧ Instr.wf (.yardStatus 16 0 []) = true ∧ Instr.wf (.quiesceTimeout 16) = true ∧
    Instr.wf (.forwardReply (telegram 102 1 0x80 0)) = true ∧ Instr.wf (.siteTelegramDiscarded (telegram 17 101 0x10 6)) = true ∧
    Instr.wf (.siteTelegramDiscarded (telegram 100 101 0x80 6)) = true ∧
    Instr.wf (.siteTelegramDiscarded (telegram 100 104 0x40 8)) = true := by decide +kernel

theorem test_wf_refuses_long_payload :
    Instr.wf (.meter 101 0 (List.replicate 201 0)) = false ∧ Instr.wf (.time 101 0 (List.replicate 201 0)) = false ∧
    Instr.wf (.dispatch 103 0 (List.replicate 201 0)) = false ∧ Instr.wf (.cancel 103 0 (List.replicate 201 0)) = false ∧
    Instr.wf (.setreq 1 102 0 (List.replicate 201 0)) = false ∧ Instr.wf (.yardStatus 1 0 (List.replicate 201 0)) = false ∧
    Instr.wf (.passThrough (telegram 1 102 0x50 201)) = false ∧
    Instr.wf (.yardTelegramDiscarded (telegram 100 1 0x80 201)) = false ∧
    Instr.wf (.forwardReply (telegram 102 1 0x80 201)) = false ∧
    Instr.wf (.siteTelegramDiscarded (telegram 17 101 0x10 201)) = false ∧
    Instr.wf (.read 104 0 blankCode (List.replicate 192 0)) = false := by decide +kernel

theorem test_wf_refuses_access_field : Instr.wf (.lock 104 0 [0, 0, 0, 0, 0, 0, 0] [1]) = false := by decide +kernel
theorem test_wf_refuses_known_op : Instr.wf (.mgmtUnknownOp 104 0 14 blankCode []) = false := by decide +kernel
theorem test_wf_refuses_owned_site_telegram :
    Instr.wf (.siteTelegramDiscarded (telegram 16 101 0x50 0)) = false ∧
    Instr.wf (.siteTelegramDiscarded (telegram 100 101 0x10 6)) = false ∧
    Instr.wf (.siteTelegramDiscarded (telegram 100 104 0x40 9)) = false := by decide +kernel
theorem test_wf_refuses_pass_through :
    Instr.wf (.passThrough (telegram 17 102 0x50 0)) = false ∧ Instr.wf (.passThrough (telegram 1 102 0x20 0)) = false ∧
    Instr.wf (.setreq 17 102 0 []) = false := by decide +kernel
theorem test_wf_refuses_station :
    Instr.wf (.yardStatus 0 0 []) = false ∧ Instr.wf (.exchangeWait 17 0 []) = false ∧ Instr.wf (.poolAck 100 0 []) = false ∧
    Instr.wf (.poolWait 0 0 []) = false ∧ Instr.wf (.quiesceTimeout 0) = false ∧ Instr.wf (.answerAgeFallback 17) = false ∧
    Instr.wf (.forwardReply (telegram 102 0 0x80 0)) = false ∧ Instr.wf (.forwardReply (telegram 100 1 0x80 0)) = false := by
  decide +kernel

/-! ### Values of the manual -/

/-- R204: the CRC of the nine digits. -/
theorem test_crc : crc [0x31, 0x32, 0x33, 0x34, 0x35, 0x36, 0x37, 0x38, 0x39] = 0x29B1 := by decide +kernel
/-- R159, note 1. -/
theorem test_storage_energies :
    storageEntryFor ⟨25, 40, 60, 80⟩ 3225 .cls = ⟨.cls, 806, 1290, 1935, 2580⟩ := by decide +kernel
/-- R48, note 1: 30.0, 30.0, 25.0 and 25.0 kW. -/
theorem test_pooled_ratings :
    pooledRating [300, 300, 250, 250] (some .pairAB) 0 = 600 ∧ pooledRating [300, 300, 250, 250] (some .pairAB) 2 = 500 ∧
    pooledRating [300, 300, 250, 250] (some .quad) 0 = 1100 ∧ pooledRating [300, 300, 250, 250] (some .quad) 3 = 0 := by
  decide +kernel
/-- A telegram as it stands on a link (R202), and a framer that finds it behind noise. -/
theorem test_framing : hunt ([0x00, 0xFF] ++ telegramBytes ⟨100, 101, 0x11, 7, [5, 160, 0, 0]⟩ ++ [1]) =
    .telegram ⟨100, 101, 0x11, 7, [5, 160, 0, 0]⟩ [1] := by decide +kernel
/-- R206: the codes of the five modes. -/
theorem test_mode_codes : [Mode.split, .pairA, .pairB, .pairAB, .quad].map Mode.code = [0, 1, 2, 3, 4] := by decide
/-- A power that fits is carried as it is, most significant byte first (R205). -/
theorem test_power_bytes : bytesPower (-5) = [0xFF, 0xFB] ∧ bytesPower 32767 = [0x7F, 0xFF] := by decide +kernel

/-! ### States that meet the claims' hypotheses -/

/-- The part in an operating state, everything else as after power-on. -/
def part (op : OpState) : State := { State.reset with tsm := { State.reset.tsm with op := op } }

/-- The part in COORDINATING. -/
def co : State := part .coordinating

/-- With another site interface, yard controller, cabinet 1, and so on. -/
def sli (f : Sli → Sli) (s : State) : State := modSli f s
def ylc (f : Ylc → Ylc) (s : State) : State := modYlc f s
def tsm (f : Tsm → Tsm) (s : State) : State := modTsm f s
def rsu (f : Rsu → Rsu) (s : State) : State := modRsu f s
def rdu (f : Rdu → Rdu) (s : State) : State := modRdu f s
def cab (f : Cabinet → Cabinet) (s : State) : State := updCab 1 f s
def post (f : Post → Post) (s : State) : State := updPost 4 f s

/-- With the clock set. -/
def clock (weekday minute second tick : Nat) : State → State :=
  rdu (fun r => { r with clock := ⟨true, weekday, minute, second, tick⟩ })

/-- A dispatch, and telegrams. -/
def dispatch (id : Nat) (dir : Direction) : Dispatch where
  id := id
  dir := dir
  power := 100
  start := none
  stop := none
  resp := 10
  countdown := 0
  duration := 60
  remaining := 0
  baseline := 50
  timer := 0
  stopped := false
  outOfBand := 0
  interval := 0
  delivered := 0
  late := false
  notReached := false
  shortfall := false
  noticed := false

def tel : Telegram := ⟨1, 100, 0x70, 0, []⟩
def note (n : Notice) : OutMsg := ⟨105, .notice n none⟩
theorem test_noticeDetails_asTheirRulesList :
    (note .cabinetOnline).body.payload = [4, 0xFF, 0, 0, 0] ∧
    (note (.cabinetOffline 7)).body.payload = [3, 0xFF, 0, 0, 0, 7] := by decide +kernel
def storage : OutMsg := ⟨103, .storage ⟨.term, ⟨25, 40, 60, 80⟩, none⟩⟩
def readiness : OutMsg := ⟨102, .readiness ⟨1, .ready, .idle, none, none, 0, none, none, none⟩⟩
def statusFwd : OutMsg := ⟨102, .statusFwd ⟨1, false, 0, [], [], [], []⟩⟩
def full (m : OutMsg) : List OutMsg := List.replicate 31 (note .curtailed) ++ [m]
def outQ (l : List OutMsg) : State := sli (fun i => { i with out := l }) co

/-- A visit to cabinet 1, and other transactions of the yard link. -/
def visiting (waits : Nat) (phase : VisitPhase) : State :=
  ylc (fun y => { y with link := .exchange tel [0, 0, 0, 0], round := .visit 1 waits phase }) co
def linked (l : Link) (s : State) : State := ylc (fun y => { y with link := l }) s

/-- A bus, a leg, and a part that holds them. -/
def bus (st : BusState) (p : Option Nat) : Bus :=
  { busOfRow ⟨7, [1, 2, 3, 4, 5, 6, 7, 8], 2000, true, 0, 0⟩ with state := st, post := p }
def row : RouteRow := ⟨5, 7, 0x7F, false, 400, 500, 100, 0, 0, 0⟩
def leg (o : LegOutcome) : Leg := ⟨row, none, o, false, false⟩
def withBus (st : BusState) (p : Option Nat) : State := modFrt (fun t => { t with buses := [bus st p] }) co
def withLeg (o : LegOutcome) (due : List DepEntry) (s : State) : State := rdu (fun r => { r with legs := [leg o], list := due }) s

/-! ### The step, supply, framers -/

theorem test_NothingActsWithoutSupply : (powerDown co).power = false ∧ Instr.meterStale ≠ .powerOn ∧ Instr.meterStale ≠ .supplyFailure := by
  decide +kernel
theorem test_EmptyQueueIsOneTick : co.pending = [] := rfl
/-- Ticks at which nothing falls due: a clock inside its minute and at the end of a second, no clock, the yard link in use and
free, and a part in STARTING. -/
def quiet : List State :=
  [clock 6 1439 59 8 (linked (.forward tel) co), clock 6 1439 58 9 (linked (.forward tel) co), linked (.forward tel) co, co,
    State.reset]
theorem test_TicksCountAndCarryOut_quiet : ∀ s ∈ quiet, s.power = true ∧ s.pending = [] ∧
    dueEvents (TimerEvent.due s .minute) (countTick s) = [] := by decide +kernel
theorem test_TicksCountAndCarryOut_none (s : State) (hs : s ∈ quiet) (e : TimerEvent) :
    ¬ FallsDue s (countTick (closeTick s)) e := by
  rw [fallsDue_iff, (test_TicksCountAndCarryOut_quiet s hs).2.2]
  exact List.not_mem_nil
/-- An OUT_OVERFLOW notice that waits, the transmitter busy or idle. -/
theorem test_TicksCountAndCarryOut_notice : ∀ tx ∈ [none, some tel],
    let s := sli (fun i => { i with overflow := true, out := (full storage).drop 1, tx := tx }) (linked (.forward tel) co)
    s.power = true ∧ s.pending = [] ∧ s.tsm.op ≠ .starting ∧ s.ylc.link ≠ .free ∧
      dueEvents (TimerEvent.due s .minute) (countTick s) = [] ∧ s.sli.overflow = true ∧ s.sli.out.length < 32 := by decide +kernel
/-- One timer some ticks short of its limit: 600, PASS_PRE + 1, 50, 300, a full minute, 2 × (PASS_PRE + 1), 0, 0, 100, the
fallback time. -/
def nearLimit (k : Nat) : List (TimerEvent × State) :=
  [(.silence, sli (fun i => { i with silence := 600 - k }) co),
    (.round, ylc (fun y => { y with roundTimer := some (co.tsm.settings.passPre + 1 - k) }) co),
    (.meterStale, modSbu (fun b => { b with meter := .fresh, age := 50 - k }) co),
    (.meterFallback, modSbu (fun b => { b with meter := .stale, age := 300 - k }) co),
    (.meterFallback, modSbu (fun b => { b with age := 300 - k }) co),
    (.minute, clock 6 1439 59 (10 - k) co),
    (.pass, modAle (fun a => { a with timer := some (2 * (co.tsm.settings.passPre + 1) - k) }) co),
    (.armedStart, rsu (fun r => { r with armed := some { dispatch 1 .up with countdown := k } }) co),
    (.dispatchExpiry, rsu (fun r => { r with active := some { dispatch 1 .up with remaining := k } }) co),
    (.quiesce 1, cab (fun c => { c with pool := { c.pool with state := .quiesce, timer := 100 - k } }) co),
    (.quiesce 16, updCab 16 (fun c => { c with pool := { c.pool with state := .quiesce, timer := 100 - k } }) co),
    (.answerAge 1, cab (fun c => { c with link := .offline, age := co.tsm.settings.fallbackTime * 10 - k }) co),
    (.answerAge 16, updCab 16 (fun c => { c with link := .offline, age := co.tsm.settings.fallbackTime * 10 - k }) co)]
/-- A tick short of its limit each falls due alone, and so does a RESTART that waits. -/
def alone : List (TimerEvent × State) := nearLimit 1 ++ [(.restart, tsm (fun t => { t with restartPending := true }) co)]
theorem test_TicksCountAndCarryOut_alone : ∀ x ∈ alone, x.2.power = true ∧ x.2.pending = [] ∧
    dueEvents (TimerEvent.due x.2 .minute) (countTick x.2) = [x.1] := by decide +kernel
theorem test_TicksCountAndCarryOut_one (x : TimerEvent × State) (hx : x ∈ alone) :
    FallsDue x.2 (countTick (closeTick x.2)) x.1 ∧ ∀ e, FallsDue x.2 (countTick (closeTick x.2)) e → e = x.1 := by
  simp only [fallsDue_iff, (test_TicksCountAndCarryOut_alone x hx).2.2, List.mem_singleton]
  exact ⟨trivial, fun _ h => h⟩
/-- Two ticks short of its limit none is due. -/
theorem test_TicksCountAndCarryOut_short : ∀ x ∈ nearLimit 2,
    dueEvents (TimerEvent.due x.2 .minute) (countTick x.2) = [] := by decide +kernel
/-- R142: the start of the ARMED dispatch and the end of the ACTIVE one at one tick. -/
theorem test_TicksCountAndCarryOut_two :
    let s := rsu (fun r => { r with active := some { dispatch 1 .up with remaining := 1 }, armed := some { dispatch 2 .up with countdown := 1 } }) co
    dueEvents (TimerEvent.due s .minute) (countTick s) = [.armedStart, .dispatchExpiry] := by decide +kernel
/-- R183, R63: the tick that brings the silence timer to 600 enters ISLAND, and the one that brings the meter age to 50 makes
the reading STALE. -/
theorem test_tick_fires :
    (match step (sli (fun i => { i with silence := 599 }) co) with
      | .next t => decide (t.tsm.op = .island ∧ t.sli.silentMark = true ∧ t.sli.silence = 600)
      | _ => false) = true ∧
    (match step (modSbu (fun b => { b with meter := .fresh, age := 49 }) co) with
      | .next t => decide (t.sbu.meter = .stale ∧ t.sbu.age = 50)
      | _ => false) = true := by decide +kernel
theorem test_EndOfStartingLoads : State.reset.power = true ∧ State.reset.tsm.op = .starting ∧ State.reset.tsm.waiting = [] := by
  decide +kernel
theorem test_RestartTakesEffect : let s := tsm (fun t => { t with restartPending := true }) co
    s.power = true ∧ s.tsm.restartPending = true ∧ s.tsm.write = none ∧ s.tsm.waiting = [] := by decide +kernel
theorem test_FramersHunt :
    framerOf .site co = [] ∧ framerOf .yard co = [] ∧ co.power = true ∧ startByte ∉ [0x00, 0xFF] ∧
    BadTelegram [0, 0, 0, 0, 201] ∧ BadTelegram [0, 0, 0, 0, 0, 0, 0] := by decide +kernel
theorem test_FramerReadsWhatIsSent : tel.payload.length ≤ 200 ∧ (telegram 1 2 0x50 200).payload.length ≤ 200 := by decide +kernel
theorem test_RowReadsBack :
    parseRow .commitment [0, 100, 0, 0, 60, 1] = some (.commitment ⟨100, 0, 60, true⟩) ∧
    (parseRow .settings (List.replicate 39 255)).isSome = true ∧ (parseRow .fleet (List.replicate 15 255)).isSome = true ∧
    (parseRow .route (List.replicate 15 255)).isSome = true ∧ (parseRow .yard (List.replicate 11 255)).isSome = true ∧
    (parseRow .tariff (List.replicate 8 255)).isSome = true ∧ (parseRow .passage (List.replicate 7 255)).isSome = true := by
  decide +kernel

/-! ### The site link -/

theorem test_ArrivalRestartsSilence :
    co.sli.silentMark = false ∧
    (let s := sli (fun i => { i with silentMark := true }) co; s.sli.silentMark = true ∧ s.tsm.op ≠ .island) ∧
    (let s := sli (fun i => { i with silentMark := true }) (part .island); s.sli.silentMark = true ∧ s.tsm.op = .island) := by
  decide +kernel
/-- A silence that ends ISLAND, and one that does not; what the handling leaves, in ISLAND or in another state. -/
theorem test_ArrivalRestartsSilence_exit :
    let mark := sli (fun i => { i with silentMark := true })
    endsIsland (mark (part .island)) = true ∧ endsIsland (mark (part .safe)) = false ∧ endsIsland co = false ∧
    (part .island).tsm.op = .island ∧ State.reset.tsm.op ≠ .island := by decide +kernel
theorem test_SiteTelegramsThatAreDiscarded :
    co.power = true ∧ State.reset.power = true ∧ (heard State.reset).tsm.op = .starting ∧
    (List.replicate 5 (0 : Byte)).length ≠ 6 ∧ (List.replicate 5 (0 : Byte)).length ≠ 4 ∧
    (List.replicate 12 (0 : Byte)).length ≠ 11 := by decide +kernel
theorem test_MeterTaken :
    co.power = true ∧ (heard co).tsm.op ≠ .starting ∧ (heard co).sbu.breach = 0 ∧
    (heard (modSbu (fun b => { b with breach := 1 }) co)).sbu.breach ≠ 0 ∧
    (let l : List Byte := [0x13, 0x88, 0, 0, 0, 0]; l.length = 6 ∧ int16At l 0 ≤ limitInForce (readMeter (int16At l 0) none none co)) ∧
    (let l : List Byte := [0x13, 0x89, 0, 0, 0, 0]; l.length = 6 ∧ limitInForce (readMeter (int16At l 0) none none co) < int16At l 0) := by
  decide +kernel
theorem test_TimeOutOfRangeIsRejected :
    co.power = true ∧ (heard co).tsm.op ≠ .starting ∧ 1439 < nat16At [5, 160, 0, 0] 0 ∧ 6 < nat8At [0, 0, 7, 0] 2 ∧
    59 < nat8At [0, 0, 0, 60] 3 := by decide +kernel
theorem test_TimeSetsTheClock :
    ClockInRange co ∧ ClockInRange (clock 6 1439 59 9 co) ∧ (heard (clock 6 1439 59 9 co)).tsm.op ≠ .starting ∧
    (let l : List Byte := [5, 159, 6, 59]; l.length = 4 ∧ nat16At l 0 ≤ 1439 ∧ nat8At l 2 ≤ 6 ∧ nat8At l 3 ≤ 59) := by
  decide +kernel
/-- TIME against a clock at weekday 3, 01:40:30, and at 00:00:10: every range of the difference at both its ends; no clock. -/
theorem test_TimeSetsTheClock_cases :
    let at_ (minute second : Nat) := clock 3 minute second 5 co
    let difference (s : State) (l : List Byte) : Int := (((nat8At l 2 * 86400 + nat16At l 0 * 60 + nat8At l 3 : Nat) : Int) -
      ((s.rdu.clock.weekday * 86400 + s.rdu.clock.minute * 60 + s.rdu.clock.second : Nat) : Int) + 302400) % 604800 - 302400
    [[0, 102, 3, 31], [0, 102, 3, 30], [0, 102, 3, 0], [0, 101, 3, 59], [0, 101, 3, 0], [0, 100, 3, 59], [0, 100, 3, 30],
      [0, 100, 3, 29], [0, 99, 3, 59], [0, 98, 3, 30], [0, 98, 3, 29], [0, 100, 4, 30]].map (difference (at_ 100 30)) =
      [121, 120, 90, 89, 30, 29, 0, -1, -31, -120, -121, 86400] ∧
    difference (at_ 0 10) [5, 159, 2, 59] = -11 ∧ ClockInRange (at_ 100 30) ∧ ClockInRange (at_ 0 10) ∧
    (heard (at_ 100 30)).tsm.op ≠ .starting ∧ (at_ 100 30).rdu.clock.set = true ∧ co.rdu.clock.set = false ∧
    [0, 0, 0].length ≠ 4 ∧ (heard State.reset).tsm.op = .starting := by decide +kernel
theorem test_SendDoneBeginsTheNext :
    (let s := sli (fun i => { i with tx := some tel }) (part .island); s.power = true ∧ s.sli.tx.isSome = true ∧ sendOpen s = false) ∧
    (let s := sli (fun i => { i with tx := some tel }) co; s.power = true ∧ s.sli.tx.isSome = true ∧ s.sli.out = []) ∧
    (let s := sli (fun i => { i with tx := some tel }) (outQ [storage, readiness])
     sendOpen s = true ∧ s.sli.out = storage :: [readiness] ∧ s.sli.overflow = false) ∧
    (let s := sli (fun i => { i with tx := some tel, overflow := true }) (outQ (full storage))
     sendOpen s = true ∧ s.sli.out = note .curtailed :: (full storage).drop 1 ∧ ((full storage).drop 1).length = 31 ∧ s.sli.overflow = true) ∧
    (let s := sli (fun i => { i with tx := some tel, overflow := true }) (outQ ((full storage).drop 1))
     sendOpen s = true ∧ s.sli.out = note .curtailed :: (full storage).drop 2 ∧ ((full storage).drop 2).length < 31 ∧ s.sli.overflow = true) := by
  decide +kernel
/-- A telegram that comes while the OUT_OVERFLOW notice waits, or does not wait. -/
theorem test_SendDoneBeginsTheNext_waiting :
    let waiting (l : List OutMsg) : State := sli (fun i => { i with overflow := true }) (outQ (l.drop 1))
    let p (l : List OutMsg) : State := putOut (note .curtailed) (waiting l)
    (outQ []).sli.overflow = false ∧ 32 ≤ (outQ (full storage)).sli.out.length ∧
    (∀ l ∈ [full storage, full readiness, full statusFwd, []], (waiting l).sli.overflow = true ∧ (waiting l).sli.out.length < 32) ∧
    (p []).sli.out.length < 32 ∧ (∀ l ∈ [full storage, full readiness, full statusFwd], 32 ≤ (p l).sli.out.length) ∧
    (p (full statusFwd)).sli.out.any OutMsg.isStatusFwd = true ∧ (p (full readiness)).sli.out.any OutMsg.isStatusFwd = false ∧
    (p (full readiness)).sli.out.any OutMsg.isReadiness = true ∧ (p (full storage)).sli.out.any OutMsg.isStatusFwd = false ∧
    (p (full storage)).sli.out.any OutMsg.isReadiness = false := by decide +kernel
theorem test_OutboundQueueRules :
    (note .curtailed).key = none ∧ ((full storage).drop 1).length < 32 ∧
    (32 ≤ (full statusFwd).length ∧ (full statusFwd).any OutMsg.isStatusFwd = true) ∧
    (32 ≤ (full readiness).length ∧ (full readiness).any OutMsg.isStatusFwd = false ∧ (full readiness).any OutMsg.isReadiness = true) ∧
    (32 ≤ (full storage).length ∧ (full storage).any OutMsg.isStatusFwd = false ∧ (full storage).any OutMsg.isReadiness = false) ∧
    storage.key = some .storage ∧ (full storage).any (fun e => e.key = some .storage) = true ∧
    (full readiness).any (fun e => e.key = some .storage) = false ∧ 32 ≤ (full readiness).length ∧
    ([readiness] : List OutMsg).any (fun e => e.key = some .storage) = false := by decide +kernel
theorem test_SilenceEntersIsland :
    co.power = true ∧ co.sli.silentMark = false ∧ co.tsm.op = .coordinating ∧
    (part .safe).sli.silentMark = false ∧ (part .safe).tsm.op = .safe ∧ (part .island).tsm.op = .island ∧
    (modSbu (fun b => { b with meter := .fresh }) co).sbu.meter = .fresh := by decide +kernel

/-! ### Dispatches -/

/-- An id, a direction, 10.0 kW, a delay and a duration. -/
def order (id dir delay duration : Byte) : List Byte := [0, 0, 0, id, dir, 0, 100, 0, delay, 0, duration]
def reply : DispReply := ⟨9, .decline, .safe, 1, 100, 0, 0, 60, 0⟩
/-- A part that can accept 10.0 kW up. -/
def ready : State := clock 6 1439 59 0 (rsu (fun r => { r with upCap := 100, slots := List.replicate 48 ⟨100, 0, 10, true⟩ }) co)

theorem test_RepeatsAndCancels :
    (order 9 1 0 60).length = 11 ∧
    (heard (rsu (fun r => { r with lastReply := some ⟨9, 103, 4, reply⟩ }) co)).rsu.lastReply = some ⟨nat32At (order 9 1 0 60) 0, 103, 4, reply⟩ ∧
    ([0, 0, 0, 9] : List Byte).length = 4 ∧ (dispatch 9 .up).id = nat32At [0, 0, 0, 9] 0 ∧
    (heard (rsu (fun r => { r with active := some (dispatch 9 .up) }) co)).rsu.active = some (dispatch 9 .up) ∧
    (heard (rsu (fun r => { r with armed := some (dispatch 9 .up) }) co)).rsu.armed = some (dispatch 9 .up) ∧
    (heard co).rsu.active = none ∧ (heard co).rsu.armed = none ∧ co.power = true ∧ (heard co).tsm.op ≠ .starting ∧
    (let h := heard (rsu (fun r => { r with active := some (dispatch 8 .up), armed := some (dispatch 9 .up) }) co)
     h.rsu.active = some (dispatch 8 .up) ∧ (dispatch 8 .up).id ≠ (dispatch 9 .up).id) := by decide +kernel
theorem test_DispatchChecks :
    (heard co).rsu.lastReply = none ∧ (order 9 1 0 60).length = 11 ∧
    (heard (part .safe)).tsm.op = .safe ∧ (heard (part .island)).tsm.op = .island ∧
    ((heard co).tsm.op = .coordinating ∧ (heard co).rdu.clock.set = false) ∧
    (let h := heard (rsu (fun r => { r with highId := some 9 }) ready)
     h.tsm.op = .coordinating ∧ h.rdu.clock.set = true ∧ h.rsu.highId = some 9 ∧ ¬ 9 < nat32At (order 9 1 0 60) 0) ∧
    (let h := heard (rsu (fun r => { r with highId := some 8 }) ready)
     h.tsm.op = .coordinating ∧ h.rdu.clock.set = true ∧ h.rsu.highId = some 8 ∧ 8 < nat32At (order 9 1 0 60) 0) ∧
    (byteAt (order 9 3 0 60) 4 ≠ 1 ∧ byteAt (order 9 3 0 60) 4 ≠ 2) ∧ nat16At (order 9 1 0 0) 9 = 0 := by decide +kernel
theorem test_DispatchAccepted :
    (let h := heard ready
     ready.power = true ∧ h.rsu.lastReply = none ∧ h.tsm.op = .coordinating ∧ h.rdu.clock.set = true ∧ h.rsu.highId = none ∧
     h.rsu.armed = none ∧ h.rsu.slots[(6 * 86400 + 1439 * 60 + 59) % 604800 % 86400 / 1800]? = some ⟨100, 0, 10, true⟩ ∧ h.rsu.upCap = 100) ∧
    (heard (rsu (fun r => { r with armed := some (dispatch 1 .up) }) ready)).rsu.armed = some (dispatch 1 .up) ∧
    directionOfCode (byteAt (order 9 1 0 60) 4) = some .up ∧ directionOfCode (byteAt (order 9 2 0 60) 4) = some .down ∧
    0 < int16At (order 9 1 0 60) 5 ∧ 0 < nat16At (order 9 1 0 60) 9 ∧ min 900 (nat16At (order 9 1 0 60) 7) = 0 ∧
    0 < min 900 (nat16At (order 9 1 1 60) 7) := by decide +kernel
theorem test_DispatchStarts :
    co.rsu.active = none ∧ co.rsu.armed = none ∧ co.power = true ∧
    (rsu (fun r => { r with active := some (dispatch 1 .up) }) co).rsu.active = some (dispatch 1 .up) ∧
    (rsu (fun r => { r with armed := some (dispatch 1 .up) }) co).rsu.armed = some (dispatch 1 .up) := by decide +kernel
theorem test_DispatchStarts_both :
    let s := rsu (fun r => { r with active := some (dispatch 1 .up), armed := some (dispatch 2 .up) }) co
    s.rsu.active = some (dispatch 1 .up) ∧ s.rsu.armed = some (dispatch 2 .up) ∧
    (startDispatch (dispatch 3 .down) s).sli.tx.isSome = true ∧ (startDispatch (dispatch 3 .down) s).sli.out.length = 1 := by
  decide +kernel
theorem test_DispatchExpiryEnds : let s := rsu (fun r => { r with active := some (dispatch 1 .up) }) co
    s.power = true ∧ s.rsu.active = some (dispatch 1 .up) := by decide +kernel

/-! ### Management -/

/-- A stored code that only itself passes. -/
def coded : State := tsm (fun t => { t with code := [1, 2, 3, 4, 5, 6, 7, 8] }) co
def stored (g : Segment) (f : StoredSeg → StoredSeg) : State → State := updStored g f
def writing (job : WriteJob) (op : Byte) (s : State) : State := tsm (fun t => { t with write := some ⟨job, op, 104, 3⟩ }) s
def commitRow : Row := .commitment ⟨100, 0, 10, true⟩
def staged (n : Nat) : State :=
  tsm (fun t => { t with staged := some .commitment, staging := (List.range n).map (fun i => (i, commitRow)) }) co

theorem test_Served : Served co blankCode ∧ Served coded [1, 2, 3, 4, 5, 6, 7, 8] ∧ ¬ Admitted (heard coded) blankCode := by decide +kernel
theorem test_ManagementTests :
    ¬ Admitted (heard coded) blankCode ∧ Admitted (heard co) blankCode ∧ ¬ (1 ≤ (15 : Byte).toNat ∧ (15 : Byte).toNat ≤ 14) ∧
    ¬ (1 ≤ (0 : Byte).toNat ∧ (0 : Byte).toNat ≤ 14) ∧ (1 ≤ (14 : Byte).toNat ∧ (14 : Byte).toNat ≤ 14) ∧
    fieldsFit 14 [] = false ∧ fieldsFit 14 [0xA5] = true ∧ Admitted (heard State.reset) blankCode ∧
    (heard State.reset).tsm.op = .starting ∧ (14 : Byte) ≠ 5 ∧ segmentOfCode (byteAt [4] 0) = some .commitment := by decide +kernel
theorem test_AnswersAreQueuedAndRecorded : (⟨104, 0, 5⟩ : MgmtHead).op = 5 ∧ (⟨104, 0, 1⟩ : MgmtHead).op ≠ 5 ∧ (⟨104, 0, 1⟩ : MgmtHead).op ≠ 9 := by
  decide
theorem test_StagingIsWrittenAndEmptied :
    (let f : List Byte := [4, 0, 47, 0, 100, 0, 0, 10, 1]
     segmentOfCode (byteAt f 0) = some .commitment ∧ 3 ≤ f.length ∧ parseRow .commitment (f.drop 3) = some commitRow ∧
     nat16At f 1 < Segment.capacity .commitment) ∧
    Segment.capacity .commitment ≤ nat16At [4, 0, 48] 1 ∧ Served (staged 2) blankCode ∧
    segmentOfCode (byteAt [0, 0, 0] 0) = none ∧ segmentOfCode (byteAt [8, 0, 0] 0) = none ∧ 3 ≤ [8, 0, 0].length ∧
    ((heard (stored .commitment (fun e => { e with lock := true }) co)).tsm.store.get .commitment).lock = true ∧
    ((heard (staged 2)).tsm.store.get .commitment).lock = false ∧ (heard (staged 2)).tsm.staged = some .commitment ∧
    Segment.commitment ≠ .fleet ∧ (heard co).tsm.staged = none ∧
    (heard (staged 2)).tsm.staging.Pairwise (fun a b => a.1 < b.1) := by decide +kernel
theorem test_CommitBeginsTheWrite :
    (let h := heard (staged 48)
     Served (staged 48) blankCode ∧ h.tsm.staged = some .commitment ∧ (h.tsm.store.get .commitment).lock = false ∧ h.tsm.write = none ∧
     h.tsm.staging.map Prod.fst = List.range 48 ∧ validate .commitment (h.tsm.staging.map Prod.snd) = none) ∧
    (let h := heard (staged 2)
     h.tsm.staging.Pairwise (fun a b => a.1 < b.1) ∧ h.tsm.staging.map Prod.fst = List.range 2 ∧
     ¬ h.tsm.staging.map Prod.fst = List.range 3 ∧
     validate .commitment (h.tsm.staging.map Prod.snd) = some (2, .count)) ∧
    nat16At [4, 0x5A, 0, 48] 2 ≤ Segment.capacity .commitment ∧ byteAt [4, 0x5A, 0, 48] 1 = 0x5A ∧ byteAt [4, 0, 0, 48] 1 ≠ 0x5A ∧
    ((heard (stored .commitment (fun e => { e with lock := true }) (staged 48))).tsm.store.get .commitment).lock = true ∧
    (heard (writing (.lock .fleet) 6 (staged 48))).tsm.write.isSome = true := by decide +kernel
/-- The row index of COUNT: the first missing one, and with none missing the lowest beyond the count. -/
theorem test_CommitBeginsTheWrite_count :
    let indices := (heard (staged 2)).tsm.staging.map Prod.fst
    (2 < 3 ∧ 2 ∉ indices ∧ ∀ j ∈ List.range 2, j ∈ indices) ∧
    ((∀ j ∈ List.range 1, j ∈ indices) ∧ 1 ∈ indices ∧ ∀ j ∈ indices, 1 ≤ j → 1 ≤ j) := by decide +kernel
theorem test_ReadStatusAndClear :
    (let h := heard (tsm (fun t => { t with active := { t.active with commitment := some [commitRow] } }) co)
     h.tsm.active.get .commitment = some [commitRow] ∧ [commitRow][nat16At [4, 0, 0] 1]? = some commitRow ∧
     [commitRow].length ≤ nat16At [4, 0, 1] 1) ∧
    Served co blankCode ∧ byteAt [7, 0, 0] 0 = 7 ∧ (heard co).tsm.active.settings = none ∧ nat16At [7, 0, 0] 1 = 0 ∧
    (heard co).tsm.active.get .fleet = none ∧ segmentOfCode (byteAt [1, 0, 0] 0) = some .fleet ∧ nat16At [7, 0, 1] 1 ≠ 0 ∧
    segmentOfCode (byteAt [8, 0, 0] 0) = none ∧ Admitted (heard State.reset) blankCode := by decide +kernel
theorem test_LockReleaseAndCode :
    Served co blankCode ∧ segmentOfCode (byteAt [1] 0) = some .fleet ∧ segmentOfCode (byteAt [8] 0) = none ∧
    segmentOfCode (byteAt [8, 0xA5] 0) = none ∧ (heard (writing (.lock .fleet) 6 co)).tsm.write.isSome = true ∧ (heard co).tsm.write = none ∧ (heard co).tsm.waiting = [] ∧
    byteAt [1, 0] 1 ≠ 0xA5 ∧ byteAt [1, 0xA5] 1 = 0xA5 ∧ blankCode.length = 8 ∧
    (heard (tsm (fun t => { t with waiting := [⟨.fleet, none⟩] }) co)).tsm.waiting = [⟨.fleet, none⟩] := by decide +kernel
theorem test_WithdrawAndReturn :
    Served co blankCode ∧ slotOf (heard co) (nat16At [0, 7] 0) = none ∧
    slotOf (heard (withBus .plugged none)) (nat16At [0, 7] 0) = some 0 ∧
    busAt (heard (withBus .plugged none)) 0 = some (bus .plugged none) := by decide +kernel
theorem test_SubstituteIsSet :
    Served co blankCode ∧ findLeg (heard co).rdu.legs 5 = none ∧
    (∀ s ∈ [withLeg .pending [] (withBus .plugged none), withLeg .pending [⟨5, some .ready⟩] (withBus .yard none),
        withLeg .pending [⟨5, some .ready⟩] co, withLeg .notToday [] co, withLeg .pending [] (withBus .withdrawn none)],
      Served s blankCode ∧ (findLeg (heard s).rdu.legs 5).isSome = true) ∧
    findLeg (heard (withLeg .pending [] co)).rdu.legs 5 = some (leg .pending) ∧
    findLeg (heard (withLeg .notToday [] co)).rdu.legs 5 = some (leg .notToday) ∧
    slotOf (heard co) 8 = none ∧ slotOf (heard (withBus .withdrawn none)) 7 = some 0 ∧
    busAt (heard (withBus .withdrawn none)) 0 = some (bus .withdrawn none) ∧
    (let h := heard (withLeg .pending [⟨5, some .ready⟩] (withBus .yard none))
     h.rdu.list.find? (fun e => e.legNo = 5) = some ⟨5, some .ready⟩ ∧ legSlot h { leg .pending with substitute := some 7 } = some 0 ∧
     busAt h 0 = some (bus .yard none) ∧ (bus .yard none).state ≠ .onRoute) ∧
    legSlot (heard (withLeg .pending [⟨5, some .ready⟩] co)) { leg .pending with substitute := none } = none := by decide +kernel
/-- A substitute of bus 8 that is cleared: the effective bus is bus 7, standing in the yard or on its route, or in no slot. -/
theorem test_SubstituteIsSet_due :
    ({ leg .pending with substitute := some 7 } : Leg).effective = (leg .pending).effective ∧
    ({ leg .pending with substitute := some 8 } : Leg).effective ≠ (leg .pending).effective ∧
    (∀ st ∈ [BusState.yard, .onRoute], let h := heard (withLeg .pending [⟨5, some .ready⟩] (withBus st none))
      h.rdu.list.find? (fun e => e.legNo = 5) = some ⟨5, some .ready⟩ ∧ legSlot h (leg .pending) = some 0 ∧
      busAt h 0 = some (bus st none)) ∧
    legSlot (heard (withLeg .pending [⟨5, some .ready⟩] co)) (leg .pending) = none := by decide +kernel
theorem test_SeasonAndRestart :
    Served co blankCode ∧ 1 < nat8At [2] 0 ∧ nat8At [1] 0 ≤ 1 ∧ (heard co).tsm.store.settings.lock = false ∧ (heard co).tsm.write = none ∧
    (heard (stored .settings (fun e => { e with lock := true }) co)).tsm.store.settings.lock = true ∧
    (heard (writing (.lock .fleet) 6 co)).tsm.write.isSome = true ∧ byteAt [0] 0 ≠ 0xA5 ∧ byteAt [0xA5] 0 = 0xA5 := by decide +kernel
theorem test_StoreWriteEnds :
    (∀ s ∈ [writing (.commit .fleet []) 2 co, writing (.release .fleet) 7 (tsm (fun t => { t with active := { t.active with fleet := some [] } }) co),
        writing (.lock .fleet) 6 co, writing (.setCode blankCode) 8 co], s.power = true ∧ s.tsm.write.isSome = true) ∧
    (writing (.commit .fleet []) 2 co).tsm.write = some ⟨.commit .fleet [], 2, 104, 3⟩ ∧ co.tsm.active.get .fleet = none ∧ co.tsm.waiting = [] ∧
    ((tsm (fun t => { t with active := { t.active with fleet := some [] } }) co).tsm.active.get .fleet).isSome = true := by decide +kernel
/-- A segment not VALID: new content of it waits, its own leaving waits, or nothing of it waits. -/
theorem test_StoreWriteEnds_waiting :
    let s (l : List Activation) := writing (.release .fleet) 7 (tsm (fun t => { t with waiting := l }) co)
    (s []).tsm.active.get .fleet = none ∧ (∃ a ∈ (s [⟨.fleet, some []⟩]).tsm.waiting, a.seg = .fleet ∧ a.content.isSome = true) ∧
    ¬ (∃ a ∈ (s [⟨.fleet, none⟩]).tsm.waiting, a.seg = .fleet ∧ a.content.isSome = true) ∧ (s []).tsm.waiting = [] := by decide +kernel
/-- The list rebuilt with leg 5 DUE: it stays at its departure, and at its close it closes and leg 6 takes its place. -/
theorem test_StoreWriteEnds_rebuild :
    let legs : List Leg := [leg .pending, ⟨{ row with legNo := 6, departure := 900 }, none, .pending, false, false⟩]
    let at_ (m : Nat) := rebuildList (clock 0 m 0 0 (rdu (fun r => { r with legs := legs, list := [⟨5, some .ready⟩] }) co))
    (at_ 400).rdu.list = [⟨5, some .ready⟩, ⟨6, none⟩] ∧ (at_ 399).rdu.list = [⟨5, none⟩, ⟨6, none⟩] ∧
    (at_ 899).rdu.list = [⟨6, none⟩] ∧ (at_ 899).rdu.legs.map Leg.outcome = [.notDeparted, .pending] := by decide +kernel
def fleetRow (n : Nat) (b : Byte) : FleetRow := ⟨n, [b, 2, 3, 4, 5, 6, 7, 8], 2000, true, 0, 0⟩
/-- A part that holds bus 7 at post 4, its tag mapped. -/
def located : State :=
  post (fun q => { q with state := .plugged, bus := some 0 })
    (modFrt (fun t => { t with tagMap := [((bus .plugged none).tag, 0)] }) (withBus .plugged (some 4)))
/-- The activations: the tag known or new, the bus of a post kept or lost, the season that stays or changes. -/
theorem test_StoreWriteEnds_fleet :
    let slot (tag : List Byte) := (located.frt.tagMap.find? (fun e => e.1 = tag)).map Prod.snd
    let moved (l : List FleetRow) := (located.frt.tagMap.find? (fun e => e.2 = 0)).bind (fun e => l.findIdx? (fun r => r.tag = e.1))
    TableSizes located ∧ slot (fleetRow 7 1).tag = some 0 ∧ busAt located 0 = some (bus .plugged (some 4)) ∧
    slot (fleetRow 8 9).tag = none ∧ (postAt located 4).bus = some 0 ∧ (postAt located 5).bus = none ∧
    moved [fleetRow 8 9, fleetRow 7 1] = some 1 ∧ moved [fleetRow 8 9] = none ∧ (postAt located 4).state = .plugged ∧
    seasonOf Settings.defaults.season = co.stp.season ∧ seasonOf 1 ≠ co.stp.season ∧
    co.tsm.op = .coordinating ∧ (part .island).tsm.op = .island := by decide +kernel
/-- One station at a YARD activation: a row or none, configured or not, OFFLINE or not, the charge-back standing or ended. -/
theorem test_StoreWriteEnds_yard :
    let r : YardRow := ⟨1, true, [200, 200, 200, 200], 0xE4⟩
    let on := cab (fun c => { c with configured := true, age := 3 }) co
    IsStation 1 ∧ TableSizes co ∧ ([] : List YardRow).find? (fun r => r.station = 1) = none ∧
    [r].find? (fun r => r.station = 1) = some r ∧ (cabAt co 1).configured = false ∧ (cabAt co 1).link ≠ .offline ∧
    (cabAt on 1).configured = true ∧ (cabAt on 1).age < on.tsm.settings.fallbackTime * 10 ∧
    ¬ (cabAt co 1).age < co.tsm.settings.fallbackTime * 10 ∧
    (cabAt (cab (fun c => { c with link := .offline }) co) 1).link = .offline ∧
    (visiting 0 .awaiting).ylc.round = .visit 1 0 .awaiting ∧ 2 ≠ 1 := by decide +kernel
/-- The link and the claim at a station that loses its row, and a mode map. -/
theorem test_StoreWriteEnds_link :
    let on := cab (fun c => { c with configured := true }) (ylc (fun y => { y with poolClaim := some 1 }) co)
    (linked (.poolAwait 1) on).ylc.link = .poolAwait 1 ∧ (linked (.poolAwait 2) on).ylc.link = .poolAwait 2 ∧ on.ylc.poolClaim = some 1 ∧
    (cabAt on 1).configured = true ∧ (cabAt on 1).reported = none ∧ modeOfMap 0xE4 = some .split ∧
    (postAt located (1 * 4 + 0)).bus = some 0 ∧ (∀ i ∈ [0, 1, 2, 3], (postAt located (1 * 4 + i)).bus ≠ some 1) ∧
    (visiting 0 .awaiting).ylc.link = .exchange tel [0, 0, 0, 0] := by decide +kernel
/-- The operating state at a YARD activation, and a round with and without a station above. -/
theorem test_StoreWriteEnds_safe :
    State.reset.tsm.op = .starting ∧ (part .safe).tsm.op = .safe ∧ co.tsm.op ≠ .safe ∧ (part .safe).tsm.silenceStanding = false ∧
    (tsm (fun t => { t with silenceStanding := true }) (part .safe)).tsm.silenceStanding = true ∧ co.ylc.round = .idle ∧
    (ylc (fun y => { y with round := .between 0 }) co).ylc.round = .between 0 ∧ (∀ d ∈ stations, (cabAt co d).configured = false) ∧
    (0 < 1 ∧ IsStation 1 ∧ (cabAt (cab (fun c => { c with configured := true }) co) 1).configured = true) := by decide +kernel

/-! ### Site traffic toward the yard -/

def passing (action : Nat) : State := sli (fun i => { i with passage := [⟨0, 0, 0, 255, 0, 16, action⟩] }) co
def crowded (s : State) : State := ylc (fun y => { y with fwdQ := List.replicate 8 tel }) s
def forward (t : Telegram) (s : State) : Option PassageRow := (heard s).sli.passage.find? (fun r => r.fits .yard t.kind t.src t.dst)
def plugged (s : State) : State := post (fun q => { q with state := .plugged }) s

theorem test_PassThroughIsForwarded :
    co.power = true ∧ (heard State.reset).tsm.op = .starting ∧ forward tel co = none ∧
    forward tel (passing 2) = some ⟨0, 0, 0, 255, 0, 16, 2⟩ ∧ forward tel (passing 1) = some ⟨0, 0, 0, 255, 0, 16, 1⟩ ∧
    (heard (passing 1)).tsm.op ≠ .starting ∧ (heard (passing 1)).ylc.fwdQ.length < 8 ∧ 8 ≤ (heard (crowded (passing 0))).ylc.fwdQ.length := by
  decide +kernel
theorem test_SetreqIsJudged :
    passageAction (heard co) .yard 0x20 102 1 = .drop ∧ passageAction (heard (passing 0)) .yard 0x20 102 1 = .forward ∧
    passageAction (heard (plugged (passing 1))) .yard 0x20 102 1 = .clamp ∧ co.power = true ∧ (heard co).tsm.op ≠ .starting ∧
    TableSizes (heard (plugged (passing 1))) ∧ (postAt (heard (plugged (passing 1))) 4).state = .plugged ∧
    (postAt (heard (plugged (passing 1))) 4).boost = false ∧ (postAt (heard (passing 1)) 4).state = .offline ∧
    (heard (passing 1)).ylc.fwdQ.length < 8 ∧ 8 ≤ (heard (crowded (passing 1))).ylc.fwdQ.length ∧
    nat8At [0, 0, 0, 1] 0 ≤ 3 ∧ ¬ nat8At [4, 0, 0, 1] 0 ≤ 3 ∧ flagAt (byteAt [0, 0, 0, 1] 3) 0 = true ∧
    flagAt (byteAt [0, 0, 0, 0] 3) 0 = false := by decide +kernel

/-! ### The yard survey -/

theorem test_TimersAtTheirLimits :
    IsStation 1 ∧ IsStation 16 ∧ co.power = true ∧ TableSizes co ∧ co.tsm.op ≠ .starting ∧ co.ylc.round = .idle ∧
    (visiting 0 .awaiting).ylc.round ≠ .idle ∧
    (cabAt (cab (fun c => { c with pool := { c.pool with state := .quiesce } }) co) 1).pool.state = .quiesce ∧
    (let c := cabAt (cab (fun c => { c with link := .offline, configured := true }) co) 1; c.link = .offline ∧ c.configured = true) ∧
    (let c := cabAt (cab (fun c => { c with link := .offline }) co) 1; c.link = .offline ∧ c.configured = false) := by decide +kernel
theorem test_Awaits : Awaits (visiting 0 .awaiting) 1 0 [0, 0, 0, 0] := ⟨⟨tel, rfl⟩, rfl⟩
theorem test_StatusIsTaken :
    (visiting 0 .awaiting).power = true ∧ TableSizes (visiting 0 .awaiting) ∧ IsStation 1 ∧ (1 : Byte).toNat = 1 ∧
    (parseStatus (List.replicate 47 0)).isSome = true ∧ modeOfCode 4 = some .quad ∧ modeOfCode 5 = none := by decide +kernel
/-- A restart that is new or not; a post's state, the bus it names, its mismatch count and the event queue. -/
theorem test_StatusIsTaken_posts :
    (cabAt (visiting 0 .awaiting) 1).restartAck = false ∧ (cabAt (cab (fun c => { c with restartAck := true }) co) 1).restartAck = true ∧
    (cabAt co 1).pool.target = none ∧ modeOfCode 5 = none ∧ (postAt located 4).bus = some 0 ∧
    busAt located 0 = some (bus .plugged (some 4)) ∧ (∀ j ∈ [1, 2, 3], (postAt located (1 * 4 + j)).bus ≠ some 0) ∧
    (∀ st ∈ [PostState.unknown, .offline, .empty, .plugged, .guest, .held], (postAt (post (fun q => { q with state := st }) co) 4).state = st) ∧
    (∀ n ∈ [0, 1, 2, 3], (postAt (post (fun q => { q with mismatch := n }) co) 4).mismatch = n) ∧
    co.frt.plugQ.length ≤ 28 ∧
    32 ≤ (modFrt (fun t => { t with plugQ := List.replicate 32 ⟨2, 0, .fault, [], none⟩ }) co).frt.plugQ.length ∧
    (joinPlug ⟨1, 0, .fault, [], none⟩ co).frt.plugQ.any (fun e => e.cabinet * 4 + e.position = 4) = true ∧
    ((visiting 0 .awaiting).ylc.refusal = false ∧ (ylc (fun y => { y with refusal := true }) co).ylc.refusal = true) := by decide +kernel
/-- The sequencer when the mode has been taken: without and with a quiesce set. -/
theorem test_StatusIsTaken_quiet :
    let e (s : State) := (cabAt (reportMode 1 5 (statusLink 1 [0, 0, 0, 0] (statusRestart 1 false (yardHeard s)))) 1).pool
    let still := cab (fun c => { c with pool := { c.pool with state := .quiesce, target := some .quad, quiesce := [0, 3] } }) (visiting 0 .awaiting)
    (e (visiting 0 .awaiting)).state ≠ .quiesce ∧ (e still).state = .quiesce ∧ (∀ i ∈ (e still).quiesce, i < 4) := by decide +kernel
theorem test_EventsAreOffered :
    IsStation 1 ∧ TableSizes co ∧ (cabAt co 1).lastSeq = none ∧
    (let last := (cabAt (cab (fun c => { c with lastSeq := some 5 }) co) 1).lastSeq
     last = some 5 ∧ ¬ 1 ≤ ((5 : Byte).toNat + 256 - 5 % 256) % 256 ∧ ((132 : Byte).toNat + 256 - 5 % 256) % 256 ≤ 127) ∧
    3 < (4 : Byte).toNat ∧ (3 : Byte).toNat ≤ 3 ∧ (0 : Byte).toNat < 1 ∧ 4 < (5 : Byte).toNat ∧ (1 ≤ (4 : Byte).toNat ∧ (4 : Byte).toNat ≤ 4) ∧
    co.frt.plugQ.length < 32 ∧ 32 ≤ (modFrt (fun t => { t with plugQ := List.replicate 32 ⟨1, 0, .fault, [], none⟩ }) co).frt.plugQ.length := by
  decide +kernel
theorem test_WaitsAndMisses :
    Awaits (visiting 2 .awaiting) 1 2 [0, 0, 0, 0] ∧ 2 < (visiting 2 .awaiting).tsm.settings.waitLimit ∧
    Awaits (visiting 3 .awaiting) 1 3 [0, 0, 0, 0] ∧ (visiting 3 .awaiting).tsm.settings.waitLimit ≤ 3 ∧
    (visiting 1 .holdOff).ylc.round = .visit 1 1 .holdOff ∧ co.power = true :=
  ⟨⟨⟨tel, rfl⟩, rfl⟩, by decide +kernel, ⟨⟨tel, rfl⟩, rfl⟩, by decide +kernel, rfl, rfl⟩
theorem test_MissesTakeACabinetOffline :
    IsStation 1 ∧ TableSizes co ∧
    (∀ st ∈ [LinkState.offline, .unseen, .online, .missing], (cabAt (cab (fun c => { c with link := st }) co) 1).link = st) ∧
    min 7 ((cabAt co 1).misses + 1) < co.tsm.settings.missLimit ∧
    co.tsm.settings.missLimit ≤ min 7 ((cabAt (cab (fun c => { c with misses := 2, link := .online }) co) 1).misses + 1) := by decide +kernel
theorem test_VisitsEndAndRoundsComplete :
    IsStation 1 ∧ (1 < 2 ∧ IsStation 2 ∧ (cabAt (updCab 2 (fun c => { c with configured := true }) co) 2).configured = true) ∧
    (∀ d ∈ stations, 1 < d → (cabAt co d).configured = false) := by decide +kernel
/-- A fleet at 0.0 kW against the band of an UP dispatch of 10.0 kW: inside from the baseline 10.0, outside from 5.0. -/
theorem test_VisitsEndAndRoundsComplete_band :
    co.rsu.active = none ∧ fleetMeasured co = 0 ∧
    (∀ b ∈ [false, true], (rsu (fun r => { r with active := some { dispatch 1 .up with stopped := b } }) co).rsu.active =
      some { dispatch 1 .up with stopped := b }) ∧
    max 10 (100 * co.tsm.settings.tolerance / 100) < 50 ∧
    (0 - (100 - 100) ≤ max 10 (100 * co.tsm.settings.tolerance / 100) ∧
      -max 10 (100 * co.tsm.settings.tolerance / 100) ≤ (0 - (100 - 100) : Int)) := by decide +kernel
theorem test_UnawaitedRepliesAreDiscarded :
    co.power = true ∧ (∀ waits grants, ¬ Awaits co (1 : Byte).toNat waits grants) ∧ co.ylc.link ≠ .poolAwait (1 : Byte).toNat ∧
    (∀ f, co.ylc.link = .forward f → f.dst = 0 ∨ tel.src ≠ f.dst ∨ tel.dst = 100) :=
  ⟨rfl, fun _ _ h => (by cases h.2), (by decide +kernel), fun _ h => (by cases h)⟩
theorem test_CurtailZeroesTheGrants :
    (linked (.curtail tel) co).ylc.link = .curtail tel ∧ (linked (.curtail tel) co).ale.pass = .idle ∧ co.power = true ∧
    (modAle (fun a => { a with pass := .running }) (linked (.curtail tel) co)).ale.pass = .running ∧ co.tsm.op ≠ .starting := by
  decide +kernel

/-! ### Pooling, forwarded telegrams, meter, minute -/

def changing (st : SeqState) (attempts : Nat) (l : Link) : State :=
  linked l (cab (fun c => { c with pool := { c.pool with state := st, target := some .quad, attempts := attempts } }) co)

theorem test_PoolSendingEnds :
    IsStation 1 ∧ TableSizes (changing .sent 0 (.poolSending 1 tel)) ∧ (changing .sent 0 (.poolSending 1 tel)).ylc.link = .poolSending 1 tel ∧
    (cabAt (changing .sent 0 (.poolSending 1 tel)) 1).pool.state = .sent ∧
    (cabAt (changing .done 0 (.poolSending 1 tel)) 1).pool.state ≠ .sent := by decide +kernel
/-- The sequencer's own rules: its states, targets and modes, wanted, reported and in force. -/
theorem test_PoolSendingEnds_rules :
    let s (f : Sequencer → Sequencer) : Cabinet := cabAt (cab (fun c => { c with reported := some .split, pool := f c.pool }) co) 1
    IsStation 1 ∧ TableSizes co ∧ (cabAt co 1).reported = none ∧ (s id).reported = some .split ∧ Mode.split ≠ .quad ∧
    (∀ st ∈ [SeqState.done, .quiesce, .sent, .await, .failed],
      let c := s (fun q => { q with state := st, target := some .quad })
      c.pool.state = st ∧ c.pool.target = some .quad ∧ c.pool.pending = none ∧ c.pool.inForce ≠ some .split) ∧
    (s (fun q => { q with target := some .quad, pending := some .pairA })).pool.pending = some .pairA ∧
    (s (fun q => { q with state := .quiesce, target := some .quad, inForce := some .split })).pool.inForce = some .split ∧
    modeOfCode 5 = none ∧ modeOfCode 4 = some .quad := by decide +kernel
/-- A quiet mark set while the POOL waits for its slot. -/
theorem test_PoolSendingEnds_quiet :
    let s := cab (fun c => { c with pool := { c.pool with state := .sent, target := some .quad, quiesce := [0, 1] } }) co
    (cabAt s 1).pool.state = .sent ∧ (cabAt (markQuiet 1 s) 1).pool.quiet = [0, 1] ∧ (cabAt (markQuiet 1 s) 1).pool.state = .sent ∧
    (cabAt co 1).pool.state = .done := by decide +kernel
theorem test_PoolRepliesAreTaken :
    (∀ n ∈ [2, 3], let s := changing .await n (.poolAwait 1)
      s.power = true ∧ TableSizes s ∧ s.ylc.link = .poolAwait 1 ∧ (cabAt s 1).pool.target = some .quad ∧ (cabAt s 1).pool.attempts = n ∧
      (cabAt s 1).pool.pending = none ∧ (cabAt s 1).pool.inForce ≠ some .quad) ∧ (1 : Byte).toNat = 1 ∧ (2 : Byte) ≠ 0 := by decide +kernel
/-- The target in force already; posts that the target feeds and does not feed; every kind of post state. -/
theorem test_PoolRepliesAreTaken_posts :
    (cabAt (cab (fun c => { c with pool := { c.pool with inForce := some .quad } }) co) 1).pool.inForce = some .quad ∧
    feeds .quad 0 ≠ [] ∧ feeds .quad 1 = [] ∧
    (∀ st ∈ [PostState.unknown, .offline, .disabled, .plugged], (postAt (post (fun q => { q with state := st }) co) 4).state = st) := by
  decide +kernel
/-- A pending target at the third attempt. -/
theorem test_PoolRepliesAreTaken_pending :
    let s := cab (fun c => { c with pool := { c.pool with pending := some .pairA } }) (changing .await 3 (.poolAwait 1))
    s.power = true ∧ TableSizes s ∧ s.ylc.link = .poolAwait 1 ∧ (cabAt s 1).pool.target = some .quad ∧
    3 ≤ (cabAt s 1).pool.attempts ∧ (cabAt s 1).pool.pending = some .pairA := by decide +kernel
theorem test_ForwardedTransactionsEnd :
    (linked (.forward tel) co).ylc.link = .forward tel ∧ tel.dst ≠ 0 ∧ (telegram 102 1 0x50 0).src = tel.dst ∧ (telegram 102 1 0x50 0).dst ≠ 100 ∧
    passageAction (linked (.forward tel) co) .site 0x50 1 102 = .drop ∧
    passageAction (sli (fun i => { i with passage := [⟨1, 0, 0, 255, 0, 255, 0⟩] }) co) .site 0x50 1 102 ≠ .drop ∧
    (telegram 0 102 0x50 0).dst = 0 := by decide +kernel
theorem test_MeterAges :
    co.power = true ∧ (modSbu (fun b => { b with meter := .fresh }) co).sbu.meter = .fresh ∧ co.tsm.op ≠ .starting ∧ co.sbu.meter = .none := by
  decide +kernel
theorem test_MinuteAdvances :
    (clock 6 1438 59 9 co).rdu.clock.minute < 1439 ∧ 1439 ≤ (clock 6 1439 59 9 co).rdu.clock.minute ∧
    (clock 6 1439 59 9 co).rdu.clock.set = true ∧ co.power = true := by decide +kernel
/-- A slot taken or to take. -/
theorem test_MinuteAdvances_slot :
    State.reset.tsm.op = .starting ∧ co.rdu.clock.set = false ∧ co.tsm.op ≠ .starting ∧ (clock 0 59 0 0 co).rdu.clock.set = true ∧
    (clock 0 59 0 0 co).rsu.slot ≠ some (59 / 30) ∧ (rsu (fun r => { r with slot := some 1 }) co).rsu.slot = some (59 / 30) := by
  decide +kernel
/-- The departure list: leg 5 of bus 7 departs at minute 400 with 30 minutes of grace at most. Before, at and past the departure,
its bus in the yard or on its route, its entry listed, DUE or not listed. -/
theorem test_MinuteAdvances_list :
    (∀ m ∈ [399, 400, 404, 405, 1439], ∀ st ∈ [BusState.yard, .onRoute],
      let s := clock 0 m 0 0 (withLeg .pending [⟨5, none⟩] (withBus st none))
      s.rdu.clock.set = true ∧ s.rdu.list.find? (fun e => e.legNo = 5) = some ⟨5, none⟩ ∧
      findLeg s.rdu.legs 5 = some (leg .pending) ∧ legSlot s (leg .pending) = some 0 ∧ busAt s 0 = some (bus st none)) ∧
    (399 < 400 ∧ 404 < 400 + 5 ∧ 400 + co.tsm.settings.grace ≤ 1439) ∧ 5 ≤ co.tsm.settings.grace ∧
    legSlot (withLeg .pending [⟨5, none⟩] co) (leg .pending) = none ∧
    (withLeg .pending [⟨5, some .ready⟩] co).rdu.list.find? (fun e => e.legNo = 5) = some ⟨5, some .ready⟩ ∧
    (withLeg .notToday [] co).rdu.list = [] ∧ (leg .notToday).outcome ≠ .pending ∧ (leg .pending).outcome = .pending := by
  decide +kernel
/-- The next leg of bus 7: today's, tomorrow's, none; inside and outside the early window. -/
theorem test_MinuteAdvances_next :
    let at_ (m : Nat) (o : LegOutcome) := clock 0 m 0 0 (withLeg o [] (withBus .yard none))
    (findNextLeg (at_ 399 .pending) 0).map (fun x => (x.mins, x.tomorrow)) = some (1, false) ∧
    (findNextLeg (at_ 401 .departedReady) 0).map (fun x => (x.mins, x.tomorrow)) = some (1439, true) ∧
    (findNextLeg (at_ 399 .departedReady) 0).isNone = true ∧
    1 ≤ co.tsm.settings.earlyWindow ∧ co.tsm.settings.earlyWindow < 1439 ∧
    (findNextLeg (clock 0 1439 0 0 (rdu (fun r => { r with legs := [⟨{ row with departure := 5 }, none, .departedReady, false, false⟩] })
      (withBus .yard none))) 0).map (fun x => (x.mins, x.tomorrow)) = some (6, true) := by decide +kernel
/-- A tariff window: its first and last minute, past midnight, no window, no clock; with and without an edge. -/
theorem test_MinuteAdvances_tariff :
    let peak : Window := ⟨.school, 360, 480, .peak, some 500⟩
    let night : Window := ⟨.school, 1320, 360, .offpeak, none⟩
    let s (weekday m : Nat) := modSbu (fun b => { b with windows := [peak, night] }) (clock weekday m 0 0 co)
    let now (weekday m : Nat) := (evalTariff (s weekday m)).sbu.tariff
    now 0 360 = ⟨some .school, some peak, .peak, some 500⟩ ∧ now 0 479 = now 0 360 ∧ now 0 480 = ⟨some .school, none, .shoulder, none⟩ ∧
    now 4 1320 = ⟨some .school, some night, .offpeak, none⟩ ∧ now 4 359 = now 4 1320 ∧ now 5 360 = ⟨some .other, none, .shoulder, none⟩ ∧
    (evalTariff co).sbu.tariff = ⟨none, none, .shoulder, none⟩ ∧ (evalTariff (s 0 360)).ale.pending = true ∧
    (evalTariff (s 0 480)).ale.pending = false := by decide +kernel

/-! ### Readiness, passes, the link, the ranges -/

/-- The precondition draw: first and last minute of the window, the grace, past the close, no clock, no leg. -/
theorem test_BudgetTerms :
    let l : Leg := ⟨{ row with preMin := 30, prePower := 60 }, none, .pending, false, false⟩
    let s := rdu (fun r => { r with legs := [l] })
      (modFrt (fun t => { t with buses := [{ bus .plugged (some 4) with nextLeg := some 5 }] }) located)
    let at_ (m : Nat) := preDraw (clock 0 m 0 0 s) 4
    (postAt s 4).bus.bind (busAt s) = some { bus .plugged (some 4) with nextLeg := some 5 } ∧ findLeg s.rdu.legs 5 = some l ∧
    [369, 370, 400, 400 + s.tsm.settings.grace - 1, 400 + s.tsm.settings.grace].map at_ = [0, 60, 60, 60, 0] ∧
    preDraw s 4 = 0 ∧ s.rdu.clock.set = false ∧ pPre (clock 0 370 0 0 s) = 60 ∧ (bus .plugged (some 4)).nextLeg = none ∧
    (postAt s 5).bus = none := by decide +kernel

theorem test_VerdictsAndStorageEntries :
    co.rdu.clock.set = false ∧ (clock 0 0 0 0 co).rdu.clock.set = true ∧ (bus .plugged none).held = none ∧
    legFloor co row ≤ (bus .plugged none).capacity ∧ ¬ legFloor co { row with base := 6000 } ≤ (bus .plugged none).capacity ∧
    (25 ≤ 40 ∧ 40 ≤ 60 ∧ 60 ≤ 80 ∧ 80 ≤ 100) ∧ busAt (withBus .plugged none) 0 = some (bus .plugged none) ∧
    0 < (modStp (fun t => { t with table := [StorageEntry.none] }) co).stp.table.length := by decide +kernel
/-- The parked classes: WITHDRAWN, parked by its class, without a leg, with a leg in TERM and in the recess. -/
theorem test_VerdictsAndStorageEntries_parked :
    (bus .withdrawn none).state = .withdrawn ∧ (bus .yard none).state ≠ .withdrawn ∧ (bus .yard none).cls ≠ .parked ∧
    ({ bus .yard none with cls := .parked } : Bus).cls = .parked ∧ (bus .yard none).nextLeg = none ∧
    ({ bus .yard none with nextLeg := some 5 } : Bus).nextLeg.bind (findLeg (withLeg .pending [] co).rdu.legs) = some (leg .pending) ∧
    co.stp.season ≠ .recess ∧ (modStp (fun t => { t with season := .recess }) co).stp.season = .recess ∧ row.recess = false ∧
    (clock 0 0 0 0 co).rdu.clock.set = true ∧ co.stp.viewDue = false ∧
    (modStp (fun t => { t with viewDue := true }) co).stp.viewDue = true := by decide +kernel
theorem test_TriggersStartPasses :
    co.tsm.op ≠ .starting ∧ co.ale.pass = .idle ∧ co.tsm.op ≠ .safe ∧ (part .safe).tsm.op = .safe ∧ (part .safe).tsm.waiting = [] ∧
    (part .safe).ale.pass = .idle ∧ (modAle (fun a => { a with pass := .running }) co).ale.pass = .running := by decide +kernel
/-- A safe pass with nothing waiting, a STORAGE due, a slot crossed; a bus whose recorded leg is gone. -/
theorem test_TriggersStartPasses_safe :
    let s := trigger (part .safe)
    (part .safe).ale.pass = .idle ∧ (part .safe).tsm.waiting = [] ∧ s.ale.turn = 0 ∧ s.ale.overLimit = false ∧ s.stp.view.isSome = true ∧
    ({ bus .plugged (some 4) with nextLeg := some 5 } : Bus).nextLeg = some 5 ∧ findLeg located.rdu.legs 5 = none ∧
    (postAt located 4).bus.bind (busAt located) = some (bus .plugged (some 4)) := by decide +kernel
theorem test_located_paired : Paired located ∧ MapSound located := by
  have sound : ∀ e ∈ located.frt.tagMap, e.2 < located.frt.buses.length := by decide +kernel
  refine ⟨⟨?_, ?_⟩, sound⟩
  · intro k b h p hp
    match k, h with
    | 0, h =>
      cases h
      cases hp
      decide +kernel
  · intro p hp k h
    have : ∀ q ∈ List.range 68, 4 ≤ q → (postAt located q).bus = if q = 4 then some 0 else none := by decide +kernel
    rw [this p (List.mem_range.2 (by omega)) hp.1] at h
    split at h
    · cases h
      exact ⟨_, rfl, by simp [bus, *]⟩
    · cases h
/-- The events at posts 4 and 5 of a part whose bus stands at post 4: its own post, another, an unknown tag, every post state. -/
theorem test_TriggersStartPasses_events :
    let tag := (bus .plugged none).tag
    let tagged (x : List Byte) := (located.frt.tagMap.find? (fun e => e.1 = x)).map Prod.snd
    let at_ (st : PostState) : State := updPost 5 (fun q => { q with state := st }) located
    PlugEvent.ofPost ⟨1, 1, .plugged, tag, none⟩ ∧ TableSizes located ∧ tagged tag = some 0 ∧ tagged [9] = none ∧
    busAt located 0 = some (bus .plugged (some 4)) ∧ (postAt located 4).bus = some 0 ∧ (postAt located 5).bus ≠ some 0 ∧
    (bus .plugged (some 4)).post = some 4 ∧ (bus .yard none).post = none ∧
    (∀ st ∈ [PostState.unknown, .empty, .plugged, .guest, .held, .faulted, .disabled, .offline], (postAt (at_ st) 5).state = st) := by
  decide +kernel
theorem test_PassCompletionWrites : let s := plugged (trigger co)
    s.power = true ∧ s.ale.pass = .running ∧ s.ale.snap = some (takeSnapshot (drainForPass co)) ∧ TableSizes s ∧
    (postAt s 4).state = .plugged ∧ (cabAt s 1).pool.quiesce.contains 0 = false ∧ (postAt s 67).state = .offline := by decide +kernel
/-- The sides of a slot under way; the sums of a pass and of a safe pass. -/
theorem test_PassCompletionWrites_sides :
    co.rdu.clock.set = false ∧ co.rsu.slot = none ∧ (clock 0 59 0 0 (rsu (fun r => { r with slot := some 1 }) co)).rdu.clock.set = true ∧
    (clock 0 59 0 0 (rsu (fun r => { r with slot := some 1 }) co)).rsu.slot = some 1 ∧ (safeFacts co).safe = true ∧
    (factsOf (takeSnapshot co)).safe = false := by decide +kernel
/-- A leg open today, run tomorrow or neither, its bus known or not, marked or not; a bus with a verdict kept and one changed. -/
theorem test_PassCompletionWrites_readiness :
    let s (m : Nat) (o : LegOutcome) := clock 0 m 0 0 (withLeg o [] (withBus .yard none))
    ((leg .pending).outcome = .pending ∧ 399 < row.departure + co.tsm.settings.grace) ∧
    (row.runs 1 .term = true ∧ row.departure ≤ 401) ∧ (leg .departedReady).outcome ≠ .pending ∧ ¬ row.departure ≤ 399 ∧
    unassignedReason (s 399 .pending) (leg .pending) = none ∧ unassignedReason co (leg .pending) = some .notInFleet ∧
    (leg .pending).unassigned = false ∧ ({ leg .pending with unassigned := true } : Leg).unassigned = true ∧
    busAt (s 399 .pending) 0 = some (bus .yard none) ∧ (findNextLeg (s 399 .pending) 0).isSome = true ∧
    co.rdu.clock.set = false ∧ (findNextLeg (withLeg .pending [] (withBus .yard none)) 0).isSome = true ∧
    (∀ l ∈ (withLeg .pending [] co).rdu.legs, legSlot (withLeg .pending [] co) l ≠ some 0) := by decide +kernel
/-- With the clock NOT_SET a bus that has a leg has a next leg. -/
theorem test_PassCompletionWrites_unset :
    let s := withLeg .notToday [] (withBus .yard none)
    s.rdu.clock.set = false ∧ s.rdu.legs = [leg .notToday] ∧ legSlot s (leg .notToday) = some 0 ∧ (findNextLeg s 0).isSome = true := by
  decide +kernel
theorem test_GrantsKeepTheBudgetOrTheLowest : let n := takeSnapshot (plugged co)
    n.pPre ≤ budget n ∧ ((postNos.filter n.takes).map n.draw).sum ≤ n.pPre ∧ 0 ≤ n.settings.rampStep ∧ 0 ≤ n.settings.guestCap ∧
    (∀ p ∈ postNos, n.takes p = true → 0 ≤ n.draw p ∧ 0 ≤ acceptOf (n.post p) ∧ 0 ≤ (n.post p).rating) ∧ n.takes 4 = true ∧
    (n.post 4).requestCap = none := by decide +kernel
/-- A post 4 that an UP dispatch draws from: bus 7 with 60.0 kWh above its discharge floor. -/
def giving : Snapshot :=
  let n := takeSnapshot located
  { n with
    posts := n.posts.set 0 { postAt located 4 with rating := 200, report := some ⟨true, 0, some 600, 200, 200, some 20, 0⟩ }
    buses := [{ bus .plugged (some 4) with held := some ⟨600, 0, 0⟩ }], bidir := [1], fSite := 0, fLo := -1000
    dispatch := some ⟨1, .up, 100, 50, 60⟩ }
theorem test_GrantsKeepTheBudgetOrTheLowest_draw : let n := giving
    ((postNos.filter n.takes).map n.draw).sum ≤ n.pPre ∧ 0 ≤ n.settings.rampStep ∧ 0 ≤ n.settings.guestCap ∧
    (∀ p ∈ postNos, n.takes p = true → 0 ≤ n.draw p ∧ 0 ≤ acceptOf (n.post p) ∧ acceptOf (n.post p) ≤ 32767 ∧
      0 ≤ deliverOf (n.post p) ∧ deliverOf (n.post p) ≤ 32767 ∧ 0 ≤ (n.post p).rating ∧ (n.post p).requestCap = none) ∧
    n.takes 4 = true ∧ budget n = -50 ∧ n.pPre = 0 ∧ n.dispatch.map SnapDispatch.dir = some .up ∧
    pairValue (allocate n).grants 4 0 = -50 ∧ pairValue (allocate n).tiers 4 .urgent = .idle := by decide +kernel
/-- The shortfalls: a target below the floor, a bound that does not suffice, a target above the site budget, budget left. -/
theorem test_GrantsKeepTheBudgetOrTheLowest_shortfall :
    let under (d : Direction) (fSite fLo power : Int) : Snapshot := { giving with fSite := fSite, fLo := fLo, dispatch := some ⟨1, d, power, 50, 60⟩ }
    let found (n : Snapshot) := (allocate n).shortfall
    budget (under .up 0 (-1000) 100) = -50 ∧ budget (under .up 0 (-40) 100) = -40 ∧ budget (under .down 100 (-1000) 20) = 70 ∧
    budget { giving with dispatch := none } = 0 ∧ found { giving with dispatch := none } = none ∧
    found (under .up 0 (-1000) 100) = none ∧ found (under .up 0 (-40) 100) = some .exportFloor ∧
    found (under .up 0 (-1000) 900) = some .dischargeExhausted ∧ found (under .down 100 (-1000) 900) = some .siteBudget ∧
    found (under .down 900 (-1000) 600) = some .absorptionExhausted ∧ found (under .down 900 (-1000) 50) = none ∧
    budget { (under .down (-5) (-1000) 900) with pPre := 0 } < 0 := by decide +kernel
/-- The tiers: a GUEST, a WITHDRAWN, a parked and a route bus; without and with a recorded leg, above and below its floor. -/
theorem test_GrantsKeepTheBudgetOrTheLowest_tiers :
    let n := giving
    let b : Bus := { bus .plugged (some 4) with nextLeg := some 5, floor := 100 }
    n.takes 4 = true ∧ (n.post 4).state = .plugged ∧ (n.post 4).bus = some 0 ∧ n.buses[0]? = some { bus .plugged (some 4) with held := some ⟨600, 0, 0⟩ } ∧
    ({ n with posts := n.posts.set 0 { n.post 4 with state := .guest, bus := none } } : Snapshot).takes 4 = true ∧
    (bus .withdrawn none).state = .withdrawn ∧ (bus .yard none).state ≠ .withdrawn ∧ (bus .yard none).heldOr0 < 10 ∧
    (n.storage.getD 0 StorageEntry.none).cls = .notParked ∧ StorageEntry.cls ⟨.cls, 5, 10, 20, 30⟩ ≠ .notParked ∧
    b.nextLeg.bind (findLeg [leg .pending]) = some (leg .pending) ∧ (bus .yard none).nextLeg = none ∧ 0 < b.floor - b.heldOr0 ∧
    ({ b with held := some ⟨100, 0, 0⟩ } : Bus).floor - 100 = 0 := by decide +kernel
/-- The charge allocation: bus 7 below the target under SHOULDER, PEAK and a DOWN dispatch; a cut turn. -/
theorem test_GrantsKeepTheBudgetOrTheLowest_charge :
    let wants (fSite : Int) (cls : TariffClass) (d : Option SnapDispatch) : Snapshot :=
      { giving with
        buses := [{ bus .plugged (some 4) with held := some ⟨600, 0, 0⟩, nextLeg := some 5, floor := 100 }], legs := [leg .pending]
        dispatch := d, fSite := fSite, cls := cls }
    let n := wants 100 .shoulder none
    n.pPre ≤ budget n ∧ 0 ≤ n.settings.rampStep ∧ 0 ≤ n.settings.guestCap ∧
    (∀ p ∈ postNos, n.takes p = true → 0 ≤ n.draw p ∧ 0 ≤ acceptOf (n.post p) ∧ acceptOf (n.post p) ≤ 32767 ∧
      0 ≤ (n.post p).rating ∧ (n.post p).requestCap = none) ∧ n.takes 4 = true ∧
    (allocate n).grants = [(4, 100)] ∧ (allocate n).tiers = [(4, .topUp)] ∧ (allocate n).cut = false ∧
    (allocate (wants 29 .shoulder none)).grants = [(4, 0)] ∧ (allocate (wants 29 .shoulder none)).cut = true ∧
    (allocate (wants 30 .shoulder none)).grants = [(4, 30)] ∧ (allocate (wants 300 .peak none)).grants = [(4, 0)] ∧
    (allocate (wants 300 .peak (some ⟨1, .down, 150, 0, 60⟩))).grants = [(4, 150)] := by decide +kernel
/-- The water-fill of the manual's worked pass, and each of its steps: nothing left, less than a unit each, a small member, a level. -/
theorem test_water_fill :
    (let g := fill [(3, 240), (4, 300), (5, 125)] 440
     [3, 4, 5].map (givenTo g.1) = [158, 157, 125] ∧ g.2 = 0) ∧
    fill [(3, 240)] 0 = ([], 0) ∧ fill [(3, 5), (4, 5), (5, 0)] 1 = ([(3, 1), (4, 0)], 0) ∧
    fill [(3, 5), (4, 50)] 100 = ([(3, 5), (4, 50)], 45) ∧ fill [(3, 50), (4, 50)] 61 = ([(3, 30), (4, 30), (3, 1), (4, 0)], 0) := by
  decide +kernel
theorem test_DrainKeepsThePairing : let s := joinPlug ⟨1, 0, .fault, [], none⟩ co
    TableSizes s ∧ Paired s ∧ MapSound s ∧ (∀ e ∈ s.frt.plugQ, e.ofPost) := by
  refine ⟨by decide +kernel, ⟨?_, ?_⟩, ?_, by decide +kernel⟩
  · intro k b h
    cases h
  · intro p hp k h
    have : ∀ q ∈ List.range 68, (postAt (joinPlug ⟨1, 0, .fault, [], none⟩ co) q).bus = none := by decide +kernel
    rw [this p (List.mem_range.2 (by omega))] at h
    cases h
  · intro e h
    cases h

theorem test_DrainKeepsThePairing_step : Linked State.reset ∧ ∃ t, step State.reset = .next t := ⟨linked_reset, _, rfl⟩

def claimed (f : Ylc → Ylc) : State := cab (fun c => { c with configured := true, pool := { c.pool with state := .sent, target := some .quad } }) (ylc f co)

theorem test_LinkIsGivenInOrder :
    State.reset.tsm.op = .starting ∧ co.tsm.op ≠ .starting ∧ co.ylc.link = .free ∧ co.ylc.curtailReq = false ∧
    (claimed (fun y => { y with curtailReq := true })).ylc.curtailReq = true ∧
    (claimed (fun y => { y with round := .visit 1 0 .resend })).ylc.round = .visit 1 0 .resend ∧
    (let s := claimed (fun y => { y with round := .between 1, poolClaim := some 1 })
     s.ylc.poolClaim = some 1 ∧ (cabAt s 1).pool.state = .sent ∧ (cabAt s 1).pool.target = some .quad) ∧
    (let s := claimed (fun y => { y with round := .between 1, fwdClaim := true, fwdQ := [tel] })
     s.ylc.fwdQ = tel :: [] ∧ s.ylc.fwdClaim = true ∧ s.ylc.poolClaim = none) ∧
    (let s := claimed (fun y => { y with round := .between 0 }); s.ylc.round = .between 0 ∧ s.ylc.fwdQ = [] ∧ (cabAt s 1).configured = true) ∧
    (let s := claimed (fun y => { y with roundWanted := true }); s.ylc.round = .idle ∧ s.ylc.roundWanted = true ∧ (cabAt s 1).configured = true) ∧
    (co.ylc.round = .idle ∧ co.ylc.roundWanted = false ∧ co.ylc.poolClaim = none ∧ co.ylc.fwdQ = []) := by decide +kernel
/-- A due round over an empty survey set, and a round between visits without a station above. -/
theorem test_LinkIsGivenInOrder_empty :
    (let s := ylc (fun y => { y with roundWanted := true }) co
     s.ylc.round = .idle ∧ s.ylc.roundWanted = true ∧ s.ylc.poolClaim = none ∧ s.ylc.fwdQ = [] ∧ s.ylc.roundDue = false ∧
     s.tsm.op ≠ .safe ∧ ∀ d ∈ stations, (cabAt s d).configured = false) ∧
    (let s := ylc (fun y => { y with round := .between 0 }) co
     s.ylc.round = .between 0 ∧ s.ylc.poolClaim = none ∧ s.ylc.fwdQ = [] ∧ ∀ d ∈ stations, (cabAt s d).configured = false) := by
  decide +kernel
theorem test_StepKeepsTheRanges : InRange co ∧ ∃ t, step co = .next t := ⟨by decide +kernel, _, rfl⟩

end Sys2Proof.Tests
end

section
/-! The site budget's terms (04_site_budget.md): the limit in force (R65), the offline charge-back (R66), the budget and its
floor (R67, R68), the precondition draws (R69). -/

namespace Sys2Proof.Machine

/-! ### The limit in force (R65) -/

theorem minOf_is_smallest (x : Int) (l : List Int) : minOf x l ∈ x :: l ∧ ∀ y ∈ x :: l, minOf x l ≤ y :=
  List.min?_eq_some_iff.1 List.min?_cons'

/-- The limits that are present (R65). -/
def LimitPresent (s : State) (x : Int) : Prop :=
  x = s.tsm.settings.importLimit ∨ s.sbu.tariff.cap = some x ∨ (s.sbu.meter = .fresh ∧ s.sbu.gridCap = some x)

/-- The minimum of `limitInForce` runs over the limits present. -/
theorem mem_limits_iff (s : State) (x : Int) :
    x ∈ s.tsm.settings.importLimit ::
        (s.sbu.tariff.cap.toList ++ (if s.sbu.meter = .fresh then s.sbu.gridCap.toList else [])) ↔
      LimitPresent s x := by
  by_cases h : s.sbu.meter = .fresh <;> simp [LimitPresent, h]

theorem limitInForce_present (s : State) : LimitPresent s (limitInForce s) :=
  (mem_limits_iff s _).1 (minOf_is_smallest _ _).1

theorem limitInForce_le {s : State} {x : Int} (h : LimitPresent s x) : limitInForce s ≤ x :=
  (minOf_is_smallest _ _).2 x ((mem_limits_iff s x).2 h)

/-! ### The offline charge-back (R66) -/

theorem chargeBackStands_iff (s : State) (c : Cabinet) :
    chargeBackStands s c = true ↔ c.link = .offline ∧ c.age < s.tsm.settings.fallbackTime * 10 := by
  rw [chargeBackStands, Bool.and_eq_true, decide_eq_true_eq, decide_eq_true_eq, fallbackTicks]

theorem postNos_eq_flatMap : postNos = stations.flatMap postsOf := by decide

theorem station_of_post {c p : Nat} (h : p ∈ postsOf c) : p / 4 = c := by
  simp only [postsOf, positions, postNo, List.map_cons, List.map_nil, List.mem_cons, List.not_mem_nil, or_false] at h
  omega

/-- A sum over the posts of the stations that pass a test counts 0 at the other stations' posts. -/
theorem sum_filter_stations (cs : List Nat) (q : Nat → Bool) (f : Nat → Int) :
    ((cs.filter q).flatMap (fun c => (postsOf c).map f)).sum =
      ((cs.flatMap postsOf).map (fun p => if q (p / 4) then f p else 0)).sum := by
  induction cs with
  | nil => rfl
  | cons c cs ih =>
    have own : (postsOf c).map (fun p => if q (p / 4) then f p else 0) =
        (postsOf c).map (fun p => if q c then f p else 0) :=
      List.map_congr_left (fun p hp => by rw [station_of_post hp])
    rw [List.flatMap_cons, List.map_append, List.sum_append, own, ← ih]
    cases h : q c <;> simp [h]

theorem chargeBack_eq_sum_posts (s : State) :
    chargeBack s = (postNos.map (fun p =>
      if chargeBackStands s (cabAt s (p / 4)) then max 0 (postAt s p).sentGrant else 0)).sum := by
  rw [chargeBack, postNos_eq_flatMap]
  exact sum_filter_stations stations _ _

/-! ### The rows of the budget and the floor (R67, R68) -/

theorem onFallback_iff (s : State) :
    onFallback s = true ↔ s.tsm.op = .island ∨ s.sbu.meter = .none ∨ s.sbu.meter = .fallback := by
  simp [onFallback, or_assoc]

/-! ### The precondition draws (R69) -/

/-- Bus b at post p is in the precondition window of leg l (R69). The power above 0.0 that R69 asks of the leg is left out: a
leg of 0.0 draws 0.0 inside the window and outside. -/
def InPreWindow (s : State) (p : Nat) (b : Bus) (l : Leg) : Prop :=
  s.rdu.clock.set = true ∧ b.state = .plugged ∧ (postAt s p).state = .plugged ∧
    p % 4 ∉ (cabAt s (p / 4)).pool.quiesce ∧
    legMinutes true s.rdu.clock.minute s.tsm.settings.grace l ≤ l.row.preMin

theorem inQuiesce_eq_false_iff (s : State) (p : Nat) :
    inQuiesce s p = false ↔ p % 4 ∉ (cabAt s (p / 4)).pool.quiesce := by
  simp [inQuiesce]

theorem preDraw_of_no_bus {s : State} {p : Nat} (hb : (postAt s p).bus.bind (busAt s) = none) : preDraw s p = 0 := by
  rw [preDraw, hb]

section
variable {s : State} {p : Nat} {b : Bus} (hb : (postAt s p).bus.bind (busAt s) = some b)
include hb

theorem preDraw_of_no_leg (hl : recordedLeg s.rdu.legs b = none) : preDraw s p = 0 := by
  rw [recordedLeg] at hl
  simp only [preDraw, hb, hl]

theorem preDraw_in_window {l : Leg} (hl : recordedLeg s.rdu.legs b = some l) (hw : InPreWindow s p b l) :
    preDraw s p = l.row.prePower := by
  rw [InPreWindow, ← inQuiesce_eq_false_iff] at hw
  rw [recordedLeg] at hl
  simp only [preDraw, hb, hl, if_pos hw]

theorem preDraw_outside_window {l : Leg} (hl : recordedLeg s.rdu.legs b = some l) (hw : ¬ InPreWindow s p b l) :
    preDraw s p = 0 := by
  rw [InPreWindow, ← inQuiesce_eq_false_iff] at hw
  rw [recordedLeg] at hl
  simp only [preDraw, hb, hl, if_neg hw]

end

/-- With the clock NOT_SET no bus is in its window (R69). -/
theorem preDraw_of_clock_not_set {s : State} (h : s.rdu.clock.set = false) (p : Nat) : preDraw s p = 0 := by
  cases hb : (postAt s p).bus.bind (busAt s) with
  | none => exact preDraw_of_no_bus hb
  | some b =>
    cases hl : recordedLeg s.rdu.legs b with
    | none => exact preDraw_of_no_leg hb hl
    | some l => exact preDraw_outside_window hb hl fun hw => Bool.false_ne_true (h.symm.trans hw.1)

/-! ### The obligation -/

/-- Settles O52, each term by the lemmas of its rule. -/
theorem budgetTerms : Obligations.BudgetTerms := by
  intro s g load fallback
  have hf : onFallback s = true ↔ fallback := onFallback_iff s
  refine ⟨⟨?importLimit, ?tariffCap, ?gridCap, limitInForce_present s⟩, ?charge, ?budget, ?floor,
    ?clockOrBus, ?leg, rfl⟩
  case importLimit => exact limitInForce_le (.inl rfl)
  case tariffCap => exact fun _ hcap => limitInForce_le (.inr (.inl hcap))
  case gridCap => exact fun _ hfresh hcap => limitInForce_le (.inr (.inr ⟨hfresh, hcap⟩))
  case charge =>
    rw [chargeBack_eq_sum_posts]
    simp only [chargeBackStands_iff]
    rfl
  case budget =>
    simp only [fSite, hf]
    rfl
  case floor =>
    simp only [fLo, hf]
    rfl
  case clockOrBus =>
    rintro p (hclock | hbus)
    · exact preDraw_of_clock_not_set hclock p
    · exact preDraw_of_no_bus hbus
  case leg =>
    intro p b hset hb
    refine ⟨fun hnone => preDraw_of_no_leg hb (by simp [recordedLeg, hnone]), fun l hl => ⟨fun hw => ?_, fun hw => ?_⟩⟩
    · exact preDraw_in_window hb hl ⟨hset, hw⟩
    · exact preDraw_outside_window hb hl fun hin => hw hin.2

end Sys2Proof.Machine
end

section
/-! What a telegram does to the site outbound queue (09_site_traffic_and_the_passage_table.md, R179, R180). -/

namespace Sys2Proof.Machine

/-- The last row of R180's table: a full queue with neither kind that makes room. -/
theorem outDropped_iff (q : List OutMsg) :
    outDropped q = true ↔
      outCapacity ≤ q.length ∧ q.any OutMsg.isStatusFwd = false ∧ q.any OutMsg.isReadiness = false := by
  simp only [outDropped, Bool.and_eq_true, decide_eq_true_eq, Bool.not_eq_true', and_assoc]

/-! ### The queue after a telegram that is not coalesced -/

section
variable {m : OutMsg} {q : List OutMsg} (hm : m.key = none)
include hm

theorem joinQueue_room (hlen : q.length < outCapacity) : joinQueue m q = q ++ [m] := by
  simp only [joinQueue, hm, if_pos hlen]

theorem joinQueue_removes_statusFwd (hlen : outCapacity ≤ q.length) (hfwd : q.any OutMsg.isStatusFwd = true) :
    joinQueue m q = q.eraseP OutMsg.isStatusFwd ++ [m] := by
  simp only [joinQueue, hm, if_neg hlen.not_gt, if_pos hfwd]

theorem joinQueue_removes_readiness (hlen : outCapacity ≤ q.length) (hfwd : q.any OutMsg.isStatusFwd = false)
    (hready : q.any OutMsg.isReadiness = true) : joinQueue m q = q.eraseP OutMsg.isReadiness ++ [m] := by
  simp only [joinQueue, hm, if_neg hlen.not_gt, if_neg (Bool.eq_false_iff.1 hfwd), if_pos hready]

theorem joinQueue_of_outDropped (hdrop : outDropped q = true) : joinQueue m q = q := by
  obtain ⟨hlen, hfwd, hready⟩ := (outDropped_iff q).1 hdrop
  simp only [joinQueue, hm, if_neg hlen.not_gt, if_neg (Bool.eq_false_iff.1 hfwd),
    if_neg (Bool.eq_false_iff.1 hready)]

end

/-! ### The queue after a coalesced telegram -/

section
variable {m : OutMsg} {q : List OutMsg} {k : Key} (hm : m.key = some k)
include hm

theorem joinQueue_replaces (hheld : q.any (fun e => e.key = some k) = true) :
    joinQueue m q = q.map (fun e => if e.key = some k then m else e) := by
  simp only [joinQueue, hm, if_pos hheld]

variable (hnot : q.any (fun e => e.key = some k) = false)
include hnot

theorem joinQueue_key_room (hlen : q.length < outCapacity) : joinQueue m q = q ++ [m] := by
  simp only [joinQueue, hm, if_neg (Bool.eq_false_iff.1 hnot), if_pos hlen]

theorem joinQueue_key_full (hlen : outCapacity ≤ q.length) : joinQueue m q = q := by
  simp only [joinQueue, hm, if_neg (Bool.eq_false_iff.1 hnot), if_neg hlen.not_gt]

end

/-! ### The state after a telegram -/

/-- Outside the last row of R180's table the queue alone changes. -/
theorem putOut_not_counted {m : OutMsg} {s : State} {q : List OutMsg}
    (h : ¬ (m.key = none ∧ outDropped s.sli.out = true)) (hq : joinQueue m s.sli.out = q) :
    putOut m s = { s with sli := { s.sli with out := q } } := by
  subst hq
  exact if_neg h

/-- In the last row of R180's table the queue stays and the drop is counted. -/
theorem putOut_counted {m : OutMsg} {s : State} (hm : m.key = none) (hdrop : outDropped s.sli.out = true) :
    putOut m s = countDrop s := by
  have hout : modSli (fun i => { i with out := joinQueue m i.out }) s = s := by
    rw [modSli, joinQueue_of_outDropped hm hdrop]
  exact (if_pos ⟨hm, hdrop⟩).trans (congrArg countDrop hout)

/-- A coalesced telegram is never counted as a drop. -/
theorem putOut_key {m : OutMsg} {s : State} {k : Key} {q : List OutMsg} (hm : m.key = some k)
    (hq : joinQueue m s.sli.out = q) : putOut m s = { s with sli := { s.sli with out := q } } :=
  putOut_not_counted (fun h => Option.some_ne_none k (hm.symm.trans h.1)) hq

/-! ### The obligation -/

/-- Settles O20, row by row of R180's table. -/
theorem outboundQueueRules : Obligations.OutboundQueueRules := by
  intro m s
  have dropped := outDropped_iff s.sli.out
  refine ⟨?room, ?statusFwd, ?readiness, ?dropped, ?replaced, ?keyRoom, ?keyFull⟩
  case room =>
    intro hm hlen
    refine putOut_not_counted (fun ⟨_, hdrop⟩ => ?_) (joinQueue_room hm hlen)
    obtain ⟨hfull, -, -⟩ := dropped.1 hdrop
    exact absurd hlen hfull.not_gt
  case statusFwd =>
    intro hm hlen hfwd
    refine putOut_not_counted (fun ⟨_, hdrop⟩ => ?_) (joinQueue_removes_statusFwd hm hlen hfwd)
    obtain ⟨-, hnone, -⟩ := dropped.1 hdrop
    exact absurd hfwd (Bool.eq_false_iff.1 hnone)
  case readiness =>
    intro hm hlen hfwd hready
    refine putOut_not_counted (fun ⟨_, hdrop⟩ => ?_) (joinQueue_removes_readiness hm hlen hfwd hready)
    obtain ⟨-, -, hnone⟩ := dropped.1 hdrop
    exact absurd hready (Bool.eq_false_iff.1 hnone)
  case dropped => exact fun hm hlen hfwd hready => putOut_counted hm (dropped.2 ⟨hlen, hfwd, hready⟩)
  case replaced => exact fun k hm hheld => putOut_key hm (joinQueue_replaces hm hheld)
  case keyRoom => exact fun k hm hnot hlen => putOut_key hm (joinQueue_key_room hm hnot hlen)
  case keyFull => exact fun k hm hnot hlen => putOut_key hm (joinQueue_key_full hm hnot hlen)

end Sys2Proof.Machine
end

section
/-! The pairing of buses and posts through a drain (R11, R14), and through every step (O57). -/

namespace Sys2Proof.Machine

/-! ### A drain, over any sound tag map -/

/-- The pairing alone, over the posts' bus fields and the buses' tags and posts, with a tag map that leads to occupied slots:
what `LinkedData` says without distinct tags and without the store. -/
structure PairedData (pb : List (Option Nat)) (bp : List (List Byte × Option Nat)) (tm : List (List Byte × Nat)) : Prop where
  busPost : ∀ k t p, bp[k]? = some (t, some p) → (4 ≤ p ∧ p ≤ 67) ∧ pb[p - 4]? = some (some k)
  postBus : ∀ i k, pb[i]? = some (some k) → ∃ t, bp[k]? = some (t, some (i + 4))
  len : pb.length = 64
  sound : ∀ e ∈ tm, e.2 < bp.length

/-- The pairing of a state's buses and posts, with a sound tag map. -/
def PairsSound (s : State) : Prop := PairedData (links s).1.1 (links s).1.2.1 (links s).1.2.2

/-- Operations that leave the pairing's data leave the pairing. -/
theorem PairsSound.of_links {s t : State} (hs : PairsSound s) (h : links t = links s) : PairsSound t := by
  rwa [PairsSound, h]

theorem pairsSound_iff (s : State) : PairsSound s ↔ Paired s ∧ s.frt.posts.length = 64 ∧ MapSound s := by
  constructor
  · rintro ⟨h1, h2, h3, h4⟩
    have hl : s.frt.posts.length = 64 := by simpa [links] using h3
    refine ⟨⟨fun k b hb p hp => ?_, fun p hp k hk => ?_⟩, hl, by simpa [links, MapSound] using h4⟩
    · obtain ⟨hr, h⟩ := h1 k b.tag p ((busAt_post s k _ _).2 ⟨b, hb, rfl, hp⟩)
      have h := ((postAt_bus s _ k).1 h).2
      rw [Nat.sub_add_cancel hr.1] at h
      exact ⟨hr, h⟩
    · obtain ⟨t, h⟩ := h2 (p - 4) k (postBus_links s p k hp.1 hk)
      rw [Nat.sub_add_cancel hp.1] at h
      obtain ⟨b, hb, -, hp⟩ := (busAt_post s k t _).1 h
      exact ⟨b, hb, hp⟩
  · rintro ⟨⟨hp1, hp2⟩, hl, hm⟩
    refine ⟨fun k t p h => ?_, fun i k h => ?_, by simpa [links] using hl, by simpa [links, MapSound] using hm⟩
    · obtain ⟨b, hb, -, hp⟩ := (busAt_post s k t (some p)).1 h
      obtain ⟨hr, hb'⟩ := hp1 k b hb p hp
      exact ⟨hr, postBus_links s p k hr.1 hb'⟩
    · obtain ⟨hi, hb⟩ := (postAt_bus s i k).1 h
      obtain ⟨b, hb, hp⟩ := hp2 (i + 4) (by omega) k hb
      exact ⟨b.tag, (busAt_post s k b.tag _).2 ⟨b, hb, rfl, hp⟩⟩

/-- A post and its bus part. -/
theorem PairedData.part {pb bp tm} (h : PairedData pb bp tm) (i k : Nat) (hi : pb[i]? = some (some k)) :
    PairedData (pb.modify i (fun _ => none)) (bp.modify k (fun e => (e.1, none))) tm := by
  obtain ⟨t0, hk⟩ := h.postBus i k hi
  refine ⟨fun k' t p hp => ?_, fun j k' hj => ?_, by simpa using h.len, by simpa using h.sound⟩
  · rw [List.getElem?_modify] at hp ⊢
    by_cases hkk : k = k'
    · subst hkk; simp [hk] at hp
    · obtain ⟨hr, hb⟩ := h.busPost k' t p (by simpa [hkk] using hp)
      have : i ≠ p - 4 := by rintro rfl; simp_all
      exact ⟨hr, by simp [this, hb]⟩
  · rw [List.getElem?_modify] at hj
    by_cases hij : i = j
    · subst hij; simp [hi] at hj
    · obtain ⟨t, ht⟩ := h.postBus j k' (by simpa [hij] using hj)
      have : k ≠ k' := by rintro rfl; simp_all
      exact ⟨t, by simp [this, ht]⟩

/-- A post without a bus and a bus without a post join. -/
theorem PairedData.join {pb bp tm} (h : PairedData pb bp tm) (i k : Nat) (t0 : List Byte)
    (hi : pb[i]? = some none) (hk : bp[k]? = some (t0, none)) :
    PairedData (pb.modify i (fun _ => some k)) (bp.modify k (fun e => (e.1, some (i + 4)))) tm := by
  have hlt : i < 64 := h.len ▸ (List.getElem?_eq_some_iff.1 hi).1
  refine ⟨fun k' t p hp => ?_, fun j k' hj => ?_, by simpa using h.len, by simpa using h.sound⟩
  · rw [List.getElem?_modify] at hp ⊢
    by_cases hkk : k = k'
    · subst hkk
      simp only [hk, if_true, Option.map_eq_map, Option.map_some, Option.some.injEq, Prod.mk.injEq] at hp
      obtain ⟨-, rfl⟩ := hp
      exact ⟨by omega, by simp [hi]⟩
    · obtain ⟨hr, hb⟩ := h.busPost k' t p (by simpa [hkk] using hp)
      have : i ≠ p - 4 := by rintro rfl; simp_all
      exact ⟨hr, by simp [this, hb]⟩
  · rw [List.getElem?_modify] at hj
    by_cases hij : i = j
    · subst hij
      obtain rfl : k = k' := by simpa [hi] using hj
      exact ⟨t0, by simp [hk]⟩
    · obtain ⟨t, ht⟩ := h.postBus j k' (by simpa [hij] using hj)
      have : k ≠ k' := by rintro rfl; simp_all
      exact ⟨t, by simp [this, ht]⟩

theorem pairsSound_unlocate (p : Nat) (next : BusState) (s : State) (hp : 4 ≤ p) (hs : PairsSound s) :
    PairsSound (unlocate p next s) := by
  rcases h : (postAt s p).bus with _ | k
  · simpa [unlocate, h] using hs
  · rw [PairsSound, links_unlocate p k next s hp h]
    exact PairedData.part hs (p - 4) k (postBus_links s p k hp h)

/-- An unlocated post names no bus. -/
theorem unlocate_postFree (p : Nat) (next : BusState) (s : State) (hp : 4 ≤ p ∧ p ≤ 67) (hs : PairsSound s) :
    (links (unlocate p next s)).1.1[p - 4]? = some none := by
  have hlt : p - 4 < (links s).1.1.length := by have := hs.len; omega
  rcases h : (postAt s p).bus with _ | k
  · rcases ho : (links s).1.1[p - 4] with _ | k
    · simp [unlocate, h, ho, hlt]
    · have := ((postAt_bus s (p - 4) k).1 (List.getElem?_eq_some_iff.2 ⟨hlt, ho⟩)).2
      rw [Nat.sub_add_cancel hp.1, h] at this
      cases this
  · rw [links_unlocate p k next s hp.1 h]
    simp [withPairs, postBus_links s p k hp.1 h]

theorem links_resolveConflict (k q p : Nat) (s : State) (hq : 4 ≤ q) : links (resolveConflict k q p s) =
    withPairs s ((links s).1.1.modify (q - 4) (fun _ => none)) ((links s).1.2.1.modify k (fun e => (e.1, none))) := by
  have h : links (updBus k (fun b => { b with post := none }) (clearBusField q s)) =
      withPairs s ((links s).1.1.modify (q - 4) (fun _ => none)) ((links s).1.2.1.modify k (fun e => (e.1, none))) := by
    rw [links_setPost k none (fun b => { b with post := none }) fun _ => ⟨rfl, rfl⟩]
    simp only [withPairs, links_clearBusField q s hq]
  unfold resolveConflict
  dsimp only
  rw [links_notice]
  split
  · rw [links_setPostState, h]
  · exact h

theorem pairsSound_locate (k p : Nat) (t0 : List Byte) (s : State) (hp : 4 ≤ p) (h1 : (links s).1.1[p - 4]? = some none)
    (h2 : (links s).1.2.1[k]? = some (t0, none)) (hs : PairsSound s) : PairsSound (locate k p s) := by
  have hj := PairedData.join hs (p - 4) k t0 h1 h2
  rw [Nat.sub_add_cancel hp] at hj
  unfold locate
  rw [PairsSound, links_takeHeld,
    links_setPost k (some p) (fun b => { b with post := some p, state := b.state.orWithdrawn .plugged }) fun _ => ⟨rfl, rfl⟩]
  simp only [withPairs]
  rw [links_setBus p (some k) (fun q => { q with bus := some k }) (fun _ => rfl) s hp]
  exact hj

/-- A mapped bus comes to a post: both sides are free when they are joined. -/
theorem pairsSound_plugMapped (k p : Nat) (s : State) (hp : 4 ≤ p ∧ p ≤ 67) (hk : k < s.frt.buses.length)
    (hs : PairsSound s) : PairsSound (plugMapped k p s) := by
  unfold plugMapped
  split
  · exact hs.of_links (links_takeHeld k p s)
  · refine PairsSound.of_links ?_ (links_plugPost p _)
    have hs1 := pairsSound_unlocate p .yard s hp.1 hs
    have hc := unlocate_postFree p .yard s hp hs
    have hk1 : k < (links (unlocate p .yard s)).1.2.1.length := by
      rcases h : (postAt s p).bus with _ | j
      · simp [unlocate, h, links, hk]
      · rw [links_unlocate p j _ s hp.1 h]; simp [withPairs, links, hk]
    generalize unlocate p .yard s = s1 at *
    obtain ⟨⟨t, o⟩, he⟩ : ∃ e, (links s1).1.2.1[k]? = some e := ⟨_, List.getElem?_eq_getElem hk1⟩
    obtain ⟨b, hb, ht, ho⟩ := (busAt_post s1 k t o).1 he
    simp only [hb, Option.bind_some, ho]
    rcases o with _ | q
    · exact pairsSound_locate k p t s1 hp.1 hc he hs1
    · obtain ⟨hq, hpq⟩ := hs1.busPost k t q he
      have hr := links_resolveConflict k q p s1 hq.1
      refine pairsSound_locate k p t _ hp.1 ?_ ?_ (by rw [PairsSound, hr]; exact PairedData.part hs1 (q - 4) k hpq)
      · simp only [hr, withPairs, List.getElem?_modify, hc]
        split <;> rfl
      · simp [hr, withPairs, he]

theorem pairsSound_unplugBus (p : Nat) (s : State) (hp : 4 ≤ p) (hs : PairsSound s) : PairsSound (unplugBus p s) := by
  unfold unplugBus
  dsimp only
  split
  · exact hs
  · split
    · exact pairsSound_unlocate p .yard s hp hs
    · exact (pairsSound_unlocate p .yard s hp hs).of_links (links_judgeUnplug _ _)

theorem pairsSound_unplugEvent (p : Nat) (s : State) (hp : 4 ≤ p) (hs : PairsSound s) : PairsSound (unplugEvent p s) := by
  unfold unplugEvent
  split
  · exact (pairsSound_unplugBus p s hp hs).of_links (links_setPostState ..)
  · exact hs.of_links (links_setPostState ..)
  · exact hs.of_links (links_setPostState ..)
  · exact hs
  all_goals exact pairsSound_unplugBus p s hp hs

theorem pairsSound_plugUnmapped (p : Nat) (s : State) (hp : 4 ≤ p) (hs : PairsSound s) : PairsSound (plugUnmapped p s) := by
  unfold plugUnmapped
  dsimp only
  split
  · exact (pairsSound_unlocate p .yard s hp hs).of_links (links_setPostState ..)
  · exact pairsSound_unlocate p .yard s hp hs

/-- A sound map leads a tag to an occupied slot. -/
theorem taggedBus_lt_of_sound (s : State) (tag : List Byte) (k : Nat) (hs : PairsSound s) (h : taggedBus s tag = some k) :
    k < s.frt.buses.length := by
  obtain ⟨e, he, rfl⟩ := Option.map_eq_some_iff.1 h
  simpa [links] using hs.sound e (List.mem_of_find?_eq_some he)

theorem pairsSound_processEvent (e : PlugEvent) (s : State) (he : e.ofPost) (hs : PairsSound s) :
    PairsSound (processEvent e s) := by
  have hp : 4 ≤ postNo e.cabinet e.position ∧ postNo e.cabinet e.position ≤ 67 := by
    obtain ⟨h1, h2⟩ := he
    unfold postNo
    omega
  unfold processEvent
  refine PairsSound.of_links ?_ (links_updPost _ _ _ fun _ => rfl)
  cases e.kind
  case plugged =>
    dsimp only
    split
    · next k hk => exact pairsSound_plugMapped k _ s hp (taggedBus_lt_of_sound s _ k hs hk) hs
    · exact pairsSound_plugUnmapped _ s hp.1 hs
  case unplugged => exact pairsSound_unplugEvent _ s hp.1 hs
  case fault => exact hs.of_links (links_faultEvent _ s)
  case faultClear => exact hs.of_links (links_faultClearEvent _ s)

theorem pairsSound_drain (s : State) (hq : ∀ e ∈ s.frt.plugQ, e.ofPost) (hs : PairsSound s) : PairsSound (drain s) := by
  unfold drain
  have start : PairsSound (modFrt (fun t => { t with plugQ := [] }) s) := hs
  generalize modFrt (fun t => { t with plugQ := [] }) s = u at start
  revert hq u
  induction s.frt.plugQ with
  | nil => exact fun _ u hu => hu
  | cons e l ih =>
    exact fun hq u hu => ih (fun x hx => hq x (List.mem_cons_of_mem _ hx)) _
      (pairsSound_processEvent e u (hq e List.mem_cons_self) hu)

/-- A drain empties the queue (R14). -/
theorem drain_plugQ (s : State) : (drain s).frt.plugQ = [] := by
  simp [drain]

/-! ### Every command -/

/-- Every command keeps the pairing with what it rests on. -/
theorem linkedL_exec (i : Instr) (s t : State) (hs : LinkedL (links s)) (h : exec i s = .next t) : LinkedL (links t) := by
  have hid : ∀ s, LinkedL (links s) → LinkedL (links (id s)) := fun _ h => h
  have live (f : State → State) (hf : ∀ s, LinkedL (links s) → LinkedL (links (f s))) (h : live f s = .next t) :
      LinkedL (links t) := linkedL_live f s t (hf s) hs h
  have site (f : State → State) (hf : ∀ s, LinkedL (links s) → LinkedL (links (f s))) (h : onSite f s = .next t) :
      LinkedL (links t) := linkedL_onSite f s t hf hs h
  have yard (f : State → State) (hf : ∀ s, LinkedL (links s) → LinkedL (links (f s))) (h : onYard f s = .next t) :
      LinkedL (links t) := linkedL_onYard f s t hf hs h
  have same (f : State → State) (hf : ∀ s, links (f s) = links s) (s : State) (h : LinkedL (links s)) :
      LinkedL (links (f s)) := by rwa [hf]
  cases i
  case powerOn => cases h; exact linkedL_powerUp s hs
  case supplyFailure => cases h; exact linkedL_powerDown s hs
  case endOfStarting => exact live _ linkedL_endLoading h
  case partRestart => exact live _ linkedL_partRestart h
  case framerDiscard l bytes =>
    cases l
    · exact live _ (linkedL_siteBytes bytes) h
    · exact live _ (linkedL_yardBytes bytes) h
  case siteTelegramDiscarded => exact site _ hid h
  case meter => exact site _ (linkedL_takeMeter _) h
  case time => exact site _ (linkedL_takeTime _) h
  case dispatch => exact site _ (linkedL_takeDispatch _ _ _) h
  case cancel => exact site _ (linkedL_takeCancel _) h
  case passThrough => exact site _ (same _ (links_takePassThrough _)) h
  case setreq => exact site _ (linkedL_takeSetreq _ _ _ _) h
  case siteSendDone => exact live _ (same _ links_sendDone) h
  case silenceTimeout => exact live _ linkedL_silenceExpired h
  case roundTimerExpiry => exact live _ (same _ links_roundExpired) h
  case yardStatus => exact yard _ (linkedL_replyStatus _ _) h
  case exchangeWait => exact yard _ (linkedL_replyWait _ _) h
  case waitHoldOffExpiry => exact live _ linkedL_holdOffExpired h
  case replyTimeout => exact live _ linkedL_exchangeTimeout h
  case yardTelegramDiscarded => exact yard _ hid h
  case curtailSent => exact live _ linkedL_curtailSendDone h
  case poolSent => exact live _ (same _ links_poolSendDone) h
  case poolAck => exact yard _ (same _ (links_replyPoolAck _ _)) h
  case poolWait => exact yard _ (same _ (links_replyPoolWait _ _)) h
  case poolReplyTimeout => exact live _ (same _ links_poolTimeout) h
  case quiesceTimeout => exact live _ (same _ (links_quiesceExpired _)) h
  case forwardReply => exact yard _ (same _ (links_replyForward _)) h
  case forwardReplyTimeout => exact live _ (same _ links_forwardTimeout) h
  case forwardBroadcastSent => exact live _ (same _ links_broadcastDone) h
  case answerAgeFallback => exact live _ (same _ (links_answerAged _)) h
  case meterStale => exact live _ (same _ links_meterStaled) h
  case meterFallback => exact live _ (same _ links_meterFellBack) h
  case minuteAdvance => exact live _ linkedL_minutePassed h
  case passTimerExpiry => exact live _ linkedL_passTimerExpired h
  case passCompletion => exact live _ linkedL_passCompleted h
  case armedStart => exact live _ linkedL_armedCounted h
  case dispatchExpiry => exact live _ linkedL_dispatchRanOut h
  case storeWriteDone => exact live _ (linkedL_endWrite true) h
  case storeWriteFault => exact live _ (linkedL_endWrite false) h
  all_goals exact linkedL_onMgmt _ _ _ _ _ s t hs h

/-- Every step keeps the pairing with what it rests on: a command's, or the tick's. -/
theorem linked_step (s t : State) (hs : Linked s) (h : step s = .next t) : Linked t := by
  rw [linked_iff] at hs ⊢
  unfold step at h
  split at h
  · cases h
    exact linkedL_ite _ _ _ (linkedL_tick s hs) hs
  · next c rest _ => exact linkedL_exec c { s with pending := rest } t hs h

/-! ### The obligation -/

/-- Settles O57: a drain by induction on its events, each of which parts and joins a post and a bus; a step by its command. -/
theorem drainKeepsThePairing : Obligations.DrainKeepsThePairing := by
  refine ⟨fun s hsize hp hm hq => ?_, linked_reset, linked_step⟩
  obtain ⟨hp', -, hm'⟩ := (pairsSound_iff _).1 (pairsSound_drain s hq ((pairsSound_iff s).2 ⟨hp, hsize.1, hm⟩))
  exact ⟨hp', hm', drain_plugQ s⟩

end Sys2Proof.Machine
end

section
/-! The ranges of the tables, queues, clock and counters (R9, R13, R33, R42, R44, R63, R71, R79, R179, R180, R183) through every
step: one lemma for each operation, which says that it keeps them. -/

namespace Sys2Proof.Machine
set_option Elab.async false

/-! ### The ranges, block by block -/

/-- SLI's ranges: silence (R183), drop count (R180), outbound queue (R179). -/
def Sli.InRange (i : Sli) : Prop := i.silence ≤ 600 ∧ i.dropCount ≤ 65535 ∧ i.out.length ≤ 32
/-- YLC's ranges: 16 cabinets, the forward queue (R42), miss counts and answer ages (R33, R44). -/
def Ylc.InRange (y : Ylc) : Prop := y.cabinets.length = 16 ∧ y.fwdQ.length ≤ 8 ∧ ∀ c ∈ y.cabinets, CabinetInRange c
/-- FRT's ranges: 64 posts, the plug event queue (R13), mismatch counts (R9). -/
def Frt.InRange (t : Frt) : Prop := t.posts.length = 64 ∧ t.plugQ.length ≤ 32 ∧ ∀ q ∈ t.posts, q.mismatch ≤ 3
/-- SBU's ranges: meter age (R63) and breach (R71). -/
def Sbu.InRange (b : Sbu) : Prop := b.age ≤ 65535 ∧ b.breach ≤ 1
/-- The clock is a time of a week (R79). -/
def Clock.InRange (c : Clock) : Prop := c.minute ≤ 1439 ∧ c.weekday ≤ 6 ∧ c.second ≤ 59 ∧ c.tick ≤ 9

/-- The ranges of a state, by block: `InRange` as each operation's lemma takes it apart. -/
structure Ranges (s : State) : Prop where
  sli : s.sli.InRange
  ylc : s.ylc.InRange
  frt : s.frt.InRange
  sbu : s.sbu.InRange
  clock : s.rdu.clock.InRange
  tiers : s.ale.tiers.length = 64

theorem ranges_iff (s : State) : Ranges s ↔ InRange s := by
  constructor
  · rintro ⟨⟨silence, drops, out⟩, ⟨cabinets, fwdQ, cab⟩, ⟨posts, plugQ, post⟩, ⟨age, breach⟩, clock, tiers⟩
    exact ⟨⟨posts, cabinets, tiers⟩, ⟨plugQ, fwdQ, out⟩, clock, silence, age, breach, drops, cab, post⟩
  · rintro ⟨⟨posts, cabinets, tiers⟩, ⟨plugQ, fwdQ, out⟩, clock, silence, age, breach, drops, cab, post⟩
    exact ⟨⟨silence, drops, out⟩, ⟨cabinets, fwdQ, cab⟩, ⟨posts, plugQ, post⟩, ⟨age, breach⟩, clock, tiers⟩

/-! ### One update for each block. An update that touches no ranged field needs no argument. -/

theorem Ranges.foldl {α : Type} {f : State → α → State} {l : List α} {s : State} (hs : Ranges s)
    (h : ∀ {s a}, Ranges s → Ranges (f s a)) : Ranges (l.foldl f s) := by
  induction l generalizing s with
  | nil => exact hs
  | cons a l ih => exact ih (h hs)

theorem Ranges.ite {c : Prop} [Decidable c] {s t : State} (hs : Ranges s) (ht : Ranges t) : Ranges (if c then s else t) := by
  split
  · exact hs
  · exact ht

theorem Ranges.modSli {f : Sli → Sli} {s : State} (hs : Ranges s)
    (h : s.sli.InRange → (f s.sli).InRange := by exact fun h => h) : Ranges (modSli f s) := { hs with sli := h hs.sli }
theorem Ranges.modYlc {f : Ylc → Ylc} {s : State} (hs : Ranges s)
    (h : s.ylc.InRange → (f s.ylc).InRange := by exact fun h => h) : Ranges (modYlc f s) := { hs with ylc := h hs.ylc }
theorem Ranges.modFrt {f : Frt → Frt} {s : State} (hs : Ranges s)
    (h : s.frt.InRange → (f s.frt).InRange := by exact fun h => h) : Ranges (modFrt f s) := { hs with frt := h hs.frt }
theorem Ranges.modSbu {f : Sbu → Sbu} {s : State} (hs : Ranges s)
    (h : s.sbu.InRange → (f s.sbu).InRange := by exact fun h => h) : Ranges (modSbu f s) := { hs with sbu := h hs.sbu }
theorem Ranges.modRdu {f : Rdu → Rdu} {s : State} (hs : Ranges s)
    (h : s.rdu.clock.InRange → (f s.rdu).clock.InRange := by exact fun h => h) : Ranges (modRdu f s) :=
  { hs with clock := h hs.clock }
theorem Ranges.modAle {f : Ale → Ale} {s : State} (hs : Ranges s)
    (h : (f s.ale).tiers.length = s.ale.tiers.length := by rfl) : Ranges (modAle f s) := { hs with tiers := h.trans hs.tiers }
theorem Ranges.modRsu {f : Rsu → Rsu} {s : State} (hs : Ranges s) : Ranges (modRsu f s) := { hs with }
theorem Ranges.modStp {f : Stp → Stp} {s : State} (hs : Ranges s) : Ranges (modStp f s) := { hs with }
theorem Ranges.modTsm {f : Tsm → Tsm} {s : State} (hs : Ranges s) : Ranges (modTsm f s) := { hs with }
theorem Ranges.countFree {s : State} (hs : Ranges s) : Ranges (countFree s) := { hs with }

/-- A property of every entry of a list is kept by a change of one entry that keeps it. -/
theorem forall_mem_modify {α : Type} {P : α → Prop} {f : α → α} (h : ∀ a, P a → P (f a)) {l : List α} (i : Nat)
    (hl : ∀ a ∈ l, P a) : ∀ a ∈ l.modify i f, P a := by
  intro a ha
  obtain ⟨j, hj, rfl⟩ := List.getElem_of_mem ha
  rw [List.getElem_modify]
  split
  · exact h _ (hl _ (List.getElem_mem _))
  · exact hl _ (List.getElem_mem _)

theorem Ranges.updPost {p : Nat} {f : Post → Post} {s : State} (hs : Ranges s)
    (h : ∀ q : Post, q.mismatch ≤ 3 → (f q).mismatch ≤ 3 := by intro q hq; dsimp only; omega) :
    Ranges (updPost p f s) := by
  obtain ⟨h1, h2, h3⟩ := hs.frt
  unfold Machine.updPost
  split
  · exact hs
  · exact { hs with frt := ⟨by simpa using h1, h2, forall_mem_modify h _ h3⟩ }

theorem Ranges.mapPosts {f : Nat → Post → Post} {s : State} (hs : Ranges s)
    (h : ∀ p (q : Post), q.mismatch ≤ 3 → (f p q).mismatch ≤ 3 := by intro p q hq; dsimp only; omega) :
    Ranges (mapPosts f s) := by
  obtain ⟨h1, h2, h3⟩ := hs.frt
  refine { hs with frt := ⟨by simpa [Machine.mapPosts] using h1, h2, fun q hq => ?_⟩ }
  obtain ⟨i, hi, rfl⟩ := List.mem_mapIdx.1 hq
  exact h _ _ (h3 _ (List.getElem_mem _))

theorem Ranges.updCab {c : Nat} {f : Cabinet → Cabinet} {s : State} (hs : Ranges s)
    (h : ∀ r : Cabinet, CabinetInRange r → CabinetInRange (f r) := by exact fun _ h => h) : Ranges (updCab c f s) := by
  obtain ⟨h1, h2, h3⟩ := hs.ylc
  unfold Machine.updCab
  split
  · exact hs
  · exact { hs with ylc := ⟨by simpa using h1, h2, forall_mem_modify h _ h3⟩ }

/-! ### The outbound queue (R179 to R181) -/

/-- A queue of at most 32 telegrams stays so when one comes to it (R179, R180). -/
theorem joinQueue_length_le (m : OutMsg) (q : List OutMsg) (h : q.length ≤ 32) : (joinQueue m q).length ≤ 32 := by
  have erased (f : OutMsg → Bool) (hf : q.any f = true) : (q.eraseP f ++ [m]).length ≤ 32 := by
    obtain ⟨a, ha, hfa⟩ := List.any_eq_true.1 hf
    have := List.length_eraseP_of_mem ha hfa
    have := List.length_pos_of_mem ha
    simp only [List.length_append, List.length_singleton]
    omega
  unfold joinQueue outCapacity
  split
  · split
    · simpa using h
    · split
      · simp only [List.length_append, List.length_singleton]; omega
      · exact h
  · split
    · simp only [List.length_append, List.length_singleton]; omega
    · split
      · next hf => exact erased _ hf
      · split
        · next hf => exact erased _ hf
        · exact h

theorem Ranges.putOut {m : OutMsg} {s : State} (hs : Ranges s) : Ranges (putOut m s) := by
  obtain ⟨h1, h2, h3⟩ := hs.sli
  have hq := joinQueue_length_le m _ h3
  unfold Machine.putOut
  dsimp only
  split
  · exact { hs with sli := ⟨h1, Nat.min_le_left _ _, hq⟩ }
  · exact { hs with sli := ⟨h1, h2, hq⟩ }

theorem Ranges.reportOverflow {s : State} (hs : Ranges s) : Ranges (reportOverflow s) := by
  unfold Machine.reportOverflow
  split
  · dsimp only
    split
    · exact hs.putOut
    · exact hs.putOut.modSli fun ⟨silence, _, out⟩ => ⟨silence, Nat.zero_le _, out⟩
  · exact hs

theorem Ranges.placeFreed {waited : Bool} {s : State} (hs : Ranges s) : Ranges (placeFreed waited s) := by
  unfold Machine.placeFreed
  split
  · dsimp only
    split
    · exact hs.modSli.reportOverflow
    · exact hs.modSli
  · exact hs.reportOverflow

theorem Ranges.trySend {s : State} (hs : Ranges s) : Ranges (trySend s) := by
  unfold Machine.trySend
  split
  · split
    · exact hs
    · next m rest h =>
      obtain ⟨h1, h2, h3⟩ := hs.sli
      have hr : rest.length ≤ 32 := by rw [h] at h3; exact Nat.le_of_succ_le h3
      have hb : Ranges (beginSend m rest s) := hs.modSli fun _ => ⟨h1, h2, hr⟩
      exact hb.placeFreed
  · exact hs

theorem Ranges.reportWaiting {waits : Bool} {s : State} (hs : Ranges s) : Ranges (reportWaiting waits s) := by
  unfold Machine.reportWaiting
  split
  · exact hs.reportOverflow
  · exact hs

theorem Ranges.queueOut {m : OutMsg} {s : State} (hs : Ranges s) : Ranges (queueOut m s) := hs.putOut.reportWaiting.trySend
theorem Ranges.notice {n : Notice} {s : State} (hs : Ranges s) : Ranges (notice n s) := hs.queueOut

/-! ### One record changed -/

theorem Ranges.updBus {k : Nat} {f : Bus → Bus} {s : State} (hs : Ranges s) : Ranges (updBus k f s) := hs.modFrt

theorem Ranges.updPool {c : Nat} {f : Sequencer → Sequencer} {s : State} (hs : Ranges s) : Ranges (updPool c f s) := hs.updCab

theorem Ranges.updLeg {n : Nat} {f : Leg → Leg} {s : State} (hs : Ranges s) : Ranges (updLeg n f s) := hs.modRdu

theorem Ranges.setLastOutcome {k : Nat} {l : LastOutcome} {s : State} (hs : Ranges s) : Ranges (setLastOutcome k l s) :=
  hs.modRdu

theorem Ranges.updStored {g : Segment} {f : StoredSeg → StoredSeg} {s : State} (hs : Ranges s) : Ranges (updStored g f s) :=
  hs.modTsm

theorem Ranges.wantPass {s : State} (hs : Ranges s) : Ranges (wantPass s) := by
  unfold Machine.wantPass
  split
  · exact hs
  · exact hs.modAle

/-! ### The tariff (R73, R74) -/

theorem Ranges.evalTariff {s : State} (hs : Ranges s) : Ranges (evalTariff s) := by
  unfold Machine.evalTariff
  dsimp only
  split
  · exact hs.modSbu
  · exact hs.modSbu.wantPass

/-! ### Posts and buses (R10 to R12, R49) -/

theorem Ranges.leaveRing {p : Nat} {s : State} (hs : Ranges s) : Ranges (leaveRing p s) := hs.modAle List.length_set

theorem Ranges.setPostState {p : Nat} {st : PostState} {s : State} (hs : Ranges s) : Ranges (setPostState p st s) := by
  have entered : Ranges (Machine.updPost p (fun q => q.enter st) s) := hs.updPost fun _ _ => Nat.zero_le 3
  unfold Machine.setPostState
  split
  · exact hs
  · dsimp only
    split
    · exact entered.leaveRing
    · exact entered

theorem Ranges.clearBusField {p : Nat} {s : State} (hs : Ranges s) : Ranges (clearBusField p s) := hs.updPost

theorem Ranges.unlocate {p : Nat} {next : BusState} {s : State} (hs : Ranges s) : Ranges (unlocate p next s) := by
  unfold Machine.unlocate
  split
  · exact hs
  · exact hs.clearBusField.updBus

theorem Ranges.takeHeld {k p : Nat} {s : State} (hs : Ranges s) : Ranges (takeHeld k p s) := by
  unfold Machine.takeHeld
  split
  · exact hs
  · exact hs.updBus

theorem Ranges.locate {k p : Nat} {s : State} (hs : Ranges s) : Ranges (locate k p s) := hs.updPost.updBus.takeHeld

theorem Ranges.settle {p : Nat} {faultTest : Bool} {s : State} (hs : Ranges s) : Ranges (settle p faultTest s) :=
  hs.setPostState

theorem Ranges.refeed {c i : Nat} {s : State} (hs : Ranges s) : Ranges (refeed c i s) := by
  unfold Machine.refeed
  dsimp only
  split
  · exact hs.updPost
  · split
    · exact hs.updPost.setPostState
    · split
      · exact hs.updPost.settle
      · exact hs.updPost

theorem Ranges.refeedAll {c : Nat} {s : State} (hs : Ranges s) : Ranges (refeedAll c s) := hs.foldl fun h => h.refeed

theorem Ranges.setModeInForce {c : Nat} {m : Option Mode} {s : State} (hs : Ranges s) : Ranges (setModeInForce c m s) := by
  unfold Machine.setModeInForce
  split
  · exact hs
  · exact hs.updPool.refeedAll

/-! ### Legs and the departure list (R84 to R97) -/

theorem Ranges.queueReadiness {k : Nat} {s : State} (hs : Ranges s) : Ranges (queueReadiness k s) := by
  unfold Machine.queueReadiness
  split
  · exact hs
  · exact hs.queueOut

theorem Ranges.writeOutcome {legNo k : Nat} {o : LegOutcome} {s : State} (hs : Ranges s) : Ranges (writeOutcome legNo k o s) :=
  hs.updLeg.setLastOutcome.queueReadiness

theorem Ranges.dropEntry {legNo : Nat} {s : State} (hs : Ranges s) : Ranges (dropEntry legNo s) := hs.modRdu

theorem Ranges.closeLeg {l : Leg} {s : State} (hs : Ranges s) : Ranges (closeLeg l s) := by
  unfold Machine.closeLeg
  split
  · split
    · exact hs.updLeg
    · exact hs.writeOutcome
  · exact hs

theorem Ranges.judgeDue {l : Leg} {s : State} (hs : Ranges s) : Ranges (judgeDue l s).1 := by
  unfold Machine.judgeDue
  dsimp only
  split
  · dsimp only
    exact hs.modRdu
  · split
    · exact hs.modRdu.writeOutcome
    · exact hs.modRdu.queueReadiness

theorem Ranges.refillFrom {endOfDay : Bool} {l : List Leg} {s : State} (hs : Ranges s) :
    Ranges (refillFrom endOfDay l s) := by
  induction l generalizing s with
  | nil => exact hs
  | cons l ls ih =>
    unfold Machine.refillFrom
    dsimp only
    split
    · exact ih hs
    · split
      · exact hs.modRdu
      · split
        · exact ih hs.modRdu.judgeDue.dropEntry
        · split
          · exact ih hs.modRdu.judgeDue.closeLeg.dropEntry
          · exact hs.modRdu.judgeDue

theorem Ranges.leaveList {endOfDay : Bool} {legNo : Nat} {s : State} (hs : Ranges s) :
    Ranges (leaveList endOfDay legNo s) := hs.dropEntry.refillFrom

theorem Ranges.fallDue {when : Leg → Bool} {legNo : Nat} {s : State} (hs : Ranges s) : Ranges (fallDue when legNo s) := by
  unfold Machine.fallDue
  dsimp only
  split
  · split
    · split
      · exact hs.judgeDue.leaveList
      · exact hs.judgeDue
    · exact hs
  · exact hs

theorem Ranges.closeEntry {endOfDay : Bool} {legNo : Nat} {s : State} (hs : Ranges s) :
    Ranges (closeEntry endOfDay legNo s) := by
  unfold Machine.closeEntry
  split
  · split
    · exact hs.closeLeg.leaveList
    · exact hs
  · exact hs

theorem Ranges.fallDueAll {when : Leg → Bool} {s : State} (hs : Ranges s) : Ranges (fallDueAll when s) :=
  hs.foldl fun h => h.fallDue

theorem Ranges.closeAll {endOfDay : Bool} {s : State} (hs : Ranges s) : Ranges (closeAll endOfDay s) :=
  hs.foldl fun h => h.closeEntry

theorem Ranges.processMinute {s : State} (hs : Ranges s) : Ranges (processMinute s) := hs.fallDueAll.closeAll

theorem Ranges.formList {kept : List DepEntry} {s : State} (hs : Ranges s) : Ranges (formList kept s) := by
  unfold Machine.formList
  dsimp only
  split
  · exact hs.modRdu.fallDueAll
  · exact hs.modRdu

theorem Ranges.buildList {s : State} (hs : Ranges s) : Ranges (buildList s) := hs.formList

theorem Ranges.closeKept {legNo : Nat} {s : State} (hs : Ranges s) : Ranges (closeKept legNo s) := by
  unfold Machine.closeKept
  split
  · exact hs
  · split
    · exact hs.closeLeg.dropEntry
    · exact hs

theorem Ranges.holdDue {s : State} (hs : Ranges s) : Ranges (holdDue s) := hs.modRdu.foldl fun h => h.closeKept

theorem Ranges.rebuildList {s : State} (hs : Ranges s) : Ranges (rebuildList s) := by
  unfold Machine.rebuildList
  split
  · exact hs.holdDue.formList
  · exact hs.modRdu

theorem Ranges.resetOutcomes {s : State} (hs : Ranges s) : Ranges (resetOutcomes s) := hs.modRdu

theorem Ranges.clearMarkers {s : State} (hs : Ranges s) : Ranges (clearMarkers s) := hs.modRdu

theorem Ranges.clearSubstitutes {s : State} (hs : Ranges s) : Ranges (clearSubstitutes s) := hs.modRdu

theorem Ranges.resetOpenOutcomes {s : State} (hs : Ranges s) : Ranges (resetOpenOutcomes s) := hs.modRdu

/-- The weekday of the next day is one of the week. -/
theorem Ranges.nextWeekday {s : State} (hs : Ranges s) :
    Ranges (Machine.modRdu (fun r => { r with clock := { r.clock with weekday := (r.clock.weekday + 1) % 7 } }) s) :=
  hs.modRdu fun ⟨minute, _, second, tick⟩ => ⟨minute, by dsimp only; omega, second, tick⟩

theorem Ranges.dayChange {s : State} (hs : Ranges s) : Ranges (dayChange s) :=
  hs.closeAll.nextWeekday.resetOutcomes.clearSubstitutes.clearMarkers.buildList

theorem Ranges.advanceMinute {s : State} (hs : Ranges s) : Ranges (advanceMinute s) := by
  unfold Machine.advanceMinute
  dsimp only
  split
  · refine (hs.modRdu fun ⟨_, weekday, _, _⟩ => ⟨?_, weekday, Nat.zero_le _, Nat.zero_le _⟩).processMinute
    dsimp only
    omega
  · exact (hs.modRdu fun ⟨_, weekday, _, _⟩ => ⟨Nat.zero_le _, weekday, Nat.zero_le _, Nat.zero_le _⟩).dayChange

theorem Ranges.judgeUnplug {k : Nat} {s : State} (hs : Ranges s) : Ranges (judgeUnplug k s) := by
  unfold Machine.judgeUnplug
  dsimp only
  split
  · split
    · split
      · exact hs.updBus
      · exact (Ranges.ite hs.updBus.updLeg.setLastOutcome.leaveList hs.updBus.updLeg.setLastOutcome).queueReadiness
    · exact hs
  · exact hs

theorem Ranges.reviewLeg {l : Leg} {s : State} (hs : Ranges s) : Ranges (reviewLeg l s) := by
  unfold Machine.reviewLeg
  split
  · exact hs
  · split
    · exact hs.updLeg
    · split
      · exact hs
      · exact hs.updLeg.notice

theorem Ranges.reviewLegs {s : State} (hs : Ranges s) : Ranges (reviewLegs s) := by
  unfold Machine.reviewLegs
  split
  · exact hs.foldl fun h => h.reviewLeg
  · exact hs

theorem Ranges.reviewInfeasible {b : Bus} {next : Option NextLeg} {s : State} (hs : Ranges s) :
    Ranges (reviewInfeasible b next s) := by
  unfold Machine.reviewInfeasible
  split
  · exact hs
  · split
    · split
      · exact hs
      · exact hs.updLeg.notice
    · exact hs.updLeg

theorem Ranges.writeReadiness {k : Nat} {s : State} (hs : Ranges s) : Ranges (writeReadiness k s) := by
  unfold Machine.writeReadiness
  dsimp only
  split
  · exact hs
  · split
    · exact hs.reviewInfeasible.updBus
    · exact hs.reviewInfeasible.updBus.queueReadiness

theorem Ranges.completeReadiness {s : State} (hs : Ranges s) : Ranges (completeReadiness s) :=
  hs.reviewLegs.foldl fun h => h.writeReadiness

/-! ### Plug events (R13 to R21) -/

theorem Ranges.joinPlug {e : PlugEvent} {s : State} (hs : Ranges s) (room : plugFull s = false) :
    Ranges (joinPlug e s) :=
  hs.modFrt fun ⟨posts, _, mismatch⟩ => by
    refine ⟨posts, ?_, mismatch⟩
    have := of_decide_eq_false room
    rw [plugCapacity] at this
    simp only [List.length_append, List.length_singleton]
    omega

theorem Ranges.refuseEvent {s : State} (hs : Ranges s) : Ranges (refuseEvent s) := by
  unfold Machine.refuseEvent
  split
  · exact hs
  · exact hs.modYlc.modTsm.notice

theorem Ranges.resolveConflict {k q p : Nat} {s : State} (hs : Ranges s) : Ranges (resolveConflict k q p s) :=
  (Ranges.ite hs.clearBusField.updBus.setPostState hs.clearBusField.updBus).notice

theorem Ranges.plugPost {p : Nat} {s : State} (hs : Ranges s) : Ranges (plugPost p s) := by
  unfold Machine.plugPost
  dsimp only
  split
  · exact hs.setPostState
  · split
    · exact hs.updPost
    · exact hs

theorem Ranges.plugMapped {k p : Nat} {s : State} (hs : Ranges s) : Ranges (plugMapped k p s) := by
  unfold Machine.plugMapped
  dsimp only
  split
  · exact hs.takeHeld
  · split
    · exact hs.unlocate.locate.plugPost
    · exact hs.unlocate.resolveConflict.locate.plugPost

theorem Ranges.plugUnmapped {p : Nat} {s : State} (hs : Ranges s) : Ranges (plugUnmapped p s) := by
  unfold Machine.plugUnmapped
  dsimp only
  split
  · exact hs.unlocate.setPostState
  · exact hs.unlocate

theorem Ranges.unplugBus {p : Nat} {s : State} (hs : Ranges s) : Ranges (unplugBus p s) := by
  unfold Machine.unplugBus
  dsimp only
  split
  · exact hs
  · split
    · exact hs.unlocate
    · exact hs.unlocate.judgeUnplug

theorem Ranges.unplugEvent {p : Nat} {s : State} (hs : Ranges s) : Ranges (unplugEvent p s) := by
  unfold Machine.unplugEvent
  split
  · exact hs.unplugBus.setPostState
  · exact hs.setPostState
  · exact hs.setPostState
  · exact hs
  · exact hs.unplugBus
  · exact hs.unplugBus
  · exact hs.unplugBus
  · exact hs.unplugBus

theorem Ranges.faultEvent {p : Nat} {s : State} (hs : Ranges s) : Ranges (faultEvent p s) := by
  unfold Machine.faultEvent
  split
  · exact hs
  · exact hs.setPostState

theorem Ranges.faultClearEvent {p : Nat} {s : State} (hs : Ranges s) : Ranges (faultClearEvent p s) := by
  unfold Machine.faultClearEvent
  split
  · exact hs.settle
  · exact hs

theorem Ranges.processEvent {e : PlugEvent} {s : State} (hs : Ranges s) : Ranges (processEvent e s) := by
  unfold Machine.processEvent
  dsimp only
  split
  · split
    · exact hs.plugMapped.updPost
    · exact hs.plugUnmapped.updPost
  · exact hs.unplugEvent.updPost
  · exact hs.faultEvent.updPost
  · exact hs.faultClearEvent.updPost

theorem Ranges.drain {s : State} (hs : Ranges s) : Ranges (drain s) :=
  (hs.modFrt fun ⟨posts, _, mismatch⟩ => ⟨posts, Nat.zero_le _, mismatch⟩).foldl fun h => h.processEvent

theorem Ranges.repairOccupancy {p : Nat} {s : State} (hs : Ranges s) : Ranges (repairOccupancy p s) := by
  have marked (n : Nat) (hn : n ≤ 3) : Ranges (Machine.updPost p (fun q => { q with mismatch := n }) s) :=
    hs.updPost fun _ _ => hn
  have room (hf : ¬ plugFull s = true) : plugFull (Machine.updPost p (fun q => { q with mismatch := 0 }) s) = false := by
    simpa [plugFull] using hf
  unfold Machine.repairOccupancy
  split
  · exact hs.setPostState
  · exact hs.setPostState
  iterate 2
    split
    · exact (marked 3 (Nat.le_refl _)).refuseEvent
    · next hf => exact (marked 0 (Nat.zero_le _)).joinPlug (room hf)
  · exact hs

/-- A mismatch count below 2 may rise. -/
theorem Ranges.raiseMismatch {p : Nat} {s : State} (hs : Ranges s) (h : ¬ 2 ≤ (postAt s p).mismatch) :
    Ranges (Machine.updPost p (fun q => { q with mismatch := q.mismatch + 1 }) s) := by
  obtain ⟨posts, plugQ, mismatch⟩ := hs.frt
  unfold Machine.updPost
  split
  · exact hs
  · refine { hs with frt := ⟨by simpa using posts, plugQ, fun q hq => ?_⟩ }
    obtain ⟨j, hj, rfl⟩ := List.getElem_of_mem hq
    simp only [modFrt_frt, List.length_modify] at hj
    simp only [modFrt_frt, List.getElem_modify]
    split
    · next hp =>
      simp only [postAt, hp, List.getD_eq_getElem _ _ hj] at h
      dsimp only
      omega
    · exact mismatch _ (List.getElem_mem _)

theorem Ranges.compareOccupancy {p : Nat} {before : PostState} {occupied spoken : Bool} {s : State} (hs : Ranges s) :
    Ranges (compareOccupancy p before occupied spoken s) := by
  unfold Machine.compareOccupancy
  split
  · exact hs
  · split
    · split
      · exact hs
      · split
        · exact hs.repairOccupancy
        · next h => exact hs.raiseMismatch h
    · exact hs.updPost

theorem Ranges.removeEvents {c : Nat} {s : State} (hs : Ranges s) : Ranges (removeEvents c s) :=
  hs.modFrt fun ⟨posts, plugQ, mismatch⟩ => ⟨posts, (List.length_filter_le _ _).trans plugQ, mismatch⟩

/-! ### Fleet storage (R158 to R168) -/

theorem Ranges.buildStorage {s : State} (hs : Ranges s) : Ranges (buildStorage s) := hs.modStp

theorem Ranges.reband {s : State} (hs : Ranges s) : Ranges (reband s) := hs.modStp

theorem Ranges.classify {k : Nat} {s : State} (hs : Ranges s) : Ranges (classify k s) := by
  unfold Machine.classify
  dsimp only
  split
  · exact hs
  · split
    · exact hs.modStp
    · exact hs.modStp.updBus

theorem Ranges.queueStorage {s : State} (hs : Ranges s) : Ranges (queueStorage s) := hs.queueOut

theorem Ranges.completeStorage {f : PassFacts} {s : State} (hs : Ranges s) : Ranges (completeStorage f s) := by
  unfold Machine.completeStorage
  dsimp only
  split
  · exact (hs.foldl fun h => h.classify).modStp.modStp.queueStorage
  · exact (hs.foldl fun h => h.classify).modStp

/-! ### The reserve (R132 to R153) -/

theorem Ranges.queueCapability {slot : Nat} {s : State} (hs : Ranges s) : Ranges (queueCapability slot s) := hs.queueOut

theorem Ranges.recordSides {slot : Nat} {s : State} (hs : Ranges s) : Ranges (recordSides slot s) := hs.modRsu

theorem Ranges.slotStart {slot : Nat} {s : State} (hs : Ranges s) : Ranges (slotStart slot s) :=
  hs.modRsu.recordSides.queueCapability.queueStorage

theorem Ranges.takeSlot {s : State} (hs : Ranges s) : Ranges (takeSlot s) := by
  unfold Machine.takeSlot
  dsimp only
  split
  · exact hs
  · exact hs.slotStart

theorem Ranges.compareSides {s : State} (hs : Ranges s) : Ranges (compareSides s) := by
  unfold Machine.compareSides
  split
  · exact hs
  · split
    · exact hs.recordSides.queueCapability
    · exact hs

theorem Ranges.updActive {f : Dispatch → Dispatch} {s : State} (hs : Ranges s) : Ranges (updActive f s) := hs.modRsu

theorem Ranges.evalBand {s : State} (hs : Ranges s) : Ranges (evalBand s) := hs.updActive

theorem Ranges.accumulate {s : State} (hs : Ranges s) : Ranges (accumulate s) := hs.updActive

theorem Ranges.takeShortfall {found : Option (Nat × ShortCause)} {s : State} (hs : Ranges s) :
    Ranges (takeShortfall found s) := by
  unfold Machine.takeShortfall
  dsimp only
  split
  · split
    · split
      · exact hs.updActive
      · exact hs.updActive.notice
    · exact hs
  · exact hs

theorem Ranges.completeReserve {f : PassFacts} {found : Option (Nat × ShortCause)} {s : State} (hs : Ranges s) :
    Ranges (completeReserve f found s) :=
  hs.accumulate.takeShortfall.modRsu.compareSides

theorem Ranges.endActive {e : EndState} {s : State} (hs : Ranges s) : Ranges (endActive e s) := by
  unfold Machine.endActive
  split
  · exact hs
  · exact hs.queueOut.modRsu

theorem Ranges.dropArmed {cause : DropCause} {s : State} (hs : Ranges s) : Ranges (dropArmed cause s) := by
  unfold Machine.dropArmed
  split
  · exact hs
  · exact hs.modRsu.notice

theorem Ranges.abandonDispatches {cause : DropCause} {s : State} (hs : Ranges s) : Ranges (abandonDispatches cause s) :=
  (Ranges.ite hs.endActive.wantPass hs).dropArmed

theorem Ranges.startDispatch {d : Dispatch} {s : State} (hs : Ranges s) : Ranges (startDispatch d s) :=
  hs.endActive.dropArmed.modRsu.wantPass

theorem Ranges.placeDispatch {d : Dispatch} {s : State} (hs : Ranges s) : Ranges (placeDispatch d s) := by
  unfold Machine.placeDispatch
  split
  · exact hs.startDispatch
  · exact hs.dropArmed.modRsu

theorem Ranges.startArmed {s : State} (hs : Ranges s) : Ranges (startArmed s) := by
  unfold Machine.startArmed
  split
  · exact hs
  · exact hs.modRsu.startDispatch

theorem Ranges.raiseHighId {id : Nat} {s : State} (hs : Ranges s) : Ranges (raiseHighId id s) := hs.modRsu

/-! ### Passes (R106 to R110, R130) -/

theorem Ranges.drainForPass {s : State} (hs : Ranges s) : Ranges (drainForPass s) := hs.drain.modYlc

theorem Ranges.beginPass {s : State} (hs : Ranges s) : Ranges (beginPass s) := by
  unfold Machine.beginPass
  exact hs.drainForPass.modAle

theorem Ranges.writeGrants {n : Snapshot} {r : AllocResult} {s : State} (hs : Ranges s) : Ranges (writeGrants n r s) :=
  hs.mapPosts fun p q hq => by dsimp only; split <;> exact hq

theorem Ranges.writeTiers {tierOf : Nat → Tier} {s : State} (hs : Ranges s) : Ranges (writeTiers tierOf s) :=
  { hs with frt := hs.frt, tiers := by simp [Machine.writeTiers, postNos] }

theorem Ranges.writeRing {old new : Nat → Tier} {n : Snapshot} {r : AllocResult} {s : State} (hs : Ranges s) :
    Ranges (writeRing old new n r s) := by
  unfold Machine.writeRing
  dsimp only
  split
  · split
    · exact hs.modAle
    · exact hs.modAle
  · exact hs.modAle

theorem Ranges.writeOverLimit {r : AllocResult} {s : State} (hs : Ranges s) : Ranges (writeOverLimit r s) := by
  unfold Machine.writeOverLimit
  split
  · exact hs.modAle
  · split
    · exact hs
    · exact hs.modAle.notice

theorem Ranges.completeWrites {n : Snapshot} {s : State} (hs : Ranges s) : Ranges (completeWrites n s) :=
  hs.writeGrants.writeTiers.writeRing.completeReadiness.completeStorage.completeReserve.writeOverLimit

theorem Ranges.safePass {s : State} (hs : Ranges s) : Ranges (safePass s) :=
  hs.drainForPass.mapPosts.writeTiers.modAle.completeReadiness.completeStorage.completeReserve

theorem Ranges.startPass {s : State} (hs : Ranges s) : Ranges (startPass s) := by
  unfold Machine.startPass
  split
  · exact hs.safePass
  · exact hs.beginPass

/-! ### Pooling sequencers (R51 to R59) -/

theorem Ranges.zeroGrants {c : Nat} {l : List Nat} {s : State} (hs : Ranges s) : Ranges (zeroGrants c l s) :=
  hs.foldl fun h => h.updPost

theorem Ranges.beginChange {c : Nat} {target : Mode} {s : State} (hs : Ranges s) : Ranges (beginChange c target s) :=
  hs.updPool.zeroGrants

theorem Ranges.compareMode {c : Nat} {wanted : Option Mode} {s : State} (hs : Ranges s) : Ranges (compareMode c wanted s) := by
  unfold Machine.compareMode
  split
  · split
    · exact hs
    · exact hs.beginChange
  · exact hs

theorem Ranges.reformSet {c : Nat} {target : Mode} {s : State} (hs : Ranges s) : Ranges (reformSet c target s) :=
  hs.updPool.zeroGrants

theorem Ranges.takePending {c : Nat} {s : State} (hs : Ranges s) : Ranges (takePending c s) := by
  unfold Machine.takePending
  dsimp only
  split
  · exact hs.updPool.compareMode
  · exact hs.updPool

theorem Ranges.endDone {c : Nat} {s : State} (hs : Ranges s) : Ranges (endDone c s) := by
  unfold Machine.endDone
  split
  · exact hs
  · exact hs.updPool.notice.takePending

theorem Ranges.acceptTarget {c : Nat} {s : State} (hs : Ranges s) : Ranges (acceptTarget c s) := by
  unfold Machine.acceptTarget
  split
  · exact hs
  · exact hs.updCab.setModeInForce.endDone

theorem Ranges.failAttempt {c : Nat} {cause : PoolCause} {s : State} (hs : Ranges s) : Ranges (failAttempt c cause s) := by
  unfold Machine.failAttempt
  dsimp only
  split
  · exact hs.updPool
  · split
    · exact hs
    · split
      · exact hs.updPool.notice.updPool.takePending
      · exact hs.updPool.notice.updPool

theorem Ranges.failOffline {c : Nat} {s : State} (hs : Ranges s) : Ranges (failOffline c s) := by
  unfold Machine.failOffline
  dsimp only
  split
  · split
    · exact hs.updPool
    · exact hs.updPool.notice
  · exact hs

theorem Ranges.restartPool {c : Nat} {s : State} (hs : Ranges s) : Ranges (restartPool c s) := hs.updPool

theorem Ranges.joinSet {c : Nat} {target : Mode} {s : State} (hs : Ranges s) : Ranges (joinSet c target s) :=
  hs.updPool.zeroGrants

theorem Ranges.afterReport {c : Nat} {m : Mode} {moved : Bool} {s : State} (hs : Ranges s) :
    Ranges (afterReport c m moved s) := by
  unfold Machine.afterReport
  split
  · exact hs.compareMode
  · split
    · split
      · exact hs.endDone
      · exact hs.reformSet
    · exact hs
  · split
    · exact hs.endDone
    · split
      · exact hs.joinSet
      · exact hs
  · exact hs

theorem Ranges.reportMode {c : Nat} {code : Byte} {s : State} (hs : Ranges s) : Ranges (reportMode c code s) := by
  unfold Machine.reportMode
  dsimp only
  split
  · exact hs
  · exact hs.updCab.setModeInForce.afterReport

theorem Ranges.markQuiet {c : Nat} {s : State} (hs : Ranges s) : Ranges (markQuiet c s) := by
  unfold Machine.markQuiet
  dsimp only
  split
  · exact hs.updPool
  · exact hs

theorem Ranges.wantMode {c : Nat} {d : Mode} {s : State} (hs : Ranges s) : Ranges (wantMode c d s) := by
  unfold Machine.wantMode
  dsimp only
  split
  · exact hs.compareMode
  · exact hs.updPool.compareMode
  · split
    · exact hs
    · split
      · exact hs.updPool
      · exact hs.reformSet
  · exact hs.updPool
  · exact hs

/-! ### Segment activations (R193) -/

theorem Ranges.loseBus {p : Nat} {s : State} (hs : Ranges s) : Ranges (loseBus p s) := by
  unfold Machine.loseBus
  dsimp only
  split
  · exact hs.clearBusField.setPostState
  · exact hs.clearBusField

theorem Ranges.repost {old : State} {rows : List FleetRow} {p : Nat} {s : State} (hs : Ranges s) :
    Ranges (repost old rows p s) := by
  unfold Machine.repost
  split
  · exact hs
  · split
    · exact hs.updPost
    · exact hs.loseBus

theorem Ranges.activateFleet {content : Option (List Row)} {s : State} (hs : Ranges s) : Ranges (activateFleet content s) :=
  (hs.modFrt.modRdu.foldl fun h => h.repost).buildStorage

theorem Ranges.activateRoute {content : Option (List Row)} {s : State} (hs : Ranges s) : Ranges (activateRoute content s) :=
  hs.modRdu.rebuildList

theorem Ranges.enterAll {c : Nat} {st : PostState} {s : State} (hs : Ranges s) : Ranges (enterAll c st s) :=
  hs.foldl fun h => h.setPostState

theorem Ranges.unlocateAll {c : Nat} {s : State} (hs : Ranges s) : Ranges (unlocateAll c s) := hs.foldl fun h => h.unlocate

theorem Ranges.clearSent {c : Nat} {s : State} (hs : Ranges s) : Ranges (clearSent c s) := hs.foldl fun h => h.updPost

theorem Ranges.abandonVisit {c : Nat} {s : State} (hs : Ranges s) : Ranges (abandonVisit c s) := by
  unfold Machine.abandonVisit
  exact hs.modYlc

theorem Ranges.unconfigure {c : Nat} {s : State} (hs : Ranges s) : Ranges (unconfigure c s) := by
  have left := hs.abandonVisit (c := c)
  exact (Ranges.ite left.updCab left.updCab.clearSent).removeEvents.unlocateAll.enterAll.foldl fun h => h.updPost

theorem Ranges.reconfigure {c : Nat} {r : YardRow} {s : State} (hs : Ranges s) : Ranges (reconfigure c r s) := by
  have rowed : Ranges (Machine.updCab c (fun q => q.withRow r) s) := hs.updCab
  have seen := Ranges.ite (c := (cabAt s c).reported.isNone = true) (rowed.setModeInForce (c := c) (m := modeOfMap r.map)) rowed
  unfold Machine.reconfigure
  dsimp only
  split
  · exact Ranges.ite seen seen.refeedAll
  · exact (Ranges.ite seen seen.refeedAll).wantMode

theorem Ranges.rejoin {c : Nat} {r : YardRow} {s : State} (hs : Ranges s) : Ranges (rejoin c r s) := hs.updCab.refeedAll

theorem Ranges.configure {c : Nat} {r : YardRow} {s : State} (hs : Ranges s) : Ranges (configure c r s) :=
  (hs.updCab fun _ _ => ⟨Nat.zero_le 7, Nat.le_refl 65535⟩).enterAll.refeedAll

theorem Ranges.roundOver {s : State} (hs : Ranges s) : Ranges (roundOver s) := hs.modYlc.modAle

theorem Ranges.applyRoundDue {s : State} (hs : Ranges s) : Ranges (applyRoundDue s) := by
  unfold Machine.applyRoundDue
  split
  · exact hs.modYlc
  · exact hs

theorem Ranges.closeRound {s : State} (hs : Ranges s) : Ranges (closeRound s) := by
  unfold Machine.closeRound
  split
  · split
    · exact hs.roundOver.wantPass.evalBand.applyRoundDue
    · exact hs
  · exact hs

theorem Ranges.activateStation {rows : List YardRow} {c : Nat} {s : State} (hs : Ranges s) :
    Ranges (activateStation rows c s) := by
  unfold Machine.activateStation
  split
  · exact hs.unconfigure
  · exact hs
  · exact hs.reconfigure
  · exact hs.rejoin
  · exact hs.configure

theorem Ranges.enterIsland {s : State} (hs : Ranges s) : Ranges (enterIsland s) := by
  unfold Machine.enterIsland
  dsimp only
  split
  · exact (hs.modTsm.abandonDispatches.modSbu fun ⟨age, _⟩ => ⟨age, Nat.zero_le 1⟩).notice
  · exact hs.modTsm.abandonDispatches.modSbu fun ⟨age, _⟩ => ⟨age, Nat.zero_le 1⟩

theorem Ranges.enterSafe {s : State} (hs : Ranges s) : Ranges (enterSafe s) := hs.modTsm.modYlc.abandonDispatches.trySend

theorem Ranges.yardArrived {s : State} (hs : Ranges s) : Ranges (yardArrived s) := by
  unfold Machine.yardArrived
  split
  · split
    · exact hs.enterIsland
    · exact hs.modTsm
  · exact hs

theorem Ranges.yardLeft {s : State} (hs : Ranges s) : Ranges (yardLeft s) := by
  unfold Machine.yardLeft
  split
  · exact hs.enterSafe
  · exact hs

theorem Ranges.activateYard {content : Option (List Row)} {s : State} (hs : Ranges s) : Ranges (activateYard content s) := by
  unfold Machine.activateYard
  split
  · exact hs.yardLeft
  · exact (hs.foldl fun h => h.activateStation).closeRound.yardArrived

theorem Ranges.activateCommitment {content : Option (List Row)} {s : State} (hs : Ranges s) :
    Ranges (activateCommitment content s) :=
  hs.modRsu

theorem Ranges.activateTariff {content : Option (List Row)} {s : State} (hs : Ranges s) : Ranges (activateTariff content s) :=
  hs.modSbu.evalTariff

theorem Ranges.activatePassage {content : Option (List Row)} {s : State} (hs : Ranges s) : Ranges (activatePassage content s) :=
  hs.modSli

theorem Ranges.changeSeason {season : Season} {s : State} (hs : Ranges s) : Ranges (changeSeason season s) := by
  unfold Machine.changeSeason
  dsimp only
  split
  · exact hs
  · exact hs.modStp.resetOpenOutcomes.rebuildList.evalTariff.modStp

theorem Ranges.activateSettings {content : Option (List Row)} {s : State} (hs : Ranges s) :
    Ranges (activateSettings content s) :=
  hs.modTsm.modStp.reband.changeSeason

theorem Ranges.handContent {g : Segment} {content : Option (List Row)} {s : State} (hs : Ranges s) :
    Ranges (handContent g content s) := by
  unfold Machine.handContent
  split
  · exact hs.activateFleet
  · exact hs.activateRoute
  · exact hs.activateYard
  · exact hs.activateCommitment
  · exact hs.activateTariff
  · exact hs.activatePassage
  · exact hs.activateSettings

theorem Ranges.applyActivation {a : Activation} {s : State} (hs : Ranges s) : Ranges (applyActivation a s) :=
  hs.modTsm.handContent.wantPass

theorem Ranges.applyWaiting {s : State} (hs : Ranges s) : Ranges (applyWaiting s) :=
  hs.modTsm.foldl fun h => h.applyActivation

theorem Ranges.makeReady {a : Activation} {s : State} (hs : Ranges s) : Ranges (makeReady a s) := hs.modTsm

theorem Ranges.runTriggers {s : State} (hs : Ranges s) : Ranges (runTriggers s) := by
  unfold Machine.runTriggers
  dsimp only
  split
  · split
    · split
      · exact hs.modAle.startPass.applyWaiting.modAle.startPass
      · exact hs.modAle.startPass.applyWaiting
    · exact hs.modAle.startPass
  · exact hs

theorem Ranges.trigger {s : State} (hs : Ranges s) : Ranges (trigger s) := hs.wantPass.runTriggers

theorem Ranges.boundary {s : State} (hs : Ranges s) : Ranges (boundary s) := hs.applyWaiting.runTriggers

theorem Ranges.endPass {s : State} (hs : Ranges s) : Ranges (endPass s) := hs.modAle

/-! ### Store writes (R190 to R192) -/

theorem Ranges.mgmtReply {h : MgmtHead} {result : MgmtResult} {details : MgmtDetails} {s : State} (hs : Ranges s) :
    Ranges (mgmtReply h result details s) :=
  hs.queueOut

theorem Ranges.answer {h : MgmtHead} {result : MgmtResult} {details : MgmtDetails} {s : State} (hs : Ranges s) :
    Ranges (answer h result details s) := by
  unfold Machine.answer
  dsimp only
  split
  · exact hs.mgmtReply
  · exact hs.mgmtReply.modTsm

theorem Ranges.markIncomplete {job : WriteJob} {s : State} (hs : Ranges s) : Ranges (markIncomplete job s) := by
  unfold Machine.markIncomplete
  split
  · exact hs.updStored
  · exact hs.updStored
  · exact hs

theorem Ranges.beginWrite {h : MgmtHead} {job : WriteJob} {s : State} (hs : Ranges s) : Ranges (beginWrite h job s) :=
  hs.markIncomplete.modTsm

theorem Ranges.storeWritten {job : WriteJob} {s : State} (hs : Ranges s) : Ranges (storeWritten job s) := by
  unfold Machine.storeWritten
  split
  · exact hs.updStored
  · exact hs.updStored
  · exact hs.updStored
  · exact hs.modTsm

theorem Ranges.storeFaulted {job : WriteJob} {s : State} (hs : Ranges s) : Ranges (storeFaulted job s) := by
  unfold Machine.storeFaulted
  split
  · exact hs.updStored
  · exact hs.updStored
  · exact hs
  · exact hs

theorem Ranges.readyAfter {job : WriteJob} {written : Bool} {s : State} (hs : Ranges s) :
    Ranges (readyAfter job written s) := by
  unfold Machine.readyAfter
  split
  · split
    · exact hs.makeReady
    · split
      · exact hs.makeReady
      · exact hs
  · split
    · exact hs.makeReady
    · exact hs
  · exact hs

theorem Ranges.applyIfIdle {s : State} (hs : Ranges s) : Ranges (applyIfIdle s) := by
  unfold Machine.applyIfIdle
  split
  · exact hs.boundary
  · exact hs

theorem Ranges.endWrite {written : Bool} {s : State} (hs : Ranges s) : Ranges (endWrite written s) := by
  unfold Machine.endWrite
  dsimp only
  split
  · exact hs
  · exact (Ranges.ite hs.storeWritten hs.storeFaulted).modTsm.answer.readyAfter.applyIfIdle

/-! ### Management (R187 to R198) -/

theorem Ranges.judgeMgmt {h : MgmtHead} {access : List Byte} {known fits : Bool} {serve : State → State} {s : State}
    (hs : Ranges s) (served : Ranges (serve s)) : Ranges (judgeMgmt h access known fits serve s) := by
  unfold Machine.judgeMgmt
  split
  · exact hs.answer
  · exact served

theorem Ranges.stageRow {g : Segment} {i : Nat} {r : Row} {s : State} (hs : Ranges s) : Ranges (stageRow g i r s) := hs.modTsm

theorem Ranges.serveStage {h : MgmtHead} {f : List Byte} {s : State} (hs : Ranges s) : Ranges (serveStage h f s) := by
  unfold Machine.serveStage
  dsimp only
  split
  · exact hs.answer
  · exact (Ranges.ite hs.stageRow hs).answer

theorem Ranges.clearStaging {s : State} (hs : Ranges s) : Ranges (clearStaging s) := hs.modTsm

theorem Ranges.serveDiscard {h : MgmtHead} {s : State} (hs : Ranges s) : Ranges (serveDiscard h s) := hs.clearStaging.answer

theorem Ranges.serveCommit {h : MgmtHead} {f : List Byte} {s : State} (hs : Ranges s) : Ranges (serveCommit h f s) := by
  unfold Machine.serveCommit
  split
  · exact hs.answer
  · exact hs.clearStaging.beginWrite

theorem Ranges.serveRead {h : MgmtHead} {f : List Byte} {s : State} (hs : Ranges s) : Ranges (serveRead h f s) := by
  unfold Machine.serveRead
  split
  · exact hs.answer
  · split
    · exact hs.answer
    · exact hs.answer

theorem Ranges.serveStatus {h : MgmtHead} {s : State} (hs : Ranges s) : Ranges (serveStatus h s) := hs.answer

theorem Ranges.serveClearStatus {h : MgmtHead} {s : State} (hs : Ranges s) : Ranges (serveClearStatus h s) := hs.modTsm.answer

theorem Ranges.serveLock {h : MgmtHead} {f : List Byte} {s : State} (hs : Ranges s) : Ranges (serveLock h f s) := by
  unfold Machine.serveLock
  split
  · exact hs.answer
  · split
    · exact hs.answer
    · exact hs.beginWrite

theorem Ranges.serveRelease {h : MgmtHead} {f : List Byte} {s : State} (hs : Ranges s) : Ranges (serveRelease h f s) := by
  unfold Machine.serveRelease
  split
  · exact hs.answer
  · split
    · exact hs.answer
    · split
      · exact hs.answer
      · exact hs.beginWrite

theorem Ranges.serveSetCode {h : MgmtHead} {f : List Byte} {s : State} (hs : Ranges s) : Ranges (serveSetCode h f s) := by
  unfold Machine.serveSetCode
  split
  · exact hs.answer
  · exact hs.beginWrite

theorem Ranges.serveWithdraw {h : MgmtHead} {f : List Byte} {s : State} (hs : Ranges s) : Ranges (serveWithdraw h f s) := by
  unfold Machine.serveWithdraw
  split
  · exact hs.answer
  · exact hs.updBus.answer

theorem Ranges.serveReturn {h : MgmtHead} {f : List Byte} {s : State} (hs : Ranges s) : Ranges (serveReturn h f s) := by
  unfold Machine.serveReturn
  split
  · exact hs.answer
  · exact hs.updBus.answer

theorem Ranges.rejudge {legNo : Nat} {s : State} (hs : Ranges s) : Ranges (rejudge legNo s) := by
  unfold Machine.rejudge
  dsimp only
  split
  · split
    · split
      · exact hs.judgeDue.leaveList
      · exact hs.judgeDue
    · exact hs
  · exact hs

theorem Ranges.substitute {legNo : Nat} {bus : Option Nat} {s : State} (hs : Ranges s) : Ranges (substitute legNo bus s) := by
  unfold Machine.substitute
  dsimp only
  split
  · exact hs.updLeg
  · exact hs.updLeg.rejudge

theorem Ranges.serveSubstitute {h : MgmtHead} {f : List Byte} {s : State} (hs : Ranges s) : Ranges (serveSubstitute h f s) :=
  (Ranges.ite hs.substitute hs).answer

theorem Ranges.serveSeason {h : MgmtHead} {f : List Byte} {s : State} (hs : Ranges s) : Ranges (serveSeason h f s) := by
  unfold Machine.serveSeason
  split
  · exact hs.answer
  · split
    · exact hs.answer
    · split
      · exact hs.answer
      · exact hs.beginWrite

theorem Ranges.serveRestart {h : MgmtHead} {f : List Byte} {s : State} (hs : Ranges s) : Ranges (serveRestart h f s) := by
  unfold Machine.serveRestart
  split
  · exact hs.answer
  · exact hs.answer.modTsm

theorem Ranges.serveOp {h : MgmtHead} {f : List Byte} {s : State} (hs : Ranges s) : Ranges (serveOp h f s) :=
  Ranges.ite hs.serveStage <| Ranges.ite hs.serveCommit <| Ranges.ite hs.serveDiscard <| Ranges.ite hs.serveRead <|
  Ranges.ite hs.serveStatus <| Ranges.ite hs.serveLock <| Ranges.ite hs.serveRelease <| Ranges.ite hs.serveSetCode <|
  Ranges.ite hs.serveClearStatus <| Ranges.ite hs.serveWithdraw <| Ranges.ite hs.serveReturn <|
  Ranges.ite hs.serveSubstitute <| Ranges.ite hs.serveSeason hs.serveRestart

theorem Ranges.takeMgmt {src seq op : Byte} {access fields : List Byte} {s : State} (hs : Ranges s) :
    Ranges (takeMgmt src seq op access fields s) := hs.judgeMgmt hs.serveOp

/-! ### The minute clock (R79 to R84) -/

theorem Ranges.handMinute {s : State} (hs : Ranges s) : Ranges (handMinute s) := hs.evalTariff.runTriggers.takeSlot

theorem Ranges.adoptClock {minute weekday second : Nat} {s : State} (hs : Ranges s)
    (h : minute ≤ 1439 ∧ weekday ≤ 6 ∧ second ≤ 59) : Ranges (adoptClock minute weekday second s) :=
  hs.modRdu fun _ => ⟨h.1, h.2.1, h.2.2, Nat.zero_le 9⟩

theorem Ranges.firstSetting {minute weekday second : Nat} {s : State} (hs : Ranges s)
    (h : minute ≤ 1439 ∧ weekday ≤ 6 ∧ second ≤ 59) : Ranges (firstSetting minute weekday second s) :=
  (hs.adoptClock h).resetOutcomes.clearMarkers.buildList.handMinute

theorem Ranges.jump {minute weekday second : Nat} {s : State} (hs : Ranges s)
    (h : minute ≤ 1439 ∧ weekday ≤ 6 ∧ second ≤ 59) : Ranges (jump minute weekday second s) := by
  have adopted := hs.adoptClock h
  unfold Machine.jump
  exact (Ranges.ite adopted adopted.resetOutcomes.clearSubstitutes.clearMarkers).buildList.notice.handMinute

theorem Ranges.setSecond {second : Nat} {s : State} (hs : Ranges s) (h : second ≤ 59) : Ranges (setSecond second s) :=
  hs.modRdu fun ⟨minute, weekday, _, _⟩ => ⟨minute, weekday, h, Nat.zero_le 9⟩

theorem Ranges.timesDo {f : State → State} (h : ∀ {s}, Ranges s → Ranges (f s)) (n : Nat) {s : State} (hs : Ranges s) :
    Ranges (timesDo f n s) := by
  induction n generalizing s with
  | zero => exact hs
  | succ n ih => exact ih (h hs)

theorem Ranges.slewForward {seconds second : Nat} {s : State} (hs : Ranges s) (h : second ≤ 59) :
    Ranges (slewForward seconds second s) := by
  have advanced := (Ranges.timesDo Ranges.advanceMinute ((s.rdu.clock.second + seconds) / 60) hs).setSecond h
  unfold Machine.slewForward
  exact Ranges.ite advanced advanced.handMinute

theorem Ranges.slewBackward {minute weekday second : Nat} {s : State} (hs : Ranges s)
    (h : minute ≤ 1439 ∧ weekday ≤ 6 ∧ second ≤ 59) : Ranges (slewBackward minute weekday second s) := by
  unfold Machine.slewBackward
  exact Ranges.ite (hs.adoptClock h) (hs.adoptClock h).processMinute.handMinute

theorem Ranges.judgeTime {minute weekday second : Nat} {s : State} (hs : Ranges s)
    (h : minute ≤ 1439 ∧ weekday ≤ 6 ∧ second ≤ 59) : Ranges (judgeTime minute weekday second s) := by
  unfold Machine.judgeTime
  exact Ranges.ite (hs.slewForward h.2.2) (Ranges.ite (hs.slewBackward h) (hs.jump h))

theorem Ranges.takeTime {payload : List Byte} {s : State} (hs : Ranges s) : Ranges (takeTime payload s) := by
  unfold Machine.takeTime
  split
  · exact hs
  · split
    · exact hs
    · split
      · exact hs.notice
      · exact Ranges.ite (hs.judgeTime (by omega)) (hs.firstSetting (by omega))

/-! ### The yard link (R27 to R41) -/

theorem Ranges.takeLink {l : Link} {s : State} (hs : Ranges s) : Ranges (takeLink l s) := hs.modYlc

theorem Ranges.sendExchange {c waits : Nat} {s : State} (hs : Ranges s) : Ranges (sendExchange c waits s) :=
  hs.modYlc.countFree.takeLink

theorem Ranges.sendCurtail {s : State} (hs : Ranges s) : Ranges (sendCurtail s) := hs.modYlc.countFree.takeLink

theorem Ranges.sendPool {c : Nat} {target : Mode} {s : State} (hs : Ranges s) : Ranges (sendPool c target s) :=
  hs.modYlc.countFree.takeLink

theorem Ranges.sendForward {t : Telegram} {rest : List Telegram} {s : State} (hs : Ranges s) (h : rest.length ≤ 8) :
    Ranges (sendForward t rest s) :=
  (hs.modYlc fun ⟨cabinets, _, cab⟩ => ⟨cabinets, h, cab⟩).takeLink

theorem Ranges.freeLink {s : State} (hs : Ranges s) : Ranges (freeLink s) := hs.modYlc

theorem Ranges.completeRound {s : State} (hs : Ranges s) : Ranges (completeRound s) :=
  hs.roundOver.trigger.evalBand.applyRoundDue

theorem Ranges.continueRound {last : Nat} {s : State} (hs : Ranges s) : Ranges (continueRound last s) := by
  unfold Machine.continueRound
  split
  · exact hs.modYlc.sendExchange
  · exact hs.completeRound

theorem Ranges.startRound {s : State} (hs : Ranges s) : Ranges (startRound s) := hs.modYlc.continueRound

theorem Ranges.endVisit {c : Nat} {answered : Bool} {s : State} (hs : Ranges s) : Ranges (endVisit c answered s) := by
  unfold Machine.endVisit
  dsimp only
  split
  · split
    · exact hs.modYlc.completeRound
    · exact hs.modYlc
  · split
    · exact hs.modYlc.completeRound
    · exact hs.modYlc

/-- A forwarded telegram that is picked is the head of the forward queue. -/
theorem fwdQ_of_pick_forward {s : State} {t : Telegram} {rest : List Telegram} (h : pick s = .forward t rest) :
    s.ylc.fwdQ = t :: rest := by
  unfold pick pickOther at h
  split at h
  · cases h
  · split at h
    · cases h
    · cases h
    · split at h
      · cases h
      · next hq _ =>
        obtain ⟨rfl, rfl⟩ := Grantee.forward.inj h
        assumption
      · cases h
      · split at h <;> cases h
      · cases h

theorem Ranges.giveLink {s : State} (hs : Ranges s) : Ranges (giveLink (pick s) s) := by
  unfold Machine.giveLink
  split
  · exact hs.sendCurtail
  · exact hs.sendExchange
  · exact hs.sendPool
  · next t rest h =>
    obtain ⟨_, fwdQ, _⟩ := hs.ylc
    rw [fwdQ_of_pick_forward h] at fwdQ
    exact hs.sendForward (Nat.le_of_succ_le fwdQ)
  · exact hs.continueRound
  · exact hs.startRound
  · exact hs

theorem Ranges.closeClaims {s : State} (hs : Ranges s) : Ranges (closeClaims s) := hs.modYlc

theorem Ranges.settleLink {n : Nat} {s : State} (hs : Ranges s) : Ranges (settleLink n s) := by
  induction n generalizing s with
  | zero => exact hs
  | succ n ih =>
    unfold Machine.settleLink
    split
    · split
      · exact hs.closeClaims
      · exact ih hs.giveLink
    · exact hs

theorem Ranges.finish {s : State} (hs : Ranges s) : Ranges (finish s) := hs.settleLink

theorem Ranges.goOffline {c : Nat} {s : State} (hs : Ranges s) : Ranges (goOffline c s) :=
  hs.updCab.notice.enterAll.failOffline

theorem Ranges.countMiss {c : Nat} {s : State} (hs : Ranges s) : Ranges (countMiss c s) := by
  have counted : Ranges (Machine.updCab c (fun r => { r with misses := min 7 ((cabAt s c).misses + 1) }) s) :=
    hs.updCab fun _ ⟨_, age⟩ => ⟨Nat.min_le_left _ _, age⟩
  unfold Machine.countMiss
  dsimp only
  split
  · exact counted
  · split
    · exact counted.goOffline
    · split
      · exact counted
      · exact counted.updCab

theorem Ranges.missVisit {c : Nat} {s : State} (hs : Ranges s) : Ranges (missVisit c s) := hs.countMiss.endVisit

theorem Ranges.cabinetRestart {c : Nat} {s : State} (hs : Ranges s) : Ranges (cabinetRestart c s) :=
  hs.updCab.removeEvents.enterAll.unlocateAll.restartPool.notice.updCab

theorem Ranges.statusRestart {c : Nat} {restarted : Bool} {s : State} (hs : Ranges s) :
    Ranges (statusRestart c restarted s) := by
  unfold Machine.statusRestart
  split
  · split
    · exact hs
    · exact hs.cabinetRestart
  · exact hs.updCab

theorem Ranges.statusLink {c : Nat} {grants : List Int} {s : State} (hs : Ranges s) : Ranges (statusLink c grants s) := by
  have linked : Ranges (Machine.updCab c (fun r => { r with misses := 0, age := 0, link := .online }) s) :=
    hs.updCab fun _ _ => ⟨Nat.zero_le 7, Nat.zero_le 65535⟩
  unfold Machine.statusLink
  exact Ranges.ite (linked.foldl fun h => h.updPost).notice (linked.foldl fun h => h.updPost)

theorem Ranges.statusReport {c : Nat} {m : StatusMsg} {before : List PostState} {i : Nat} {s : State} (hs : Ranges s) :
    Ranges (statusReport c m before i s) := by
  unfold Machine.statusReport
  dsimp only
  split
  · exact hs
  · split
    · exact hs.updPost.compareOccupancy
    · exact hs.updPost.compareOccupancy.takeHeld

theorem Ranges.statusSettle {c i : Nat} {s : State} (hs : Ranges s) : Ranges (statusSettle c i s) := by
  unfold Machine.statusSettle
  dsimp only
  split
  · exact hs.settle
  · exact hs

theorem Ranges.statusHandOff {c : Nat} {m : StatusMsg} {grants : List Int} {js : List Judgement} {s : State} (hs : Ranges s) :
    Ranges (statusHandOff c m grants js s) := by
  unfold Machine.statusHandOff
  split
  · exact hs
  · exact hs.queueOut

theorem Ranges.applyReports {c : Nat} {m : StatusMsg} {grants : List Int} {s : State} (hs : Ranges s) :
    Ranges (applyReports c m grants s) :=
  ((hs.statusRestart.statusLink.reportMode.foldl fun h => h.statusReport).markQuiet.foldl fun h => h.statusSettle)

theorem Ranges.offerEvents {c : Nat} {refused : Bool} {l : List RawEvent} {s : State} (hs : Ranges s) :
    Ranges (offerEvents c refused l s).1 := by
  induction l generalizing refused s with
  | nil => exact hs
  | cons e l ih =>
    unfold Machine.offerEvents
    dsimp only
    split
    · exact ih hs
    · split
      · exact ih hs
      · split
        · exact ih hs.updCab
        · split
          · exact ih hs.refuseEvent
          · next hf => exact ih (hs.updCab.joinPlug (by simpa [plugFull] using hf))

theorem Ranges.takeStatus {c : Nat} {m : StatusMsg} {grants : List Int} {s : State} (hs : Ranges s) :
    Ranges (takeStatus c m grants s) := hs.applyReports.offerEvents.statusHandOff.endVisit

theorem Ranges.zeroAll {s : State} (hs : Ranges s) : Ranges (zeroAll s) := hs.mapPosts

theorem Ranges.curtailDone {s : State} (hs : Ranges s) : Ranges (curtailDone s) :=
  (Ranges.ite hs.zeroAll.modAle.endPass.wantPass.boundary hs.zeroAll.modAle.trigger).notice

/-! ### Site traffic (R61, R137, R150, R171 to R184) -/

theorem Ranges.siteSilent {s : State} (hs : Ranges s) : Ranges (siteSilent s) := by
  unfold Machine.siteSilent
  dsimp only
  split
  · exact hs.modSli.modTsm.enterIsland.runTriggers
  · exact hs.modSli.modTsm

theorem Ranges.siteReturn {s : State} (hs : Ranges s) : Ranges (siteReturn s) := by
  unfold Machine.siteReturn
  dsimp only
  split
  · exact hs.modTsm.modTsm.trySend
  · exact hs.modTsm

theorem Ranges.siteArrived {s : State} (hs : Ranges s) : Ranges (siteArrived s) := by
  have restarted : Ranges (Machine.modSli (fun i => { i with
      silence := 0, silentMark := false, orderCount := if endsIsland s then i.orderCount + 1 else i.orderCount }) s) :=
    hs.modSli fun ⟨_, drops, out⟩ => ⟨Nat.zero_le 600, drops, out⟩
  unfold Machine.siteArrived
  exact Ranges.ite restarted.siteReturn restarted

theorem Ranges.siteLeft {before s : State} (hs : Ranges s) : Ranges (siteLeft before s) := by
  unfold Machine.siteLeft
  split
  · exact hs.siteReturn
  · exact hs

theorem Ranges.siteHandled {f : State → State} (hf : ∀ {s}, Ranges s → Ranges (f s)) {s : State} (hs : Ranges s) :
    Ranges (siteHandled f s) := (hf hs.siteArrived).siteLeft

theorem Ranges.siteFramed {s : State} (hs : Ranges s) : Ranges (siteFramed s) := hs.modSli

theorem Ranges.judgeBreach {s : State} (hs : Ranges s) : Ranges (judgeBreach s) := by
  have counted (n : Nat) (hn : n ≤ 1) : Ranges (Machine.modSbu (fun b => { b with breach := n }) s) :=
    hs.modSbu fun ⟨age, _⟩ => ⟨age, hn⟩
  have cleared := counted 0 (Nat.zero_le _)
  unfold Machine.judgeBreach
  exact Ranges.ite cleared (Ranges.ite (counted 1 (Nat.le_refl _)).notice.trigger cleared.modYlc.trigger)

theorem Ranges.readMeter {imp : Int} {cap ambient : Option Int} {s : State} (hs : Ranges s) :
    Ranges (readMeter imp cap ambient s) := hs.modSbu fun ⟨_, breach⟩ => ⟨Nat.zero_le 65535, breach⟩

theorem Ranges.takeMeter {payload : List Byte} {s : State} (hs : Ranges s) : Ranges (takeMeter payload s) := by
  unfold Machine.takeMeter
  split
  · exact hs
  · split
    · exact hs
    · exact hs.readMeter.judgeBreach

theorem Ranges.queueDispReply {src : Byte} {r : DispReply} {s : State} (hs : Ranges s) : Ranges (queueDispReply src r s) :=
  hs.queueOut

theorem Ranges.repeatReply {src : Byte} {s : State} (hs : Ranges s) : Ranges (repeatReply src s) := by
  unfold Machine.repeatReply
  split
  · exact hs
  · exact hs.queueDispReply

theorem Ranges.answerDispatch {src seq : Byte} {f : DispatchFields} {s : State} (hs : Ranges s) :
    Ranges (answerDispatch src seq f s) := by
  unfold Machine.answerDispatch
  dsimp only
  split
  · exact (Ranges.ite hs hs.countFree).raiseHighId.queueDispReply.modRsu
  · exact (Ranges.ite hs hs.countFree).raiseHighId.placeDispatch.runTriggers.queueDispReply.modRsu

theorem Ranges.takeDispatch {src seq : Byte} {payload : List Byte} {s : State} (hs : Ranges s) :
    Ranges (takeDispatch src seq payload s) := by
  unfold Machine.takeDispatch
  split
  · exact hs
  · split
    · exact hs
    · split
      · exact hs.repeatReply
      · exact hs.answerDispatch

theorem Ranges.cancelDispatch {id : Nat} {s : State} (hs : Ranges s) : Ranges (cancelDispatch id s) := by
  unfold Machine.cancelDispatch
  split
  · exact hs.endActive.trigger
  · split
    · exact hs.modRsu
    · exact hs.notice

theorem Ranges.takeCancel {payload : List Byte} {s : State} (hs : Ranges s) : Ranges (takeCancel payload s) := by
  unfold Machine.takeCancel
  split
  · exact hs
  · split
    · exact hs
    · exact hs.cancelDispatch

theorem Ranges.joinForward {t : Telegram} {s : State} (hs : Ranges s) (room : fwdFull s = false) :
    Ranges (joinForward t s) :=
  hs.modYlc fun ⟨cabinets, _, cab⟩ => by
    refine ⟨cabinets, ?_, cab⟩
    have := of_decide_eq_false room
    rw [fwdCapacity] at this
    simp only [List.length_append, List.length_singleton]
    omega

theorem Ranges.forwardOrRefuse {t : Telegram} {s : State} (hs : Ranges s) : Ranges (forwardOrRefuse t s) := by
  unfold Machine.forwardOrRefuse
  split
  · exact hs.queueOut
  · next h => exact hs.joinForward (Bool.eq_false_iff.2 h)

theorem Ranges.takePassThrough {t : Telegram} {s : State} (hs : Ranges s) : Ranges (takePassThrough t s) := by
  unfold Machine.takePassThrough
  split
  · exact hs
  · split
    · exact hs
    · exact hs.forwardOrRefuse

theorem Ranges.queueSetreqReply {src : Byte} {r : SetreqReply} {s : State} (hs : Ranges s) :
    Ranges (queueSetreqReply src r s) :=
  hs.queueOut

theorem Ranges.refuseSetreq {dst src seq : Byte} {position : Nat} {why : SetreqResult} {s : State} (hs : Ranges s) :
    Ranges (refuseSetreq dst src seq position why s) :=
  hs.queueSetreqReply

theorem Ranges.clampSetreq {dst src seq : Byte} {position p : Nat} {request : Option Int} {boost : Bool} {s : State}
    (hs : Ranges s) (room : fwdFull s = false) : Ranges (clampSetreq dst src seq position p request boost s) := by
  unfold Machine.clampSetreq
  dsimp only
  refine Ranges.queueSetreqReply (Ranges.joinForward (Ranges.ite hs.updPost.trigger hs.updPost) ?_)
  split <;> simpa [fwdFull] using room

theorem Ranges.judgeClamp {dst src seq : Byte} {position : Nat} {request : Option Int} {boost : Bool} {s : State}
    (hs : Ranges s) : Ranges (judgeClamp dst src seq position request boost s) := by
  unfold Machine.judgeClamp
  split
  · exact hs.refuseSetreq
  · split
    · exact hs.refuseSetreq
    · split
      · exact hs.refuseSetreq
      · next h => exact hs.clampSetreq (Bool.eq_false_iff.2 h)

theorem Ranges.takeSetreq {dst src seq : Byte} {payload : List Byte} {s : State} (hs : Ranges s) :
    Ranges (takeSetreq dst src seq payload s) := by
  unfold Machine.takeSetreq
  split
  · exact hs
  · split
    · exact hs
    · split
      · exact hs.refuseSetreq
      · exact hs.forwardOrRefuse
      · exact hs.judgeClamp

theorem Ranges.takeForwardReply {t : Telegram} {s : State} (hs : Ranges s) : Ranges (takeForwardReply t s) := by
  unfold Machine.takeForwardReply
  split
  · exact hs
  · exact hs.queueOut

theorem Ranges.sendDone {s : State} (hs : Ranges s) : Ranges (sendDone s) := by
  unfold Machine.sendDone
  split
  · exact hs.modSli.trySend
  · exact hs

/-! ### Replies on the yard link (R31 to R43, R54 to R56) -/

theorem Ranges.yardFramed {s : State} (hs : Ranges s) : Ranges (yardFramed s) := hs.modYlc

theorem Ranges.replyStatus {src : Byte} {payload : List Byte} {s : State} (hs : Ranges s) :
    Ranges (replyStatus src payload s) := by
  unfold Machine.replyStatus
  split
  · split
    · exact hs.takeStatus
    · exact hs
  · exact hs

theorem Ranges.holdOff {c waits : Nat} {s : State} (hs : Ranges s) : Ranges (holdOff c waits s) := by
  unfold Machine.holdOff
  split
  · exact hs.modYlc
  · exact hs.missVisit

theorem Ranges.replyWait {src : Byte} {payload : List Byte} {s : State} (hs : Ranges s) : Ranges (replyWait src payload s) := by
  unfold Machine.replyWait
  split
  · exact hs
  · split
    · exact hs.holdOff
    · exact hs

theorem Ranges.holdOffExpired {s : State} (hs : Ranges s) : Ranges (holdOffExpired s) := by
  unfold Machine.holdOffExpired
  split
  · exact hs.modYlc
  · exact hs

theorem Ranges.exchangeTimeout {s : State} (hs : Ranges s) : Ranges (exchangeTimeout s) := by
  unfold Machine.exchangeTimeout
  split
  · exact hs
  · exact hs.missVisit

theorem Ranges.poolSendDone {s : State} (hs : Ranges s) : Ranges (poolSendDone s) := by
  unfold Machine.poolSendDone
  split
  · split
    · exact hs.modYlc.updPool
    · exact hs.freeLink
  · exact hs

theorem Ranges.poolAnswer {c : Nat} {result : Byte} {reason : Nat} {s : State} (hs : Ranges s) :
    Ranges (poolAnswer c result reason s) := by
  unfold Machine.poolAnswer
  split
  · exact hs.acceptTarget
  · exact hs.failAttempt

theorem Ranges.replyPoolAck {src : Byte} {payload : List Byte} {s : State} (hs : Ranges s) :
    Ranges (replyPoolAck src payload s) := by
  unfold Machine.replyPoolAck
  split
  · split
    · exact hs.freeLink.poolAnswer
    · exact hs
  · exact hs

theorem Ranges.replyPoolWait {src : Byte} {payload : List Byte} {s : State} (hs : Ranges s) :
    Ranges (replyPoolWait src payload s) := by
  unfold Machine.replyPoolWait
  split
  · exact hs
  · split
    · exact hs.freeLink.failAttempt
    · exact hs

theorem Ranges.poolTimeout {s : State} (hs : Ranges s) : Ranges (poolTimeout s) := by
  unfold Machine.poolTimeout
  split
  · exact hs
  · exact hs.freeLink.failAttempt

theorem Ranges.replyForward {t : Telegram} {s : State} (hs : Ranges s) : Ranges (replyForward t s) := by
  unfold Machine.replyForward
  split
  · exact hs
  · split
    · exact hs.freeLink.takeForwardReply
    · exact hs

theorem Ranges.forwardTimeout {s : State} (hs : Ranges s) : Ranges (forwardTimeout s) := by
  unfold Machine.forwardTimeout
  split
  · exact hs
  · split
    · exact hs.freeLink
    · exact hs

theorem Ranges.broadcastDone {s : State} (hs : Ranges s) : Ranges (broadcastDone s) := by
  unfold Machine.broadcastDone
  split
  · exact hs
  · split
    · exact hs.freeLink
    · exact hs

theorem Ranges.curtailSendDone {s : State} (hs : Ranges s) : Ranges (curtailSendDone s) := by
  unfold Machine.curtailSendDone
  split
  · exact hs.freeLink.curtailDone
  · exact hs

/-! ### Arrivals (R171, R203) -/

theorem Ranges.handMgmt {t : Telegram} {s : State} (hs : Ranges s) : Ranges (handMgmt t s) := by
  unfold Machine.handMgmt
  split
  · exact hs
  · exact hs.takeMgmt

theorem Ranges.handOwn {t : Telegram} {s : State} (hs : Ranges s) : Ranges (handOwn t s) := by
  unfold Machine.handOwn
  split
  · exact hs.takeMeter
  · split
    · exact hs.takeTime
    · split
      · exact hs.takeDispatch
      · split
        · exact hs.takeCancel
        · split
          · exact hs.handMgmt
          · exact hs

theorem Ranges.handThrough {t : Telegram} {s : State} (hs : Ranges s) : Ranges (handThrough t s) := by
  unfold Machine.handThrough
  split
  · exact hs.takeSetreq
  · exact hs.takePassThrough

theorem Ranges.deliverSite {t : Telegram} {s : State} (hs : Ranges s) : Ranges (deliverSite t s) :=
  Ranges.siteHandled (fun h => Ranges.ite h.handOwn (Ranges.ite h.handThrough h)) hs

theorem Ranges.deliverYard {t : Telegram} {s : State} (hs : Ranges s) : Ranges (deliverYard t s) := by
  unfold Machine.deliverYard
  split
  · split
    · exact hs.replyStatus
    · split
      · exact hs.replyWait.replyPoolWait
      · split
        · exact hs.replyPoolAck
        · exact hs
  · exact hs.replyForward

theorem Ranges.siteBytes {l : List Byte} {s : State} (hs : Ranges s) : Ranges (siteBytes l s) :=
  hs.modSli.foldl fun h => h.deliverSite

theorem Ranges.yardBytes {l : List Byte} {s : State} (hs : Ranges s) : Ranges (yardBytes l s) := by
  unfold Machine.yardBytes
  dsimp only
  split
  · exact hs
  · exact hs.modYlc.foldl fun h => h.deliverYard

/-! ### Resets (R198 to R200) -/

/-- Power-on values are inside every range (R24, R47, R78, R102, R131, R185). -/
theorem ranges_afterPowerOn (store : SegTable StoredSeg) (code : List Byte) (n : Nat) (l : List Instr) :
    Ranges (State.afterPowerOn store code n l) where
  sli := ⟨Nat.zero_le _, Nat.zero_le _, Nat.zero_le _⟩
  ylc := ⟨rfl, Nat.zero_le _, fun c hc => by
    obtain rfl := List.eq_of_mem_replicate hc
    exact ⟨Nat.zero_le _, Nat.le_refl _⟩⟩
  frt := ⟨rfl, Nat.zero_le _, fun q hq => by
    obtain rfl := List.eq_of_mem_replicate hq
    exact Nat.zero_le _⟩
  sbu := ⟨Nat.zero_le _, Nat.zero_le _⟩
  clock := ⟨Nat.zero_le _, Nat.zero_le _, Nat.zero_le _, Nat.zero_le _⟩
  tiers := rfl

theorem ranges_powerUp (s : State) : Ranges (powerUp s) := (ranges_afterPowerOn _ _ _ _).modSli

theorem ranges_powerDown (s : State) : Ranges (powerDown s) := { ranges_powerUp s with }

theorem Ranges.loadSegment {g : Segment} {s : State} (hs : Ranges s) : Ranges (loadSegment g s) := hs.modTsm.handContent

theorem Ranges.loadStore {s : State} (hs : Ranges s) : Ranges (loadStore s) := (hs.foldl fun h => h.loadSegment).modStp

theorem Ranges.leaveStarting {s : State} (hs : Ranges s) : Ranges (leaveStarting s) := by
  unfold Machine.leaveStarting
  split
  · exact hs.modTsm
  · exact hs.modTsm.modYlc

theorem Ranges.startTimers {s : State} (hs : Ranges s) : Ranges (startTimers s) :=
  ((hs.modYlc.modSli fun ⟨_, drops, out⟩ => ⟨Nat.zero_le _, drops, out⟩).modSbu
    fun ⟨_, breach⟩ => ⟨Nat.zero_le _, breach⟩).modAle

theorem Ranges.endStarting {s : State} (hs : Ranges s) : Ranges (endStarting s) :=
  hs.evalTariff.buildList.leaveStarting.startTimers.trySend.trigger

theorem Ranges.endLoading {s : State} (hs : Ranges s) : Ranges (endLoading s) := by
  unfold Machine.endLoading
  split
  · exact hs.loadStore.endStarting
  · exact hs

theorem Ranges.restartFrt {s : State} (hs : Ranges s) : Ranges (restartFrt s) :=
  hs.modFrt fun _ => by
    refine ⟨by simp [restartPosts, postNos], Nat.zero_le _, fun q hq => ?_⟩
    obtain ⟨p, -, rfl⟩ := List.mem_map.1 hq
    exact Nat.zero_le _

theorem Ranges.restartRdu {s : State} (hs : Ranges s) : Ranges (restartRdu s) := by
  have clock : Ranges (Machine.modRdu (fun r => { r with
      clock := if r.clock.set then r.clock else Rdu.initial.clock
      list := [], lastOutcomes := r.lastOutcomes.map (fun _ => none) }) s) := by
    refine hs.modRdu fun h => ?_
    dsimp only
    split
    · exact h
    · exact ⟨Nat.zero_le _, Nat.zero_le _, Nat.zero_le _, Nat.zero_le _⟩
  exact clock.resetOutcomes.clearSubstitutes.clearMarkers

/-- A cabinet at a reset is inside its ranges (R47). -/
theorem cabinetInRange_resetCabinet (rows : List YardRow) (c : Nat) : CabinetInRange (resetCabinet rows c) := by
  unfold resetCabinet
  split <;> exact ⟨Nat.zero_le _, Nat.le_refl _⟩

theorem Ranges.restartBlocks {s : State} (hs : Ranges s) : Ranges (restartBlocks s) := by
  obtain ⟨-, drops, out⟩ := hs.sli
  have reset : Ranges { s with
      sli := s.sli.restart, ylc := restartYlc s, sbu := s.sbu.restart, ale := Ale.initial, rsu := s.rsu.restart
      stp := s.stp.restart, tsm := s.tsm.restart } :=
    { hs with
      sli := ⟨Nat.zero_le _, drops, out⟩
      ylc := ⟨rfl, Nat.zero_le _, fun c hc => by
        obtain ⟨k, -, rfl⟩ := List.mem_map.1 hc
        exact cabinetInRange_resetCabinet _ k⟩
      sbu := ⟨Nat.zero_le _, Nat.zero_le _⟩
      tiers := rfl }
  exact reset.restartFrt.restartRdu.buildStorage

theorem Ranges.partRestart {s : State} (hs : Ranges s) : Ranges (partRestart s) := by
  unfold Machine.partRestart
  split
  · exact hs.restartBlocks.applyWaiting.endStarting
  · exact hs

/-! ### Timers at their limits -/

theorem Ranges.silenceExpired {s : State} (hs : Ranges s) : Ranges (silenceExpired s) :=
  Ranges.ite hs (hs.modSli fun ⟨_, drops, out⟩ => ⟨Nat.le_refl 600, drops, out⟩).siteSilent

theorem Ranges.roundExpired {s : State} (hs : Ranges s) : Ranges (roundExpired s) := by
  unfold Machine.roundExpired
  split
  · exact hs
  · exact hs.modYlc

theorem Ranges.meterStaled {s : State} (hs : Ranges s) : Ranges (meterStaled s) :=
  Ranges.ite (hs.modSbu fun _ => ⟨Nat.le_of_ble_eq_true rfl, Nat.zero_le 1⟩).notice hs

theorem Ranges.meterFellBack {s : State} (hs : Ranges s) : Ranges (meterFellBack s) :=
  Ranges.ite (hs.modSbu fun ⟨_, breach⟩ => ⟨Nat.le_of_ble_eq_true rfl, breach⟩).notice hs

theorem Ranges.minutePassed {s : State} (hs : Ranges s) : Ranges (minutePassed s) := by
  unfold Machine.minutePassed
  split
  · exact hs.advanceMinute.handMinute
  · exact hs

theorem Ranges.passTimerExpired {s : State} (hs : Ranges s) : Ranges (passTimerExpired s) := by
  unfold Machine.passTimerExpired
  split
  · exact hs
  · exact hs.modAle.trigger

theorem Ranges.armedCounted {s : State} (hs : Ranges s) : Ranges (armedCounted s) := by
  unfold Machine.armedCounted
  split
  · exact hs.startArmed.runTriggers
  · exact hs

theorem Ranges.dispatchRanOut {s : State} (hs : Ranges s) : Ranges (dispatchRanOut s) := by
  unfold Machine.dispatchRanOut
  split
  · exact hs.updActive.endActive.trigger
  · exact hs

theorem Ranges.quiesceExpired {c : Nat} {s : State} (hs : Ranges s) : Ranges (quiesceExpired c s) := by
  unfold Machine.quiesceExpired
  split
  · exact hs.updPool
  · exact hs

theorem Ranges.answerAged {c : Nat} {s : State} (hs : Ranges s) : Ranges (answerAged c s) := by
  have aged : Ranges (Machine.updCab c (fun r => { r with age := max r.age (min 65535 (fallbackTicks s)) }) s) :=
    hs.updCab fun _ ⟨misses, age⟩ => ⟨misses, Nat.max_le.2 ⟨age, Nat.min_le_left _ _⟩⟩
  unfold Machine.answerAged
  exact Ranges.ite (Ranges.ite aged aged.updCab.clearSent) hs

theorem Ranges.passCompleted {s : State} (hs : Ranges s) : Ranges (passCompleted s) := by
  unfold Machine.passCompleted
  split
  · exact hs
  · split
    · exact hs.completeWrites.endPass.boundary
    · exact hs

/-! ### The tick (log 1) -/

/-- The clock counts inside a minute (R79). -/
theorem Clock.InRange.count {c : Clock} (h : c.InRange) : c.count.InRange := by
  obtain ⟨minute, weekday, second, tick⟩ := h
  unfold Clock.count
  split
  · split
    · next ht => exact ⟨minute, weekday, second, ht⟩
    · split
      · next hsec => exact ⟨minute, weekday, hsec, Nat.zero_le _⟩
      · exact ⟨minute, weekday, second, tick⟩
  · exact ⟨minute, weekday, second, tick⟩

theorem Ranges.countTick {s : State} (hs : Ranges s) : Ranges (countTick s) where
  sli := by
    obtain ⟨_, drops, out⟩ := hs.sli
    refine ⟨?_, drops, out⟩
    dsimp only [Machine.countTick]
    split
    · exact Nat.zero_le _
    · exact Nat.min_le_left _ _
  ylc := by
    obtain ⟨cabinets, fwdQ, cab⟩ := hs.ylc
    refine ⟨List.length_map _ |>.trans cabinets, fwdQ, fun c hc => ?_⟩
    obtain ⟨d, hd, rfl⟩ := List.mem_map.1 hc
    exact ⟨(cab d hd).1, Nat.min_le_left _ _⟩
  frt := hs.frt
  sbu := by
    obtain ⟨age, breach⟩ := hs.sbu
    refine ⟨?_, breach⟩
    dsimp only [Machine.countTick]
    split
    · exact age
    · exact Nat.min_le_left _ _
  clock := hs.clock.count
  tiers := hs.tiers

theorem Ranges.fire {e : TimerEvent} {s : State} (hs : Ranges s) : Ranges (e.fire s) := by
  cases e
  case silence => exact hs.silenceExpired
  case round => exact hs.roundExpired
  case meterStale => exact hs.meterStaled
  case meterFallback => exact hs.meterFellBack
  case minute => exact hs.minutePassed
  case pass => exact hs.passTimerExpired
  case armedStart => exact hs.armedCounted
  case dispatchExpiry => exact hs.dispatchRanOut
  case quiesce => exact hs.quiesceExpired
  case answerAge => exact hs.answerAged
  case restart => exact hs.partRestart

theorem Ranges.carryOut {e : TimerEvent} {s : State} (hs : Ranges s) : Ranges (carryOut e s) := Ranges.ite hs.fire hs

theorem Ranges.runEvents {l : List TimerEvent} {s : State} (hs : Ranges s) : Ranges (runEvents l s) := by
  obtain ⟨order, -, h⟩ := runEvents_order l s
  rw [h]
  exact Ranges.foldl (Ranges.ite hs hs.countFree) fun h => h.carryOut

theorem Ranges.closeTick {s : State} (hs : Ranges s) : Ranges (closeTick s) := by
  unfold Machine.closeTick
  split
  · exact hs.reportOverflow.trySend
  · exact hs

theorem Ranges.tick {s : State} (hs : Ranges s) : Ranges (tick s) := hs.closeTick.countTick.runEvents.finish

/-! ### Every command -/

theorem ranges_live {f : State → State} (hf : ∀ {s}, Ranges s → Ranges (f s)) {s t : State} (hs : Ranges s)
    (h : live f s = .next t) : Ranges t := by
  cases h
  exact Ranges.ite (hf hs).finish hs

theorem ranges_onSite {f : State → State} (hf : ∀ {s}, Ranges s → Ranges (f s)) {s t : State} (hs : Ranges s)
    (h : onSite f s = .next t) : Ranges t := ranges_live (fun h => h.siteFramed.siteHandled hf) hs h

theorem ranges_onYard {f : State → State} (hf : ∀ {s}, Ranges s → Ranges (f s)) {s t : State} (hs : Ranges s)
    (h : onYard f s = .next t) : Ranges t := ranges_live (fun h => hf h.yardFramed) hs h

/-- Every command keeps the ranges. -/
theorem ranges_exec (i : Instr) (s t : State) (hs : Ranges s) (h : exec i s = .next t) : Ranges t := by
  cases i
  case powerOn => cases h; exact ranges_powerUp s
  case supplyFailure => cases h; exact ranges_powerDown s
  case endOfStarting => exact ranges_live Ranges.endLoading hs h
  case partRestart => exact ranges_live Ranges.partRestart hs h
  case framerDiscard l bytes =>
    cases l
    · exact ranges_live Ranges.siteBytes hs h
    · exact ranges_live Ranges.yardBytes hs h
  case siteTelegramDiscarded => exact ranges_onSite id hs h
  case meter => exact ranges_onSite Ranges.takeMeter hs h
  case time => exact ranges_onSite Ranges.takeTime hs h
  case dispatch => exact ranges_onSite Ranges.takeDispatch hs h
  case cancel => exact ranges_onSite Ranges.takeCancel hs h
  case passThrough => exact ranges_onSite Ranges.takePassThrough hs h
  case setreq => exact ranges_onSite Ranges.takeSetreq hs h
  case siteSendDone => exact ranges_live Ranges.sendDone hs h
  case silenceTimeout => exact ranges_live Ranges.silenceExpired hs h
  case roundTimerExpiry => exact ranges_live Ranges.roundExpired hs h
  case yardStatus => exact ranges_onYard Ranges.replyStatus hs h
  case exchangeWait => exact ranges_onYard Ranges.replyWait hs h
  case waitHoldOffExpiry => exact ranges_live Ranges.holdOffExpired hs h
  case replyTimeout => exact ranges_live Ranges.exchangeTimeout hs h
  case yardTelegramDiscarded => exact ranges_onYard id hs h
  case curtailSent => exact ranges_live Ranges.curtailSendDone hs h
  case poolSent => exact ranges_live Ranges.poolSendDone hs h
  case poolAck => exact ranges_onYard Ranges.replyPoolAck hs h
  case poolWait => exact ranges_onYard Ranges.replyPoolWait hs h
  case poolReplyTimeout => exact ranges_live Ranges.poolTimeout hs h
  case quiesceTimeout => exact ranges_live Ranges.quiesceExpired hs h
  case forwardReply => exact ranges_onYard Ranges.replyForward hs h
  case forwardReplyTimeout => exact ranges_live Ranges.forwardTimeout hs h
  case forwardBroadcastSent => exact ranges_live Ranges.broadcastDone hs h
  case answerAgeFallback => exact ranges_live Ranges.answerAged hs h
  case meterStale => exact ranges_live Ranges.meterStaled hs h
  case meterFallback => exact ranges_live Ranges.meterFellBack hs h
  case minuteAdvance => exact ranges_live Ranges.minutePassed hs h
  case passTimerExpiry => exact ranges_live Ranges.passTimerExpired hs h
  case passCompletion => exact ranges_live Ranges.passCompleted hs h
  case armedStart => exact ranges_live Ranges.armedCounted hs h
  case dispatchExpiry => exact ranges_live Ranges.dispatchRanOut hs h
  case storeWriteDone => exact ranges_live Ranges.endWrite hs h
  case storeWriteFault => exact ranges_live Ranges.endWrite hs h
  all_goals exact ranges_onSite Ranges.takeMgmt hs h

/-- Every step keeps the ranges: a command's, or the tick's. -/
theorem ranges_step (s t : State) (hs : Ranges s) (h : step s = .next t) : Ranges t := by
  unfold step at h
  split at h
  · cases h
    exact Ranges.ite hs.tick hs
  · next c rest _ => exact ranges_exec c { s with pending := rest } t { hs with } h

/-! ### The obligations -/

/-- Settles O59: reset is a power-on (log 6). -/
theorem resetIsInRange : Obligations.ResetIsInRange := (ranges_iff _).1 (ranges_afterPowerOn _ _ _ _)

/-- Settles O60: one lemma for each operation, by the blocks it changes. -/
theorem stepKeepsTheRanges : Obligations.StepKeepsTheRanges := fun s t hs h =>
  (ranges_iff t).1 (ranges_step s t ((ranges_iff s).2 hs) h)

end Sys2Proof.Machine
end

section
/-! The step, the supply and the arrival of a site telegram: what every command answers, the tick, the power-on values, and the
site telegrams that need no more than their own rule (O1 to O7, O14 to O17, O28). -/

namespace Sys2Proof.Machine

/-! ### A step -/

/-- Settles O1. -/
theorem frontCommandRuns : Obligations.FrontCommandRuns := fun _ _ _ => rfl

/-- Settles O2: a step on an empty queue is `tick`, by the definition of `step`. -/
theorem emptyQueueIsOneTick : Obligations.EmptyQueueIsOneTick := by
  intro s h
  simp only [step, h]

/-! ### What every command answers -/

theorem live_off (f : State → State) (s : State) (h : s.power = false) : live f s = .next s := by simp [live, h]

theorem onSite_off (f : State → State) (s : State) (h : s.power = false) : onSite f s = .next s := live_off _ s h

theorem onYard_off (f : State → State) (s : State) (h : s.power = false) : onYard f s = .next s := live_off _ s h

theorem onMgmt_off (src seq op : Byte) (access fields : List Byte) (s : State) (h : s.power = false) :
    onMgmt src seq op access fields s = .next s := onSite_off _ s h

theorem live_on (f : State → State) (s : State) (h : s.power = true) : live f s = .next (finish (f s)) := by simp [live, h]

/-- Settles O4: every command but POWER_ON and SUPPLY_FAILURE is `live`. -/
theorem nothingActsWithoutSupply : Obligations.NothingActsWithoutSupply := by
  intro c s h on off
  cases c with
  | powerOn => exact absurd rfl on
  | supplyFailure => exact absurd rfl off
  | siteTelegramDiscarded | meter | time | dispatch | cancel | passThrough | setreq => exact onSite_off _ s h
  | yardStatus | exchangeWait | yardTelegramDiscarded | poolAck | poolWait | forwardReply => exact onYard_off _ s h
  | stage | commit | discard | read | status | lock | release | setCode | clearStatus | withdraw | returnBus | substitute | season
  | restart | mgmtUnknownOp => exact onMgmt_off _ _ _ _ _ s h
  | _ => exact live_off _ s h

theorem firm_pending {s t : State} (h : firm t = firm s) : t.pending = s.pending := congrArg (fun x => x.2.1) h

theorem still_pending {s t : State} (h : still t = still s) : t.pending = s.pending := congrArg (fun x => x.2.1) h

/-- A command that is `live` leaves the queue where its effect does. -/
theorem live_pending (f : State → State) (s : State) (h : (f s).pending = s.pending) :
    ∃ t, live f s = .next t ∧ t.pending = s.pending := by
  refine ⟨_, rfl, ?_⟩
  split
  · exact (still_pending (still_finish (f s))).trans h
  · rfl

theorem onSite_pending (f : State → State) (s : State) (h : ∀ u, (f u).pending = u.pending) :
    ∃ t, onSite f s = .next t ∧ t.pending = s.pending := by
  apply live_pending
  calc (siteHandled f (siteFramed s)).pending
      = (f (siteArrived (siteFramed s))).pending := still_pending (still_siteLeft _ _)
    _ = (siteArrived (siteFramed s)).pending := h _
    _ = s.pending := still_pending (still_siteArrived (siteFramed s))

theorem onYard_pending (f : State → State) (s : State) (h : ∀ u, (f u).pending = u.pending) :
    ∃ t, onYard f s = .next t ∧ t.pending = s.pending :=
  live_pending _ s (h (yardFramed s))

theorem onMgmt_pending (src seq op : Byte) (access fields : List Byte) (s : State) :
    ∃ t, onMgmt src seq op access fields s = .next t ∧ t.pending = s.pending :=
  onSite_pending _ s fun _ => still_pending (still_takeMgmt src seq op access fields _)

theorem restartBlocks_pending (s : State) : (restartBlocks s).pending = s.pending := by
  unfold restartBlocks
  dsimp only
  rw [still_pending (still_buildStorage _)]
  rfl

/-- A RESTART changes the clock and the tables, and leaves the queue. -/
theorem partRestart_pending (s : State) : (partRestart s).pending = s.pending := by
  unfold partRestart
  split
  · calc (endStarting (applyWaiting (restartBlocks s))).pending
        = (applyWaiting (restartBlocks s)).pending := still_pending (still_endStarting _)
      _ = (restartBlocks s).pending := still_pending (still_applyWaiting _)
      _ = s.pending := restartBlocks_pending s
  · rfl

/-- Settles O3: no operation of the part touches the queue of commands. -/
theorem everyCommandAnswersAndLeavesTheQueue : Obligations.EveryCommandAnswersAndLeavesTheQueue := by
  intro c s
  cases c with
  | powerOn => exact ⟨_, rfl, rfl⟩
  | supplyFailure => exact ⟨_, rfl, rfl⟩
  | framerDiscard link bytes =>
    cases link with
    | site => exact live_pending _ s (firm_pending (firm_siteBytes _ _))
    | yard => exact live_pending _ s (still_pending (still_yardBytes _ _))
  | siteTelegramDiscarded t => exact onSite_pending id s fun _ => rfl
  | meter src seq l => exact onSite_pending _ s fun _ => still_pending (still_takeMeter _ _)
  | time src seq l => exact onSite_pending _ s fun _ => firm_pending (firm_takeTime _ _)
  | dispatch src seq l => exact onSite_pending _ s fun _ => still_pending (still_takeDispatch _ _ _ _)
  | cancel src seq l => exact onSite_pending _ s fun _ => still_pending (still_takeCancel _ _)
  | passThrough t => exact onSite_pending _ s fun _ => still_pending (still_takePassThrough _ _)
  | setreq dst src seq l => exact onSite_pending _ s fun _ => still_pending (still_takeSetreq _ _ _ _ _)
  | yardStatus src seq l => exact onYard_pending _ s fun _ => still_pending (still_replyStatus _ _ _)
  | exchangeWait src seq l => exact onYard_pending _ s fun _ => still_pending (still_replyWait _ _ _)
  | yardTelegramDiscarded t => exact onYard_pending id s fun _ => rfl
  | poolAck src seq l => exact onYard_pending _ s fun _ => still_pending (still_replyPoolAck _ _ _)
  | poolWait src seq l => exact onYard_pending _ s fun _ => still_pending (still_replyPoolWait _ _ _)
  | forwardReply t => exact onYard_pending _ s fun _ => still_pending (still_replyForward _ _)
  | endOfStarting => exact live_pending _ s (still_pending (still_endLoading s))
  | partRestart => exact live_pending _ s (partRestart_pending s)
  | siteSendDone => exact live_pending _ s (still_pending (still_sendDone s))
  | silenceTimeout => exact live_pending _ s (still_pending (still_silenceExpired s))
  | roundTimerExpiry => exact live_pending _ s (still_pending (still_roundExpired s))
  | waitHoldOffExpiry => exact live_pending _ s (still_pending (still_holdOffExpired s))
  | replyTimeout => exact live_pending _ s (still_pending (still_exchangeTimeout s))
  | curtailSent => exact live_pending _ s (still_pending (still_curtailSendDone s))
  | poolSent => exact live_pending _ s (still_pending (still_poolSendDone s))
  | poolReplyTimeout => exact live_pending _ s (still_pending (still_poolTimeout s))
  | quiesceTimeout c => exact live_pending _ s (still_pending (still_quiesceExpired c s))
  | forwardReplyTimeout => exact live_pending _ s (still_pending (still_forwardTimeout s))
  | forwardBroadcastSent => exact live_pending _ s (still_pending (still_broadcastDone s))
  | answerAgeFallback c => exact live_pending _ s (still_pending (still_answerAged c s))
  | meterStale => exact live_pending _ s (still_pending (still_meterStaled s))
  | meterFallback => exact live_pending _ s (still_pending (still_meterFellBack s))
  | minuteAdvance => exact live_pending _ s (firm_pending (firm_minutePassed s))
  | passTimerExpiry => exact live_pending _ s (still_pending (still_passTimerExpired s))
  | passCompletion => exact live_pending _ s (still_pending (still_passCompleted s))
  | armedStart => exact live_pending _ s (still_pending (still_armedCounted s))
  | dispatchExpiry => exact live_pending _ s (still_pending (still_dispatchRanOut s))
  | storeWriteDone => exact live_pending _ s (still_pending (still_endWrite true s))
  | storeWriteFault => exact live_pending _ s (still_pending (still_endWrite false s))
  | _ => exact onMgmt_pending _ _ _ _ _ s

/-! ### A tick -/

/-- In STARTING, and while the yard link carries a transaction, the arbiter does nothing (R29, R46). -/
theorem finish_of_linkShut (s : State) (h : s.tsm.op = .starting ∨ s.ylc.link ≠ .free) : finish s = s := by
  have shut : linkOpen s = false := by rcases h with h | h <;> simp [linkOpen, h]
  simp [finish, settleLink, shut]

/-- The count of a clock: what it does to a clock that is not set, and to one that is. -/
theorem Clock.count_eq (c : Clock) : c.count =
    if c.set = false then c
    else if c.tick < 9 then { c with tick := c.tick + 1 }
    else if c.second < 59 then { c with second := c.second + 1, tick := 0 }
    else c := by
  unfold Clock.count
  cases c.set <;> rfl

/-- The count after the close of the last tick, block by block: SLI's from the close, every other from the state before it. -/
theorem counted_eq (s : State) :
    countTick (closeTick s) =
      { s with
        sli := { (if s.sli.overflow = true ∧ s.sli.out.length < 32 then
            trySend { s with sli := { s.sli with
              out := s.sli.out ++ [⟨105, .notice (.outOverflow s.sli.dropCount) (clockReading s)⟩]
              overflow := false, dropCount := 0 } }
          else s).sli with silence := if s.tsm.op = .starting then 0 else min 600 (s.sli.silence + 1) }
        ylc := { s.ylc with
          cabinets := s.ylc.cabinets.map Cabinet.tick, roundTimer := s.ylc.roundTimer.map (fun n => min 65535 (n + 1)) }
        frt := { s.frt with buses := s.frt.buses.map (fun b => { b with held := b.held.map Held.tick }) }
        sbu := { s.sbu with age := if s.tsm.op = .starting then s.sbu.age else min 65535 (s.sbu.age + 1) }
        rdu := { s.rdu with clock :=
          if s.rdu.clock.set = false then s.rdu.clock
          else if s.rdu.clock.tick < 9 then { s.rdu.clock with tick := s.rdu.clock.tick + 1 }
          else if s.rdu.clock.second < 59 then { s.rdu.clock with second := s.rdu.clock.second + 1, tick := 0 }
          else s.rdu.clock }
        ale := { s.ale with timer := s.ale.timer.map (fun n => min 65535 (n + 1)) }
        rsu := { s.rsu with
          active := s.rsu.active.map Dispatch.tick
          armed := s.rsu.armed.map (fun d => { d with countdown := d.countdown - 1 }) } } := by
  obtain ⟨i, hi, hsilence, -⟩ := closeTick_sli s
  rw [← closeTick_eq, ← Clock.count_eq, hi]
  simp only [countTick, decide_eq_true_eq, hsilence]
  rfl

/-- Settles O5: when each timer is due, what an event's command does, and the tick. -/
theorem ticksCountAndCarryOut : Obligations.TicksCountAndCarryOut := by
  refine ⟨fun s c => ⟨due_silence s, due_round s, due_meterStale s, due_meterFallback s, due_minute s, due_pass s,
    due_armedStart s, due_dispatchExpiry s, due_quiesce c s, due_answerAge c s, due_restart s⟩,
    fun e s h => exec_command e s h, fun s hp hq => ?_⟩
  intro starting count told c counted falls
  have hc : counted = countTick (closeTick s) := (counted_eq s).symm
  have hf : falls = FallsDue s (countTick (closeTick s)) := congrArg (FallsDue s) hc
  rw [hf, hc]
  obtain ⟨i, hi, -, -⟩ := closeTick_sli s
  refine ⟨?_, fun e h hu => step_tick_one s hp hq e h hu, fun h => ⟨step_tick_none s hp hq h, fun hl => ?_⟩⟩
  · obtain ⟨order, hn, hm, he⟩ := step_tick s hp hq
    refine ⟨order, hn, hm, ?_⟩
    have hfree : ({ countTick (closeTick s) with freeCount := s.freeCount + 1 } : State) = countFree (countTick (closeTick s)) := by
      rw [hi]; rfl
    rw [he, hfree]
    rfl
  · rw [step_tick_none s hp hq h, finish_of_linkShut]
    rw [hi]
    exact hl

/-! ### The supply -/

/-- Settles O6: the power-on values are what `State.afterPowerOn` writes out. -/
theorem powerOnValues : Obligations.PowerOnValues := by
  intro s
  refine ⟨powerUp s, rfl, rfl, rfl, rfl, rfl, rfl, rfl, rfl, rfl, rfl, rfl, rfl, rfl, rfl, rfl, rfl, ?_, ?_, ?_⟩
  · intro q hq
    rw [List.eq_of_mem_replicate hq]
    exact ⟨rfl, rfl, rfl, rfl, rfl, rfl, rfl, rfl, rfl, rfl⟩
  · intro c hc
    rw [List.eq_of_mem_replicate hc]
    exact ⟨rfl, rfl, rfl, rfl, rfl, rfl, rfl, rfl, rfl⟩
  · refine ⟨rfl, rfl, rfl, rfl, rfl, rfl, rfl, rfl, rfl, rfl, rfl, rfl, rfl, rfl, rfl, rfl, rfl, rfl, rfl, rfl, rfl, ?_, rfl, rfl, rfl,
      rfl, rfl, rfl, rfl, rfl, rfl, rfl, rfl, rfl, rfl, rfl, rfl, rfl, rfl, rfl, rfl⟩
    exact fun r hr => List.eq_of_mem_replicate hr

/-- Settles O7. -/
theorem supplyFailureStopsEverything : Obligations.SupplyFailureStopsEverything :=
  fun s => ⟨powerDown s, rfl, rfl, rfl, rfl, rfl, rfl, rfl, rfl, rfl, rfl, rfl, rfl⟩

end Sys2Proof.Machine
end

section
/-! The arrival of a site telegram, the site telegrams that are discarded, METER, a rejected TIME, answers, the end of a sending and
the first start (O9, O14 to O17, O19, O28). -/

namespace Sys2Proof.Machine

/-! ### Arrival and return (R171, R183, R184) -/

/-- Site return outside ISLAND changes the record of the silence alone. -/
theorem siteReturn_of_not_island (s : State) (h : s.tsm.op ≠ .island) :
    siteReturn s = { s with tsm := { s.tsm with silenceStanding := false } } := if_neg h

/-- Site return in ISLAND moves to COORDINATING and opens sending. -/
theorem siteReturn_of_island (s : State) (h : s.tsm.op = .island) :
    siteReturn s = trySend { s with tsm := { s.tsm with silenceStanding := false, op := .coordinating } } := if_pos h

/-- Settles O14: by the silent mark, and with it set by the operating state. -/
theorem arrivalRestartsSilence : Obligations.ArrivalRestartsSilence := by
  intro s u
  refine ⟨fun hm => ?_, fun hm hop => ?_, fun hm hop => ?_⟩
  · have stays : endsIsland s = false := by simp [endsIsland, hm]
    refine ⟨?_, congrArg finish (siteLeft_of_stays s u stays)⟩
    simp [heard, siteArrived, siteFramed, modSli, endsIsland, hm]
  · have stays : endsIsland s = false := by simp [endsIsland, hop]
    refine ⟨?_, congrArg finish (siteLeft_of_stays s u stays)⟩
    have framed : endsIsland (siteFramed s) = false := stays
    have came : heard s = siteReturn (modSli (fun i => { i with silence := 0, silentMark := false }) (siteFramed s)) := by
      simp [heard, siteArrived, framed, exitWaits, hm]
    exact came.trans (siteReturn_of_not_island _ hop)
  · intro came left first
    have ends : endsIsland s = true := by simp [endsIsland, hm, hop]
    have framed : endsIsland (siteFramed s) = true := ends
    have hwaits : exitWaits s = !first := by simp [exitWaits, ends, first]
    have harr : heard s = if first then siteReturn came else came := by
      unfold heard siteArrived
      rw [exitWaits_siteFramed, hwaits, framed]
      simp [siteFramed, modSli, hm, came]
    have hleft : siteLeft s u = if first then u else siteReturn u := by
      unfold siteLeft
      rw [hwaits]
      cases first <;> rfl
    refine ⟨?_, ?_⟩
    · rw [harr, siteReturn_of_island came hop]
    · unfold concluded
      rw [hleft]
      by_cases hu : u.tsm.op = .island
      · rw [siteReturn_of_island u hu, if_pos hu]
      · rw [siteReturn_of_not_island u hu, if_neg hu]

/-! ### Site telegrams that are discarded (R61, R80, R137, R150, R171, R175) -/

theorem takeMeter_discarded (l : List Byte) (s : State) (h : l.length ≠ 6 ∨ s.tsm.op = .starting) : takeMeter l s = s := by
  unfold takeMeter parseMeter
  by_cases hl : l.length = 6
  · simp [hl, h.resolve_left (not_not_intro hl)]
  · simp [hl]

theorem takeTime_discarded (l : List Byte) (s : State) (h : l.length ≠ 4 ∨ s.tsm.op = .starting) : takeTime l s = s := by
  unfold takeTime parseTime
  by_cases hl : l.length = 4
  · simp [hl, h.resolve_left (not_not_intro hl)]
  · simp [hl]

theorem takeDispatch_discarded (src seq : Byte) (l : List Byte) (s : State) (h : l.length ≠ 11 ∨ s.tsm.op = .starting) :
    takeDispatch src seq l s = s := by
  unfold takeDispatch parseDispatch
  by_cases hl : l.length = 11
  · simp [hl, h.resolve_left (not_not_intro hl)]
  · simp [hl]

theorem takeCancel_discarded (l : List Byte) (s : State) (h : l.length ≠ 4 ∨ s.tsm.op = .starting) : takeCancel l s = s := by
  unfold takeCancel parseCancel
  by_cases hl : l.length = 4
  · simp [hl, h.resolve_left (not_not_intro hl)]
  · simp [hl]

theorem takeSetreq_discarded (dst src seq : Byte) (l : List Byte) (s : State) (h : l.length ≠ 4 ∨ s.tsm.op = .starting) :
    takeSetreq dst src seq l s = s := by
  unfold takeSetreq parseSetreq
  by_cases hs : s.tsm.op = .starting
  · simp [hs]
  · simp [hs, h.resolve_right hs]

/-- Settles O15: a telegram whose handling is the identity leaves what its arrival made. -/
theorem siteTelegramsThatAreDiscarded : Obligations.SiteTelegramsThatAreDiscarded := by
  intro t dst src seq l s hp discarded starting
  have site (f : State → State) (hf : f (heard s) = heard s) : onSite f s = .next (concluded s (heard s)) := by
    rw [onSite_eq f s hp, hf]
  exact ⟨site id rfl,
    fun h => site _ (takeMeter_discarded l _ h),
    fun h => site _ (takeTime_discarded l _ h),
    fun h => site _ (takeDispatch_discarded src seq l _ h),
    fun h => site _ (takeCancel_discarded l _ h),
    fun h => site _ (takeSetreq_discarded dst src seq l _ h)⟩

/-! ### METER (R61, R71, R72) -/

/-- Settles O16: the values by `readMeter`, and the three outcomes of the judgement by the reading and the breach count. -/
theorem meterTaken : Obligations.MeterTaken := by
  intro src seq l s hp hl hop h imp r
  have taken : exec (.meter src seq l) s = .next (concluded s (judgeBreach r)) := by
    have hr : takeMeter l h = judgeBreach r := by
      unfold takeMeter parseMeter
      simp only [hl, if_true]
      rw [if_neg hop]
      congr 1
      cases hcap : flagAt (byteAt l 5) 1 <;> cases hamb : flagAt (byteAt l 5) 0 <;> simp [readMeter, modSbu, r, imp, hcap, hamb]
    exact (onSite_eq (takeMeter l) s hp).trans (by rw [← hr])
  have himp : r.sbu.imp.getD 0 = imp := rfl
  rw [taken]
  unfold judgeBreach
  rw [himp]
  refine ⟨fun hi => ?_, fun hi hb => ?_, fun hi hb => ?_⟩
  · rw [if_pos hi]; rfl
  · rw [if_neg (not_le.2 hi), if_pos hb]; rfl
  · rw [if_neg (not_le.2 hi), if_neg hb]; rfl

/-! ### TIME out of range (R80) -/

/-- Settles O17. -/
theorem timeOutOfRangeIsRejected : Obligations.TimeOutOfRangeIsRejected := by
  intro src seq l s hp hl hop hr
  refine (onSite_eq (takeTime l) s hp).trans ?_
  simp only [takeTime, parseTime, hl, if_true, if_neg hop, if_pos hr]

/-! ### Answers (R187) -/

/-- Settles O28. -/
theorem answersAreQueuedAndRecorded : Obligations.AnswersAreQueuedAndRecorded := by
  intro m r x s q
  refine ⟨fun h => ?_, fun h5 h9 => ⟨x.contentPart, ?_, ?_, ?_⟩⟩
  · exact if_pos h
  · exact if_neg (not_or.2 ⟨h5, h9⟩)
  · rintro row why rfl
    rfl
  · rintro rfl
    rfl

/-! ### The first start (R199, R40, R29) -/

/-- A CURTAIL that is wanted takes the open link, and the arbiter is done. -/
theorem finish_of_curtailReq (s : State) (hlink : linkOpen s = true) (hreq : s.ylc.curtailReq = true) :
    finish s = sendCurtail s := by
  have hpick : pick s = .curtail := by simp [pick, hreq]
  have hshut : linkOpen (sendCurtail s) = false := by simp [linkOpen, sendCurtail, takeLink]
  simp [finish, settleLink, hlink, hpick, giveLink, hshut]

/-- What the loading of a store never written leaves: SAFE, with the built-in settings, no pass, and a CURTAIL wanted. -/
theorem endLoading_reset :
    (endLoading State.reset).tsm.op = .safe ∧ (endLoading State.reset).ylc.curtailReq = true ∧
      (endLoading State.reset).ylc.link = .free ∧ (endLoading State.reset).ale.pass = .idle ∧
      (endLoading State.reset).tsm.settings = Settings.defaults := by decide +kernel

/-- Settles O9: the CURTAIL that the first start asks for is the first that the arbiter gives the link. -/
theorem firstStartIsSafe : Obligations.FirstStartIsSafe := by
  obtain ⟨hop, hreq, hfree, hpass, hset⟩ := endLoading_reset
  have hlink : linkOpen (endLoading State.reset) = true := by simp [linkOpen, hop, hfree]
  exact ⟨sendCurtail (endLoading State.reset), Config.yardSequence (endLoading State.reset).freeCount,
    (live_on endLoading State.reset rfl).trans (congrArg _ (finish_of_curtailReq _ hlink hreq)),
    hop, rfl, rfl, hpass, hset⟩

/-! ### The OUT_OVERFLOW notice (R181) -/

/-- The OUT_OVERFLOW notice that reports the drops counted in a state, with a clock reading. -/
def overflowNotice (s : State) (r : Option Reading) : OutMsg := ⟨105, .notice (.outOverflow s.sli.dropCount) r⟩

theorem noticeWaits_iff (s : State) : noticeWaits s = true ↔ s.sli.overflow = true ∧ s.sli.out.length < 32 := by
  rw [noticeWaits, Bool.and_eq_true, decide_eq_true_eq, outCapacity]

theorem outDropped_of_room {q : List OutMsg} (h : q.length < 32) : outDropped q = false :=
  Bool.eq_false_iff.2 fun hd => h.not_ge ((outDropped_iff q).1 hd).1

theorem clockReading_putOut (m : OutMsg) (s : State) : clockReading (putOut m s) = clockReading s := by
  simp [clockReading]

theorem reportOverflow_of_clear (s : State) (h : s.sli.overflow = false) : reportOverflow s = s := by
  simp [reportOverflow, h]

/-- Where the notice is not dropped it joins the queue, and marker and count clear. -/
theorem reportOverflow_joins (s : State) {q : List OutMsg} (h : s.sli.overflow = true) (hd : outDropped s.sli.out = false)
    (hq : joinQueue (overflowNotice s (clockReading s)) s.sli.out = q) :
    reportOverflow s = { s with sli := { s.sli with out := q, overflow := false, dropCount := 0 } } := by
  have hput := putOut_not_counted (m := overflowNotice s (clockReading s)) (s := s) (by simp [hd]) hq
  unfold reportOverflow
  rw [if_pos h, if_neg (by simp [hd])]
  exact congrArg (modSli fun i => { i with overflow := false, dropCount := 0 }) hput

theorem reportOverflow_room (s : State) (h : s.sli.overflow = true) (hroom : s.sli.out.length < 32) :
    reportOverflow s = { s with sli := { s.sli with
      out := s.sli.out ++ [⟨105, .notice (.outOverflow s.sli.dropCount) (clockReading s)⟩], overflow := false, dropCount := 0 } } :=
  reportOverflow_joins s h (outDropped_of_room hroom) (joinQueue_room rfl hroom)

/-- A notice that finds no place is itself dropped and counted. -/
theorem reportOverflow_dropped (s : State) (h : s.sli.overflow = true) (hd : outDropped s.sli.out = true) :
    reportOverflow s = countDrop s := by
  have hput := putOut_counted (m := overflowNotice s (clockReading s)) (s := s) rfl hd
  unfold reportOverflow
  rw [if_pos h, if_pos hd]
  exact hput

/-! ### The end of a sending (R181) -/

theorem trySend_of_nothing (s : State) (h : sendOpen s = false ∨ s.sli.out = []) : trySend s = s := by
  unfold trySend
  split
  · next ho =>
    rw [h.resolve_left (by simp_all)]
  · rfl

theorem trySend_head (s : State) (m : OutMsg) (rest : List OutMsg) (ho : sendOpen s = true) (ht : s.sli.tx = none)
    (hq : s.sli.out = m :: rest) : trySend s = placeFreed (noticeWaits s) (beginSend m rest s) := by
  simp [trySend, ho, ht, hq]

/-- Settles O19: the end of a sending by what waits behind it, and the place of the OUT_OVERFLOW notice. -/
theorem sendDoneBeginsTheNext : Obligations.SendDoneBeginsTheNext := by
  refine ⟨fun s hp htx => ?_, fun m s => ?_⟩
  · let idle : State := { s with sli := { s.sli with tx := none } }
    have hdone : exec .siteSendDone s = .next (finish (trySend idle)) :=
      (live_on sendDone s hp).trans (congrArg (fun u => Host.Outcome.next (finish u)) (if_pos htx))
    refine ⟨fun h => ?_, fun m rest hopen hq => ?_⟩
    · rw [hdone, trySend_of_nothing idle h]
    · intro sent told next
      have hsend : trySend idle = placeFreed (noticeWaits idle) { s with sli := sent } :=
        trySend_head idle m rest hopen rfl hq
      have hlen : s.sli.out.length = rest.length + 1 := by rw [hq]; rfl
      refine ⟨fun hov => ?_, fun hov hl => ?_, fun hov hl => ?_⟩
      · have hplace : trySend idle = { s with sli := sent } := by
          rw [hsend, placeFreed, if_neg (by simp [sent, hov])]
          exact reportOverflow_of_clear _ hov
        exact hdone.trans (by rw [hplace])
      · have hwaits : noticeWaits idle = true := (noticeWaits_iff idle).2 ⟨hov, by show s.sli.out.length < 32; omega⟩
        have hplace : trySend idle = { s with sli := told } := by
          rw [hsend, placeFreed, if_neg (by simp [hwaits])]
          exact reportOverflow_room _ hov (Nat.lt_succ_of_lt hl)
        exact hdone.trans (by rw [hplace])
      · have hwaits : noticeWaits idle = false := Bool.eq_false_iff.2 fun hw => by
          have room : s.sli.out.length < 32 := ((noticeWaits_iff idle).1 hw).2
          omega
        have hplace : trySend idle = { s with sli :=
            { (if Config.noticeFirst s.sli.orderCount then told else sent) with orderCount := s.sli.orderCount + 1 } } := by
          rw [hsend, placeFreed, if_pos (by simp [hwaits, sent, hov])]
          by_cases hfirst : Config.noticeFirst s.sli.orderCount = true
          · refine (if_pos hfirst).trans ?_
            rw [if_pos hfirst]
            exact reportOverflow_room _ hov (by show rest.length < 32; omega)
          · refine (if_neg hfirst).trans ?_
            rw [if_neg hfirst]
            rfl
        exact hdone.trans (by rw [hplace])
  · intro p told
    have hread : clockReading p = clockReading s := clockReading_putOut m s
    refine ⟨fun h => ?_, fun hov hl => ?_⟩
    · have hwaits : noticeWaits s = false := Bool.eq_false_iff.2 fun hw => by
        obtain ⟨hov, hl⟩ := (noticeWaits_iff s).1 hw
        exact h.elim (fun hc => Bool.noConfusion (hc.symm.trans hov)) (fun hfull => hl.not_ge hfull)
      simp [queueOut, reportWaiting, hwaits, p]
    · have hwaits : noticeWaits s = true := (noticeWaits_iff s).2 ⟨hov, hl⟩
      have hput : p = { s with sli := { s.sli with out := joinQueue m s.sli.out } } :=
        putOut_not_counted (by simp [outDropped_of_room hl]) rfl
      have hmark : p.sli.overflow = true := by rw [hput]; exact hov
      have hqueue : queueOut m s = trySend (reportOverflow p) := by simp [queueOut, reportWaiting, hwaits, p]
      rw [hqueue]
      refine ⟨fun hr => ?_, fun hfull hfwd => ?_, fun hfull hfwd hready => ?_, fun hfull hfwd hready => ?_⟩
      · rw [reportOverflow_room p hmark hr, hread]
      · have hkept : outDropped p.sli.out = false := by simp [outDropped, hfwd]
        rw [reportOverflow_joins p hmark hkept (joinQueue_removes_statusFwd rfl hfull hfwd), hread]
        rfl
      · have hkept : outDropped p.sli.out = false := by simp [outDropped, hready]
        rw [reportOverflow_joins p hmark hkept (joinQueue_removes_readiness rfl hfull hfwd hready), hread]
        rfl
      · rw [reportOverflow_dropped p hmark ((outDropped_iff _).2 ⟨hfull, hfwd, hready⟩)]
        rfl

end Sys2Proof.Machine
end

section
/-! Management (10_table_store_and_management.md): the tests before an operation's own rule, and each operation served
(O27, O29 to O35). -/

namespace Sys2Proof.Machine

/-! ### The tests before an operation's own rule (R187) -/

theorem accessPasses_iff (s : State) (access : List Byte) : accessPasses s access = true ↔ Admitted s access := by
  rw [accessPasses, Bool.or_eq_true, decide_eq_true_eq, decide_eq_true_eq]

theorem exec_ite {p : Prop} [Decidable p] {a b : Instr} {s : State} {x : Host.Outcome State Fault Refusal}
    (ha : p → exec a s = x) (hb : ¬ p → exec b s = x) : exec (if p then a else b) s = x := by
  by_cases h : p
  · rw [if_pos h]; exact ha h
  · rw [if_neg h]; exact hb h

/-- A MGMT of any operation code is taken by TSM, as its code says. -/
theorem exec_mgmtInstr (op src seq : Byte) (access fields : List Byte) (s : State) (hp : s.power = true) :
    exec (mgmtInstr op src seq access fields) s = .next (concluded s (takeMgmt src seq op access fields (heard s))) := by
  have taken : exec (mgmtInstr op src seq access fields) s = onMgmt src seq op access fields s := by
    unfold mgmtInstr
    iterate 14 refine exec_ite (fun h => by rw [h]; rfl) fun _ => ?_
    rfl
  rw [taken]
  exact onSite_eq _ s hp

section
variable {op src seq : Byte} {access fields : List Byte} {s : State}

/-- A MGMT that the early tests end is answered without details. -/
theorem takeMgmt_early {r : MgmtResult} (h : earlyResult s op access (knownOp op) (fieldsFit op fields) = some r) :
    takeMgmt src seq op access fields s = answer ⟨src, seq, op⟩ r .none s := by
  simp only [takeMgmt, judgeMgmt, h]

theorem earlyResult_access (h : ¬ Admitted s access) (known fits : Bool) : earlyResult s op access known fits = some .access := by
  have hf : accessPasses s access = false := Bool.eq_false_iff.2 fun hp => h ((accessPasses_iff s access).1 hp)
  simp [earlyResult, hf]

theorem earlyResult_admitted (h : Admitted s access) (known fits : Bool) :
    earlyResult s op access known fits =
      if known = false then some .unknownOp
      else if fits = false then some .range
      else if s.tsm.op = .starting ∧ op ≠ opStatus then some .busy
      else none := by
  have hp : accessPasses s access = true := (accessPasses_iff s access).2 h
  simp [earlyResult, hp]

/-- A MGMT that passes the early tests reaches its operation's own rule. -/
theorem takeMgmt_served (ha : Admitted s access) (hk : knownOp op = true) (hf : fieldsFit op fields = true)
    (hop : s.tsm.op ≠ .starting ∨ op = opStatus) :
    takeMgmt src seq op access fields s = serveOp ⟨src, seq, op⟩ fields s := by
  have hbusy : ¬ (s.tsm.op = .starting ∧ op ≠ opStatus) := fun h => h.2 (hop.resolve_left (not_not_intro h.1))
  simp only [takeMgmt, judgeMgmt, earlyResult_admitted ha, hk, hf, if_neg hbusy, Bool.true_eq_false, if_false]

end

/-- Settles O27: the early tests in their order, and the lengths of `fieldsFit`. -/
theorem managementTests : Obligations.ManagementTests := by
  intro op src seq access fields s hp h ended
  have early (r : MgmtResult) (hr : earlyResult h op access (knownOp op) (fieldsFit op fields) = some r) : ended r := by
    have := exec_mgmtInstr op src seq access fields s hp
    rwa [takeMgmt_early hr] at this
  have known (hk : 1 ≤ op.toNat ∧ op.toNat ≤ 14) : knownOp op = true := decide_eq_true hk
  refine ⟨fun ha => ?_, fun ha hk => ?_, fun ha hk hf => ?_, fun ha hk hf hs hop => ?_, ?_, ?_, ?_, ?_, ?_, ?_, ?_⟩
  · exact early _ (earlyResult_access ha _ _)
  · exact early _ (by simp [earlyResult_admitted ha, knownOp, hk])
  · exact early _ (by simp [earlyResult_admitted ha, known hk, hf])
  · have hs' : h.tsm.op = .starting ∧ op ≠ opStatus := ⟨hs, hop⟩
    exact early _ (by simp [earlyResult_admitted ha, known hk, hf, hs'])
  · rintro (rfl | rfl | rfl) <;> exact (List.isEmpty_iff.trans List.length_eq_zero_iff.symm)
  · rintro (rfl | rfl | rfl) <;> exact decide_eq_true_iff
  · rintro (rfl | rfl | rfl) <;> exact decide_eq_true_iff
  · rintro rfl; exact decide_eq_true_iff
  · rintro (rfl | rfl) <;> exact decide_eq_true_iff
  · rintro rfl; exact decide_eq_true_iff
  · rintro g rfl hg
    simp [fieldsFit, opStage, hg]

/-! ### An operation served -/

section
variable {src seq : Byte} {access fields : List Byte} {s : State} (hs : Served s access)
include hs

/-- A served MGMT ends as its operation's rule leaves the part. -/
theorem onMgmt_served {op : Byte} (hk : knownOp op = true) (hf : fieldsFit op fields = true) :
    onMgmt src seq op access fields s = .next (concluded s (serveOp ⟨src, seq, op⟩ fields (heard s))) := by
  obtain ⟨hp, ha, hop⟩ := hs
  rw [← takeMgmt_served ha hk hf (Or.inl hop)]
  exact onSite_eq _ s hp

theorem exec_stage (hf : fieldsFit opStage fields = true) :
    exec (.stage src seq access fields) s = .next (concluded s (serveStage ⟨src, seq, 1⟩ fields (heard s))) :=
  onMgmt_served hs rfl hf

theorem exec_commit (hf : fields.length = 4) :
    exec (.commit src seq access fields) s = .next (concluded s (serveCommit ⟨src, seq, 2⟩ fields (heard s))) :=
  onMgmt_served hs rfl (decide_eq_true hf)

theorem exec_discard : exec (.discard src seq access []) s = .next (concluded s (serveDiscard ⟨src, seq, 3⟩ (heard s))) :=
  onMgmt_served hs rfl rfl

theorem exec_read (hf : fields.length = 3) :
    exec (.read src seq access fields) s = .next (concluded s (serveRead ⟨src, seq, 4⟩ fields (heard s))) :=
  onMgmt_served hs rfl (decide_eq_true hf)

theorem exec_lock (hf : fields.length = 1) :
    exec (.lock src seq access fields) s = .next (concluded s (serveLock ⟨src, seq, 6⟩ fields (heard s))) :=
  onMgmt_served hs rfl (decide_eq_true hf)

theorem exec_release (hf : fields.length = 2) :
    exec (.release src seq access fields) s = .next (concluded s (serveRelease ⟨src, seq, 7⟩ fields (heard s))) :=
  onMgmt_served hs rfl (decide_eq_true hf)

theorem exec_setCode (hf : fields.length = 8) :
    exec (.setCode src seq access fields) s = .next (concluded s (serveSetCode ⟨src, seq, 8⟩ fields (heard s))) :=
  onMgmt_served hs rfl (decide_eq_true hf)

theorem exec_clearStatus :
    exec (.clearStatus src seq access []) s = .next (concluded s (serveClearStatus ⟨src, seq, 9⟩ (heard s))) :=
  onMgmt_served hs rfl rfl

theorem exec_withdraw (hf : fields.length = 2) :
    exec (.withdraw src seq access fields) s = .next (concluded s (serveWithdraw ⟨src, seq, 10⟩ fields (heard s))) :=
  onMgmt_served hs rfl (decide_eq_true hf)

theorem exec_returnBus (hf : fields.length = 2) :
    exec (.returnBus src seq access fields) s = .next (concluded s (serveReturn ⟨src, seq, 11⟩ fields (heard s))) :=
  onMgmt_served hs rfl (decide_eq_true hf)

theorem exec_substitute (hf : fields.length = 4) :
    exec (.substitute src seq access fields) s = .next (concluded s (serveSubstitute ⟨src, seq, 12⟩ fields (heard s))) :=
  onMgmt_served hs rfl (decide_eq_true hf)

theorem exec_season (hf : fields.length = 1) :
    exec (.season src seq access fields) s = .next (concluded s (serveSeason ⟨src, seq, 13⟩ fields (heard s))) :=
  onMgmt_served hs rfl (decide_eq_true hf)

theorem exec_restart (hf : fields.length = 1) :
    exec (.restart src seq access fields) s = .next (concluded s (serveRestart ⟨src, seq, 14⟩ fields (heard s))) :=
  onMgmt_served hs rfl (decide_eq_true hf)

end

/-- STATUS is served in STARTING too (R187). -/
theorem exec_status {src seq : Byte} {access : List Byte} {s : State} (hp : s.power = true) (ha : Admitted (heard s) access) :
    exec (.status src seq access []) s = .next (concluded s (serveStatus ⟨src, seq, 5⟩ (heard s))) := by
  have served := takeMgmt_served (src := src) (seq := seq) (op := opStatus) (fields := []) ha rfl rfl (Or.inr rfl)
  exact (onSite_eq _ s hp).trans (congrArg (fun u => Host.Outcome.next (concluded s u)) served)

/-- Two states that agree end a step alike. -/
theorem concluded_congr {s u v : State} (h : u = v) :
    Host.Outcome.next (concluded s u) = (Host.Outcome.next (concluded s v) : Host.Outcome State Fault Refusal) := by rw [h]

/-! ### LOCK, RELEASE, SET_CODE (R194, R195) -/

section
variable {m : MgmtHead} {f : List Byte} {u : State}

theorem serveLock_of_none (hg : segmentOfCode (byteAt f 0) = none) : serveLock m f u = answer m .range .none u := by
  simp only [serveLock, hg]

theorem serveLock_of_some {g : Segment} (hg : segmentOfCode (byteAt f 0) = some g) :
    serveLock m f u =
      if u.tsm.write.isSome ∨ u.tsm.waiting.any (fun a => a.seg = g) = true then answer m .busy .none u
      else beginWrite m (.lock g) u := by
  simp only [serveLock, hg]

theorem serveRelease_of_none (hg : segmentOfCode (byteAt f 0) = none) : serveRelease m f u = answer m .range .none u := by
  simp only [serveRelease, hg]

theorem serveRelease_of_some {g : Segment} (hg : segmentOfCode (byteAt f 0) = some g) :
    serveRelease m f u =
      if byteAt f 1 ≠ 0xA5 then answer m .sequence .none u
      else if u.tsm.write.isSome then answer m .busy .none u
      else beginWrite m (.release g) u := by
  simp only [serveRelease, hg]
  rfl

end

/-- Settles O32: the refusals in their order, and the write that begins. -/
theorem lockReleaseAndCode : Obligations.LockReleaseAndCode := by
  intro src seq access fields g s hs h
  refine ⟨fun hf hg => ⟨fun hb => ?_, fun hw ha => ?_⟩, fun hf hg => ?_, fun hf hg => ?_,
    fun hf hg => ⟨fun hc => ?_, fun hc hb => ?_, fun hc hw => ?_⟩, fun hf => ⟨fun hb => ?_, fun hw => ?_⟩⟩
  · have busy : h.tsm.write.isSome = true ∨ h.tsm.waiting.any (fun a => a.seg = g) = true := by simpa using hb
    exact (exec_lock hs hf).trans (concluded_congr ((serveLock_of_some hg).trans (if_pos busy)))
  · have idle : ¬ (h.tsm.write.isSome = true ∨ h.tsm.waiting.any (fun a => a.seg = g) = true) := by simpa [hw] using ha
    exact (exec_lock hs hf).trans (concluded_congr ((serveLock_of_some hg).trans (if_neg idle)))
  · exact (exec_lock hs hf).trans (concluded_congr (serveLock_of_none hg))
  · exact (exec_release hs hf).trans (concluded_congr (serveRelease_of_none hg))
  · exact (exec_release hs hf).trans (concluded_congr ((serveRelease_of_some hg).trans (if_pos hc)))
  · exact (exec_release hs hf).trans (concluded_congr
      ((serveRelease_of_some hg).trans ((if_neg (not_not_intro hc)).trans (if_pos hb))))
  · have idle : ¬ h.tsm.write.isSome = true := by simp [hw]
    exact (exec_release hs hf).trans (concluded_congr
      ((serveRelease_of_some hg).trans ((if_neg (not_not_intro hc)).trans (if_neg idle))))
  · exact (exec_setCode hs hf).trans (concluded_congr (if_pos hb))
  · have idle : ¬ h.tsm.write.isSome = true := by simp [hw]
    exact (exec_setCode hs hf).trans (concluded_congr (if_neg idle))

/-! ### SEASON and RESTART (R197, R198) -/

/-- Settles O35: the refusals in their order, the write of SETTINGS, and the RESTART that waits. -/
theorem seasonAndRestart : Obligations.SeasonAndRestart := by
  intro src seq access fields s hs hf h now
  refine ⟨fun hr => ?_, fun hr hl => ?_, fun hr hl hb => ?_, fun hr hl hw => ?_, fun hc => ?_, fun hc => ?_⟩
  · exact (exec_season hs hf).trans (concluded_congr (if_pos hr))
  · exact (exec_season hs hf).trans (concluded_congr ((if_neg (not_lt.2 hr)).trans (if_pos hl)))
  · have free : ¬ h.tsm.store.settings.lock = true := by simp [hl]
    exact (exec_season hs hf).trans (concluded_congr ((if_neg (not_lt.2 hr)).trans ((if_neg free).trans (if_pos hb))))
  · have free : ¬ h.tsm.store.settings.lock = true := by simp [hl]
    have idle : ¬ h.tsm.write.isSome = true := by simp [hw]
    refine (exec_season hs hf).trans (concluded_congr ((if_neg (not_lt.2 hr)).trans ((if_neg free).trans ((if_neg idle).trans ?_))))
    rw [← hl]
    rfl
  · exact (exec_restart hs hf).trans (concluded_congr (if_pos hc))
  · exact (exec_restart hs hf).trans (concluded_congr (if_neg (not_not_intro hc)))

/-! ### WITHDRAW and RETURN (R6) -/

/-- A change of an occupied slot sets it. -/
theorem updBus_eq_set {s : State} {k : Nat} {b : Bus} (hk : busAt s k = some b) (f : Bus → Bus) :
    updBus k f s = { s with frt := { s.frt with buses := s.frt.buses.set k (f b) } } := by
  have hset : s.frt.buses.modify k f = s.frt.buses.set k (f b) := by
    rw [List.modify_eq_set_getElem?, show s.frt.buses[k]? = some b from hk]
    rfl
  rw [← hset]
  rfl

section
variable {m : MgmtHead} {f : List Byte} {u : State}

theorem serveWithdraw_of_none (hk : slotOf u (nat16At f 0) = none) : serveWithdraw m f u = answer m .range .none u := by
  simp only [serveWithdraw, hk]

theorem serveWithdraw_of_some {k : Nat} (hk : slotOf u (nat16At f 0) = some k) :
    serveWithdraw m f u = answer m .done .none (updBus k (fun b => { b with state := .withdrawn }) u) := by
  simp only [serveWithdraw, hk]

theorem serveReturn_of_none (hk : slotOf u (nat16At f 0) = none) : serveReturn m f u = answer m .range .none u := by
  simp only [serveReturn, hk]

theorem serveReturn_of_some {k : Nat} (hk : slotOf u (nat16At f 0) = some k) :
    serveReturn m f u = answer m .done .none (updBus k Bus.returned u) := by
  simp only [serveReturn, hk]

end

theorem Bus.returned_eq (b : Bus) :
    b.returned = { b with state := if b.state = .withdrawn then (if b.post.isSome then .plugged else .yard) else b.state } := by
  unfold Bus.returned
  split <;> rfl

/-- Settles O33. -/
theorem withdrawAndReturn : Obligations.WithdrawAndReturn := by
  intro src seq access fields s hs hf h
  refine ⟨fun hno => ⟨?_, ?_⟩, fun k b hk hb => ⟨?_, ?_⟩⟩
  · exact (exec_withdraw hs hf).trans (concluded_congr (serveWithdraw_of_none hno))
  · exact (exec_returnBus hs hf).trans (concluded_congr (serveReturn_of_none hno))
  · exact (exec_withdraw hs hf).trans (concluded_congr
      ((serveWithdraw_of_some hk).trans (congrArg (answer _ _ _) (updBus_eq_set hb _))))
  · rw [← Bus.returned_eq]
    exact (exec_returnBus hs hf).trans (concluded_congr
      ((serveReturn_of_some hk).trans (congrArg (answer _ _ _) (updBus_eq_set hb _))))

/-! ### READ, STATUS, CLEAR_STATUS (R196) -/

section
variable {m : MgmtHead} {f : List Byte} {u : State}

theorem serveRead_of_none (hg : segmentOfCode (byteAt f 0) = none) : serveRead m f u = answer m .range .none u := by
  simp only [serveRead, hg]

theorem serveRead_of_no_row {g : Segment} (hg : segmentOfCode (byteAt f 0) = some g)
    (hr : readRow u g (nat16At f 1) = none) : serveRead m f u = answer m .range .none u := by
  simp only [serveRead, hg, hr]

theorem serveRead_of_row {g : Segment} {r : Row} {d : Bool} (hg : segmentOfCode (byteAt f 0) = some g)
    (hr : readRow u g (nat16At f 1) = some (r, d)) :
    serveRead m f u = answer m .done (.read g (nat16At f 1) r d) u := by
  simp only [serveRead, hg, hr]

theorem readRow_active {g : Segment} {rows : List Row} (h : u.tsm.active.get g = some rows) (i : Nat) :
    readRow u g i = (rows[i]?).map (fun r => (r, false)) := by
  simp only [readRow, h]

theorem readRow_inactive {g : Segment} (h : u.tsm.active.get g = none) (i : Nat) :
    readRow u g i = if g = .settings ∧ i = 0 then some (.settings Settings.defaults, true) else none := by
  simp only [readRow, h]

end

/-- Settles O31. -/
theorem readStatusAndClear : Obligations.ReadStatusAndClear := by
  intro src seq access fields s h i
  refine ⟨fun g rows row hs hf hg ha hr => ?_, fun hs hf hg ha hi => ?_, fun g rows hs hf hg ha hi => ?_,
    fun g hs hf hg ha hi => ?_, fun hs hf hg => ?_, fun hp ha => ?_, fun hs => ?_⟩
  · have found : readRow h g i = some (row, false) := (readRow_active ha i).trans (by rw [hr]; rfl)
    exact (exec_read hs hf).trans (concluded_congr (serveRead_of_row hg found))
  · have seg : segmentOfCode (byteAt fields 0) = some .settings := by rw [hg]; rfl
    have found : readRow h .settings i = some (.settings Settings.defaults, true) :=
      (readRow_inactive (g := .settings) ha i).trans (if_pos ⟨rfl, hi⟩)
    rw [← hi]
    exact (exec_read hs hf).trans (concluded_congr (serveRead_of_row seg found))
  · have missing : readRow h g i = none := (readRow_active ha i).trans (by rw [List.getElem?_eq_none hi]; rfl)
    exact (exec_read hs hf).trans (concluded_congr (serveRead_of_no_row hg missing))
  · have missing : readRow h g i = none := (readRow_inactive ha i).trans (if_neg (by tauto))
    exact (exec_read hs hf).trans (concluded_congr (serveRead_of_no_row hg missing))
  · exact (exec_read hs hf).trans (concluded_congr (serveRead_of_none hg))
  · refine (exec_status hp ha).trans (concluded_congr (congrArg (fun r => answer _ _ (.status r) h) ?_))
    have reading : (clockReading h).map (fun r => (r.weekday, r.minute)) =
        if h.rdu.clock.set then some (h.rdu.clock.weekday, h.rdu.clock.minute) else none := by
      unfold clockReading
      split <;> rfl
    unfold statusRecord
    rw [reading]
  · exact exec_clearStatus hs

end Sys2Proof.Machine
end

section
/-! STAGE, DISCARD and COMMIT (R188 to R192): the staging area, the order of COMMIT's tests, and what the content check asks of
the rows of each segment (O29, O30). -/

namespace Sys2Proof.Machine

/-! ### The staging area (R188) -/

theorem mem_putRow {i : Nat} {r : Row} {l : List (Nat × Row)} (h : l.Pairwise (fun a b => a.1 < b.1)) (q : Nat × Row) :
    q ∈ putRow i r l ↔ q = (i, r) ∨ (q ∈ l ∧ q.1 ≠ i) := by
  induction l with
  | nil => simp [putRow]
  | cons x l ih =>
    obtain ⟨hx, hl⟩ := List.pairwise_cons.1 h
    unfold putRow
    split
    · next hlt =>
      have above : ∀ y ∈ x :: l, y.1 ≠ i := by
        intro y hy
        rcases List.mem_cons.1 hy with rfl | hy
        · omega
        · have := hx y hy; omega
      simp only [List.mem_cons (a := q) (b := (i, r))]
      exact or_congr_right ⟨fun hq => ⟨hq, above q hq⟩, And.left⟩
    · split
      · next heq =>
        have above : ∀ y ∈ l, y.1 ≠ i := fun y hy => by have := hx y hy; omega
        simp only [List.mem_cons (a := q)]
        constructor
        · rintro (rfl | hq)
          · exact Or.inl rfl
          · exact Or.inr ⟨Or.inr hq, above q hq⟩
        · rintro (rfl | ⟨rfl | hq, hne⟩)
          · exact Or.inl rfl
          · exact absurd heq.symm hne
          · exact Or.inr hq
      · next hne =>
        simp only [List.mem_cons (a := q), ih hl]
        constructor
        · rintro (rfl | rfl | ⟨hq, hi⟩)
          · exact Or.inr ⟨Or.inl rfl, fun h => hne h.symm⟩
          · exact Or.inl rfl
          · exact Or.inr ⟨Or.inr hq, hi⟩
        · rintro (rfl | ⟨rfl | hq, hi⟩)
          · exact Or.inr (Or.inl rfl)
          · exact Or.inl rfl
          · exact Or.inr (Or.inr ⟨hq, hi⟩)

theorem putRow_pairwise {i : Nat} {r : Row} {l : List (Nat × Row)} (h : l.Pairwise (fun a b => a.1 < b.1)) :
    (putRow i r l).Pairwise (fun a b => a.1 < b.1) := by
  induction l with
  | nil => simp [putRow]
  | cons x l ih =>
    obtain ⟨hx, hl⟩ := List.pairwise_cons.1 h
    unfold putRow
    split
    · next hlt =>
      refine List.pairwise_cons.2 ⟨fun y hy => ?_, h⟩
      rcases List.mem_cons.1 hy with rfl | hy
      · exact hlt
      · exact hlt.trans (hx y hy)
    · split
      · next heq => exact List.pairwise_cons.2 ⟨fun y hy => heq ▸ hx y hy, hl⟩
      · next hle hne =>
        refine List.pairwise_cons.2 ⟨fun y hy => ?_, ih hl⟩
        rcases (mem_putRow hl y).1 hy with rfl | ⟨hy, -⟩
        · show x.1 < i; omega
        · exact hx y hy

/-! ### STAGE and DISCARD (R188, R189) -/

section
variable {m : MgmtHead} {f : List Byte} {u : State}

theorem serveStage_of_none (h : parseStage f = none) : serveStage m f u = answer m .range (stagedDetails u) u := by
  simp only [serveStage, h]

theorem serveStage_refused {g : Segment} {i : Nat} {r : Row} {x : MgmtResult} (h : parseStage f = some (g, i, r))
    (hx : stageResult u g i = x) (hne : x ≠ .done) : serveStage m f u = answer m x (stagedDetails u) u := by
  simp only [serveStage, h, hx, if_neg hne]

theorem serveStage_done {g : Segment} {i : Nat} {r : Row} (h : parseStage f = some (g, i, r)) (hx : stageResult u g i = .done) :
    serveStage m f u = answer m .done (stagedDetails (stageRow g i r u)) (stageRow g i r u) := by
  simp only [serveStage, h, hx, if_true]

theorem parseStage_of_none (h : segmentOfCode (byteAt f 0) = none) : parseStage f = none := by
  simp only [parseStage, h]

theorem parseStage_of_row {g : Segment} {r : Row} (hg : segmentOfCode (byteAt f 0) = some g) (hl : 3 ≤ f.length)
    (hr : parseRow g (f.drop 3) = some r) : parseStage f = some (g, nat16At f 1, r) := by
  simp only [parseStage, hg, if_neg (Nat.not_lt.2 hl), hr, Option.map_some]

/-- Where the segment has no lock and no other segment is staged, the index decides. -/
theorem stageResult_of_open {g : Segment} {i : Nat} (hl : (u.tsm.store.get g).lock = false)
    (hs : u.tsm.staged = none ∨ u.tsm.staged = some g) : stageResult u g i = if g.capacity ≤ i then .range else .done := by
  have free : ¬ (u.tsm.store.get g).lock = true := by simp [hl]
  have mine : ¬ (u.tsm.staged.isSome = true ∧ u.tsm.staged ≠ some g) := by rcases hs with h | h <;> simp [h]
  unfold stageResult
  rw [if_neg free, if_neg mine]

end

theorem parseRow_length {g : Segment} {l : List Byte} {r : Row} (h : parseRow g l = some r) : l.length = rowBytes g := by
  unfold parseRow at h
  split at h
  · assumption
  · cases h

/-- Settles O29. -/
theorem stagingIsWrittenAndEmptied : Obligations.StagingIsWrittenAndEmptied := by
  intro src seq access fields g row s hs h i ended
  refine ⟨exec_discard hs, fun hg hlen => ?_, fun hg hlen hrow => ?_⟩
  · have fits : fieldsFit opStage fields = true := by simp [fieldsFit, hg, hlen]
    exact (exec_stage hs fits).trans (concluded_congr (serveStage_of_none (parseStage_of_none hg)))
  · have fits : fieldsFit opStage fields = true := by
      have := parseRow_length hrow
      rw [List.length_drop] at this
      simp [fieldsFit, hg]
      omega
    have parsed : parseStage fields = some (g, i, row) := parseStage_of_row hg hlen hrow
    have refused (x : MgmtResult) (hx : stageResult h g i = x) (hne : x ≠ .done) : ended x :=
      (exec_stage hs fits).trans (concluded_congr (serveStage_refused parsed hx hne))
    refine ⟨fun hl => ?_, fun g' hl hg' hne => ?_, fun hl hopen hi => ?_, fun hl hopen hi => ?_⟩
    · exact refused .locked (if_pos hl) (by decide)
    · have free : ¬ (h.tsm.store.get g).lock = true := by simp [hl]
      have other : h.tsm.staged.isSome = true ∧ h.tsm.staged ≠ some g := by simp [hg', hne]
      exact refused .sequence ((if_neg free).trans (if_pos other)) (by decide)
    · exact refused .range ((stageResult_of_open hl hopen).trans (if_pos hi)) (by decide)
    · have done : stageResult h g i = .done := (stageResult_of_open hl hopen).trans (if_neg (Nat.not_le.2 hi))
      exact ⟨putRow i row h.tsm.staging, (exec_stage hs fits).trans (concluded_congr (serveStage_done parsed done)),
        fun hsorted => ⟨putRow_pairwise hsorted, mem_putRow hsorted⟩⟩

/-! ### The count test of COMMIT (R190 step 4) -/

section
variable {staging : List (Nat × Row)} {g : Segment} {n : Nat}

theorem staged_any_iff (i : Nat) : staging.any (fun q => q.1 = i) = true ↔ i ∈ staging.map Prod.fst := by
  simp

/-- The first index missing below the count. -/
theorem firstMissing_eq_some {i : Nat} (hi : i < n) (hno : i ∉ staging.map Prod.fst)
    (hb : ∀ j, j < i → j ∈ staging.map Prod.fst) : firstMissing staging n = some i := by
  have absent : (!staging.any (fun q => q.1 = i)) = true := by
    rw [Bool.not_eq_true']
    exact Bool.eq_false_iff.2 fun h => hno ((staged_any_iff i).1 h)
  refine List.find?_range_eq_some.2 ⟨absent, List.mem_range.2 hi, fun j hj => ?_⟩
  rw [Bool.not_not]
  exact (staged_any_iff j).2 (hb j hj)

theorem firstMissing_eq_none_iff : firstMissing staging n = none ↔ ∀ j, j < n → j ∈ staging.map Prod.fst := by
  unfold firstMissing
  rw [List.find?_eq_none]
  constructor
  · intro h j hj
    have := h j (List.mem_range.2 hj)
    exact (staged_any_iff j).1 (by simpa using this)
  · intro h j hj
    have := (staged_any_iff j).2 (h j (List.mem_range.1 hj))
    simpa using this

/-- The first staged row at or above the count is the one of the least such index. -/
theorem find_above {i : Nat} (hsorted : staging.Pairwise (fun a b => a.1 < b.1)) (hi : i ∈ staging.map Prod.fst) (hn : n ≤ i)
    (hleast : ∀ j ∈ staging.map Prod.fst, n ≤ j → i ≤ j) :
    (staging.find? (fun q => decide (n ≤ q.1))).map Prod.fst = some i := by
  induction staging with
  | nil => cases hi
  | cons x l ih =>
    obtain ⟨hx, hl⟩ := List.pairwise_cons.1 hsorted
    rw [List.find?_cons]
    by_cases hnx : n ≤ x.1
    · have le : i ≤ x.1 := hleast x.1 List.mem_cons_self hnx
      have eq : i = x.1 := by
        obtain ⟨q, hq, rfl⟩ := List.mem_map.1 hi
        rcases List.mem_cons.1 hq with rfl | hq
        · rfl
        · exact absurd (hx q hq) (Nat.not_lt.2 le)
      simp [hnx, eq]
    · have hi' : i ∈ l.map Prod.fst := by
        rcases List.mem_cons.1 hi with rfl | h
        · exact absurd hn hnx
        · exact h
      simp only [hnx, decide_false]
      exact ih hl hi' fun j hj => hleast j (List.mem_cons_of_mem _ hj)

theorem find_above_eq_none (h : ∀ j ∈ staging.map Prod.fst, j < n) : staging.find? (fun q => decide (n ≤ q.1)) = none := by
  rw [List.find?_eq_none]
  intro q hq
  have := h q.1 (List.mem_map_of_mem hq)
  simpa using this

/-- The row that the count test reports is the first index missing, whatever the count. -/
theorem countFailure_of_missing {i : Nat} (h : firstMissing staging n = some i) : countFailure g staging n = some i := by
  simp [countFailure, h]

theorem countFailure_of_above {i : Nat} (hm : firstMissing staging n = none)
    (ha : (staging.find? (fun q => decide (n ≤ q.1))).map Prod.fst = some i) : countFailure g staging n = some i := by
  unfold countFailure
  rw [hm, ha]
  split <;> rfl

/-- The rows 0 to n − 1, and a count from 1 to the capacity, pass. -/
theorem countFailure_of_counted (h1 : 1 ≤ n) (h2 : n ≤ g.capacity) (h : staging.map Prod.fst = List.range n) :
    countFailure g staging n = none := by
  have hm : firstMissing staging n = none := firstMissing_eq_none_iff.2 fun j hj => by rw [h]; exact List.mem_range.2 hj
  have ha : staging.find? (fun q => decide (n ≤ q.1)) = none :=
    find_above_eq_none fun j hj => by rw [h] at hj; exact List.mem_range.1 hj
  unfold countFailure
  rw [if_neg (by omega), hm, ha]
  rfl

/-- In a staging area in ascending index, what passes are the rows 0 to n − 1 with n from 1 to the capacity. -/
theorem counted_of_passes (hsorted : staging.Pairwise (fun a b => a.1 < b.1)) (h : countFailure g staging n = none) :
    1 ≤ n ∧ n ≤ g.capacity ∧ staging.map Prod.fst = List.range n := by
  unfold countFailure at h
  split at h
  · cases h
  · next hn =>
    split at h
    · cases h
    · next hm =>
      refine ⟨by omega, by omega, ?_⟩
      have above : ∀ j ∈ staging.map Prod.fst, j < n := by
        intro j hj
        obtain ⟨q, hq, rfl⟩ := List.mem_map.1 hj
        have := List.find?_eq_none.1 (Option.map_eq_none_iff.1 h) q hq
        simpa using this
      have sorted : (staging.map Prod.fst).Pairwise (· < ·) := List.pairwise_map.2 hsorted
      refine sorted.eq_of_mem_iff List.pairwise_lt_range fun j => ?_
      rw [List.mem_range]
      exact ⟨above j, firstMissing_eq_none_iff.1 hm j⟩

end

/-! ### The order of COMMIT's tests (R190) -/

section
variable {m : MgmtHead} {f : List Byte} {u : State} {g : Segment}

theorem serveCommit_refused {x : MgmtResult} {d : MgmtDetails}
    (h : judgeCommit u (byteAt f 0) (byteAt f 1) (nat16At f 2) = .refuse x d) : serveCommit m f u = answer m x d u := by
  simp only [serveCommit, h]

theorem serveCommit_written {rows : List Row}
    (h : judgeCommit u (byteAt f 0) (byteAt f 1) (nat16At f 2) = .write g rows) :
    serveCommit m f u = beginWrite m (.commit g rows) (clearStaging u) := by
  simp only [serveCommit, h]

variable {code confirm : Byte} {n : Nat} (hg : segmentOfCode code = some g)
include hg

theorem judgeCommit_sequence (h : confirm ≠ 0x5A ∨ u.tsm.staged ≠ some g) :
    judgeCommit u code confirm n = .refuse .sequence .none := by
  simp only [judgeCommit, hg]
  exact if_pos h

/-- Behind the confirm code and the staged segment: the lock, a write in flight, the count and the content, in this order. -/
theorem judgeCommit_confirmed (hc : confirm = 0x5A) (hs : u.tsm.staged = some g) :
    judgeCommit u code confirm n =
      if (u.tsm.store.get g).lock then .refuse .locked .none
      else if u.tsm.write.isSome then .refuse .busy .none
      else
        match countFailure g u.tsm.staging n with
        | some i => .refuse .content (.content i .count)
        | none =>
          match validate g (u.tsm.staging.map Prod.snd) with
          | some (i, why) => .refuse .content (.content i why)
          | none => .write g (u.tsm.staging.map Prod.snd) := by
  simp only [judgeCommit, hg]
  exact if_neg fun h => h.elim (fun h => h hc) (fun h => h hs)

section
variable (hc : confirm = 0x5A) (hs : u.tsm.staged = some g) (hl : (u.tsm.store.get g).lock = false) (hw : u.tsm.write = none)
include hc hs hl hw

theorem judgeCommit_miscounted {i : Nat} (h : countFailure g u.tsm.staging n = some i) :
    judgeCommit u code confirm n = .refuse .content (.content i .count) := by
  rw [judgeCommit_confirmed hg hc hs]
  simp [hl, hw, h]

theorem judgeCommit_invalid {i : Nat} {why : ContentReason} (h : countFailure g u.tsm.staging n = none)
    (hv : validate g (u.tsm.staging.map Prod.snd) = some (i, why)) :
    judgeCommit u code confirm n = .refuse .content (.content i why) := by
  rw [judgeCommit_confirmed hg hc hs]
  simp [hl, hw, h, hv]

theorem judgeCommit_valid (h : countFailure g u.tsm.staging n = none) (hv : validate g (u.tsm.staging.map Prod.snd) = none) :
    judgeCommit u code confirm n = .write g (u.tsm.staging.map Prod.snd) := by
  rw [judgeCommit_confirmed hg hc hs]
  simp [hl, hw, h, hv]

end

end

/-! ### What the content check asks (R191) -/

/-- Each element of a list stands in a relation to the elements before it. -/
def EachAfter {α : Type} (Q : List α → α → Prop) (l : List α) : Prop := ∀ k r, l[k]? = some r → Q (l.take k) r

section
variable {α : Type} {Q Q' : List α → α → Prop}

theorem eachAfter_nil : EachAfter Q [] := by simp [EachAfter]

theorem eachAfter_concat (l : List α) (x : α) : EachAfter Q (l ++ [x]) ↔ EachAfter Q l ∧ Q l x := by
  unfold EachAfter
  constructor
  · intro h
    refine ⟨fun k r hk => ?_, ?_⟩
    · have hlt : k < l.length := (List.getElem?_eq_some_iff.1 hk).1
      have := h k r (by rw [List.getElem?_append_left hlt]; exact hk)
      rwa [List.take_append_of_le_length hlt.le] at this
    · have := h l.length x (by simp)
      simpa using this
  · rintro ⟨h, hx⟩ k r hk
    rcases Nat.lt_or_ge k l.length with hlt | hge
    · rw [List.getElem?_append_left hlt] at hk
      rw [List.take_append_of_le_length hlt.le]
      exact h k r hk
    · have hlen : k < (l ++ [x]).length := (List.getElem?_eq_some_iff.1 hk).1
      have hk' : k = l.length := by simp at hlen; omega
      subst hk'
      have : x = r := by simpa using hk
      subst this
      simpa using hx

theorem eachAfter_and (l : List α) : EachAfter (fun b r => Q b r ∧ Q' b r) l ↔ EachAfter Q l ∧ EachAfter Q' l :=
  ⟨fun h => ⟨fun k r hk => (h k r hk).1, fun k r hk => (h k r hk).2⟩, fun h k r hk => ⟨h.1 k r hk, h.2 k r hk⟩⟩

/-- A relation that does not look at the elements before is a property of each element. -/
theorem eachAfter_const (P : α → Prop) (l : List α) : EachAfter (fun _ r => P r) l ↔ ∀ r ∈ l, P r := by
  simp only [EachAfter, List.mem_iff_getElem?]
  exact ⟨fun h r ⟨k, hk⟩ => h k r hk, fun h k r hk => h r ⟨k, hk⟩⟩

theorem eachAfter_congr (h : ∀ b r, Q b r ↔ Q' b r) (l : List α) : EachAfter Q l ↔ EachAfter Q' l :=
  ⟨fun H k r hk => (h _ _).1 (H k r hk), fun H k r hk => (h _ _).2 (H k r hk)⟩

/-- A relation of each element to each one before it. -/
theorem eachAfter_pairwise (R : α → α → Prop) (l : List α) : EachAfter (fun b r => ∀ q ∈ b, R q r) l ↔ l.Pairwise R := by
  induction l using List.reverseRecOn with
  | nil => simp [eachAfter_nil]
  | append_singleton l x ih => simp [eachAfter_concat, ih, List.pairwise_append]

/-- Keys that differ from every one before are distinct. -/
theorem eachAfter_nodup {β : Type} (f : α → β) (l : List α) :
    EachAfter (fun b r => ∀ q ∈ b, f q ≠ f r) l ↔ (l.map f).Nodup := by
  rw [eachAfter_pairwise, List.Nodup, List.pairwise_map]

/-- No element finds n of its own key before it exactly where no key occurs more than n times. -/
theorem eachAfter_count {β : Type} [DecidableEq β] (f : α → β) (n : Nat) (l : List α) :
    EachAfter (fun b r => (b.filter (fun q => f q = f r)).length < n) l ↔ ∀ d, (l.filter (fun q => f q = d)).length ≤ n := by
  induction l using List.reverseRecOn with
  | nil => simp [eachAfter_nil]
  | append_singleton l x ih =>
    rw [eachAfter_concat, ih]
    constructor
    · rintro ⟨h, hx⟩ d
      rw [List.filter_append, List.length_append]
      by_cases hd : f x = d
      · subst hd
        simp
        omega
      · simp [hd, h d]
    · intro h
      refine ⟨fun d => ?_, ?_⟩
      · have := h d
        rw [List.filter_append, List.length_append] at this
        omega
      · have := h (f x)
        rw [List.filter_append, List.length_append] at this
        simp at this
        omega

end

/-- The rows of one segment pass exactly where each passes against those before it, the latest first. -/
theorem checkRows_map {α : Type} (g : Segment) (c : α → Row) (l : List α) :
    checkRows g 0 [] (l.map c) = none ↔ EachAfter (fun b r => checkRow g ((b.reverse).map c) (c r) = none) l := by
  rw [checkRows_eq_none]
  simp only [EachAfter, List.append_nil, ← List.map_take, ← List.map_reverse, List.getElem?_map, Option.map_eq_some_iff,
    forall_exists_index, and_imp]
  exact ⟨fun h k r hk => h k (c r) r hk rfl, fun h k _ r hk hr => hr ▸ h k r hk⟩

theorem within_iff (lo x hi : Nat) : within lo x hi = true ↔ lo ≤ x ∧ x ≤ hi := decide_eq_true_iff

theorem withinInt_iff (lo x hi : Int) : withinInt lo x hi = true ↔ lo ≤ x ∧ x ≤ hi := decide_eq_true_iff

/-! ### The fields of a row (R191, R201) -/

theorem FleetRow.fieldsOk_iff (r : FleetRow) : r.fieldsOk = true ↔
    (1 ≤ r.fleetNo ∧ r.fleetNo ≤ 9999) ∧ (200 ≤ r.capacity ∧ r.capacity ≤ 6500) ∧ r.cls ≤ 2 ∧
      (r.target = 0 ∨ 50 ≤ r.target ∧ r.target ≤ 100) := by
  simp [FleetRow.fieldsOk, within_iff, and_assoc]

theorem RouteRow.fieldsOk_iff (r : RouteRow) : r.fieldsOk = true ↔
    (1 ≤ r.legNo ∧ r.legNo ≤ 9999) ∧ r.assigned ≤ 9999 ∧ r.departure ≤ 1439 ∧ r.ret ≤ 1439 ∧ r.base ≤ 6000 ∧
      r.coldCoef ≤ 100 ∧ r.preMin ≤ 60 ∧ r.prePower ≤ 150 := by
  simp [RouteRow.fieldsOk, within_iff, and_assoc]

theorem YardRow.fieldsOk_iff (r : YardRow) : r.fieldsOk = true ↔
    (1 ≤ r.station ∧ r.station ≤ 16) ∧ ∀ x ∈ r.ratings, 100 ≤ x ∧ x ≤ 500 := by
  simp [YardRow.fieldsOk, within_iff, withinInt_iff]

theorem CommitRow.fieldsOk_iff (r : CommitRow) : r.fieldsOk = true ↔
    (0 ≤ r.up ∧ r.up ≤ 20000) ∧ (0 ≤ r.down ∧ r.down ≤ 20000) ∧ (1 ≤ r.resp ∧ r.resp ≤ 60) := by
  simp [CommitRow.fieldsOk, within_iff, withinInt_iff, and_assoc]

theorem TariffRow.fieldsOk_iff (r : TariffRow) : r.fieldsOk = true ↔
    r.dayType ≤ 1 ∧ r.start ≤ 1439 ∧ r.stop ≤ 1439 ∧ r.stop ≠ r.start ∧ r.cls ≤ 3 ∧
      (∀ c, r.cap = some c → 0 ≤ c ∧ c ≤ 30000) := by
  cases h : r.cap <;> simp [TariffRow.fieldsOk, h, withinInt_iff, and_assoc]

theorem PassageRow.fieldsOk_iff (r : PassageRow) : r.fieldsOk = true ↔
    r.direction ≤ 1 ∧ (r.kind = 0 ∨ r.kind ∈ kindCodes) ∧ r.action ≤ 2 := by
  simp [PassageRow.fieldsOk, and_assoc]

/-- The ranges of R201; a field whose range begins at 0 has no lower bound to check. -/
theorem Settings.fieldsOk_iff (r : Settings) : r.fieldsOk = true ↔
    (1000 ≤ r.importLimit ∧ r.importLimit ≤ 30000) ∧ (0 ≤ r.exportLimit ∧ r.exportLimit ≤ 30000) ∧
      (0 ≤ r.safetyMargin ∧ r.safetyMargin ≤ 2000) ∧ (0 ≤ r.staleMargin ∧ r.staleMargin ≤ 2000) ∧
      (0 ≤ r.fallbackBudget ∧ r.fallbackBudget ≤ 30000) ∧ (10 ≤ r.pMin ∧ r.pMin ≤ 100) ∧
      (10 ≤ r.rampStep ∧ r.rampStep ≤ 2000) ∧ (4 ≤ r.passPre ∧ r.passPre ≤ 99) ∧ r.turn ≤ 63 ∧
      (1 ≤ r.fallbackTime ∧ r.fallbackTime ≤ 30) ∧ (5 ≤ r.replyTimeout ∧ r.replyTimeout ≤ 100) ∧ r.waitLimit ≤ 7 ∧
      (5 ≤ r.holdOff ∧ r.holdOff ≤ 100) ∧ (1 ≤ r.missLimit ∧ r.missLimit ≤ 7) ∧ (0 ≤ r.guestCap ∧ r.guestCap ≤ 500) ∧
      (50 ≤ r.chargeTarget ∧ r.chargeTarget ≤ 100) ∧ r.holdMargin ≤ 1000 ∧ r.v2gMargin ≤ 1000 ∧
      (-20 ≤ r.coldRef ∧ r.coldRef ≤ 20) ∧ (-40 ≤ r.defaultAmbient ∧ r.defaultAmbient ≤ 20) ∧
      (5 ≤ r.grace ∧ r.grace ≤ 30) ∧ (5 ≤ r.earlyWindow ∧ r.earlyWindow ≤ 60) ∧ (10 ≤ r.sLo ∧ r.sLo ≤ 90) ∧ r.sHi ≤ 95 ∧
      5 ≤ r.sFloor ∧ r.sCeiling ≤ 100 ∧ (1 ≤ r.tolerance ∧ r.tolerance ≤ 20) ∧ (-30 ≤ r.minTemp ∧ r.minTemp ≤ 10) ∧
      r.season ≤ 1 := by
  simp only [Settings.fieldsOk, Bool.and_eq_true, within_iff, withinInt_iff, decide_eq_true_eq, Nat.zero_le, true_and, and_assoc]

theorem modeOfMap_isSome_iff (b : Byte) :
    (modeOfMap b).isSome = true ↔ b = 0xE4 ∨ b = 0xE0 ∨ b = 0xA4 ∨ b = 0xA0 ∨ b = 0x00 := by
  revert b
  decide +kernel

/-! ### The content of each segment (R191) -/

theorem fleet_content (l : List FleetRow) : validate .fleet (l.map .fleet) = none ↔
    (∀ r ∈ l, r.fieldsOk = true) ∧ (l.map FleetRow.fleetNo).Nodup ∧ (l.map FleetRow.tag).Nodup := by
  have row (b : List FleetRow) (r : FleetRow) : checkRow .fleet (b.reverse.map .fleet) (.fleet r) = none ↔
      r.fieldsOk = true ∧ (∀ q ∈ b, q.fleetNo ≠ r.fleetNo) ∧ ∀ q ∈ b, q.tag ≠ r.tag := by
    rw [checkRow, firstFailing_eq_none, fleetRows_map]
    simp [forall_and]
  rw [validate_eq_none, checkRows_map, eachAfter_congr row, eachAfter_and, eachAfter_and, eachAfter_const, eachAfter_nodup,
    eachAfter_nodup]
  simp

/-- A leg does not stand before the one it follows: an earlier departure, or the same and no greater number. -/
def RouteRow.ordered (q r : RouteRow) : Prop := q.departure < r.departure ∨ (q.departure = r.departure ∧ q.legNo ≤ r.legNo)

/-- A relation of each element to the one just before it. -/
theorem eachAfter_last {α : Type} (R : α → α → Prop) (l : List α) :
    EachAfter (fun b r => ∀ q, b.getLast? = some q → R q r) l ↔ ∀ i q r, l[i]? = some q → l[i + 1]? = some r → R q r := by
  have last (i : Nat) (r : α) (h : l[i + 1]? = some r) : (l.take (i + 1)).getLast? = l[i]? := by
    have hlt : i + 1 < l.length := (List.getElem?_eq_some_iff.1 h).1
    rw [List.getLast?_eq_getElem?, List.length_take, Nat.min_eq_left hlt.le]
    exact List.getElem?_take_of_lt (Nat.lt_succ_self i)
  constructor
  · intro h i q r hq hr
    exact h (i + 1) r hr q ((last i r hr).trans hq)
  · intro h k r hr q hq
    cases k with
    | zero => simp at hq
    | succ i => exact h i q r ((last i r hr).symm.trans hq) hr

theorem route_content (l : List RouteRow) : validate .route (l.map .route) = none ↔
    (∀ r ∈ l, r.fieldsOk = true) ∧ (l.map RouteRow.legNo).Nodup ∧
      ∀ i q r, l[i]? = some q → l[i + 1]? = some r → q.ordered r := by
  have row (b : List RouteRow) (r : RouteRow) : checkRow .route (b.reverse.map .route) (.route r) = none ↔
      r.fieldsOk = true ∧ (∀ q ∈ b, q.legNo ≠ r.legNo) ∧ ∀ q, b.getLast? = some q → q.ordered r := by
    have mem : (∀ q ∈ b, q.legNo ≠ r.legNo) ↔ ∀ q ∈ b.reverse, q.legNo ≠ r.legNo := by simp
    rw [mem, ← List.head?_reverse, checkRow, firstFailing_eq_none, routeRows_map]
    cases b.reverse <;> simp [RouteRow.ordered]
  rw [validate_eq_none, checkRows_map, eachAfter_congr row, eachAfter_and, eachAfter_and, eachAfter_const, eachAfter_nodup,
    eachAfter_last]
  simp

theorem yard_content (l : List YardRow) : validate .yard (l.map .yard) = none ↔
    (∀ r ∈ l, r.fieldsOk = true ∧ (modeOfMap r.map).isSome = true) ∧ (l.map YardRow.station).Nodup := by
  have row (b : List YardRow) (r : YardRow) : checkRow .yard (b.reverse.map .yard) (.yard r) = none ↔
      (r.fieldsOk = true ∧ (modeOfMap r.map).isSome = true) ∧ ∀ q ∈ b, q.station ≠ r.station := by
    rw [checkRow, firstFailing_eq_none, yardRows_map]
    simp [and_assoc]
  rw [validate_eq_none, checkRows_map, eachAfter_congr row, eachAfter_and, eachAfter_const, eachAfter_nodup]
  simp

theorem commitment_content (l : List CommitRow) : validate .commitment (l.map .commitment) = none ↔
    (∀ r ∈ l, r.fieldsOk = true) ∧ l.length = 48 := by
  have row (b : List CommitRow) (r : CommitRow) : checkRow .commitment (b.reverse.map .commitment) (.commitment r) = none ↔
      r.fieldsOk = true := by
    simp [checkRow, firstFailing_eq_none]
  rw [validate_eq_none, checkRows_map, eachAfter_congr row, eachAfter_const]
  simp

theorem tariff_content (l : List TariffRow) : validate .tariff (l.map .tariff) = none ↔
    (∀ r ∈ l, r.fieldsOk = true) ∧ (∀ d, (l.filter (fun r => r.dayType = d)).length ≤ 12) ∧
      l.Pairwise (fun q r => q.dayType = r.dayType →
        ((windowOf q).covers r.start || (windowOf r).covers q.start) = false) := by
  have row (b : List TariffRow) (r : TariffRow) : checkRow .tariff (b.reverse.map .tariff) (.tariff r) = none ↔
      r.fieldsOk = true ∧ (b.filter (fun q => q.dayType = r.dayType)).length < 12 ∧
        ∀ q ∈ b, q.dayType = r.dayType → ((windowOf q).covers r.start || (windowOf r).covers q.start) = false := by
    rw [checkRow, firstFailing_eq_none, tariffRows_map]
    simp only [List.filter_reverse]
    have apart (q : TariffRow) : (!overlap q r) = true ↔
        (q.dayType = r.dayType → ((windowOf q).covers r.start || (windowOf r).covers q.start) = false) := by
      simp [overlap, imp_iff_not_or]
    simp only [List.forall_mem_cons, List.not_mem_nil, false_implies, implies_true, and_true, decide_eq_true_eq,
      List.all_reverse, List.all_eq_true, apart, List.mem_filter, List.length_reverse]
    exact and_congr_right fun _ => and_congr_right fun _ =>
      ⟨fun h q hq hd => h q ⟨hq, hd⟩ hd, fun h q hq => h q hq.1⟩
  rw [validate_eq_none, checkRows_map, eachAfter_congr row, eachAfter_and, eachAfter_and, eachAfter_const,
    eachAfter_count TariffRow.dayType, eachAfter_pairwise]
  simp

theorem passage_content (l : List PassageRow) : validate .passage (l.map .passage) = none ↔ ∀ r ∈ l, r.fieldsOk = true := by
  have row (b : List PassageRow) (r : PassageRow) : checkRow .passage (b.reverse.map .passage) (.passage r) = none ↔
      r.fieldsOk = true := by
    simp [checkRow, firstFailing_eq_none]
  rw [validate_eq_none, checkRows_map, eachAfter_congr row, eachAfter_const]
  simp

theorem settings_content (r : Settings) : validate .settings [.settings r] = none ↔
    r.fieldsOk = true ∧ (r.sFloor ≤ r.sLo ∧ r.sLo ≤ r.sHi ∧ r.sHi ≤ r.sCeiling) ∧
      2 * (r.passPre + 1) ≤ r.fallbackTime * 10 := by
  have row (b : List Settings) (r : Settings) : checkRow .settings (b.reverse.map .settings) (.settings r) = none ↔
      r.fieldsOk = true ∧ (r.sFloor ≤ r.sLo ∧ r.sLo ≤ r.sHi ∧ r.sHi ≤ r.sCeiling) ∧
        2 * (r.passPre + 1) ≤ r.fallbackTime * 10 := by
    simp [checkRow, firstFailing_eq_none]
  rw [validate_eq_none, show [Row.settings r] = [r].map .settings from rfl, checkRows_map, eachAfter_congr row, eachAfter_const]
  simp

/-! ### The obligation -/

/-- A write of rows begins behind an emptied staging area. -/
theorem beginWrite_commit (m : MgmtHead) (g : Segment) (rows : List Row) (u : State) :
    beginWrite m (.commit g rows) (clearStaging u) = { u with tsm := { u.tsm with
      staged := none, staging := [], write := some ⟨.commit g rows, m.op, m.src, m.seq⟩
      store := u.tsm.store.set g ⟨.incomplete, (u.tsm.store.get g).lock, []⟩ } } := rfl

/-- The order of COMMIT's tests, the first part of O30. -/
theorem commit_tests (src seq : Byte) (access fields : List Byte) (g : Segment) (s : State) (hs : Served s access)
    (hf : fields.length = 4) (hg : segmentOfCode (byteAt fields 0) = some g) :
    let h := heard s
    let n := nat16At fields 2
    let rows := h.tsm.staging.map Prod.snd
    let indices := h.tsm.staging.map Prod.fst
    let counted := 1 ≤ n ∧ n ≤ g.capacity ∧ h.tsm.staging.map Prod.fst = List.range n
    let ended (r : MgmtResult) (x : MgmtDetails) :=
      exec (.commit src seq access fields) s = .next (concluded s (answer ⟨src, seq, 2⟩ r x h))
    (byteAt fields 1 ≠ 0x5A ∨ h.tsm.staged ≠ some g → ended .sequence .none) ∧
    (byteAt fields 1 = 0x5A → h.tsm.staged = some g →
      ((h.tsm.store.get g).lock = true → ended .locked .none) ∧
      ((h.tsm.store.get g).lock = false → h.tsm.write.isSome = true → ended .busy .none) ∧
      ((h.tsm.store.get g).lock = false → h.tsm.write = none →
        (h.tsm.staging.Pairwise (fun a b => a.1 < b.1) → ¬ counted → ∃ row, ended .content (.content row .count)) ∧
        (∀ i, i < n → i ∉ indices → (∀ j, j < i → j ∈ indices) → ended .content (.content i .count)) ∧
        (∀ i, h.tsm.staging.Pairwise (fun a b => a.1 < b.1) → (∀ j, j < n → j ∈ indices) → i ∈ indices → n ≤ i →
          (∀ j ∈ indices, n ≤ j → i ≤ j) → ended .content (.content i .count)) ∧
        (∀ row why, counted → validate g rows = some (row, why) → ended .content (.content row why)) ∧
        (counted → validate g rows = none →
          exec (.commit src seq access fields) s = .next (concluded s { h with tsm := { h.tsm with
            staged := none, staging := [], write := some ⟨.commit g rows, 2, src, seq⟩
            store := h.tsm.store.set g ⟨.incomplete, (h.tsm.store.get g).lock, []⟩ } })))) := by
  intro h n rows indices counted ended
  have refused {x : MgmtResult} {d : MgmtDetails}
      (hj : judgeCommit h (byteAt fields 0) (byteAt fields 1) n = .refuse x d) : ended x d :=
    (exec_commit hs hf).trans (concluded_congr (serveCommit_refused hj))
  refine ⟨fun hc => refused (judgeCommit_sequence hg hc), fun hc hst => ⟨fun hl => ?_, fun hl hb => ?_, fun hl hw =>
    ⟨fun hsorted hno => ?_, fun i hi hno hb => ?_, fun i hsorted hall hi hn hleast => ?_, fun row why hcount hv => ?_,
      fun hcount hv => ?_⟩⟩⟩
  · exact refused ((judgeCommit_confirmed hg hc hst).trans (if_pos hl))
  · have free : ¬ (h.tsm.store.get g).lock = true := by simp [hl]
    exact refused ((judgeCommit_confirmed hg hc hst).trans ((if_neg free).trans (if_pos hb)))
  · cases hcf : countFailure g h.tsm.staging n with
    | none => exact absurd (counted_of_passes hsorted hcf) hno
    | some i => exact ⟨i, refused (judgeCommit_miscounted hg hc hst hl hw hcf)⟩
  · exact refused (judgeCommit_miscounted hg hc hst hl hw (countFailure_of_missing (firstMissing_eq_some hi hno hb)))
  · exact refused (judgeCommit_miscounted hg hc hst hl hw
      (countFailure_of_above (firstMissing_eq_none_iff.2 hall) (find_above hsorted hi hn hleast)))
  · obtain ⟨h1, h2, hrange⟩ := hcount
    exact refused (judgeCommit_invalid hg hc hst hl hw (countFailure_of_counted h1 h2 hrange) hv)
  · obtain ⟨h1, h2, hrange⟩ := hcount
    exact (exec_commit hs hf).trans (concluded_congr
      (serveCommit_written (judgeCommit_valid hg hc hst hl hw (countFailure_of_counted h1 h2 hrange) hv)))

/-- Settles O30: the order of the tests, and the content of each segment. -/
theorem commitBeginsTheWrite : Obligations.CommitBeginsTheWrite := by
  refine ⟨commit_tests, fun l => ?_, fun l => ?_, fun l => ?_, fun l => ?_, fun l => ?_, fun l => ?_, fun r => ?_⟩
  · simp only [fleet_content, FleetRow.fieldsOk_iff]
  · simp only [route_content, RouteRow.fieldsOk_iff]
    rfl
  · simp only [yard_content, YardRow.fieldsOk_iff, modeOfMap_isSome_iff, and_assoc]
  · simp only [commitment_content, CommitRow.fieldsOk_iff]
  · rw [tariff_content]
    simp only [TariffRow.fieldsOk_iff]
    refine and_congr_right fun hfields => and_congr_right fun _ => ?_
    have disjoint (q r : TariffRow) (hq : q ∈ l) (hr : r ∈ l) := by
      obtain ⟨-, hq1, hq2, hq3, -, -⟩ := hfields q hq
      obtain ⟨-, hr1, hr2, hr3, -, -⟩ := hfields r hr
      exact covers_disjoint q r ⟨hq1, hq2, hq3⟩ ⟨hr1, hr2, hr3⟩
    exact List.Pairwise.iff_of_mem fun {q r} hq hr => imp_congr_right fun _ => disjoint q r hq hr
  · simp only [passage_content, PassageRow.fieldsOk_iff]
  · rw [settings_content, Settings.fieldsOk_iff]

end Sys2Proof.Machine
end

section
/-! SUBSTITUTE (R99): its results, the substitute of a PENDING leg, and a DUE verdict taken again (O34). -/

namespace Sys2Proof.Machine

/-! ### The substitute of a leg (R86, R99) -/

/-- A change that keeps the numbers changes the leg that is found. -/
theorem findLeg_map {f : Leg → Leg} (hf : ∀ l, (f l).row.legNo = l.row.legNo) (legs : List Leg) (n : Nat) :
    findLeg (legs.map f) n = (findLeg legs n).map f := by
  unfold findLeg
  rw [List.find?_map]
  simp only [Function.comp_def, hf]

theorem findLeg_legNo {legs : List Leg} {n : Nat} {l : Leg} (h : findLeg legs n = some l) : l.row.legNo = n := by
  have := List.find?_some h
  simpa using this

/-- A changed leg is found as it was changed. -/
theorem findLeg_updLeg {s : State} {n : Nat} {l : Leg} {f : Leg → Leg} (hf : ∀ l, (f l).row.legNo = l.row.legNo)
    (h : findLeg s.rdu.legs n = some l) : findLeg (updLeg n f s).rdu.legs n = some (f l) := by
  have keeps (l : Leg) : (if l.row.legNo = n then f l else l).row.legNo = l.row.legNo := by split <;> simp [hf]
  show findLeg (s.rdu.legs.map fun l => if l.row.legNo = n then f l else l) n = _
  rw [findLeg_map keeps, h, Option.map_some, if_pos (findLeg_legNo h)]

/-- The effective bus with a substitute put in. -/
theorem effective_substitute (l : Leg) (x : Option Nat) :
    ({ l with substitute := x } : Leg).effective =
      match x with
      | some b => some b
      | none => if l.row.assigned = 0 then none else some l.row.assigned := rfl

section
variable {m : MgmtHead} {f : List Byte} {u : State} {n : Nat} {bus : Option Nat}

theorem substituteResult_no_leg (h : findLeg u.rdu.legs n = none) : substituteResult u n bus = .range := by
  simp only [substituteResult, h]

theorem substituteResult_refused {l : Leg} {r : MgmtResult} (h : findLeg u.rdu.legs n = some l)
    (hr : substituteRefusal u bus = some r) : substituteResult u n bus = r := by
  simp only [substituteResult, h, hr]

theorem substituteResult_accepted {l : Leg} (h : findLeg u.rdu.legs n = some l) (hr : substituteRefusal u bus = none) :
    substituteResult u n bus = if l.outcome = .pending then .done else .closed := by
  simp only [substituteResult, h, hr]

theorem substituteRefusal_absent {b : Nat} (h : slotOf u b = none) : substituteRefusal u (some b) = some .range := by
  simp only [substituteRefusal, h, Option.bind_none]

theorem substituteRefusal_of_bus {b k : Nat} {r : Bus} (h : slotOf u b = some k) (hk : busAt u k = some r) :
    substituteRefusal u (some b) = if r.state = .withdrawn then some .withdrawn else none := by
  simp only [substituteRefusal, h, Option.bind_some, hk]

/-- A result other than DONE leaves the legs. -/
theorem serveSubstitute_refused {r : MgmtResult} (h : substituteResult u (nat16At f 0) (substituteOf (nat16At f 2)) = r)
    (hne : r ≠ .done) : serveSubstitute m f u = answer m r .none u := by
  simp only [serveSubstitute, h, if_neg hne]

theorem serveSubstitute_done (h : substituteResult u (nat16At f 0) (substituteOf (nat16At f 2)) = .done) :
    serveSubstitute m f u = answer m .done .none (substitute (nat16At f 0) (substituteOf (nat16At f 2)) u) := by
  simp only [serveSubstitute, h, if_true]

/-- A substitute that leaves the effective bus changes the leg alone. -/
theorem substitute_same {l : Leg} (h : findLeg u.rdu.legs n = some l)
    (he : ({ l with substitute := bus } : Leg).effective = l.effective) :
    substitute n bus u = updLeg n (fun l => { l with substitute := bus }) u := by
  simp [substitute, sameBus, h, he]

theorem substitute_other {l : Leg} (h : findLeg u.rdu.legs n = some l)
    (he : ({ l with substitute := bus } : Leg).effective ≠ l.effective) :
    substitute n bus u = rejudge n (updLeg n (fun l => { l with substitute := bus }) u) := by
  simp [substitute, sameBus, h, he]

/-! ### The DUE verdict taken again (R92, R99) -/

/-- An entry not yet due is not judged. -/
theorem rejudge_not_due (h : ∀ e ∈ u.rdu.list, e.legNo = n → e.due = none) : rejudge n u = u := by
  unfold rejudge
  split
  · next e l he _ =>
    have due : e.due = none := h e (List.mem_of_find?_eq_some he) (by simpa using List.find?_some he)
    simp [due]
  · rfl

theorem rejudge_due {e : DepEntry} {l : Leg} (he : u.rdu.list.find? (fun e => e.legNo = n) = some e) (hd : e.due.isSome = true)
    (hl : findLeg u.rdu.legs n = some l) :
    rejudge n u = if (judgeDue l u).2 then leaveList false n (judgeDue l u).1 else (judgeDue l u).1 := by
  simp only [rejudge, he, hl, hd, if_true]

end

/-- The list with an entry that has become DUE with a verdict. -/
def markDue (n : Nat) (v : Verdict) (s : State) : State :=
  { s with rdu := { s.rdu with list := s.rdu.list.map (fun e => if e.legNo = n then { e with due := some v } else e) } }

section
variable {l : Leg} {s : State}

theorem judgeDue_unassigned (h : legSlot s l = none) : judgeDue l s = (markDue l.row.legNo .noLeg s, false) := by
  simp only [judgeDue, dueVerdict, h, Option.bind_none]
  rfl

variable {k : Nat} {b : Bus} (hk : legSlot s l = some k) (hb : busAt s k = some b)
include hk hb

theorem dueVerdict_of_bus : dueVerdict s l = b.verdict := by
  simp only [dueVerdict, hk, Option.bind_some, hb]

theorem judgeDue_stays (h : b.state ≠ .onRoute) :
    judgeDue l s = (queueReadiness k (markDue l.row.legNo b.verdict s), false) := by
  have stays : ¬ (busAt s k).map Bus.state = some .onRoute := by simp [hb, h]
  simp only [judgeDue, dueVerdict_of_bus hk hb, hk, if_neg stays]
  rfl

theorem judgeDue_departed (h : b.state = .onRoute) :
    judgeDue l s = (writeOutcome l.row.legNo k (if b.verdict = .ready then .departedReady else .departedShort)
      (markDue l.row.legNo b.verdict s), true) := by
  have gone : (busAt s k).map Bus.state = some .onRoute := by simp [hb, h]
  simp only [judgeDue, dueVerdict_of_bus hk hb, hk, if_pos gone]
  rfl

end

/-- Settles O34: the refusals of R99 in their order, the leg changed, and the DUE verdict taken again for a new effective bus. -/
theorem substituteIsSet : Obligations.SubstituteIsSet := by
  intro src seq access fields s hs hf h n bus ended changed verdict
  have refused (r : MgmtResult) (hr : substituteResult h n bus = r) (hne : r ≠ .done) : ended r h :=
    (exec_substitute hs hf).trans (concluded_congr (serveSubstitute_refused hr hne))
  refine ⟨fun hno => refused .range (substituteResult_no_leg hno) (by decide), fun l hl => ?_⟩
  intro effective
  refine ⟨fun b hb hno => ?_, fun b k r hb hk hr hw => ?_, fun hok => ?_⟩
  · exact refused .range (substituteResult_refused hl (by rw [hb]; exact substituteRefusal_absent hno)) (by decide)
  · exact refused .withdrawn
      (substituteResult_refused hl (by rw [hb, substituteRefusal_of_bus hk hr, if_pos hw])) (by decide)
  · have accepted : substituteRefusal h bus = none := by
      cases hb : bus with
      | none => rfl
      | some b =>
        obtain ⟨k, r, hk, hr, hw⟩ := hok b hb
        rw [substituteRefusal_of_bus hk hr, if_neg hw]
    have result := substituteResult_accepted hl accepted
    have done (hp : l.outcome = .pending) {u : State} (hu : substitute n bus h = u) : ended .done u :=
      (exec_substitute hs hf).trans (concluded_congr
        ((serveSubstitute_done (result.trans (if_pos hp))).trans (congrArg (answer _ _ _) hu)))
    have found : findLeg changed.rdu.legs n = some { l with substitute := bus } :=
      findLeg_updLeg (s := h) (f := fun l => { l with substitute := bus }) (fun _ => rfl) hl
    refine ⟨fun hp => refused .closed (result.trans (if_neg hp)) (by decide), fun hp hdue => ?_, fun hp he => ?_,
      fun e hp he hfind hd => ?_⟩
    · refine done hp ?_
      by_cases he : ({ l with substitute := bus } : Leg).effective = l.effective
      · exact substitute_same hl he
      · exact (substitute_other hl he).trans (rejudge_not_due (u := changed) hdue)
    · exact done hp (substitute_same hl he)
    · intro m
      have number : m.row.legNo = n := findLeg_legNo found
      have judged : substitute n bus h =
          if (judgeDue m changed).2 then leaveList false n (judgeDue m changed).1 else (judgeDue m changed).1 :=
        (substitute_other hl he).trans (rejudge_due (u := changed) hfind hd found)
      refine ⟨fun k r hk hr hst => ?_, fun k r hk hr hst => ?_, fun hno => ?_⟩
      · refine done hp (judged.trans ?_)
        rw [judgeDue_stays hk hr hst, number]
        rfl
      · refine done hp (judged.trans ?_)
        rw [judgeDue_departed hk hr hst, number]
        rfl
      · refine done hp (judged.trans ?_)
        rw [judgeDue_unassigned hno, number]
        rfl

end Sys2Proof.Machine
end

section
/-! Dispatches (07_grid_reserve.md): repeats and cancels, the checks and the accepted power, starts and endings, and the entry into
ISLAND (O21 to O26). -/

namespace Sys2Proof.Machine

/-! ### Telegrams and the blocks they leave -/

/-- A telegram changes SLI and TSM, by SLI, TSM and the clock alone: two states that agree on those change alike. -/
theorem queueOut_of_same (m : OutMsg) {s t : State} (h1 : t.sli = s.sli) (h2 : t.tsm = s.tsm) (h3 : t.rdu.clock = s.rdu.clock) :
    queueOut m t = { t with sli := (queueOut m s).sli, tsm := (queueOut m s).tsm } := by
  obtain ⟨hsli, htsm⟩ := queueOut_same m h1 h2 h3
  have hstill := still_queueOut m t
  simp only [still, Prod.mk.injEq] at hstill
  obtain ⟨hpower, hpending, -⟩ := hstill
  obtain ⟨-, -, -, hylc, hfrt, hsbu, hrdu, hale, hrsu, hstp, -, -, -, -, -, -, -, -, -, -, -, hfree⟩ := keeps_queueOut m t
  exact State.same hpower hsli hylc hfrt hsbu hrdu hale hrsu hstp htsm hfree hpending

/-- A change of RSU passes a telegram. -/
theorem queueOut_modRsu (m : OutMsg) (f : Rsu → Rsu) (s : State) : queueOut m (modRsu f s) = modRsu f (queueOut m s) := by
  rw [queueOut_of_same m (s := s) (t := modRsu f s) rfl rfl rfl, queueOut_of_same m (s := s) (t := s) rfl rfl rfl]
  rfl

theorem queueOut_countFree (m : OutMsg) (s : State) : queueOut m (countFree s) = countFree (queueOut m s) := by
  rw [queueOut_of_same m (s := s) (t := countFree s) rfl rfl rfl, queueOut_of_same m (s := s) (t := s) rfl rfl rfl]
  rfl

theorem queueOut_raiseHighId (m : OutMsg) (id : Nat) (s : State) :
    queueOut m (raiseHighId id s) = raiseHighId id (queueOut m s) := queueOut_modRsu m _ s

/-- The blocks that a telegram leaves. -/
theorem queueOut_blocks (m : OutMsg) (s : State) :
    let t := queueOut m s
    t.ylc = s.ylc ∧ t.frt = s.frt ∧ t.sbu = s.sbu ∧ t.rdu = s.rdu ∧ t.ale = s.ale ∧ t.rsu = s.rsu ∧ t.stp = s.stp ∧
      t.tsm.op = s.tsm.op := by
  simp

theorem queueOut_rsu (m : OutMsg) (s : State) : (queueOut m s).rsu = s.rsu := by simp

/-! ### Endings (R149 to R153) -/

/-- The OUTCOME telegram of a dispatch that ends. -/
def outcomeMsg (e : EndState) (d : Dispatch) (s : State) : OutMsg := ⟨103, .outcome (outcomeOf d e (clockReading s))⟩

theorem endActive_none {e : EndState} {s : State} (h : s.rsu.active = none) : endActive e s = s := by
  simp only [endActive, h]

theorem endActive_some {e : EndState} {s : State} {d : Dispatch} (h : s.rsu.active = some d) :
    endActive e s = modRsu (fun r => { r with active := none }) (queueOut (outcomeMsg e d s) s) := by
  simp only [endActive, h]
  rfl

/-- The state behind an ended dispatch, block by block. -/
theorem endActive_eq {e : EndState} {s : State} {d : Dispatch} (h : s.rsu.active = some d) :
    endActive e s = { queueOut (outcomeMsg e d s) s with rsu := { s.rsu with active := none } } := by
  rw [endActive_some h, modRsu, queueOut_rsu]

theorem dropArmed_none {c : DropCause} {s : State} (h : s.rsu.armed = none) : dropArmed c s = s := by
  simp only [dropArmed, h]

theorem dropArmed_some {c : DropCause} {s : State} {d : Dispatch} (h : s.rsu.armed = some d) :
    dropArmed c s = notice (.armedDropped d.id c) (modRsu (fun r => { r with armed := none }) s) := by
  simp only [dropArmed, h]

/-! ### Repeats and cancels (R137, R150) -/

theorem takeDispatch_judged {src seq : Byte} {l : List Byte} {s : State} (hl : l.length = 11) (hop : s.tsm.op ≠ .starting) :
    takeDispatch src seq l s =
      if isRepeat s src seq (nat32At l 0) then repeatReply src s
      else answerDispatch src seq
        { id := nat32At l 0, dir := byteAt l 4, requested := int16At l 5, delay := nat16At l 7, duration := nat16At l 9 } s := by
  unfold takeDispatch parseDispatch
  rw [if_pos hl]
  exact if_neg hop

theorem isRepeat_iff (s : State) (src seq : Byte) (id : Nat) :
    isRepeat s src seq id = true ↔ ∃ r, s.rsu.lastReply = some ⟨id, src, seq, r⟩ := by
  unfold isRepeat
  cases h : s.rsu.lastReply with
  | none => simp
  | some r =>
    obtain ⟨i, a, b, x⟩ := r
    simp [and_assoc]

theorem takeCancel_judged {l : List Byte} {s : State} (hl : l.length = 4) (hop : s.tsm.op ≠ .starting) :
    takeCancel l s = cancelDispatch (nat32At l 0) s := by
  unfold takeCancel parseCancel
  rw [if_pos hl]
  exact if_neg hop

/-- Settles O22. -/
theorem repeatsAndCancels : Obligations.RepeatsAndCancels := by
  intro src seq l s hp hop h
  have cancelled (hl : l.length = 4) {u : State} (hu : cancelDispatch (nat32At l 0) h = u) :
      exec (.cancel src seq l) s = .next (concluded s u) :=
    (onSite_eq (takeCancel l) s hp).trans (concluded_congr ((takeCancel_judged hl hop).trans hu))
  refine ⟨fun r hl hr => ?_, fun d hl hd hid => ?_, fun d hl hd hid hno => ?_, fun hl hno hnot => ?_⟩
  · have again : isRepeat h src seq (nat32At l 0) = true := (isRepeat_iff _ _ _ _).2 ⟨r, hr⟩
    refine (onSite_eq (takeDispatch src seq l) s hp).trans (concluded_congr ((takeDispatch_judged hl hop).trans ?_))
    rw [if_pos again]
    unfold repeatReply
    rw [show (heard s).rsu.lastReply = _ from hr]
    rfl
  · have active : h.rsu.active.map Dispatch.id = some (nat32At l 0) := by rw [hd, ← hid]; rfl
    refine cancelled hl ((if_pos active).trans ?_)
    rw [endActive_eq hd]
    rfl
  · have other : h.rsu.active.map Dispatch.id ≠ some (nat32At l 0) := by
      intro ha
      obtain ⟨a, ha, hai⟩ := Option.map_eq_some_iff.1 ha
      exact hno a ha (hai.trans hid.symm)
    have armed : h.rsu.armed.map Dispatch.id = some (nat32At l 0) := by rw [hd, ← hid]; rfl
    exact cancelled hl ((if_neg other).trans (if_pos armed))
  · have noActive : h.rsu.active.map Dispatch.id ≠ some (nat32At l 0) := by
      intro ha
      obtain ⟨a, ha, hai⟩ := Option.map_eq_some_iff.1 ha
      exact hno a ha hai
    have noArmed : h.rsu.armed.map Dispatch.id ≠ some (nat32At l 0) := by
      intro ha
      obtain ⟨a, ha, hai⟩ := Option.map_eq_some_iff.1 ha
      exact hnot a ha hai
    exact cancelled hl ((if_neg noActive).trans (if_neg noArmed))

/-! ### The judgement of a DISPATCH (R138, R139) -/

/-- A DISPATCH that does not repeat the last answered is judged afresh. -/
theorem exec_dispatch_judged {src seq : Byte} {l : List Byte} {s : State} (hp : s.power = true) (hl : l.length = 11)
    (hop : (heard s).tsm.op ≠ .starting) (hnew : ∀ r, (heard s).rsu.lastReply ≠ some ⟨nat32At l 0, src, seq, r⟩) :
    exec (.dispatch src seq l) s = .next (concluded s (answerDispatch src seq
      { id := nat32At l 0, dir := byteAt l 4, requested := int16At l 5, delay := nat16At l 7, duration := nat16At l 9 }
      (heard s))) := by
  have fresh : ¬ isRepeat (heard s) src seq (nat32At l 0) = true := fun hr => by
    obtain ⟨r, hr⟩ := (isRepeat_iff _ _ _ _).1 hr
    exact hnew r hr
  exact (onSite_eq (takeDispatch src seq l) s hp).trans
    (concluded_congr ((takeDispatch_judged hl hop).trans (if_neg fresh)))

/-- A reading some seconds ahead stands in the slot of its second of the day. -/
theorem slot_plus (r : Reading) (n : Nat) : (r.plus n).minute / 30 = (r.minute * 60 + r.second + n) % 86400 / 1800 := by
  simp only [Reading.plus]
  omega

theorem startSlot_eq (s : State) (f : DispatchFields) : startSlot s f =
    if s.rdu.clock.set then (s.rdu.clock.minute * 60 + s.rdu.clock.second + min 900 f.delay) % 86400 / 1800
    else Config.startSlotWithoutClock s.freeCount := by
  unfold startSlot clockReading
  split
  · next h => split at h <;> simp_all
  · next r h =>
    split at h
    · cases h
      simp only [*, if_true, slot_plus, takenDelay]
    · cases h

/-- The reply to a DISPATCH that is not placed. -/
theorem answerDispatch_declined {src seq : Byte} {f : DispatchFields} {s : State} (h : (judgeDispatch s f).place = none) :
    answerDispatch src seq f s =
      modRsu (fun r => { r with lastReply := some ⟨f.id, src, seq, (judgeDispatch s f).reply⟩ })
        (queueOut ⟨src, .dispReply (judgeDispatch s f).reply⟩ (raiseHighId f.id (if s.rdu.clock.set then s else countFree s))) := by
  simp only [answerDispatch, h]
  rfl

theorem judgeDispatch_failed {f : DispatchFields} {s : State} {why : DispReason} (h : failedCheck s f = some why) :
    judgeDispatch s f = ⟨replyOf f (startSlot s f) .decline why 0, none⟩ := by
  simp only [judgeDispatch, h]

/-- Is an id above the highest judged (R138)? -/
theorem stale_iff (o : Option Nat) (id : Nat) : (o.isSome = true ∧ id ≤ o.getD 0) ↔ ¬ ∀ i, o = some i → i < id := by
  cases o <;> simp

theorem directionOfCode_isNone_iff (b : Byte) : (directionOfCode b).isNone = true ↔ b ≠ 1 ∧ b ≠ 2 := by
  revert b
  decide +kernel

theorem failedCheck_shut {f : DispatchFields} {s : State} (h1 : s.tsm.op ≠ .starting) (h2 : s.tsm.op ≠ .coordinating) :
    failedCheck s f = some .safe := by
  have shut : s.tsm.op = .safe ∨ s.tsm.op = .island := by cases h : s.tsm.op <;> simp_all
  exact if_pos shut

/-- In COORDINATING the remaining checks, in their order. -/
theorem failedCheck_open {f : DispatchFields} {s : State} (h : s.tsm.op = .coordinating) :
    failedCheck s f =
      if s.rdu.clock.set = false then some .noClock
      else if ¬ ∀ i, s.rsu.highId = some i → i < f.id then some .staleId
      else if (f.dir ≠ 1 ∧ f.dir ≠ 2) ∨ f.requested ≤ 0 ∨ f.duration = 0 then some .badField
      else none := by
  have isOpen : ¬ (s.tsm.op = .safe ∨ s.tsm.op = .island) := by simp [h]
  unfold failedCheck
  rw [if_neg isOpen]
  simp only [stale_iff, directionOfCode_isNone_iff]

/-- The first check that fails, as R138 lists them. -/
theorem failedCheck_first {f : DispatchFields} {s : State} {why : DispReason} (hop : s.tsm.op ≠ .starting)
    (h : let isOpen := s.tsm.op = .coordinating
      let new := ∀ i, s.rsu.highId = some i → i < f.id
      ¬ isOpen ∧ why = .safe ∨ isOpen ∧ s.rdu.clock.set = false ∧ why = .noClock ∨
        isOpen ∧ s.rdu.clock.set = true ∧ ¬ new ∧ why = .staleId ∨
        isOpen ∧ s.rdu.clock.set = true ∧ new ∧ why = .badField ∧
          ((f.dir ≠ 1 ∧ f.dir ≠ 2) ∨ f.requested ≤ 0 ∨ f.duration = 0)) : failedCheck s f = some why := by
  rcases h with ⟨ho, rfl⟩ | ⟨ho, hc, rfl⟩ | ⟨ho, hc, hn, rfl⟩ | ⟨ho, hc, hn, rfl, hf⟩
  · exact failedCheck_shut hop ho
  · exact (failedCheck_open ho).trans (if_pos hc)
  · have set : ¬ s.rdu.clock.set = false := by simp [hc]
    exact (failedCheck_open ho).trans ((if_neg set).trans (if_pos hn))
  · have set : ¬ s.rdu.clock.set = false := by simp [hc]
    exact (failedCheck_open ho).trans ((if_neg set).trans ((if_neg (not_not_intro hn)).trans (if_pos hf)))

/-- Settles O23. -/
theorem dispatchChecks : Obligations.DispatchChecks := by
  intro src seq l why s hp hl hop hnew h c isOpen new hwhy reply q
  let f : DispatchFields :=
    { id := nat32At l 0, dir := byteAt l 4, requested := int16At l 5, delay := nat16At l 7, duration := nat16At l 9 }
  have judged : judgeDispatch h f = ⟨reply, none⟩ := by
    rw [judgeDispatch_failed (failedCheck_first hop hwhy), startSlot_eq]
    rfl
  refine (exec_dispatch_judged hp hl hop hnew).trans (concluded_congr ?_)
  show answerDispatch src seq f h = _
  rw [answerDispatch_declined (by rw [judged]), judged]
  have hq : q.rsu = h.rsu := queueOut_rsu _ _
  have free : q.freeCount = h.freeCount := by simp [q]
  by_cases hc : c.set = true
  · rw [if_pos hc, if_pos hc, queueOut_raiseHighId, ← free]
    show modRsu _ (raiseHighId _ q) = _
    simp only [raiseHighId, modRsu, hq]
    rfl
  · rw [if_neg hc, if_neg hc, queueOut_raiseHighId, queueOut_countFree, ← free]
    show modRsu _ (raiseHighId _ (countFree q)) = _
    simp only [raiseHighId, modRsu, countFree, hq]
    rfl

/-! ### The accepted power and the placement (R139 to R142) -/

theorem failedCheck_none {f : DispatchFields} {s : State} {dir : Direction} (ho : s.tsm.op = .coordinating)
    (hc : s.rdu.clock.set = true) (hn : ∀ i, s.rsu.highId = some i → i < f.id) (hd : directionOfCode f.dir = some dir)
    (hr : 0 < f.requested) (ht : 0 < f.duration) : failedCheck s f = none := by
  have set : ¬ s.rdu.clock.set = false := by simp [hc]
  have known : ¬ (f.dir ≠ 1 ∧ f.dir ≠ 2) := fun h => by
    have := (directionOfCode_isNone_iff f.dir).2 h
    simp [hd] at this
  have fields : ¬ ((f.dir ≠ 1 ∧ f.dir ≠ 2) ∨ f.requested ≤ 0 ∨ f.duration = 0) :=
    not_or.2 ⟨known, by omega⟩
  exact (failedCheck_open ho).trans ((if_neg set).trans ((if_neg (not_not_intro hn)).trans (if_neg fields)))

theorem commitmentIn_eq (s : State) (slot : Nat) (dir : Direction) : commitmentIn s slot dir =
    match s.rsu.slots[slot]? with
    | none => 0
    | some r => if r.enabled = false then 0 else if dir = .up then r.up else r.down := by
  unfold commitmentIn
  cases s.rsu.slots[slot]? with
  | none => rfl
  | some r => cases dir <;> cases he : r.enabled <;> simp [he]

theorem capabilityIn_eq (s : State) (dir : Direction) :
    capabilityIn s dir = if dir = .up then s.rsu.upCap else s.rsu.downCap := by
  cases dir <;> rfl

/-- The result and the reason, each by the accepted power (R139). -/
theorem resultOf_eq (requested : Int) (t : Terms) : resultOf requested t =
    (if t.accepted = requested then .accept else if 0 < t.accepted then .partly else .decline,
     if t.accepted = requested then .none
     else if 0 < t.accepted then (if t.commitment ≤ t.capability then .commitment else .capability)
     else if t.commitment = 0 then .notCommitted else .noCapability) := by
  unfold resultOf
  split
  · rfl
  · split <;> rfl

section
variable {s : State} {f : DispatchFields} {dir : Direction} (hf : failedCheck s f = none) (hd : directionOfCode f.dir = some dir)
include hf hd

/-- An accepted power of zero or less declines. -/
theorem judgeDispatch_no_power (hr : 0 < f.requested) (ha : (termsOf s dir f.requested (startSlot s f)).accepted ≤ 0) :
    judgeDispatch s f =
      ⟨replyOf f (startSlot s f) (resultOf f.requested (termsOf s dir f.requested (startSlot s f))).1
        (resultOf f.requested (termsOf s dir f.requested (startSlot s f))).2 0, none⟩ := by
  have declined : (resultOf f.requested (termsOf s dir f.requested (startSlot s f))).1 = .decline := by
    rw [resultOf_eq]
    show (if _ then _ else _) = _
    rw [if_neg (by omega), if_neg (by omega)]
  simp only [judgeDispatch, hf, hd]
  rw [if_pos declined]

theorem judgeDispatch_power (ha : 0 < (termsOf s dir f.requested (startSlot s f)).accepted) :
    judgeDispatch s f =
      ⟨replyOf f (startSlot s f) (resultOf f.requested (termsOf s dir f.requested (startSlot s f))).1
        (resultOf f.requested (termsOf s dir f.requested (startSlot s f))).2
        (termsOf s dir f.requested (startSlot s f)).accepted,
      some (newDispatch s f dir (termsOf s dir f.requested (startSlot s f)).accepted (startSlot s f))⟩ := by
  have taken : (resultOf f.requested (termsOf s dir f.requested (startSlot s f))).1 ≠ .decline := by
    rw [resultOf_eq]
    show (if _ then _ else _) ≠ _
    rw [if_pos ha]
    split <;> decide
  simp only [judgeDispatch, hf, hd]
  rw [if_neg taken]

end

/-- An id above the highest becomes the highest. -/
theorem raiseHighId_of_new {id : Nat} {s : State} (h : ∀ i, s.rsu.highId = some i → i < id) :
    raiseHighId id s = { s with rsu := { s.rsu with highId := some id } } := by
  unfold raiseHighId modRsu
  cases hi : s.rsu.highId with
  | none => simp only [hi]
  | some i => simp only [hi, max_eq_right (h i hi).le]

theorem placeDispatch_armed {d : Dispatch} {s : State} (h : d.countdown ≠ 0) :
    placeDispatch d s = modRsu (fun r => { r with armed := some d }) (dropArmed .superseded s) := if_neg h

theorem answerDispatch_placed {src seq : Byte} {f : DispatchFields} {s : State} {d : Dispatch} (hc : s.rdu.clock.set = true)
    (h : (judgeDispatch s f).place = some d) :
    answerDispatch src seq f s =
      modRsu (fun r => { r with lastReply := some ⟨f.id, src, seq, (judgeDispatch s f).reply⟩ })
        (queueOut ⟨src, .dispReply (judgeDispatch s f).reply⟩ (runTriggers (placeDispatch d (raiseHighId f.id s)))) := by
  simp only [answerDispatch, h, hc, if_true]
  rfl

/-- Settles O24: the judgement gives the reply and the record, and the placement is by the delay and the ARMED dispatch. -/
theorem dispatchAccepted : Obligations.DispatchAccepted := by
  intro src seq l dir s hp hl hnew h c ho hc hid hdir hreq hdur request delay duration at_ slot commit cap a result reason reply h1
    answered d
  let f : DispatchFields :=
    { id := nat32At l 0, dir := byteAt l 4, requested := int16At l 5, delay := nat16At l 7, duration := nat16At l 9 }
  have checks : failedCheck h f = none := failedCheck_none ho hc hid hdir hreq hdur
  have hslot : startSlot h f = slot := by
    rw [startSlot_eq, if_pos hc]
    show (c.minute * 60 + c.second + delay) % 86400 / 1800 = (c.weekday * 86400 + c.minute * 60 + c.second + delay) % 604800 % 86400 / 1800
    omega
  have hterms : termsOf h dir f.requested (startSlot h f) = ⟨commit, cap, a⟩ := by
    rw [hslot]
    unfold termsOf
    rw [commitmentIn_eq, capabilityIn_eq] <;> rfl
  have hraised : raiseHighId f.id h = h1 := raiseHighId_of_new hid
  have judged : exec (.dispatch src seq l) s = .next (concluded s (answerDispatch src seq f h)) :=
    exec_dispatch_judged hp hl (by simp [show (heard s).tsm.op = .coordinating from ho]) hnew
  have declined (ha : a ≤ 0) : judgeDispatch h f = ⟨reply, none⟩ := by
    rw [judgeDispatch_no_power checks hdir hreq (by rw [hterms]; exact ha), hterms, hslot, resultOf_eq]
    show _ = (⟨⟨_, _, _, _, _, max 0 a, _, _, _⟩, none⟩ : Judged)
    rw [max_eq_left ha]
    rfl
  have hrecord : newDispatch h f dir a slot = d := by
    unfold newDispatch clockReading
    rw [if_pos hc]
    rfl
  have accepted (ha : 0 < a) : judgeDispatch h f = ⟨reply, some d⟩ := by
    rw [judgeDispatch_power checks hdir (by rw [hterms]; exact ha), hterms, hslot, resultOf_eq, hrecord]
    show _ = (⟨⟨_, _, _, _, _, max 0 a, _, _, _⟩, some d⟩ : Judged)
    rw [max_eq_right ha.le]
    rfl
  have placed (ha : 0 < a) {u : State} (hu : placeDispatch d h1 = u) :
      exec (.dispatch src seq l) s = .next (concluded s (answered (runTriggers u))) := by
    rw [judged, answerDispatch_placed hc (by rw [accepted ha]), accepted ha, hraised, hu]
    rfl
  refine ⟨fun ha => ?_, fun ha hdelay harm => ?_, fun e ha hdelay harm => ?_, fun ha hdelay => ?_⟩
  · rw [judged, answerDispatch_declined (by rw [declined ha]), declined ha, if_pos hc, hraised]
    rfl
  · refine placed ha ((placeDispatch_armed (d := d) (s := h1) (by show delay * 10 ≠ 0; omega)).trans ?_)
    rw [dropArmed_none harm]
    rfl
  · refine placed ha ((placeDispatch_armed (d := d) (s := h1) (by show delay * 10 ≠ 0; omega)).trans ?_)
    rw [dropArmed_some harm]
    rfl
  · exact placed ha (if_pos (by show delay * 10 = 0; omega))

/-! ### A dispatch starts (R141, R143, R144) -/

/-- An ending leaves every block but SLI, TSM's flags and the ACTIVE record. -/
theorem endActive_frame (e : EndState) (s : State) :
    let t := endActive e s
    t.rsu = { s.rsu with active := none } ∧ t.ylc = s.ylc ∧ t.frt = s.frt ∧ t.sbu = s.sbu ∧ t.rdu = s.rdu ∧ t.ale = s.ale ∧
      t.stp = s.stp ∧ t.tsm.store = s.tsm.store ∧ t.tsm.op = s.tsm.op := by
  cases h : s.rsu.active with
  | none => rw [endActive_none h, ← h]; simp
  | some d => rw [endActive_eq h]; simp

/-- A drop leaves every block but SLI, TSM's flags and the ARMED record. -/
theorem dropArmed_frame (c : DropCause) (s : State) :
    let t := dropArmed c s
    t.rsu = { s.rsu with armed := none } ∧ t.ylc = s.ylc ∧ t.frt = s.frt ∧ t.sbu = s.sbu ∧ t.rdu = s.rdu ∧ t.ale = s.ale ∧
      t.stp = s.stp ∧ t.tsm.store = s.tsm.store ∧ t.tsm.op = s.tsm.op := by
  cases h : s.rsu.armed with
  | none => rw [dropArmed_none h, ← h]; simp
  | some d => rw [dropArmed_some h]; simp

theorem wantPass_frame (s : State) :
    let t := wantPass s
    t.sli = s.sli ∧ t.tsm = s.tsm ∧ t.ylc = s.ylc ∧ t.frt = s.frt ∧ t.sbu = s.sbu ∧ t.rdu = s.rdu ∧ t.rsu = s.rsu ∧ t.stp = s.stp ∧
      t.ale = { s.ale with pending := s.ale.pending || decide (s.tsm.op ≠ .starting) } := by
  unfold wantPass
  split
  · next h => simp [h]
  · next h => simp [h]

/-- The notice of a dropped dispatch stands as it would before the drop. -/
theorem dropArmed_sends {c : DropCause} {s : State} {d : Dispatch} (h : s.rsu.armed = some d) :
    (dropArmed c s).sli = (notice (.armedDropped d.id c) s).sli ∧
      (dropArmed c s).tsm = (notice (.armedDropped d.id c) s).tsm := by
  rw [dropArmed_some h]
  exact notice_same _ rfl rfl rfl

/-- Settles O25: the blocks by the frames of the ending, the drop and the pass asked for; the telegrams by what stood. -/
theorem dispatchStarts : Obligations.DispatchStarts := by
  intro d s t ended
  let e := endActive .superseded s
  let u := dropArmed .superseded e
  obtain ⟨ersu, eylc, efrt, esbu, erdu, eale, estp, estore, eop⟩ := endActive_frame .superseded s
  obtain ⟨ursu, uylc, ufrt, usbu, urdu, uale, ustp, ustore, uop⟩ := dropArmed_frame .superseded e
  obtain ⟨tsli, ttsm, tylc, tfrt, tsbu, trdu, trsu, tstp, tale⟩ := wantPass_frame (modRsu (fun r => { r with
    active := some (d.started ((s.rsu.active.map Dispatch.baseline).getD (fleetMeasured s)) (clockReading s)) }) u)
  have armed : e.rsu.armed = s.rsu.armed := by
    show (endActive .superseded s).rsu.armed = _
    rw [ersu]
  have sends {v : State} (hs : u.sli = v.sli) (ht : u.tsm = v.tsm) : t.sli = v.sli ∧ t.tsm = v.tsm :=
    ⟨(show t.sli = u.sli from tsli).trans hs, (show t.tsm = u.tsm from ttsm).trans ht⟩
  refine ⟨?_, ?_, fun ha hr => ?_, fun a ha hr => ?_, fun x ha hr => ?_, fun a x ha hr => ?_, ?_, ?_, ?_, ?_, ?_, ?_,
    fun hp hr => ?_⟩
  · have left : u.rsu = { s.rsu with active := none, armed := none } := by rw [ursu, ersu]
    refine Eq.trans (show t.rsu = _ from trsu) ?_
    rw [modRsu_rsu, left]
    cases s.rsu.active <;> rfl
  · refine Eq.trans (show t.ale = _ from tale) ?_
    rw [modRsu_ale, modRsu_tsm, uale, uop, eale, eop]
  · have still : u = s := (dropArmed_none (armed.trans hr)).trans (endActive_none ha)
    exact sends (by rw [still]) (by rw [still])
  · have left : u = e := dropArmed_none (armed.trans hr)
    have gone : e = _ := endActive_eq ha
    exact sends (by rw [left, gone]; rfl) (by rw [left, gone]; rfl)
  · have same : e = s := endActive_none ha
    obtain ⟨hsli, htsm⟩ := dropArmed_sends (c := .superseded) (armed.trans hr)
    obtain ⟨nsli, ntsm⟩ := notice_same (.armedDropped x.id .superseded) (s := e) (t := s) (congrArg State.sli same)
      (congrArg State.tsm same) (congrArg (fun v => v.rdu.clock) same)
    exact sends (hsli.trans nsli) (htsm.trans ntsm)
  · have gone : e = _ := endActive_eq ha
    obtain ⟨hsli, htsm⟩ := dropArmed_sends (c := .superseded) (armed.trans hr)
    have reads : e.rdu.clock = (queueOut (ended a) s).rdu.clock := by rw [gone]; rfl
    obtain ⟨nsli, ntsm⟩ := notice_same (.armedDropped x.id .superseded) (s := e) (t := queueOut (ended a) s)
      (by rw [gone]; rfl) (by rw [gone]; rfl) reads
    exact sends (hsli.trans nsli) (htsm.trans ntsm)
  · exact tfrt.trans (ufrt.trans efrt)
  · exact tylc.trans (uylc.trans eylc)
  · exact tsbu.trans (usbu.trans esbu)
  · exact trdu.trans (urdu.trans erdu)
  · exact tstp.trans (ustp.trans estp)
  · exact (congrArg Tsm.store ttsm).trans (ustore.trans estore)
  · have isSome : s.rsu.armed.isSome = true := by rw [hr]; rfl
    refine (live_on armedCounted s hp).trans (congrArg (fun v => Host.Outcome.next (finish v)) ((if_pos isSome).trans ?_))
    simp only [startArmed, hr]
    rfl

/-- Settles O26. -/
theorem dispatchExpiryEnds : Obligations.DispatchExpiryEnds := by
  intro d s hp hd q
  have isSome : s.rsu.active.isSome = true := by rw [hd]; rfl
  refine (live_on dispatchRanOut s hp).trans (congrArg (fun v => Host.Outcome.next (finish v)) ((if_pos isSome).trans ?_))
  let ranOut : State := updActive (fun d => { d with remaining := 0 }) s
  have active : ranOut.rsu.active = some { d with remaining := 0 } := by simp [ranOut, updActive, hd]
  show trigger (endActive .complete ranOut) = _
  rw [endActive_some active]
  show trigger (modRsu _ (queueOut _ (modRsu _ s))) = _
  have hq : q.rsu = s.rsu := queueOut_rsu _ s
  rw [queueOut_modRsu, ← hq]
  rfl

/-! ### Silence (R183, R153, R199) -/

/-- The entry into ISLAND: RSU's abandoned dispatches, then SBU's readings and meter state. -/
theorem enterIsland_eq (s : State) :
    enterIsland s =
      (let u := abandonDispatches .island (modTsm (fun t => { t with op := .island }) s)
       let v := modSbu (fun b => { b with
         imp := none, building := none, gridCap := none, breach := 0
         meter := if u.sbu.meter = .fresh ∨ u.sbu.meter = .stale then .fallback else u.sbu.meter }) u
       if u.sbu.meter = .fresh ∨ u.sbu.meter = .stale then notice (.meterFallback v.tsm.settings.fallbackBudget) v else v) := rfl

/-- The blocks behind abandoned dispatches. -/
theorem abandonDispatches_frame (c : DropCause) (s : State) (hop : s.tsm.op ≠ .starting) :
    let t := abandonDispatches c s
    t.rsu = { s.rsu with active := none, armed := none } ∧ t.ylc = s.ylc ∧ t.frt = s.frt ∧ t.sbu = s.sbu ∧ t.rdu = s.rdu ∧
      t.stp = s.stp ∧ t.tsm.store = s.tsm.store ∧ t.ale = { s.ale with pending := s.ale.pending || s.rsu.active.isSome } := by
  unfold abandonDispatches
  obtain ⟨ersu, eylc, efrt, esbu, erdu, eale, estp, estore, eop⟩ := endActive_frame .abandoned s
  obtain ⟨wsli, wtsm, wylc, wfrt, wsbu, wrdu, wrsu, wstp, wale⟩ := wantPass_frame (endActive .abandoned s)
  cases h : s.rsu.active with
  | none =>
    obtain ⟨ursu, uylc, ufrt, usbu, urdu, uale, ustp, ustore, uop⟩ := dropArmed_frame c s
    simp only [Option.isSome_none, Bool.false_eq_true, if_false, Bool.or_false]
    exact ⟨by rw [ursu, ← h], uylc, ufrt, usbu, urdu, ustp, ustore, uale⟩
  | some d =>
    obtain ⟨ursu, uylc, ufrt, usbu, urdu, uale, ustp, ustore, uop⟩ := dropArmed_frame c (wantPass (endActive .abandoned s))
    simp only [Option.isSome_some, if_true, Bool.or_true]
    refine ⟨by rw [ursu, wrsu, ersu], by rw [uylc, wylc, eylc], by rw [ufrt, wfrt, efrt], by rw [usbu, wsbu, esbu],
      by rw [urdu, wrdu, erdu], by rw [ustp, wstp, estp], by rw [ustore, wtsm, estore], ?_⟩
    rw [uale, wale, eop, eale]
    simp [hop]

/-- The telegrams of abandoned dispatches: the OUTCOME of an ACTIVE one, then the notice of an ARMED one. -/
def tellAbandoned (c : DropCause) (s : State) : State :=
  let ended : State := match s.rsu.active with
    | none => s
    | some d => queueOut (outcomeMsg .abandoned d s) s
  match s.rsu.armed with
  | none => ended
  | some d => queueOut ⟨103, .notice (.armedDropped d.id c) (clockReading s)⟩ ended

/-- A notice of a dropped dispatch goes to the aggregator with the reading of its moment. -/
theorem notice_armedDropped (id : Nat) (c : DropCause) (s : State) :
    notice (.armedDropped id c) s = queueOut ⟨103, .notice (.armedDropped id c) (clockReading s)⟩ s := rfl

theorem clockReading_of_clock {s t : State} (h : t.rdu.clock = s.rdu.clock) : clockReading t = clockReading s := by
  unfold clockReading
  rw [h]

/-- What abandoned dispatches leave in SLI and TSM is what their telegrams leave. -/
theorem abandonDispatches_tells (c : DropCause) (s : State) :
    (abandonDispatches c s).sli = (tellAbandoned c s).sli ∧ (abandonDispatches c s).tsm = (tellAbandoned c s).tsm ∧
      (tellAbandoned c s).rdu.clock = s.rdu.clock := by
  let ended : State := match s.rsu.active with
    | none => s
    | some d => queueOut (outcomeMsg .abandoned d s) s
  let begun : State := if s.rsu.active.isSome then wantPass (endActive .abandoned s) else s
  have agree : begun.sli = ended.sli ∧ begun.tsm = ended.tsm ∧ begun.rdu.clock = s.rdu.clock ∧
      ended.rdu.clock = s.rdu.clock ∧ begun.rsu.armed = s.rsu.armed := by
    cases h : s.rsu.active with
    | none => simp [begun, ended, h]
    | some d =>
      obtain ⟨wsli, wtsm, wylc, wfrt, wsbu, wrdu, wrsu, wstp, wale⟩ := wantPass_frame (endActive .abandoned s)
      simp only [begun, ended, h, Option.isSome_some, if_true, wsli, wtsm, wrdu, wrsu]
      rw [endActive_eq h]
      simp
  obtain ⟨hsli, htsm, hbegun, hended, harmed⟩ := agree
  show (dropArmed c begun).sli = _ ∧ (dropArmed c begun).tsm = _ ∧ _
  cases h : s.rsu.armed with
  | none =>
    rw [dropArmed_none (harmed.trans h)]
    simp only [tellAbandoned, h]
    exact ⟨hsli, htsm, hended⟩
  | some d =>
    obtain ⟨nsli, ntsm⟩ := dropArmed_sends (c := c) (harmed.trans h)
    rw [nsli, ntsm, notice_armedDropped, clockReading_of_clock hbegun]
    simp only [tellAbandoned, h]
    obtain ⟨qsli, qtsm⟩ := queueOut_same ⟨103, .notice (.armedDropped d.id c) (clockReading s)⟩ hsli htsm
      (hbegun.trans hended.symm)
    exact ⟨qsli, qtsm, by simpa using hended⟩

/-- The part in ISLAND, before RSU and SBU act on it. -/
def islanded (s : State) : State := modTsm (fun t => { t with op := .island }) s

/-- SBU's values in ISLAND (R75). -/
def Sbu.islanded (b : Sbu) : Sbu := { b with
  imp := none, building := none, gridCap := none, breach := 0
  meter := if b.meter = .fresh ∨ b.meter = .stale then .fallback else b.meter }

/-- What the entry into ISLAND queues: RSU's telegrams, then METER_FALLBACK where a reading was in use. -/
def tellIsland (s : State) : State :=
  if s.sbu.meter = .fresh ∨ s.sbu.meter = .stale then
    queueOut ⟨105, .notice (.meterFallback s.tsm.settings.fallbackBudget) (clockReading s)⟩ (tellAbandoned .island (islanded s))
  else tellAbandoned .island (islanded s)

/-- The entry into ISLAND, block by block. -/
theorem enterIsland_frame (s : State) :
    let t := enterIsland s
    t.sli = (tellIsland s).sli ∧ t.tsm = (tellIsland s).tsm ∧ t.tsm.op = .island ∧ t.sbu = s.sbu.islanded ∧
      t.rsu = { s.rsu with active := none, armed := none } ∧
      t.ale = { s.ale with pending := s.ale.pending || s.rsu.active.isSome } ∧
      t.frt = s.frt ∧ t.ylc = s.ylc ∧ t.rdu = s.rdu ∧ t.stp = s.stp := by
  let a := abandonDispatches .island (islanded s)
  let v := modSbu Sbu.islanded a
  obtain ⟨arsu, aylc, afrt, asbu, ardu, astp, astore, aale⟩ := abandonDispatches_frame .island (islanded s) (by simp [islanded])
  obtain ⟨tsli, ttsm, tclock⟩ := abandonDispatches_tells .island (islanded s)
  have asbu' : a.sbu = s.sbu := asbu
  have settings : v.tsm.settings = s.tsm.settings := by simp [v, a, islanded]
  have op : v.tsm.op = .island := by simp [v, a, islanded]
  have vsbu : v.sbu = s.sbu.islanded := congrArg Sbu.islanded asbu'
  have reading : clockReading v = clockReading s := clockReading_of_clock (congrArg Rdu.clock ardu)
  have entered : enterIsland s =
      if a.sbu.meter = .fresh ∨ a.sbu.meter = .stale then notice (.meterFallback v.tsm.settings.fallbackBudget) v else v := rfl
  rw [entered, asbu']
  by_cases hm : s.sbu.meter = .fresh ∨ s.sbu.meter = .stale
  · have told : tellIsland s = queueOut ⟨105, .notice (.meterFallback s.tsm.settings.fallbackBudget) (clockReading s)⟩
        (tellAbandoned .island (islanded s)) := if_pos hm
    have noticed : notice (.meterFallback v.tsm.settings.fallbackBudget) v =
        queueOut ⟨105, .notice (.meterFallback s.tsm.settings.fallbackBudget) (clockReading s)⟩ v := by
      rw [settings, ← reading]
      rfl
    obtain ⟨qsli, qtsm⟩ := queueOut_same ⟨105, .notice (.meterFallback s.tsm.settings.fallbackBudget) (clockReading s)⟩
      (s := v) (t := tellAbandoned .island (islanded s)) tsli ttsm ((congrArg Rdu.clock ardu).trans tclock.symm)
    obtain ⟨qylc, qfrt, qsbu, qrdu, qale, qrsu, qstp, qop⟩ :=
      queueOut_blocks ⟨105, .notice (.meterFallback s.tsm.settings.fallbackBudget) (clockReading s)⟩ v
    rw [if_pos hm, told, noticed]
    exact ⟨qsli, qtsm, qop.trans op, qsbu.trans vsbu, qrsu.trans arsu, qale.trans aale, qfrt.trans afrt, qylc.trans aylc,
      qrdu.trans ardu, qstp.trans astp⟩
  · have told : tellIsland s = tellAbandoned .island (islanded s) := if_neg hm
    rw [if_neg hm, told]
    exact ⟨tsli, ttsm, op, vsbu, arsu, aale, afrt, aylc, ardu, astp⟩

/-- Settles O21: in COORDINATING the entry into ISLAND behind the noted silence, elsewhere the noted silence alone. -/
theorem silenceEntersIsland : Obligations.SilenceEntersIsland := by
  intro s hp hm
  let silent : State := { s with
    sli := { s.sli with silence := 600, silentMark := true }, tsm := { s.tsm with silenceStanding := true } }
  have marked : ¬ s.sli.silentMark = true := by simp [hm]
  have expired (hop : s.tsm.op ≠ .starting) : exec .silenceTimeout s =
      .next (finish (if s.tsm.op = .coordinating then runTriggers (enterIsland silent) else silent)) := by
    refine (live_on silenceExpired s hp).trans (congrArg (fun v => Host.Outcome.next (finish v)) ?_)
    exact if_neg (not_or.2 ⟨hop, marked⟩)
  refine ⟨fun hop => ?_, fun hop => ?_⟩
  · intro noted ended dropped told
    obtain ⟨usli, utsm, uop, usbu, ursu, uale, ufrt, uylc, urdu, ustp⟩ := enterIsland_frame silent
    have htold : tellIsland silent = told := rfl
    refine ⟨enterIsland silent, ?_, usli.trans (by rw [htold]), utsm.trans (by rw [htold]), ?_, ?_, ?_, uop, ?_, ?_, ?_, ?_, ?_,
      ?_, ?_, ursu, uale, ufrt, uylc, urdu, ustp, ?_⟩
    · rw [expired (by rw [hop]; decide), if_pos hop]
    · simp [silent]
    · simp [silent]
    · simp [silent]
    · rw [usbu]; rfl
    · rw [usbu]; rfl
    · rw [usbu]; rfl
    · rw [usbu]; rfl
    · rw [usbu]; rfl
    · rw [usbu]; rfl
    · rw [usbu]; rfl
    · simp [silent]
  · have notStarting : s.tsm.op ≠ .starting := by rcases hop with h | h <;> rw [h] <;> decide
    have notOpen : s.tsm.op ≠ .coordinating := by rcases hop with h | h <;> rw [h] <;> decide
    rw [expired notStarting, if_neg notOpen]

end Sys2Proof.Machine
end

section
/-! The framers and the rows of the segments in bytes (11_telegram_formats_and_terminals.md, R196, R202 to R208): what a hunting
framer passes over, that it reads what was sent, and that a staged row reads back (O11 to O13). -/

namespace Sys2Proof.Machine

/-! ### What a hunt passes over (R203) -/

theorem hunt_no_start {l : List Byte} (h : startByte ∉ l) : hunt l = .keep [] := by
  induction l with
  | nil => rfl
  | cons b l ih =>
    obtain ⟨hb, hl⟩ := not_or.1 (mt List.mem_cons.2 h)
    rw [hunt, if_neg (Ne.symm hb)]
    exact ih hl

theorem readAfterStart_bad {l : List Byte} (h : BadTelegram l) : readAfterStart l = some none := by
  unfold readAfterStart
  rcases h with ⟨hlen, hbig⟩ | ⟨hn, hlen, hcrc⟩
  · rw [if_neg (by omega)]
    exact if_pos hbig
  · rw [if_neg (by omega)]
    dsimp only
    rw [if_neg (by show ¬ 200 < _; omega), if_neg (by omega), if_neg hcrc]

theorem hunt_bad {l : List Byte} (h : BadTelegram l) : hunt (startByte :: l) = hunt l := by
  rw [hunt, if_pos rfl, readAfterStart_bad h]

theorem readAfterStart_shorter {l rest : List Byte} {t : Telegram} (h : readAfterStart l = some (some (t, rest))) :
    rest.length < l.length := by
  unfold readAfterStart at h
  split at h
  · cases h
  · dsimp only at h
    split at h
    · cases h
    · split at h
      · cases h
      · split at h
        · simp only [Option.some.injEq, Prod.mk.injEq] at h
          obtain ⟨-, rfl⟩ := h
          rw [List.length_drop]
          omega
        · cases h

/-- A telegram found takes bytes. -/
theorem hunt_shorter {l rest : List Byte} {t : Telegram} (h : hunt l = .telegram t rest) : rest.length < l.length := by
  induction l with
  | nil => cases h
  | cons b l ih =>
    rw [hunt] at h
    split at h
    · split at h
      · cases h
      · next hr =>
        cases h
        exact (readAfterStart_shorter hr).trans (Nat.lt_succ_self _)
      · exact (ih h).trans (Nat.lt_succ_self _)
    · exact (ih h).trans (Nat.lt_succ_self _)

/-- More turns than bytes: the number of turns does not matter. -/
theorem frameAll_turns {n m : Nat} {l : List Byte} (hn : l.length < n) (hm : l.length < m) : frameAll n l = frameAll m l := by
  induction n generalizing m l with
  | zero => omega
  | succ n ih =>
    cases m with
    | zero => omega
    | succ m =>
      unfold frameAll
      cases h : hunt l with
      | keep rest => rfl
      | telegram t rest =>
        have := hunt_shorter h
        dsimp only
        rw [ih (m := m) (l := rest) (by omega) (by omega)]

/-- Two runs in which the hunt finds the same hold the same telegrams and leave the same bytes. -/
theorem frameAll_of_hunt {l k : List Byte} (h : hunt l = hunt k) (hl : k.length ≤ l.length) :
    frameAll (l.length + 1) l = frameAll (k.length + 1) k := by
  have same : frameAll (l.length + 1) l = frameAll (l.length + 1) k := by
    unfold frameAll
    rw [h]
  rw [same]
  exact frameAll_turns (by omega) (by omega)

/-- Settles O11. -/
theorem framersHunt : Obligations.FramersHunt := by
  intro link l s hempty
  refine ⟨fun hp hno => ?_, fun hbad => ?_⟩
  · have none : frameAll (l.length + 1) l = ([], []) := by rw [frameAll, hunt_no_start hno]
    cases link with
    | site =>
      refine (live_on (siteBytes l) s hp).trans (congrArg (fun v => Host.Outcome.next (finish v)) ?_)
      have hf : s.sli.framer = [] := hempty
      simp only [siteBytes, hf, List.nil_append, none, List.foldl_nil, modSli]
      rw [← hf]
    | yard =>
      refine (live_on (yardBytes l) s hp).trans (congrArg (fun v => Host.Outcome.next (finish v)) ?_)
      have hf : s.ylc.framer = [] := hempty
      simp only [yardBytes, hf, List.nil_append, none, List.foldl_nil, modYlc]
      rw [← hf, ite_self]
  · have same := frameAll_of_hunt (hunt_bad hbad) (Nat.le_succ l.length)
    cases link with
    | site =>
      have hf : s.sli.framer = [] := hempty
      have run : siteBytes (startByte :: l) s = siteBytes l s := by simp only [siteBytes, hf, List.nil_append, same]
      show live (siteBytes (startByte :: l)) s = live (siteBytes l) s
      rw [live, live, run]
    | yard =>
      have hf : s.ylc.framer = [] := hempty
      have run : yardBytes (startByte :: l) s = yardBytes l s := by simp only [yardBytes, hf, List.nil_append, same]
      show live (yardBytes (startByte :: l)) s = live (yardBytes l) s
      rw [live, live, run]

/-! ### A telegram sent is read (R202, R203) -/

/-- Settles O12: behind the start byte stand the covered bytes, their CRC and the rest. -/
theorem framerReadsWhatIsSent : Obligations.FramerReadsWhatIsSent := by
  intro t rest hlen
  let c := telegramCovered t
  let k := bytesOfBits16 (crc c)
  have clen : c.length = 5 + t.payload.length := by simp [c, telegramCovered]; omega
  have klen : k.length = 2 := rfl
  have count : nat8At (c ++ k ++ rest) 4 = t.payload.length := by
    show (BitVec.ofNat 8 t.payload.length).toNat = _
    rw [BitVec.toNat_ofNat]
    omega
  have covered : (c ++ k ++ rest).take (5 + t.payload.length) = c := by
    rw [List.append_assoc, ← clen, List.take_left]
  have behind : (c ++ k ++ rest).drop (5 + t.payload.length) = k ++ rest := by
    rw [List.append_assoc, ← clen, List.drop_left]
  have payload : ((c ++ k ++ rest).drop 5).take t.payload.length = t.payload := by
    show (t.payload ++ k ++ rest).take _ = _
    rw [List.append_assoc, List.take_left]
  have left : (c ++ k ++ rest).drop (7 + t.payload.length) = rest := by
    rw [show 7 + t.payload.length = (c ++ k).length by simp [clen, klen]; omega, List.drop_left]
  have read : readAfterStart (c ++ k ++ rest) = some (some (t, rest)) := by
    unfold readAfterStart
    simp only [count, covered, behind, payload, left]
    rw [if_neg (by simp [clen, klen]; omega), if_neg (by show ¬ 200 < _; omega), if_neg (by simp [clen, klen]; omega),
      if_pos (by rw [← klen, List.take_left])]
    rfl
  show hunt (startByte :: (c ++ k ++ rest)) = _
  rw [hunt, if_pos rfl, read]

/-! ### Bytes of a list (R205) -/

/-- n bytes of a list from a place on. -/
def slice (l : List Byte) (i n : Nat) : List Byte := (l.drop i).take n

theorem slice_append {l : List Byte} {i a j b : Nat} (h : j = i + a) : slice l i a ++ slice l j b = slice l i (a + b) := by
  subst h
  unfold slice
  rw [← List.drop_drop, List.take_add]

theorem slice_all {l : List Byte} {n : Nat} (h : l.length = n) : slice l 0 n = l := by
  rw [slice, List.drop_zero, List.take_of_length_le h.le]

theorem slice_one {l : List Byte} {i : Nat} (h : i < l.length) : [byteAt l i] = slice l i 1 := by
  rw [slice, List.drop_eq_getElem_cons h, List.take_succ_cons, List.take_zero, byteAt, List.getD_eq_getElem _ _ h]

theorem slice_two {l : List Byte} {i : Nat} (h : i + 1 < l.length) : [byteAt l i, byteAt l (i + 1)] = slice l i 2 := by
  rw [← slice_append (l := l) (i := i) (a := 1) (b := 1) rfl, ← slice_one (by omega), ← slice_one h]
  rfl

theorem bytes8_nat8At {l : List Byte} {i : Nat} (h : i < l.length) : bytes8 (nat8At l i) = slice l i 1 := by
  rw [← slice_one h, bytes8, nat8At, BitVec.ofNat_toNat, BitVec.setWidth_eq]

theorem bytesInt8_int8At {l : List Byte} {i : Nat} (h : i < l.length) : bytesInt8 (int8At l i) = slice l i 1 := by
  rw [← slice_one h, bytesInt8, int8At, BitVec.ofInt_toInt]

theorem bytes16_nat16At {l : List Byte} {i : Nat} (h : i + 1 < l.length) : bytes16 (nat16At l i) = slice l i 2 := by
  rw [← slice_two h, bytes16, nat16At, nat8At, nat8At]
  have low := (byteAt l (i + 1)).isLt
  have high := (byteAt l i).isLt
  have first : BitVec.ofNat 8 (((byteAt l i).toNat * 256 + (byteAt l (i + 1)).toNat) / 256) = byteAt l i := by
    apply BitVec.eq_of_toNat_eq
    rw [BitVec.toNat_ofNat]
    omega
  have second : BitVec.ofNat 8 ((byteAt l i).toNat * 256 + (byteAt l (i + 1)).toNat) = byteAt l (i + 1) := by
    apply BitVec.eq_of_toNat_eq
    rw [BitVec.toNat_ofNat]
    omega
  rw [first, second]

/-- The two bytes of a 16-bit vector are the bytes it was made of. -/
theorem bytesOfBits16_append (a b : Byte) : bytesOfBits16 (a ++ b) = [a, b] := by
  have high : (a ++ b).extractLsb' 8 8 = a := BitVec.extractLsb'_append_eq_left
  have low : (a ++ b).extractLsb' 0 8 = b := BitVec.extractLsb'_append_eq_right
  rw [bytesOfBits16, high, low]

theorem bytesPower_int16At {l : List Byte} {i : Nat} (h : i + 1 < l.length) : bytesPower (int16At l i) = slice l i 2 := by
  have below := BitVec.toInt_lt (x := byteAt l i ++ byteAt l (i + 1))
  have above := BitVec.le_toInt (x := byteAt l i ++ byteAt l (i + 1))
  rw [← slice_two h, bytesPower, int16At, if_pos (by constructor <;> omega), BitVec.ofInt_toInt, bytesOfBits16_append]

/-! ### A list with one byte replaced -/

theorem slice_set {l : List Byte} {k n : Nat} {x : Byte} (h : l.length = k + 1 + n) :
    slice l 0 k ++ ([x] ++ slice l (k + 1) n) = l.set k x := by
  rw [List.set_eq_take_append_cons_drop, if_pos (by omega), slice, slice, List.drop_zero]
  rw [List.take_of_length_le (l := l.drop (k + 1)) (by rw [List.length_drop]; omega)]
  rfl

theorem slice_set_set {l : List Byte} {k n : Nat} {x y : Byte} (h : l.length = k + 1 + 1 + n) :
    slice l 0 k ++ ([x] ++ ([y] ++ slice l (k + 1 + 1) n)) = (l.set k x).set (k + 1) y := by
  have before : slice (l.set k x) 0 (k + 1) = slice l 0 k ++ [x] := by
    rw [← slice_set (l := l) (k := k) (n := 1 + n) (by omega), slice, List.drop_zero, ← List.append_assoc]
    exact List.take_left' (by simp [slice]; omega)
  have behind : slice (l.set k x) (k + 1 + 1) n = slice l (k + 1 + 1) n := by
    rw [slice, List.drop_set_of_lt (by omega), slice]
  rw [← slice_set (l := l.set k x) (n := n) (by simpa using h), before, behind]
  simp

theorem byteAt_set_ne {l : List Byte} {i k : Nat} {x : Byte} (h : i ≠ k) : byteAt (l.set k x) i = byteAt l i := by
  simp [byteAt, List.getD_eq_getElem?_getD, List.getElem?_set_ne (Ne.symm h)]

theorem byteAt_set_self {l : List Byte} {k : Nat} {x : Byte} (h : k < l.length) : byteAt (l.set k x) k = x := by
  simp [byteAt, List.getD_eq_getElem?_getD, h]

theorem flagAt_flagByte (b : Bool) : flagAt (flagByte [b]) 0 = b := by
  revert b
  decide

/-! ### Rows (R208) -/

/-- What the bytes of a row read are: the bytes it was read from, but for the flag bits and the day mask. -/
def normalized (g : Segment) (l : List Byte) : List Byte :=
  match g with
  | .fleet => l.set 12 (flagByte [flagAt (byteAt l 12) 0])
  | .route => (l.set 4 (byteAt l 4 &&& 0x7F)).set 5 (flagByte [flagAt (byteAt l 5) 0])
  | .yard => l.set 1 (flagByte [flagAt (byteAt l 1) 0])
  | .commitment => l.set 5 (flagByte [flagAt (byteAt l 5) 0])
  | _ => l

theorem length_normalized (g : Segment) (l : List Byte) : (normalized g l).length = l.length := by
  cases g <;> simp [normalized]

section
variable {l : List Byte}

theorem fleet_bytes (h : l.length = 15) : (Row.fleet (parseFleetRow l)).bytes = normalized .fleet l := by
  have tag : (l.drop 2).take 8 = slice l 2 8 := rfl
  rw [normalized, ← slice_set (n := 2) h]
  simp [Row.bytes, parseFleetRow, bytes16_nat16At, bytes8_nat8At, tag, slice_append, h]

theorem route_bytes (h : l.length = 15) : (Row.route (parseRouteRow l)).bytes = normalized .route l := by
  rw [normalized, ← slice_set_set (n := 9) h]
  simp [Row.bytes, parseRouteRow, bytes16_nat16At, bytes8_nat8At, slice_append, h]

theorem yard_bytes (h : l.length = 11) : (Row.yard (parseYardRow l)).bytes = normalized .yard l := by
  have map : [byteAt l 10] = slice l 10 1 := slice_one (by omega)
  rw [normalized, ← slice_set (n := 9) h]
  simp [Row.bytes, parseYardRow, bytesPower_int16At, bytes8_nat8At, slice_append, map, h]

theorem commitment_bytes (h : l.length = 6) : (Row.commitment (parseCommitRow l)).bytes = normalized .commitment l := by
  rw [normalized, ← slice_set (n := 0) h]
  simp [Row.bytes, parseCommitRow, bytesPower_int16At, bytes8_nat8At, slice_append, h]
  simp [slice]

theorem tariff_bytes (h : l.length = 8) : (Row.tariff (parseTariffRow l)).bytes = l := by
  have cap : (match (parseTariffRow l).cap with | none => bytes16 0xFFFF | some c => bytesPower c) = slice l 6 2 := by
    unfold parseTariffRow
    by_cases hc : nat16At l 6 = 0xFFFF
    · simp only [hc, if_true]
      rw [← hc, bytes16_nat16At (by omega)]
    · simp only [hc, if_false]
      exact bytesPower_int16At (by omega)
  show _ ++ _ ++ _ ++ _ ++ (match (parseTariffRow l).cap with | none => bytes16 0xFFFF | some c => bytesPower c) = l
  rw [cap]
  simp [parseTariffRow, bytes16_nat16At, bytes8_nat8At, slice_append, slice_all, h]

theorem passage_bytes (h : l.length = 7) : (Row.passage (parsePassageRow l)).bytes = l := by
  have kind : [byteAt l 1] = slice l 1 1 := slice_one (by omega)
  simp [Row.bytes, parsePassageRow, bytes8_nat8At, slice_append, slice_all, kind, h]

theorem settings_bytes (h : l.length = 39) : (Row.settings (parseSettings l)).bytes = l := by
  show settingsBytes (parseSettings l) = l
  unfold settingsBytes parseSettings
  simp only [bytesPower_int16At, bytes16_nat16At, bytes8_nat8At, bytesInt8_int8At, h, Nat.reduceAdd, Nat.reduceLT]
  simp only [slice_append, Nat.reduceAdd]
  exact slice_all h

/-! ### Reading them back (R196) -/

theorem parseFleetRow_normalized (h : l.length = 15) : parseFleetRow (normalized .fleet l) = parseFleetRow l := by
  have tag (x : Byte) : ((l.set 12 x).drop 2).take 8 = (l.drop 2).take 8 := by
    rw [List.drop_set, if_neg (by decide), List.take_set, List.set_eq_of_length_le (by simp)]
  simp [normalized, parseFleetRow, nat16At, nat8At, byteAt_set_ne, byteAt_set_self, flagAt_flagByte, tag, h]

theorem parseRouteRow_normalized (h : l.length = 15) : parseRouteRow (normalized .route l) = parseRouteRow l := by
  simp [normalized, parseRouteRow, nat16At, nat8At, byteAt_set_ne, byteAt_set_self, flagAt_flagByte, BitVec.and_assoc, h]

theorem parseYardRow_normalized (h : l.length = 11) : parseYardRow (normalized .yard l) = parseYardRow l := by
  simp [normalized, parseYardRow, int16At, nat8At, byteAt_set_ne, byteAt_set_self, flagAt_flagByte, h]

theorem parseCommitRow_normalized (h : l.length = 6) : parseCommitRow (normalized .commitment l) = parseCommitRow l := by
  simp [normalized, parseCommitRow, int16At, nat8At, byteAt_set_ne, byteAt_set_self, flagAt_flagByte, h]

end

/-- Settles O13: the bytes of a row are those it was read from, normalized, and read as the same row. -/
theorem rowReadsBack : Obligations.RowReadsBack := by
  intro g l r h
  have hl := parseRow_length h
  cases g with
  | fleet =>
    cases (if_pos hl).symm.trans h
    rw [fleet_bytes hl]
    exact (if_pos ((length_normalized _ l).trans hl)).trans (by rw [parseFleetRow_normalized hl])
  | route =>
    cases (if_pos hl).symm.trans h
    rw [route_bytes hl]
    exact (if_pos ((length_normalized _ l).trans hl)).trans (by rw [parseRouteRow_normalized hl])
  | yard =>
    cases (if_pos hl).symm.trans h
    rw [yard_bytes hl]
    exact (if_pos ((length_normalized _ l).trans hl)).trans (by rw [parseYardRow_normalized hl])
  | commitment =>
    cases (if_pos hl).symm.trans h
    rw [commitment_bytes hl]
    exact (if_pos ((length_normalized _ l).trans hl)).trans (by rw [parseCommitRow_normalized hl])
  | tariff =>
    cases (if_pos hl).symm.trans h
    rw [tariff_bytes hl]
    exact if_pos hl
  | passage =>
    cases (if_pos hl).symm.trans h
    rw [passage_bytes hl]
    exact if_pos hl
  | settings =>
    cases (if_pos hl).symm.trans h
    rw [settings_bytes hl]
    exact if_pos hl

end Sys2Proof.Machine
end

section
/-! The minute clock and the departure list (05_route_readiness.md): the minute's advance and TIME
(O18). -/

namespace Sys2Proof.Machine

/-! ### The list entry by entry (R92, R93) -/

/-- Every entry closes whose close has been reached, in list order. -/
theorem closeAll_eq (endOfDay : Bool) (s : State) :
    closeAll endOfDay s = s.rdu.list.foldl (fun v e => closeEntry endOfDay e.legNo v) s := List.foldl_map

theorem fallDueAll_eq (when : Leg → Bool) (s : State) :
    fallDueAll when s = s.rdu.list.foldl (fun v e => fallDue when e.legNo v) s := List.foldl_map

/-! ### The minute's advance (R79, R84) -/

/-- The part with a set clock at minute m of weekday w. -/
def clockAt (w m : Nat) (s : State) : State := { s with rdu := { s.rdu with clock := ⟨true, w, m, 0, 0⟩ } }

/-- Today's outcome of a row under a set clock. -/
def outcomeOn (w : Nat) (season : Season) (r : RouteRow) : LegOutcome := if r.runs w season then .pending else .notToday

theorem todayOutcome_of_set {s : State} (h : s.rdu.clock.set = true) (r : RouteRow) :
    todayOutcome s r = outcomeOn s.rdu.clock.weekday s.stp.season r := by
  simp [todayOutcome, outcomeOn, h]

/-- Today's fields of every leg set afresh, substitutes kept. -/
theorem outcomes_reset {s : State} (h : s.rdu.clock.set = true) :
    clearMarkers (resetOutcomes s) = { s with rdu := { s.rdu with legs := s.rdu.legs.map (fun x =>
      { x with unassigned := false, infeasible := false, outcome := outcomeOn s.rdu.clock.weekday s.stp.season x.row }) } } := by
  simp [clearMarkers, resetOutcomes, modRdu, Function.comp_def, todayOutcome_of_set h]

/-- Today's fields of every leg set afresh, substitutes gone. -/
theorem day_reset {s : State} (h : s.rdu.clock.set = true) :
    clearMarkers (clearSubstitutes (resetOutcomes s)) = { s with rdu := { s.rdu with legs := s.rdu.legs.map (fun x =>
      { x with
        substitute := none, unassigned := false, infeasible := false
        outcome := outcomeOn s.rdu.clock.weekday s.stp.season x.row }) } } := by
  simp [clearMarkers, clearSubstitutes, resetOutcomes, modRdu, Function.comp_def, todayOutcome_of_set h]

/-- The next minute of the day. -/
def nextMinute (s : State) : State :=
  let m := s.rdu.clock.minute + 1
  let fallen := fallDueAll (fun x => x.row.departure = m) (clockAt s.rdu.clock.weekday m s)
  closeAll false fallen

/-- The entries closed at the end of the day, at minute 0 under the old weekday (log 27). -/
def dayEnded (s : State) : State := closeAll true (clockAt s.rdu.clock.weekday 0 s)

/-- The first minute of the next day, before the list is built. -/
def nextDay (s : State) : State :=
  let next := (s.rdu.clock.weekday + 1) % 7
  { dayEnded s with rdu := { (dayEnded s).rdu with
    clock := ⟨true, next, 0, 0, 0⟩
    legs := (dayEnded s).rdu.legs.map (fun x =>
      { x with
        substitute := none, unassigned := false, infeasible := false, outcome := outcomeOn next s.stp.season x.row }) } }

theorem advanceMinute_of_lt {s : State} (hset : s.rdu.clock.set = true) (h : s.rdu.clock.minute < 1439) :
    advanceMinute s = nextMinute s := by
  have clock : modRdu (fun r => { r with clock := { r.clock with minute := s.rdu.clock.minute + 1, second := 0, tick := 0 } }) s =
      clockAt s.rdu.clock.weekday (s.rdu.clock.minute + 1) s := by
    simp only [modRdu, clockAt, hset]
  unfold advanceMinute
  dsimp only
  rw [if_pos h, clock]
  rfl

theorem nextMinute_eq (s : State) :
    let fallen := s.rdu.list.foldl (fun v e => fallDue (fun x => x.row.departure = s.rdu.clock.minute + 1) e.legNo v)
      (clockAt s.rdu.clock.weekday (s.rdu.clock.minute + 1) s)
    nextMinute s = fallen.rdu.list.foldl (fun v e => closeEntry false e.legNo v) fallen :=
  (closeAll_eq false _).trans (by rw [fallDueAll_eq]; rfl)

theorem dayEnded_eq (s : State) :
    dayEnded s = s.rdu.list.foldl (fun v e => closeEntry true e.legNo v) (clockAt s.rdu.clock.weekday 0 s) := closeAll_eq true _

theorem processMinute_eq (s : State) :
    let fallen := s.rdu.list.foldl (fun v e => fallDue (fun x => x.row.departure = s.rdu.clock.minute) e.legNo v) s
    processMinute s = fallen.rdu.list.foldl (fun v e => closeEntry false e.legNo v) fallen :=
  (closeAll_eq false _).trans (by rw [fallDueAll_eq])

theorem still_clock {s t : State} (h : still t = still s) : t.rdu.clock = s.rdu.clock := congrArg (fun x => x.2.2.1) h

theorem dayEnded_clock (s : State) : (dayEnded s).rdu.clock = ⟨true, s.rdu.clock.weekday, 0, 0, 0⟩ :=
  still_clock (still_closeAll true _)

theorem advanceMinute_of_ge {s : State} (hset : s.rdu.clock.set = true) (h : 1439 ≤ s.rdu.clock.minute) :
    advanceMinute s = buildList (nextDay s) := by
  have clock : modRdu (fun r => { r with clock := { r.clock with minute := 0, second := 0, tick := 0 } }) s =
      clockAt s.rdu.clock.weekday 0 s := by
    simp only [modRdu, clockAt, hset]
  have season : (dayEnded s).stp.season = s.stp.season := by simp [dayEnded, clockAt]
  unfold advanceMinute
  dsimp only
  rw [if_neg (Nat.not_lt.2 h), clock]
  unfold dayChange
  dsimp only
  show buildList (clearMarkers (clearSubstitutes (resetOutcomes (modRdu _ (dayEnded s))))) = _
  rw [day_reset (by simp [dayEnded_clock])]
  simp only [modRdu_stp, season, modRdu_rdu, dayEnded_clock]
  rfl

theorem nextMinute_clock (s : State) :
    (nextMinute s).rdu.clock = ⟨true, s.rdu.clock.weekday, s.rdu.clock.minute + 1, 0, 0⟩ :=
  (still_clock (still_closeAll false _)).trans (still_clock (still_fallDueAll _ _))

theorem buildList_nextDay_clock (s : State) :
    (buildList (nextDay s)).rdu.clock = ⟨true, (s.rdu.clock.weekday + 1) % 7, 0, 0, 0⟩ := still_clock (still_buildList _)

/-- The clock behind an advance. -/
theorem advanceMinute_clock {s : State} (hset : s.rdu.clock.set = true) :
    (advanceMinute s).rdu.clock =
      if s.rdu.clock.minute < 1439 then ⟨true, s.rdu.clock.weekday, s.rdu.clock.minute + 1, 0, 0⟩
      else ⟨true, (s.rdu.clock.weekday + 1) % 7, 0, 0, 0⟩ := by
  split
  · next h => rw [advanceMinute_of_lt hset h, nextMinute_clock]
  · next h => rw [advanceMinute_of_ge hset (Nat.not_lt.1 h), buildList_nextDay_clock]

theorem season_advanceMinute (s : State) : (advanceMinute s).stp.season = s.stp.season := by simp

theorem set_advanceMinute {s : State} (h : s.rdu.clock.set = true) : (advanceMinute s).rdu.clock.set = true := by
  rw [advanceMinute_clock h]; split <;> rfl

/-! ### TIME in range (R80 to R83) -/

/-- A TIME in range is a first setting, or is judged against the clock. -/
theorem takeTime_in_range {l : List Byte} {s : State} (hl : l.length = 4) (hop : s.tsm.op ≠ .starting)
    (hm : nat16At l 0 ≤ 1439) (hw : nat8At l 2 ≤ 6) (hs : nat8At l 3 ≤ 59) :
    takeTime l s = if s.rdu.clock.set = true then judgeTime (nat16At l 0) (nat8At l 2) (nat8At l 3) s
      else firstSetting (nat16At l 0) (nat8At l 2) (nat8At l 3) s := by
  have good : ¬ (1439 < nat16At l 0 ∨ 6 < nat8At l 2 ∨ 59 < nat8At l 3) := by omega
  simp only [takeTime, parseTime, hl, if_true, if_neg hop, if_neg good]

theorem still_setSecond (second : Nat) (s : State) :
    (setSecond second s).rdu.clock = { s.rdu.clock with second := second, tick := 0 } := rfl

/-- The clock behind a forward slew: each boundary crossed is a minute's advance, then the second is set. -/
theorem slewForward_clock {minute weekday second : Nat} {s : State} (hset : s.rdu.clock.set = true)
    (hc : ClockInRange s) (hm : minute ≤ 1439) (hw : weekday ≤ 6) (hs : second ≤ 59)
    {d : Int} (hd : d = weekDifference (weekPosition weekday minute second)
      (weekPosition s.rdu.clock.weekday s.rdu.clock.minute s.rdu.clock.second)) (h0 : 0 ≤ d) (h1 : d ≤ 120) :
    (slewForward d.toNat second s).rdu.clock = ⟨true, weekday, minute, second, 0⟩ := by
  obtain ⟨cm, cw, cs, -⟩ := hc
  simp only [weekDifference, weekPosition] at hd
  have hand : (slewForward d.toNat second s).rdu.clock =
      { (timesDo advanceMinute ((s.rdu.clock.second + d.toNat) / 60) s).rdu.clock with second := second, tick := 0 } := by
    unfold slewForward
    dsimp only
    split
    · rfl
    · exact still_clock (still_handMinute _)
  rw [hand]
  generalize hn : (s.rdu.clock.second + d.toNat) / 60 = n
  have hn3 : n < 3 := by omega
  have two := advanceMinute_clock (set_advanceMinute hset)
  have one := advanceMinute_clock hset
  rw [one] at two
  interval_cases n
  · simp only [timesDo, Clock.mk.injEq, hset, true_and, and_true]; omega
  · simp only [timesDo, one]
    split <;> simp only [Clock.mk.injEq, true_and, and_true] <;> omega
  · simp only [timesDo, two]
    split_ifs at * <;> simp_all only [Clock.mk.injEq, true_and, and_true] <;> omega

theorem judgeTime_clock {minute weekday second : Nat} {s : State} (hset : s.rdu.clock.set = true)
    (hc : ClockInRange s) (hm : minute ≤ 1439) (hw : weekday ≤ 6) (hs : second ≤ 59) :
    (judgeTime minute weekday second s).rdu.clock = ⟨true, weekday, minute, second, 0⟩ := by
  unfold judgeTime
  dsimp only
  split_ifs with hf hb
  · exact slewForward_clock hset hc hm hw hs rfl hf.1 hf.2
  · unfold slewBackward
    dsimp only
    split
    · rfl
    · exact (still_clock (still_handMinute _)).trans (still_clock (still_processMinute _))
  · unfold jump
    dsimp only
    refine (still_clock (still_handMinute _)).trans
      ((still_clock (still_notice _ _)).trans ((still_clock (still_buildList _)).trans ?_))
    split
    · rfl
    · simp [adoptClock, clearMarkers, clearSubstitutes, resetOutcomes, modRdu]

theorem firstSetting_clock (minute weekday second : Nat) (s : State) :
    (firstSetting minute weekday second s).rdu.clock = ⟨true, weekday, minute, second, 0⟩ := by
  refine (still_clock (still_handMinute _)).trans ((still_clock (still_buildList _)).trans ?_)
  simp [adoptClock, clearMarkers, resetOutcomes, modRdu]

/-- What a first setting does, with the table of today's outcomes. -/
theorem firstSetting_eq (m w sec : Nat) (s : State) :
    let moved := adoptClock m w sec s
    firstSetting m w sec s = handMinute (buildList { moved with rdu := { moved.rdu with legs := s.rdu.legs.map (fun x =>
      { x with unassigned := false, infeasible := false, outcome := outcomeOn w s.stp.season x.row }) } }) := by
  unfold firstSetting
  rw [outcomes_reset rfl]
  rfl

theorem jump_same_day {m w sec : Nat} {s : State} (h : w = s.rdu.clock.weekday) :
    jump m w sec s =
      handMinute (notice (.clockJump s.rdu.clock.weekday s.rdu.clock.minute w m) (buildList (adoptClock m w sec s))) := by
  unfold jump
  dsimp only
  rw [if_pos h]

theorem jump_other_day {m w sec : Nat} {s : State} (h : w ≠ s.rdu.clock.weekday) :
    let moved := adoptClock m w sec s
    jump m w sec s = handMinute (notice (.clockJump s.rdu.clock.weekday s.rdu.clock.minute w m)
      (buildList { moved with rdu := { moved.rdu with legs := s.rdu.legs.map (fun x =>
        { x with
          substitute := none, unassigned := false, infeasible := false
          outcome := outcomeOn w s.stp.season x.row }) } })) := by
  unfold jump
  dsimp only
  rw [if_neg h, day_reset rfl]
  rfl

/-- A slew's crossings, once their number is known. -/
theorem slewForward_crossing {seconds n : Nat} {s : State} (h : (s.rdu.clock.second + seconds) / 60 = n) (second : Nat) :
    slewForward seconds second s =
      if n = 0 then setSecond second (timesDo advanceMinute n s) else handMinute (setSecond second (timesDo advanceMinute n s)) := by
  unfold slewForward
  rw [h]

/-- The judgement of a TIME by its difference: forward. -/
theorem judgeTime_forward {m w sec : Nat} {s : State} {d : Int}
    (hd : d = weekDifference (weekPosition w m sec) (weekPosition s.rdu.clock.weekday s.rdu.clock.minute s.rdu.clock.second))
    (h0 : 0 ≤ d) (h1 : d ≤ 120) : judgeTime m w sec s = slewForward d.toNat sec s := by
  subst hd
  exact if_pos ⟨h0, h1⟩

/-- Backward inside the day. -/
theorem judgeTime_backward {m w sec : Nat} {s : State} {d : Int}
    (hd : d = weekDifference (weekPosition w m sec) (weekPosition s.rdu.clock.weekday s.rdu.clock.minute s.rdu.clock.second))
    (h0 : -120 ≤ d) (h1 : d < 0) (hw : w = s.rdu.clock.weekday) : judgeTime m w sec s = slewBackward m w sec s := by
  subst hd
  exact (if_neg (fun h => h.1.not_gt h1)).trans (if_pos ⟨h0, h1, hw⟩)

/-- A jump, and a slew back across midnight. -/
theorem judgeTime_jump {m w sec : Nat} {s : State} {d : Int}
    (hd : d = weekDifference (weekPosition w m sec) (weekPosition s.rdu.clock.weekday s.rdu.clock.minute s.rdu.clock.second))
    (h : d < -120 ∨ 120 < d ∨ d < 0 ∧ w ≠ s.rdu.clock.weekday) : judgeTime m w sec s = jump m w sec s := by
  subst hd
  refine (if_neg fun hf => ?_).trans (if_neg fun hb => ?_)
  · omega
  · obtain ⟨h0, h1, hw⟩ := hb
    rcases h with h | h | ⟨-, h⟩
    · omega
    · omega
    · exact h hw

/-- The advance of a set clock, in the season given. -/
theorem advanceMinute_eq {s : State} (hset : s.rdu.clock.set = true) :
    advanceMinute s = if s.rdu.clock.minute < 1439 then nextMinute s else buildList (nextDay s) := by
  split
  · next h => exact advanceMinute_of_lt hset h
  · next h => exact advanceMinute_of_ge hset (Nat.not_lt.1 h)

theorem heard_rdu (s : State) : (heard s).rdu = s.rdu := by simp [heard]
theorem heard_stp (s : State) : (heard s).stp = s.stp := by simp [heard]

/-- Settles O18. -/
theorem timeSetsTheClock : Obligations.TimeSetsTheClock := by
  refine ⟨?_, ?_, ?_⟩
  · intro src seq l s hp hl hop hc hm hw hs
    have taken := takeTime_in_range (s := heard s) hl hop hm hw hs
    have clock : (takeTime l (heard s)).rdu.clock = ⟨true, nat8At l 2, nat16At l 0, nat8At l 3, 0⟩ := by
      rw [taken]
      split
      · next hset => exact judgeTime_clock hset (by simpa only [ClockInRange, heard_rdu] using hc) hm hw hs
      · exact firstSetting_clock _ _ _ _
    obtain ⟨t, ht, hpend⟩ := onSite_pending (takeTime l) s fun u => firm_pending (firm_takeTime l u)
    have ended := onSite_eq (takeTime l) s hp
    obtain rfl : t = concluded s (takeTime l (heard s)) := by injection ht.symm.trans ended
    exact ⟨_, ended, (still_clock ((still_finish _).trans (still_siteLeft s _))).trans clock, hpend⟩
  · intro src seq l s hp h
    exact (onSite_eq (takeTime l) s hp).trans (concluded_congr (takeTime_discarded l _ h))
  · intro src seq l s hp hl hop hc hm hw hs
    rw [ClockInRange, ← heard_rdu s] at hc
    rw [← heard_rdu s, ← heard_stp s]
    intro h minute weekday second old difference at_ moved runs fall close advance stopped given
    have taken := takeTime_in_range (s := h) hl hop hm hw hs
    have by_time : ∀ t, takeTime l h = t → exec (.time src seq l) s = .next (concluded s t) := fun t ht =>
      (onSite_eq (takeTime l) s hp).trans (concluded_congr ht)
    have judged : old.set = true → takeTime l h = judgeTime minute weekday second h := fun hset => taken.trans (if_pos hset)
    have advance_eq : ∀ u : State, u.rdu.clock.set = true → u.stp.season = h.stp.season → advanceMinute u = advance u := by
      intro u hu hsn
      refine (advanceMinute_eq hu).trans ?_
      by_cases hlt : u.rdu.clock.minute < 1439
      · refine (if_pos hlt).trans (.trans ?_ (if_pos hlt).symm)
        exact nextMinute_eq u
      · refine (if_neg hlt).trans (.trans ?_ (if_neg hlt).symm)
        rw [nextDay, dayEnded_eq, hsn]
        rfl
    refine ⟨fun hset => ?_, fun hset hd => ?_, fun hset h0 h1 => ?_, fun hset h0 h1 hwd => ?_⟩
    · refine by_time _ (taken.trans ((if_neg (ne_of_eq_of_ne hset Bool.false_ne_true)).trans ?_))
      exact firstSetting_eq minute weekday second h
    · intro jumped
      have judge := (judged hset).trans (judgeTime_jump (s := h) (d := difference) rfl hd)
      exact ⟨fun hwd => by_time _ (judge.trans (jump_same_day hwd)), fun hwd => by_time _ (judge.trans (jump_other_day hwd))⟩
    · obtain ⟨-, -, cs, -⟩ := hc
      have at_second : old.second ≤ 59 := cs
      have judge := (judged hset).trans (judgeTime_forward (s := h) (d := difference) rfl h0 h1)
      have crossing : ∀ n : Nat, (n * 60 : Int) ≤ old.second + difference → old.second + difference < (n + 1) * 60 →
          (h.rdu.clock.second + difference.toNat) / 60 = n := by
        intro n hn hn1
        have hold : h.rdu.clock.second = old.second := rfl
        omega
      refine ⟨fun hx => by_time _ ?_, fun hx hx' => by_time _ ?_, fun hx => by_time _ ?_⟩
      · exact judge.trans (slewForward_crossing (crossing 0 (by omega) (by omega)) second)
      · refine judge.trans ((slewForward_crossing (crossing 1 (by omega) (by omega)) second).trans ?_)
        rw [← advance_eq h hset rfl]
        rfl
      · have before_third : old.second + difference < (2 + 1) * 60 := by omega
        refine judge.trans ((slewForward_crossing (crossing 2 hx before_third) second).trans ?_)
        rw [← advance_eq h hset rfl, ← advance_eq _ (set_advanceMinute hset) (season_advanceMinute h)]
        rfl
    · have judge := (judged hset).trans (judgeTime_backward (s := h) (d := difference) rfl h0 h1 hwd)
      refine ⟨fun hmin => by_time _ (judge.trans (if_pos hmin)), fun hmin => by_time _ (judge.trans ((if_neg hmin).trans ?_))⟩
      exact congrArg handMinute (processMinute_eq moved)

end Sys2Proof.Machine
end

section
/-! What sending leaves unchanged, and the departure list's own rules (05_route_readiness.md R79 to R94): the minute's
advance, the next leg, the list built, an entry falling due and closing, the refill, and the judgement of an unplug; the
tariff in force (R73, R74) and a slot start (R135) (O51). -/

namespace Sys2Proof.Machine

/-! ### What sending leaves unchanged (R179 to R182) -/

/-- The state with the outbound queue, its transmitter and the drop record blanked: what a telegram queued leaves. -/
def unsent (s : State) : State :=
  { s with
    sli := { s.sli with out := [], tx := none, overflow := false, dropCount := 0, ownSeq := 0, orderCount := 0 }
    tsm := { s.tsm with outOverflow := false } }

theorem unsent_putOut (m : OutMsg) (s : State) : unsent (putOut m s) = unsent s := by
  unfold putOut
  split <;> rfl

theorem unsent_reportOverflow (s : State) : unsent (reportOverflow s) = unsent s := by
  unfold reportOverflow
  split
  · dsimp only
    split
    · exact unsent_putOut _ s
    · exact unsent_putOut _ s
  · rfl

theorem unsent_placeFreed (waited : Bool) (s : State) : unsent (placeFreed waited s) = unsent s := by
  unfold placeFreed
  split
  · dsimp only
    split
    · exact unsent_reportOverflow _
    · rfl
  · exact unsent_reportOverflow s

theorem unsent_trySend (s : State) : unsent (trySend s) = unsent s := by
  unfold trySend
  split
  · split
    · rfl
    · exact unsent_placeFreed _ _
  · rfl

@[simp] theorem unsent_queueOut (m : OutMsg) (s : State) : unsent (queueOut m s) = unsent s := by
  refine (unsent_trySend _).trans ?_
  unfold reportWaiting
  split
  · exact (unsent_reportOverflow _).trans (unsent_putOut m s)
  · exact unsent_putOut m s

@[simp] theorem unsent_notice (n : Notice) (s : State) : unsent (notice n s) = unsent s := unsent_queueOut _ s

@[simp] theorem unsent_queueReadiness (k : Nat) (s : State) : unsent (queueReadiness k s) = unsent s := by
  unfold queueReadiness
  split <;> simp

section
variable {s t : State}

theorem sli_of_unsent (h : (unsent t).sli = (unsent s).sli) : t.sli = { s.sli with
    out := t.sli.out, tx := t.sli.tx, overflow := t.sli.overflow, dropCount := t.sli.dropCount, ownSeq := t.sli.ownSeq
    orderCount := t.sli.orderCount } :=
  congrArg (fun i : Sli => { i with
    out := t.sli.out, tx := t.sli.tx, overflow := t.sli.overflow, dropCount := t.sli.dropCount, ownSeq := t.sli.ownSeq
    orderCount := t.sli.orderCount }) h

theorem tsm_of_unsent (h : (unsent t).tsm = (unsent s).tsm) : t.tsm = { s.tsm with outOverflow := t.tsm.outOverflow } :=
  congrArg (fun x : Tsm => { x with outOverflow := t.tsm.outOverflow }) h

end

/-! ### What the departure list leaves unchanged (R90 to R93) -/

/-- A leg without its outcome of today. -/
def Leg.unjudged (l : Leg) : Leg := { l with outcome := .pending }

/-- The state with the outbound side, the list, the last outcomes and every leg's outcome blanked: what the list's rules leave. -/
def offList (s : State) : State :=
  { unsent s with rdu := { s.rdu with legs := s.rdu.legs.map Leg.unjudged, list := [], lastOutcomes := [] } }

theorem offList_congr {s t : State} (h : unsent t = unsent s) : offList t = offList s :=
  congrArg (fun u : State => { u with rdu :=
    { u.rdu with legs := u.rdu.legs.map Leg.unjudged, list := [], lastOutcomes := [] } }) h

theorem offList_queueReadiness (k : Nat) (s : State) : offList (queueReadiness k s) = offList s :=
  offList_congr (unsent_queueReadiness k s)

theorem offList_outcome (n : Nat) (o : LegOutcome) (s : State) :
    offList (updLeg n (fun l => { l with outcome := o }) s) = offList s := by
  have legs : (s.rdu.legs.map (fun l => if l.row.legNo = n then { l with outcome := o } else l)).map Leg.unjudged =
      s.rdu.legs.map Leg.unjudged := by
    rw [List.map_map]
    refine List.map_congr_left fun l _ => ?_
    simp only [Function.comp_apply]
    split <;> rfl
  simp only [offList, updLeg, unsent, modRdu, legs]

theorem offList_writeOutcome (n k : Nat) (o : LegOutcome) (s : State) : offList (writeOutcome n k o s) = offList s :=
  (offList_queueReadiness k _).trans (offList_outcome n o s)

theorem offList_judgeDue (l : Leg) (s : State) : offList (judgeDue l s).1 = offList s := by
  unfold judgeDue
  dsimp only
  split
  · rfl
  · split
    · exact offList_writeOutcome _ _ _ _
    · exact offList_queueReadiness _ _

theorem offList_closeLeg (l : Leg) (s : State) : offList (closeLeg l s) = offList s := by
  unfold closeLeg
  split
  · split
    · exact offList_outcome _ _ s
    · exact offList_writeOutcome _ _ _ s
  · rfl

theorem offList_refillFrom (endOfDay : Bool) (ls : List Leg) (s : State) : offList (refillFrom endOfDay ls s) = offList s := by
  induction ls generalizing s with
  | nil => rfl
  | cons l ls ih =>
    unfold refillFrom
    split
    · exact ih s
    · dsimp only
      split
      · rfl
      · split
        · exact (ih _).trans (offList_judgeDue l _)
        · split
          · exact (ih _).trans ((offList_closeLeg l _).trans (offList_judgeDue l _))
          · exact offList_judgeDue l _

theorem offList_leaveList (endOfDay : Bool) (n : Nat) (s : State) : offList (leaveList endOfDay n s) = offList s :=
  offList_refillFrom endOfDay _ _

theorem offList_fallDue (when : Leg → Bool) (n : Nat) (s : State) : offList (fallDue when n s) = offList s := by
  unfold fallDue
  split
  · split
    · dsimp only
      split
      · exact (offList_leaveList false n _).trans (offList_judgeDue _ s)
      · exact offList_judgeDue _ s
    · rfl
  · rfl

theorem offList_closeEntry (endOfDay : Bool) (n : Nat) (s : State) : offList (closeEntry endOfDay n s) = offList s := by
  unfold closeEntry
  split
  · split
    · exact (offList_leaveList endOfDay n _).trans (offList_closeLeg _ s)
    · rfl
  · rfl

theorem offList_fallDueAll (when : Leg → Bool) (s : State) : offList (fallDueAll when s) = offList s :=
  foldl_keeps offList _ (fun s n => offList_fallDue when n s) _ s

theorem offList_closeAll (endOfDay : Bool) (s : State) : offList (closeAll endOfDay s) = offList s :=
  foldl_keeps offList _ (fun s n => offList_closeEntry endOfDay n s) _ s

theorem offList_buildList (s : State) : offList (buildList s) = offList s := by
  unfold buildList formList
  split
  · exact offList_fallDueAll _ _
  · rfl

section
variable {s t : State} (h : offList t = offList s)
include h

theorem unjudged_of_offList : t.rdu.legs.map Leg.unjudged = s.rdu.legs.map Leg.unjudged := congrArg (fun u => u.rdu.legs) h

theorem rows_of_offList : t.rdu.legs.map Leg.row = s.rdu.legs.map Leg.row := by
  have rows := congrArg (List.map Leg.row) (unjudged_of_offList h)
  rw [List.map_map, List.map_map] at rows
  exact rows

/-- The list's rules leave every field of a leg but its outcome. -/
theorem marks_of_offList {p : Option Nat → Bool → Bool → Prop}
    (hs : ∀ l ∈ s.rdu.legs, p l.substitute l.unassigned l.infeasible) :
    ∀ l ∈ t.rdu.legs, p l.substitute l.unassigned l.infeasible := by
  intro l hl
  have mem : l.unjudged ∈ s.rdu.legs.map Leg.unjudged := unjudged_of_offList h ▸ List.mem_map_of_mem hl
  obtain ⟨x, hx, he⟩ := List.mem_map.1 mem
  have sub : x.unjudged.substitute = l.unjudged.substitute := congrArg Leg.substitute he
  have una : x.unjudged.unassigned = l.unjudged.unassigned := congrArg Leg.unassigned he
  have inf : x.unjudged.infeasible = l.unjudged.infeasible := congrArg Leg.infeasible he
  have at_x := hs x hx
  rwa [show x.substitute = l.substitute from sub, show x.unassigned = l.unassigned from una,
    show x.infeasible = l.infeasible from inf] at at_x

end

theorem offList_nextMinute (s : State) :
    offList (nextMinute s) = offList (clockAt s.rdu.clock.weekday (s.rdu.clock.minute + 1) s) :=
  (offList_closeAll false _).trans (offList_fallDueAll _ _)

theorem offList_dayEnded (s : State) : offList (dayEnded s) = offList (clockAt s.rdu.clock.weekday 0 s) := offList_closeAll true _

/-- The rows of the table stay through a day's change. -/
theorem rows_nextDay (s : State) : (nextDay s).rdu.legs.map Leg.row = s.rdu.legs.map Leg.row := by
  have rows := rows_of_offList (offList_dayEnded s)
  refine Eq.trans ?_ rows
  show ((dayEnded s).rdu.legs.map _).map Leg.row = _
  rw [List.map_map]
  rfl

/-- The minute's advance leaves every block but RDU and the outbound side. -/
theorem advanceMinute_frame {s : State} (hset : s.rdu.clock.set = true) :
    let u := advanceMinute s
    u.rdu.legs.map Leg.row = s.rdu.legs.map Leg.row ∧
      u.frt = s.frt ∧ u.ylc = s.ylc ∧ u.sbu = s.sbu ∧ u.ale = s.ale ∧ u.rsu = s.rsu ∧ u.stp = s.stp ∧
      u.sli = { s.sli with
        out := u.sli.out, tx := u.sli.tx, overflow := u.sli.overflow, dropCount := u.sli.dropCount, ownSeq := u.sli.ownSeq
        orderCount := u.sli.orderCount } ∧
      u.tsm = { s.tsm with outOverflow := u.tsm.outOverflow } ∧ u.freeCount = s.freeCount := by
  intro u
  have kept : u.rdu.legs.map Leg.row = s.rdu.legs.map Leg.row ∧ (unsent u).sli = (unsent s).sli ∧
      (unsent u).tsm = (unsent s).tsm := by
    by_cases hlt : s.rdu.clock.minute < 1439
    · have frame := offList_nextMinute s
      rw [show u = nextMinute s from advanceMinute_of_lt hset hlt]
      exact ⟨(rows_of_offList frame :), (congrArg State.sli frame :), (congrArg State.tsm frame :)⟩
    · have built := offList_buildList (nextDay s)
      have ended := offList_dayEnded s
      rw [show u = buildList (nextDay s) from advanceMinute_of_ge hset (Nat.not_lt.1 hlt)]
      exact ⟨(rows_of_offList built).trans (rows_nextDay s), (congrArg State.sli built).trans (congrArg State.sli ended :),
        (congrArg State.tsm built).trans (congrArg State.tsm ended :)⟩
  obtain ⟨rows, sli, tsm⟩ := kept
  exact ⟨rows, by simp [u], by simp [u], by simp [u], by simp [u], by simp [u], by simp [u], sli_of_unsent sli,
    tsm_of_unsent tsm, by simp [u]⟩

/-! ### A slot start (R135, R168) -/

theorem slotStart_told (slot : Nat) (s : State) :
    let started : State := { s with rsu := { s.rsu with
      slot := some slot, upSide := some (sideOf s slot .up), downSide := some (sideOf s slot .down) } }
    slotStart slot s = queueOut ⟨aggregatorStation, .storage ⟨s.stp.season, s.stp.band, s.stp.view⟩⟩
      (queueCapability slot started) := by
  have stp : (queueCapability slot (recordSides slot (modRsu (fun r => { r with slot := some slot }) s))).stp = s.stp := by simp
  unfold slotStart queueStorage
  rw [stp]
  rfl

/-! ### The next leg (R87) and the list built (R90) -/

theorem legSlot_beq (s : State) (l : Leg) (k : Nat) : (legSlot s l == some k) = decide (legSlot s l = some k) := by
  rw [Bool.eq_iff_iff, beq_iff_eq, decide_eq_true_iff]

/-- A list built around no kept entry takes the first open legs. -/
theorem takeEntries_nil (s : State) (room : Nat) (legs : List Leg) :
    takeEntries s [] room legs = ((legs.filter (openToday s)).take room).map (fun l => ⟨l.row.legNo, none⟩) := by
  induction legs generalizing room with
  | nil => simp [takeEntries]
  | cons l ls ih =>
    by_cases h : openToday s l = true
    · cases room <;> simp [takeEntries, h, ih]
    · simp [takeEntries, h, ih]

theorem buildList_of_set {s : State} (h : s.rdu.clock.set = true) :
    let taken : List DepEntry := ((s.rdu.legs.filter (openToday s)).take 8).map (fun l => ⟨l.row.legNo, none⟩)
    buildList s = taken.foldl (fun u e => fallDue (fun l => l.row.departure ≤ s.rdu.clock.minute) e.legNo u)
      { s with rdu := { s.rdu with list := taken } } := by
  unfold buildList formList
  rw [if_pos h, takeEntries_nil]
  exact fallDueAll_eq _ _

/-! ### An outcome written, an entry falling due and closing (R92, R93) -/

theorem modify_const {α : Type} (l : List α) (k : Nat) (a : α) : l.modify k (fun _ => a) = l.set k a := by
  rw [List.modify_eq_set_getElem?]
  cases h : l[k]? with
  | none => exact (List.set_eq_of_length_le (List.getElem?_eq_none_iff.1 h)).symm
  | some x => rfl

theorem setLastOutcome_eq (k : Nat) (x : LastOutcome) (s : State) :
    setLastOutcome k x s = { s with rdu := { s.rdu with lastOutcomes := s.rdu.lastOutcomes.set k (some x) } } := by
  rw [← modify_const]
  rfl

section
variable {n : Nat} {e : DepEntry} {l : Leg} {s : State} (he : s.rdu.list.find? (fun e => e.legNo = n) = some e)
  (hl : findLeg s.rdu.legs n = some l)
include he hl

theorem fallDue_stays {when : Leg → Bool} (h : e.due.isSome = true ∨ when l = false) : fallDue when n s = s := by
  have not_now : ¬ (e.due = none ∧ when l = true) := by rintro ⟨hd, hw⟩; simp [hd, hw] at h
  simp only [fallDue, he, hl, if_neg not_now]

theorem fallDue_judged {when : Leg → Bool} (hd : e.due = none) (hw : when l = true) :
    fallDue when n s = if (judgeDue l s).2 then leaveList false n (judgeDue l s).1 else (judgeDue l s).1 := by
  simp only [fallDue, he, hl, if_pos (And.intro hd hw)]

theorem closeEntry_found (endOfDay : Bool) :
    closeEntry endOfDay n s = if closeReached s endOfDay l then leaveList endOfDay n (closeLeg l s) else s := by
  simp only [closeEntry, he, hl]

end

theorem closeReached_iff (s : State) (endOfDay : Bool) (l : Leg) :
    closeReached s endOfDay l = true ↔ endOfDay = true ∨ l.row.departure + s.tsm.settings.grace ≤ s.rdu.clock.minute := by
  rw [closeReached, Bool.or_eq_true, decide_eq_true_iff]
  rfl

/-- The provisional judgement of a leg whose bus is on its way. -/
theorem judgeDue_away {l : Leg} {s : State} {k : Nat} (hk : legSlot s l = some k)
    (h : (busAt s k).map Bus.state = some .onRoute) :
    judgeDue l s = (writeOutcome l.row.legNo k (if dueVerdict s l = .ready then .departedReady else .departedShort)
      (markDue l.row.legNo (dueVerdict s l) s), true) := by
  simp only [judgeDue, hk, if_pos h]
  rfl

/-- The provisional judgement of a leg without a bus, or whose bus has not left. -/
theorem judgeDue_here {l : Leg} {s : State} (h : ¬ ((legSlot s l).bind (busAt s)).map Bus.state = some .onRoute) :
    judgeDue l s = (match legSlot s l with
      | none => markDue l.row.legNo (dueVerdict s l) s
      | some k => queueReadiness k (markDue l.row.legNo (dueVerdict s l) s), false) := by
  cases hk : legSlot s l with
  | none => simp only [judgeDue, hk]; rfl
  | some k =>
    have stays : ¬ (busAt s k).map Bus.state = some .onRoute := by rwa [hk, Option.bind_some] at h
    simp only [judgeDue, hk, if_neg stays]
    rfl

/-! ### The refill (R91) -/

/-- The list with an entry at its end. -/
def joinList (n : Nat) (s : State) : State := { s with rdu := { s.rdu with list := s.rdu.list ++ [⟨n, none⟩] } }

section
variable {l : Leg} {ls : List Leg} {endOfDay : Bool} {s : State}

theorem refillFrom_skips (h : l.outcome ≠ .pending ∨ ∃ e ∈ s.rdu.list, e.legNo = l.row.legNo) :
    refillFrom endOfDay (l :: ls) s = refillFrom endOfDay ls s := by
  have skip : l.outcome ≠ .pending ∨ s.rdu.list.any (fun e => e.legNo = l.row.legNo) = true := by simpa using h
  rw [refillFrom, if_pos skip]

theorem refillFrom_takes (hp : l.outcome = .pending) (hn : ∀ e ∈ s.rdu.list, e.legNo ≠ l.row.legNo) :
    refillFrom endOfDay (l :: ls) s =
      if endOfDay = false ∧ s.rdu.clock.minute < l.row.departure then joinList l.row.legNo s
      else if (judgeDue l (joinList l.row.legNo s)).2 then
        refillFrom endOfDay ls (dropEntry l.row.legNo (judgeDue l (joinList l.row.legNo s)).1)
      else if closeReached s endOfDay l then
        refillFrom endOfDay ls (dropEntry l.row.legNo (closeLeg l (judgeDue l (joinList l.row.legNo s)).1))
      else (judgeDue l (joinList l.row.legNo s)).1 := by
  have take : ¬ (l.outcome ≠ .pending ∨ s.rdu.list.any (fun e => e.legNo = l.row.legNo) = true) := by simpa [hp] using hn
  rw [refillFrom, if_neg take]
  rfl

end

/-! ### The judgement of an unplug (R94) -/

theorem judgeUnplug_without {s : State} {k : Nat} (h : s.rdu.clock.set = false ∨ findNextLeg s k = none) : judgeUnplug k s = s := by
  unfold judgeUnplug
  split
  · next b x hb hx =>
    rcases h with h | h
    · simp [h]
    · cases h.symm.trans hx
  · rfl

section
variable {s : State} {k : Nat} {b : Bus} {x : NextLeg} (hset : s.rdu.clock.set = true) (hb : busAt s k = some b)
  (hx : findNextLeg s k = some x)
include hset hb hx

theorem judgeUnplug_leg :
    let n := x.leg.row.legNo
    let out : State := { s with frt := { s.frt with buses := s.frt.buses.set k { b with state := .onRoute } } }
    let o : LegOutcome := if min (legFloor s x.leg.row) b.capacity ≤ b.heldOr0 then .departedReady else .departedShort
    let written : State := updLeg n (fun l => { l with outcome := o }) { out with rdu := { out.rdu with
      lastOutcomes := s.rdu.lastOutcomes.set k (some ⟨n, o⟩) } }
    judgeUnplug k s =
      if x.mins ≤ s.tsm.settings.earlyWindow then
        if x.tomorrow = true then out
        else if ∃ e ∈ s.rdu.list, e.legNo = n then queueReadiness k (leaveList false n written)
        else queueReadiness k written
      else s := by
  intro n out o written
  have gone : updBus k (fun b => { b with state := .onRoute }) s = out := updBus_eq_set hb _
  have report : setLastOutcome k ⟨n, o⟩ (updLeg n (fun l => { l with outcome := o }) out) = written := setLastOutcome_eq _ _ _
  unfold judgeUnplug
  simp only [hb, hx, hset, true_and, inWindow, decide_eq_true_iff, gone]
  split
  · split
    · rfl
    · show queueReadiness k (if s.rdu.list.any (fun e => e.legNo = n) = true then
        leaveList false n (setLastOutcome k ⟨n, o⟩ (updLeg n (fun l => { l with outcome := o }) out))
        else setLastOutcome k ⟨n, o⟩ (updLeg n (fun l => { l with outcome := o }) out)) = _
      rw [report]
      by_cases he : ∃ e ∈ s.rdu.list, e.legNo = n
      · exact (congrArg _ (if_pos (by simpa using he))).trans (if_pos he).symm
      · exact (congrArg _ (if_neg (by simpa using he))).trans (if_neg he).symm
  · rfl

end

/-! ### The tariff (R73, R74) -/

/-- A tariff is evaluated, and an edge asks for a pass. -/
theorem evalTariff_eq (s : State) : evalTariff s = { s with
    sbu := { s.sbu with tariff := tariffNow s }
    ale := { s.ale with pending := s.ale.pending ||
      (decide ((tariffNow s).cls ≠ s.sbu.tariff.cls ∨ (tariffNow s).cap ≠ s.sbu.tariff.cap) &&
        decide (s.tsm.op ≠ .starting)) } } := by
  unfold evalTariff
  dsimp only
  split
  · next h => simp [modSbu, h]
  · next h =>
    have edge : decide ((tariffNow s).cls ≠ s.sbu.tariff.cls ∨ (tariffNow s).cap ≠ s.sbu.tariff.cap) = true := by
      rw [decide_eq_true_iff]; tauto
    rw [edge]
    unfold wantPass
    by_cases hop : s.tsm.op = .starting <;> simp [modSbu, modAle, hop]

/-- A tariff known falls in the first window of today's type that covers the minute. -/
theorem tariffNow_none {s : State} (h : s.rdu.clock.set = true)
    (hw : ∀ w ∈ s.sbu.windows, ¬ (w.day = dayTypeFor s.stp.season s.rdu.clock.weekday ∧ w.covers s.rdu.clock.minute = true)) :
    tariffNow s = ⟨some (dayTypeFor s.stp.season s.rdu.clock.weekday), none, .shoulder, none⟩ := by
  have hf : s.sbu.windows.find? (fun w => w.day = dayTypeFor s.stp.season s.rdu.clock.weekday &&
      w.covers s.rdu.clock.minute) = none := by
    rw [List.find?_eq_none]
    simpa using hw
  simp only [tariffNow, h, if_true, hf]

theorem tariffNow_some {s : State} (h : s.rdu.clock.set = true) {l l' : List Window} {w : Window}
    (hsplit : s.sbu.windows = l ++ w :: l')
    (before : ∀ v ∈ l, ¬ (v.day = dayTypeFor s.stp.season s.rdu.clock.weekday ∧ v.covers s.rdu.clock.minute = true))
    (hw : w.day = dayTypeFor s.stp.season s.rdu.clock.weekday ∧ w.covers s.rdu.clock.minute = true) :
    tariffNow s = ⟨some (dayTypeFor s.stp.season s.rdu.clock.weekday), some w, w.cls, w.cap⟩ := by
  have hf : s.sbu.windows.find? (fun w => w.day = dayTypeFor s.stp.season s.rdu.clock.weekday &&
      w.covers s.rdu.clock.minute) = some w := by
    rw [hsplit, List.find?_append, List.find?_cons_of_pos (by simp [hw])]
    rw [List.find?_eq_none.2 (by simpa using before)]
    rfl
  simp only [tariffNow, h, if_true, hf]

/-! ### The obligation -/

/-- Settles O51: the minute's advance, a slot start, the departure list's rules and the tariff. -/
theorem minuteAdvances : Obligations.MinuteAdvances := by
  refine ⟨?_, ?_, ?_, ?_⟩
  · intro s hp hset now later fallen ended tomorrow day
    have run : exec .minuteAdvance s = .next (finish (handMinute (advanceMinute s))) :=
      (live_on minutePassed s hp).trans (congrArg (fun v => Host.Outcome.next (finish v)) (if_pos hset))
    have clock := advanceMinute_clock hset
    refine ⟨advanceMinute s, run, fun hlt => ⟨?_, ?_⟩, fun hge => ⟨?_, ?_, ?_⟩, advanceMinute_frame hset⟩
    · exact (advanceMinute_of_lt hset hlt).trans (nextMinute_eq s)
    · rw [clock, if_pos hlt, ← hset]
    · rw [advanceMinute_of_ge hset hge, nextDay, dayEnded_eq]
      rfl
    · rw [clock, if_neg (Nat.not_lt.2 hge), ← hset]
    · rw [advanceMinute_of_ge hset hge]
      refine marks_of_offList (p := fun x y z => x = none ∧ y = false ∧ z = false) (offList_buildList (nextDay s)) ?_
      intro l hl
      obtain ⟨x, -, rfl⟩ := List.mem_map.1 hl
      exact ⟨rfl, rfl, rfl⟩
  · intro s minute slot commit side started
    have commits : ∀ d, commit d = commitmentIn s slot d := fun d => (commitmentIn_eq s slot d).symm
    refine ⟨fun h => if_pos h, fun hop hset hslot => ?_⟩
    have starts : ¬ (s.tsm.op = .starting ∨ s.rdu.clock.set = false ∨ s.rsu.slot = some slot) := by
      simp [hop, hset, hslot]
    refine (if_neg starts).trans ((slotStart_told slot s).trans ?_)
    have left : slotLeft s = 30 - minute % 30 := if_pos hset
    simp only [started, side, commits, ← left]
    rfl
  · intro s minute grace isOpen withList outcome due without departed unclosed
    have opens : openToday s = isOpen := rfl
    have closes : ∀ l u, closeLeg l u = unclosed l u := fun l u => rfl
    have joins : ∀ n, joinList n s = withList (s.rdu.list ++ [⟨n, none⟩]) s := fun n => rfl
    refine ⟨fun k hset => ?_, fun hset => ?_, fun hset => ?_, fun n k o => ?_, fun n e l he hl => ⟨fun when => ⟨?_, ?_⟩, ?_⟩,
      fun n endOfDay => rfl, fun endOfDay => rfl, fun l ls endOfDay => ?_, fun k h => ?_, fun k b x hset hb hx => ?_⟩
    · intro today next
      have first : s.rdu.legs.find? (fun l => openToday s l && (legSlot s l == some k)) = today := by
        simp only [legSlot_beq]; rfl
      have second : s.rdu.legs.find? (fun l => withinTomorrow s l && (legSlot s l.tomorrow == some k)) = next := by
        simp only [legSlot_beq]; rfl
      refine ⟨fun l ht => ?_, fun l ht hn => ?_, fun ht hn => ?_⟩
      · rw [findNextLeg, if_pos hset, first, ht]
      · rw [findNextLeg, if_pos hset, first, ht, second, hn]
      · rw [findNextLeg, if_pos hset, first, ht, second, hn]
    · exact if_neg (ne_of_eq_of_ne hset Bool.false_ne_true)
    · exact buildList_of_set hset
    · exact congrArg (queueReadiness k) (setLastOutcome_eq k ⟨n, o⟩ (outcome n o s))
    · exact fallDue_stays he hl
    · intro hd hw
      have judged := fallDue_judged he hl hd hw
      obtain rfl : l.row.legNo = n := findLeg_legNo hl
      refine ⟨fun hk => ?_, fun k b hk hb => ⟨fun hst => ?_, fun hst => ?_⟩⟩
      · rw [judgeDue_unassigned hk] at judged; exact judged
      · rw [judgeDue_stays hk hb hst] at judged; exact judged
      · rw [judgeDue_departed hk hb hst] at judged; exact judged
    · intro endOfDay
      have close := closeEntry_found he hl endOfDay
      refine ⟨fun hday hlt => ?_, fun h => ?_⟩
      · exact close.trans (if_neg fun hc => by
          rcases (closeReached_iff s endOfDay l).1 hc with h | h
          · exact Bool.false_ne_true (hday.symm.trans h)
          · omega)
      · exact close.trans (if_pos ((closeReached_iff s endOfDay l).2 h))
    · intro n joined v away told
      refine ⟨refillFrom_skips, fun hp hn => ?_⟩
      have takes := refillFrom_takes (endOfDay := endOfDay) (ls := ls) hp hn
      refine ⟨fun hday hlt => takes.trans (if_pos ⟨hday, hlt⟩), fun hnow => ?_⟩
      have reached : ¬ (endOfDay = false ∧ s.rdu.clock.minute < l.row.departure) := by
        rintro ⟨hday, hlt⟩
        rcases hnow with h | h
        · exact Bool.false_ne_true (hday.symm.trans h)
        · exact h.not_gt hlt
      have judged := takes.trans (if_neg reached)
      refine ⟨fun k hk haway => ?_, fun hstays hday hlt => ?_, fun hstays hclose => ?_⟩
      · have gone : (busAt s k).map Bus.state = some .onRoute := by simpa only [away, hk, Option.bind_some] using haway
        rw [judgeDue_away (s := joinList n s) hk gone] at judged
        exact judged
      · have stays := judgeDue_here (s := joinList n s) hstays
        rw [stays] at judged
        refine judged.trans ((if_neg Bool.false_ne_true).trans (if_neg fun hc => ?_))
        rcases (closeReached_iff s endOfDay l).1 hc with h | h
        · exact Bool.false_ne_true (hday.symm.trans h)
        · exact h.not_gt hlt
      · have stays := judgeDue_here (s := joinList n s) hstays
        rw [stays] at judged
        exact judged.trans ((if_neg Bool.false_ne_true).trans (if_pos ((closeReached_iff s endOfDay l).2 hclose)))
    · exact judgeUnplug_without h
    · intro n out o written
      have judge := judgeUnplug_leg hset hb hx
      refine ⟨fun hm => judge.trans (if_neg (Nat.not_le.2 hm)), fun hm ht => judge.trans ((if_pos hm).trans (if_pos ht)),
        fun hm ht => ?_⟩
      have today := judge.trans ((if_pos hm).trans (if_neg (ne_of_eq_of_ne ht Bool.false_ne_true)))
      refine ⟨fun he => today.trans (if_pos he), fun he => today.trans (if_neg ?_)⟩
      rintro ⟨e, hm, hn⟩
      exact he e hm hn
  · intro s m day covers known
    have covers_now : ∀ w, covers w ↔ w.day = dayTypeFor s.stp.season s.rdu.clock.weekday ∧ w.covers s.rdu.clock.minute = true :=
      fun w => and_congr Iff.rfl (covers_iff w m).symm
    refine ⟨tariffNow s, fun h => ?_, fun h hw => ?_, fun l w l' h hs hb hw => ?_, evalTariff_eq s⟩
    · exact if_neg h
    · exact tariffNow_none h fun w hm hc => hw w hm ((covers_now w).2 hc)
    · exact tariffNow_some h hs (fun v hm hc => hb v hm ((covers_now v).2 hc)) ((covers_now w).1 hw)

end Sys2Proof.Machine
end

section
/-! Posts and cabinets by their numbers, and the commands that are one rule each: pass-through telegrams and SETREQ
(09_site_traffic_and_the_passage_table.md), replies that nothing awaits, the end of CURTAIL and of a forwarded telegram, and the
timers at their limits (O37, O38, O39, O45, O46, O49, O50). -/

namespace Sys2Proof.Machine

/-! ### One post, one cabinet (R9, R25) -/

section
variable {s : State} {p : Nat} {f : Post → Post}

theorem updPost_eq_set (hp : 4 ≤ p) (hlen : p - 4 < s.frt.posts.length) :
    updPost p f s = { s with frt := { s.frt with posts := s.frt.posts.set (p - 4) (f (postAt s p)) } } := by
  have hset : s.frt.posts.modify (p - 4) f = s.frt.posts.set (p - 4) (f (postAt s p)) := by
    rw [List.modify_eq_set_getElem?, postAt, List.getD_eq_getElem?_getD, List.getElem?_eq_getElem hlen]
    rfl
  rw [updPost, if_neg (Nat.not_lt.2 hp), ← hset]
  rfl

theorem postAt_updPost_same (hp : 4 ≤ p) (hlen : p - 4 < s.frt.posts.length) : postAt (updPost p f s) p = f (postAt s p) := by
  rw [updPost_eq_set hp hlen]
  simp [postAt, List.getD_eq_getElem?_getD, hlen]

theorem postAt_updPost_other {q : Nat} (hq : 4 ≤ q) (h : q ≠ p) : postAt (updPost p f s) q = postAt s q := by
  unfold updPost
  split
  · rfl
  · next hp =>
    have place : p - 4 ≠ q - 4 := by omega
    simp [postAt, modFrt, List.getD_eq_getElem?_getD, place]

end

section
variable {s : State} {c : Nat} {f : Cabinet → Cabinet}

theorem cabAt_station (hc : IsStation c) : cabAt s c = s.ylc.cabinets.getD (c - 1) Cabinet.unconfigured :=
  if_neg (by have := hc.1; omega)

theorem updCab_eq_set (hc : IsStation c) (hlen : s.ylc.cabinets.length = 16) :
    updCab c f s = { s with ylc := { s.ylc with cabinets := s.ylc.cabinets.set (c - 1) (f (cabAt s c)) } } := by
  obtain ⟨h1, h16⟩ := hc
  have hplace : c - 1 < s.ylc.cabinets.length := by omega
  have hset : s.ylc.cabinets.modify (c - 1) f = s.ylc.cabinets.set (c - 1) (f (cabAt s c)) := by
    rw [List.modify_eq_set_getElem?, cabAt_station ⟨h1, h16⟩, List.getD_eq_getElem?_getD, List.getElem?_eq_getElem hplace]
    rfl
  rw [updCab, if_neg (by omega), ← hset]
  rfl

theorem cabAt_updCab_same (hc : IsStation c) (hlen : s.ylc.cabinets.length = 16) : cabAt (updCab c f s) c = f (cabAt s c) := by
  have hplace : c - 1 < s.ylc.cabinets.length := by have := hc.2; have := hc.1; omega
  rw [updCab_eq_set hc hlen, cabAt_station hc]
  simp [List.getD_eq_getElem?_getD, hplace]

theorem cabAt_updCab_other {d : Nat} (h : d ≠ c) : cabAt (updCab c f s) d = cabAt s d := by
  unfold updCab
  split
  · rfl
  · next hc =>
    unfold cabAt
    split
    · rfl
    · next hd =>
      have place : c - 1 ≠ d - 1 := by omega
      simp [modYlc, List.getD_eq_getElem?_getD, place]

end

/-! ### Pass-through telegrams (R174) -/

theorem forwardOrRefuse_room {t : Telegram} {s : State} (h : s.ylc.fwdQ.length < 8) :
    forwardOrRefuse t s = { s with ylc := { s.ylc with fwdQ := s.ylc.fwdQ ++ [t] } } := by
  have room : fwdFull s = false := decide_eq_false (Nat.not_le.2 h)
  exact if_neg (ne_of_eq_of_ne room Bool.false_ne_true)

theorem forwardOrRefuse_full {t : Telegram} {s : State} (h : 8 ≤ s.ylc.fwdQ.length) :
    forwardOrRefuse t s = queueOut ⟨t.src, .notice (.forwardRefused t.kind t.dst t.seq) (clockReading s)⟩ s := by
  have full : fwdFull s = true := decide_eq_true h
  exact if_pos full

theorem takePassThrough_dropped {t : Telegram} {s : State}
    (h : s.tsm.op = .starting ∨ passageAction s .yard t.kind t.src t.dst = .drop) : takePassThrough t s = s := by
  unfold takePassThrough
  split
  · rfl
  · next hop => rw [h.resolve_left hop]

theorem takePassThrough_forwarded {t : Telegram} {s : State} (hop : s.tsm.op ≠ .starting)
    (h : passageAction s .yard t.kind t.src t.dst ≠ .drop) : takePassThrough t s = forwardOrRefuse t s := by
  unfold takePassThrough
  rw [if_neg hop]
  split
  · next hd => exact absurd hd h
  · rfl

theorem actionOf_drop_iff (n : Nat) : actionOf n = .drop ↔ 2 ≤ n := by
  unfold actionOf
  split
  · simp; omega
  · split
    · simp; omega
    · simp; omega

section
variable {s : State} {d : Toward} {kind src dst : Byte}

theorem passageAction_none (h : s.sli.passage.find? (fun r => r.fits d kind src dst) = none) :
    passageAction s d kind src dst = .drop := by
  unfold passageAction
  rw [h]

theorem passageAction_some {r : PassageRow} (h : s.sli.passage.find? (fun r => r.fits d kind src dst) = some r) :
    passageAction s d kind src dst = actionOf r.action := by
  unfold passageAction
  rw [h]

end

/-- Settles O37: the action of the first row that fits, and the room of the forward queue. -/
theorem passThroughIsForwarded : Obligations.PassThroughIsForwarded := by
  intro t s hp h row
  have taken : ∀ u, takePassThrough t h = u → exec (.passThrough t) s = .next (concluded s u) := fun u hu =>
    (onSite_eq (takePassThrough t) s hp).trans (concluded_congr hu)
  have forwards : ∀ r, h.tsm.op ≠ .starting → row = some r → r.action ≤ 1 → takePassThrough t h = forwardOrRefuse t h := by
    intro r hop hr ha
    refine takePassThrough_forwarded hop fun hd => ?_
    rw [passageAction_some hr, actionOf_drop_iff] at hd
    omega
  refine ⟨fun hdrop => taken h (takePassThrough_dropped ?_), fun r hop hr ha hroom => ?_, fun r hop hr ha hfull => ?_⟩
  · rcases hdrop with hop | hrow | ⟨r, hr, ha⟩
    · exact .inl hop
    · exact .inr (passageAction_none hrow)
    · exact .inr ((passageAction_some hr).trans ((actionOf_drop_iff _).2 ha))
  · exact taken _ ((forwards r hop hr ha).trans (forwardOrRefuse_room hroom))
  · exact taken _ ((forwards r hop hr ha).trans (forwardOrRefuse_full hfull))

/-! ### Replies that nothing awaits (R31, R37, R43, R55) -/

/-- The handling of a yard telegram under power. -/
theorem onYard_eq {f : State → State} {s u : State} (hp : s.power = true)
    (h : f { s with ylc := { s.ylc with framer := [] } } = u) : onYard f s = .next (finish u) :=
  (live_on _ s hp).trans (congrArg (fun v => Host.Outcome.next (finish v)) h)

theorem awaited_some_iff (s : State) (c waits : Nat) (grants : List Int) :
    awaited s = some (c, waits, grants) ↔ Awaits s c waits grants := by
  unfold awaited Awaits
  constructor
  · split
    · next t g c' w hl hr =>
      intro h
      simp only [Option.some.injEq, Prod.mk.injEq] at h
      obtain ⟨rfl, rfl, rfl⟩ := h
      exact ⟨⟨t, hl⟩, hr⟩
    · exact nofun
  · rintro ⟨⟨t, hl⟩, hr⟩
    rw [hl, hr]

theorem replyStatus_unawaited {src : Byte} {payload : List Byte} {s : State}
    (h : ∀ waits grants, ¬ Awaits s src.toNat waits grants) : replyStatus src payload s = s := by
  unfold replyStatus
  split
  · next c w g m ha _ =>
    refine if_neg fun hc => ?_
    subst hc
    exact h w g ((awaited_some_iff s _ w g).1 ha)
  · rfl

theorem replyWait_unawaited {src : Byte} {payload : List Byte} {s : State}
    (h : ∀ waits grants, ¬ Awaits s src.toNat waits grants) : replyWait src payload s = s := by
  unfold replyWait
  split
  · rfl
  · next c w g ha =>
    refine if_neg fun hc => ?_
    obtain ⟨rfl, -⟩ := hc
    exact h w g ((awaited_some_iff s _ w g).1 ha)

theorem poolAwaited_some_iff (s : State) (c : Nat) : poolAwaited s = some c ↔ s.ylc.link = .poolAwait c := by
  unfold poolAwaited
  split
  · next d hl => simp [hl]
  · next hl => exact ⟨nofun, fun h => absurd h (hl c)⟩

theorem replyPoolAck_unawaited {src : Byte} {payload : List Byte} {s : State} (h : s.ylc.link ≠ .poolAwait src.toNat) :
    replyPoolAck src payload s = s := by
  unfold replyPoolAck
  split
  · next c result reason ha _ =>
    refine if_neg fun hc => ?_
    subst hc
    exact h ((poolAwaited_some_iff s _).1 ha)
  · rfl

theorem replyPoolWait_unawaited {src : Byte} {payload : List Byte} {s : State} (h : s.ylc.link ≠ .poolAwait src.toNat) :
    replyPoolWait src payload s = s := by
  unfold replyPoolWait
  split
  · rfl
  · next c ha =>
    refine if_neg fun hc => ?_
    obtain ⟨rfl, -⟩ := hc
    exact h ((poolAwaited_some_iff s _).1 ha)

theorem forwarded_some_iff (s : State) (f : Telegram) : forwarded s = some f ↔ s.ylc.link = .forward f := by
  unfold forwarded
  split
  · next d hl => simp [hl]
  · next hl => exact ⟨nofun, fun h => absurd h (hl f)⟩

theorem replyForward_unawaited {t : Telegram} {s : State}
    (h : ∀ f, s.ylc.link = .forward f → f.dst = 0 ∨ t.src ≠ f.dst ∨ t.dst = 100) : replyForward t s = s := by
  unfold replyForward
  split
  · rfl
  · next f hf =>
    refine if_neg ?_
    rintro ⟨h0, hsrc, hdst⟩
    rcases h f ((forwarded_some_iff s f).1 hf) with h' | h' | h'
    · exact h0 h'
    · exact h' hsrc
    · exact hdst h'

/-- Settles O45: a reply that nothing awaits changes the framer alone. -/
theorem unawaitedRepliesAreDiscarded : Obligations.UnawaitedRepliesAreDiscarded := by
  intro t src seq payload s hp h
  refine ⟨onYard_eq hp rfl, fun hw => ⟨?_, ?_⟩, fun hl => ⟨?_, ?_⟩, fun hf => ?_⟩
  · exact onYard_eq hp (replyStatus_unawaited (s := h) hw)
  · exact onYard_eq hp (replyWait_unawaited (s := h) hw)
  · exact onYard_eq hp (replyPoolAck_unawaited (s := h) hl)
  · exact onYard_eq hp (replyPoolWait_unawaited (s := h) hl)
  · exact onYard_eq hp (replyForward_unawaited (s := h) hf)

/-! ### The end of a forwarded telegram and of CURTAIL (R41, R43, R177) -/

theorem takeForwardReply_dropped {t : Telegram} {s : State} (h : passageAction s .site t.kind t.src t.dst = .drop) :
    takeForwardReply t s = s := by
  unfold takeForwardReply
  rw [h]

theorem takeForwardReply_passed {t : Telegram} {s : State} (h : passageAction s .site t.kind t.src t.dst ≠ .drop) :
    takeForwardReply t s = queueOut ⟨t.dst, .forwarded t⟩ s := by
  unfold takeForwardReply
  split
  · next hd => exact absurd hd h
  · rfl

/-- Settles O49. -/
theorem forwardedTransactionsEnd : Obligations.ForwardedTransactionsEnd := by
  intro t f s hp hl free
  have inProgress : forwarded s = some f := (forwarded_some_iff s f).2 hl
  have answered : f.dst ≠ 0 → t.src = f.dst → t.dst ≠ 100 →
      replyForward t { s with ylc := { s.ylc with framer := [] } } = takeForwardReply t (free []) := by
    intro h0 hsrc hdst
    have inProgress' : forwarded { s with ylc := { s.ylc with framer := [] } } = some f := (forwarded_some_iff _ f).2 hl
    unfold replyForward
    rw [inProgress']
    exact if_pos ⟨h0, hsrc, hdst⟩
  refine ⟨fun h0 hsrc hdst hact => ?_, fun h0 hsrc hdst hact => ?_, fun h0 => ?_, fun h0 => ?_⟩
  · exact onYard_eq hp ((answered h0 hsrc hdst).trans (takeForwardReply_dropped (s := free []) hact))
  · exact onYard_eq hp ((answered h0 hsrc hdst).trans (takeForwardReply_passed (s := free []) hact))
  · refine (live_on forwardTimeout s hp).trans (congrArg (fun v => Host.Outcome.next (finish v)) ?_)
    unfold forwardTimeout
    rw [inProgress]
    exact if_pos h0
  · refine (live_on broadcastDone s hp).trans (congrArg (fun v => Host.Outcome.next (finish v)) ?_)
    unfold broadcastDone
    rw [inProgress]
    exact if_pos h0

theorem mapPosts_const (f : Post → Post) (s : State) :
    mapPosts (fun _ => f) s = { s with frt := { s.frt with posts := s.frt.posts.map f } } := by
  have hmap : s.frt.posts.mapIdx (fun _ q => f q) = s.frt.posts.map f := by
    refine List.ext_getElem? fun i => ?_
    rw [List.getElem?_mapIdx, List.getElem?_map]
  rw [← hmap]
  rfl

/-- Settles O46. -/
theorem curtailZeroesTheGrants : Obligations.CurtailZeroesTheGrants := by
  intro tel s hp hl z
  have zeroed : modAle (fun a => { a with turn := 0 }) (zeroAll (freeLink s)) = z :=
    congrArg (modAle (fun a => { a with turn := 0 })) (mapPosts_const _ (freeLink s))
  have sent : exec .curtailSent s = .next (finish (curtailDone (freeLink s))) := by
    refine (live_on curtailSendDone s hp).trans (congrArg (fun v => Host.Outcome.next (finish v)) ?_)
    unfold curtailSendDone
    rw [hl]
  have done : curtailDone (freeLink s) =
      notice .curtailed (if z.ale.pass = .running then boundary (wantPass (endPass z)) else trigger z) := by
    unfold curtailDone
    rw [zeroed]
  rw [sent, done]
  refine ⟨fun hidle => ?_, fun hrun hop => ?_⟩
  · have idle : ¬ z.ale.pass = .running := fun h => PassState.noConfusion (hidle.symm.trans h)
    rw [if_neg idle]
  · have wanted : wantPass (endPass z) = { z with ale := { z.ale with pass := .idle, snap := none, pending := true } } :=
      if_neg hop
    rw [if_pos (show z.ale.pass = .running from hrun), wanted]

/-! ### The meter's ages (R63) -/

/-- Settles O50. -/
theorem meterAges : Obligations.MeterAges := by
  intro s hp
  refine ⟨fun hm => ?_, fun hop hm => ?_⟩
  · exact (live_on meterStaled s hp).trans (congrArg (fun v => Host.Outcome.next (finish v)) (if_pos hm))
  · exact (live_on meterFellBack s hp).trans (congrArg (fun v => Host.Outcome.next (finish v)) (if_pos ⟨hop, hm⟩))

end Sys2Proof.Machine
end

section
/-! SETREQ (09_site_traffic_and_the_passage_table.md R175, R176) and the timers at their limits (R27, R44, R52, R105) (O38, O39). -/

namespace Sys2Proof.Machine

/-! ### The posts of a list changed one after another -/

/-- The state with its post table blanked: what a change of posts leaves. -/
def offPosts (s : State) : State := { s with frt := { s.frt with posts := [] } }

theorem offPosts_updPost (p : Nat) (f : Post → Post) (s : State) : offPosts (updPost p f s) = offPosts s := by
  unfold updPost
  split <;> rfl

theorem offPosts_foldl_updPost (f : Nat → Post → Post) (l : List Nat) (s : State) :
    offPosts (l.foldl (fun s p => updPost p (f p) s) s) = offPosts s :=
  foldl_keeps offPosts _ (fun s p => offPosts_updPost p (f p) s) l s

section
variable {s t : State} (h : offPosts t = offPosts s)
include h

/-- What a change of posts leaves. -/
theorem offPosts_frame :
    t.ylc = s.ylc ∧ t.frt.buses = s.frt.buses ∧ t.frt.tagMap = s.frt.tagMap ∧ t.frt.plugQ = s.frt.plugQ ∧ t.sli = s.sli ∧
      t.sbu = s.sbu ∧ t.rdu = s.rdu ∧ t.ale = s.ale ∧ t.rsu = s.rsu ∧ t.stp = s.stp ∧ t.tsm = s.tsm ∧
      t.freeCount = s.freeCount :=
  ⟨(congrArg State.ylc h :), (congrArg (fun v : State => v.frt.buses) h :), (congrArg (fun v : State => v.frt.tagMap) h :),
    (congrArg (fun v : State => v.frt.plugQ) h :), (congrArg State.sli h :), (congrArg State.sbu h :),
    (congrArg State.rdu h :), (congrArg State.ale h :), (congrArg State.rsu h :), (congrArg State.stp h :),
    (congrArg State.tsm h :), (congrArg State.freeCount h :)⟩

end

/-- A cabinet's record is the same where the yard link's block is. -/
theorem cabAt_of_ylc {s t : State} (h : t.ylc = s.ylc) (c : Nat) : cabAt t c = cabAt s c := by
  unfold cabAt
  rw [h]

theorem cabinets_length_updCab (c : Nat) (f : Cabinet → Cabinet) (s : State) :
    (updCab c f s).ylc.cabinets.length = s.ylc.cabinets.length := congrArg (fun x => x.2.2.2.2) (still_updCab c f s)

theorem posts_length_updPost (p : Nat) (f : Post → Post) (s : State) :
    (updPost p f s).frt.posts.length = s.frt.posts.length := congrArg (fun x => x.2.2.2.1) (still_updPost p f s)

theorem postAt_foldl_updPost_other (f : Nat → Post → Post) {l : List Nat} (s : State) {q : Nat} (hq : 4 ≤ q) (h : q ∉ l) :
    postAt (l.foldl (fun s p => updPost p (f p) s) s) q = postAt s q := by
  induction l generalizing s with
  | nil => rfl
  | cons p l ih =>
    rw [List.mem_cons, not_or] at h
    rw [List.foldl_cons, ih _ h.2, postAt_updPost_other hq h.1]

theorem postAt_foldl_updPost (f : Nat → Post → Post) {l : List Nat} (hl : l.Nodup) (s : State) {q : Nat} (hq : 4 ≤ q)
    (hlen : q - 4 < s.frt.posts.length) :
    postAt (l.foldl (fun s p => updPost p (f p) s) s) q = if q ∈ l then f q (postAt s q) else postAt s q := by
  induction l generalizing s with
  | nil => simp
  | cons p l ih =>
    obtain ⟨hp, hnd⟩ := List.nodup_cons.1 hl
    rw [List.foldl_cons, ih hnd _ (by rwa [posts_length_updPost])]
    by_cases h : q = p
    · subst h
      rw [if_neg hp, if_pos (List.mem_cons_self ..), postAt_updPost_same hq hlen]
    · rw [postAt_updPost_other hq h]
      simp only [List.mem_cons, h, false_or]

/-- The four posts of a station. -/
theorem mem_postsOf_iff {c p : Nat} : p ∈ postsOf c ↔ p / 4 = c := by
  simp only [postsOf, positions, postNo, List.map_cons, List.map_nil, List.mem_cons, List.not_mem_nil, or_false]
  omega

theorem postsOf_nodup (c : Nat) : (postsOf c).Nodup := by
  simp [postsOf, positions, postNo]

theorem offPosts_clearSent (c : Nat) (s : State) : offPosts (clearSent c s) = offPosts s :=
  offPosts_foldl_updPost (fun _ q => { q with sentGrant := 0 }) (postsOf c) s

/-- The sent grants of a cabinet's posts become 0.0 (R44, R45). -/
theorem postAt_clearSent {s : State} {c p : Nat} (hp : 4 ≤ p) (hlen : p - 4 < s.frt.posts.length) :
    postAt (clearSent c s) p = if p / 4 = c then { postAt s p with sentGrant := 0 } else postAt s p := by
  refine (postAt_foldl_updPost (fun _ q => { q with sentGrant := 0 }) (postsOf_nodup c) s hp hlen).trans ?_
  simp only [mem_postsOf_iff]

/-! ### SETREQ (R175, R176) -/

section
variable {dst src seq : Byte} {l : List Byte} {s : State}

/-- The post a SETREQ names. -/
theorem setreqPost_named {position : Nat} (h : (1 ≤ dst.toNat ∧ dst.toNat ≤ 16) ∧ position ≤ 3) :
    setreqPost dst position = some (dst.toNat * 4 + position) :=
  if_pos ⟨h.1.1, h.1.2, h.2⟩

theorem setreqPost_unnamed {position : Nat} (h : ¬ ((1 ≤ dst.toNat ∧ dst.toNat ≤ 16) ∧ position ≤ 3)) :
    setreqPost dst position = none :=
  if_neg fun hn => h ⟨⟨hn.1, hn.2.1⟩, hn.2.2⟩

/-- A SETREQ's answer echoes the position byte. -/
theorem position_byte (l : List Byte) (i : Nat) : BitVec.ofNat 8 (nat8At l i) = byteAt l i := by
  simp [nat8At]

section
variable (hop : s.tsm.op ≠ .starting) (hl : l.length = 4)
include hop hl

theorem takeSetreq_dropped (h : passageAction s .yard kindSetreq src dst = .drop) :
    takeSetreq dst src seq l s = refuseSetreq dst src seq (nat8At l 0) .dropped s := by
  unfold takeSetreq
  rw [if_neg hop, parseSetreq, if_pos hl]
  dsimp only
  rw [h]

theorem takeSetreq_forwarded (h : passageAction s .yard kindSetreq src dst = .forward) :
    takeSetreq dst src seq l s = forwardOrRefuse ⟨dst, src, kindSetreq, seq, l⟩ s := by
  unfold takeSetreq
  rw [if_neg hop, parseSetreq, if_pos hl]
  dsimp only
  rw [h]

theorem takeSetreq_clamped (h : passageAction s .yard kindSetreq src dst = .clamp) :
    takeSetreq dst src seq l s = judgeClamp dst src seq (nat8At l 0)
      (if nat16At l 1 = 0xFFFF then none else some (int16At l 1)) (flagAt (byteAt l 3) 0) s := by
  unfold takeSetreq
  rw [if_neg hop, parseSetreq, if_pos hl]
  dsimp only
  rw [h]

end

/-- A refusal answers with the cap of the post it names. -/
theorem refuseSetreq_eq (why : SetreqResult) :
    refuseSetreq dst src seq (nat8At l 0) why s = queueOut ⟨src, .setreqReply
      ⟨dst, byteAt l 0, seq, why, (setreqPost dst (nat8At l 0)).bind (fun p => (postAt s p).requestCap)⟩⟩ s := by
  rw [← position_byte]
  rfl

theorem served_iff (x : PostState) : x.served = true ↔ x = .plugged ∨ x = .guest := by cases x <;> simp [PostState.served]

variable {position p : Nat} {pb : Byte} {request : Option Int} {boost : Bool}

theorem judgeClamp_unnamed (h : setreqPost dst position = none) :
    judgeClamp dst src seq position request boost s = refuseSetreq dst src seq position .badPost s := by
  unfold judgeClamp
  rw [h]

section
variable (h : setreqPost dst position = some p)
include h

theorem judgeClamp_unserved (hs : ¬ (postAt s p).state.served = true) :
    judgeClamp dst src seq position request boost s = refuseSetreq dst src seq position .notPlugged s := by
  unfold judgeClamp
  rw [h]
  exact if_pos (Bool.eq_false_iff.2 hs)

variable (hs : (postAt s p).state.served = true)
include hs

theorem judgeClamp_full (hf : 8 ≤ s.ylc.fwdQ.length) :
    judgeClamp dst src seq position request boost s = refuseSetreq dst src seq position .linkBusy s := by
  unfold judgeClamp
  rw [h]
  exact (if_neg (ne_false_of_eq_true hs)).trans (if_pos (decide_eq_true hf))

theorem judgeClamp_taken (hf : s.ylc.fwdQ.length < 8) :
    judgeClamp dst src seq position request boost s = clampSetreq dst src seq position p request boost s := by
  unfold judgeClamp
  rw [h]
  exact (if_neg (ne_false_of_eq_true hs)).trans
    (if_neg (ne_of_eq_of_ne (decide_eq_false (Nat.not_le.2 hf)) Bool.false_ne_true))

end

theorem clampedValue_eq (q : Post) (request : Option Int) :
    clampedValue q request = min ((request.map (max 0)).getD (max 0 q.grant)) (max 0 q.grant) := by
  cases request with
  | none => exact (min_self _).symm
  | some r => rfl

/-- A SETREQ taken: the cap and the boost, a pass where the boost begins, the clamped telegram, the answer. -/
theorem clampSetreq_eq (hp : 4 ≤ p) (hlen : p - 4 < s.frt.posts.length) (hpos : BitVec.ofNat 8 position = pb) :
    let cap := request.map (max 0)
    let v := clampedValue (postAt s p) request
    let post : Post := { postAt s p with requestCap := cap, boost := boost }
    let changed : State := { s with frt := { s.frt with posts := s.frt.posts.set (p - 4) post } }
    let u := if boost = true ∧ (postAt s p).boost = false then trigger changed else changed
    clampSetreq dst src seq position p request boost s =
      queueOut ⟨src, .setreqReply ⟨dst, pb, seq, .granted v, (postAt u p).requestCap⟩⟩
        { u with ylc := { u.ylc with fwdQ := u.ylc.fwdQ ++ [⟨dst, src, 0x20, seq, setreqPayload position v boost⟩] } } := by
  intro cap v post changed u
  subst hpos
  unfold clampSetreq
  dsimp only
  rw [updPost_eq_set hp hlen]
  rfl

end

/-- Settles O38: R175's tests in their order, then R176's cap, boost and forwarded telegram. -/
theorem setreqIsJudged : Obligations.SetreqIsJudged := by
  intro dst src seq l s hp hl hop h position boost p named q served cap v reply old act
  have taken : ∀ u, takeSetreq dst src seq l h = u → exec (.setreq dst src seq l) s = .next (concluded s u) := fun u hu =>
    (onSite_eq (takeSetreq dst src seq l) s hp).trans (concluded_congr hu)
  have refused : ∀ why c, (setreqPost dst position).bind (fun p => (postAt h p).requestCap) = c →
      refuseSetreq dst src seq position why h = queueOut (reply why c) h := by
    rintro why c rfl
    exact refuseSetreq_eq why
  have post_named : named → setreqPost dst position = some p := setreqPost_named
  have cap_named : named → (setreqPost dst position).bind (fun p => (postAt h p).requestCap) = q.requestCap := fun hn =>
    congrArg (fun o : Option Nat => o.bind (fun p => (postAt h p).requestCap)) (post_named hn)
  have cap_unnamed : ¬ named → (setreqPost dst position).bind (fun p => (postAt h p).requestCap) = none := fun hn =>
    congrArg (fun o : Option Nat => o.bind (fun p => (postAt h p).requestCap)) (setreqPost_unnamed hn)
  have place : named → h.frt.posts.length = 64 → 4 ≤ p ∧ p - 4 < h.frt.posts.length := by
    rintro ⟨⟨h1, h16⟩, h3⟩ hposts
    omega
  have request_cap : (if nat16At l 1 = 0xFFFF then none else some (int16At l 1)).map (max 0) = cap := by
    simp only [cap]
    split <;> rfl
  have request_value : clampedValue (postAt h p) (if nat16At l 1 = 0xFFFF then none else some (int16At l 1)) = v := by
    rw [clampedValue_eq, request_cap]
  refine ⟨fun ha => ?_, fun ha hf => ?_, fun ha hf => ?_, fun ha => ?_⟩
  · refine taken _ ((takeSetreq_dropped hop hl ha).trans (refused _ _ ?_))
    by_cases hn : named
    · exact (cap_named hn).trans (if_pos hn).symm
    · exact (cap_unnamed hn).trans (if_neg hn).symm
  · exact taken _ ((takeSetreq_forwarded hop hl ha).trans (forwardOrRefuse_room hf))
  · exact taken _ ((takeSetreq_forwarded hop hl ha).trans (forwardOrRefuse_full hf))
  · have clamps : ∀ u, judgeClamp dst src seq position (if nat16At l 1 = 0xFFFF then none else some (int16At l 1)) boost h = u →
        exec (.setreq dst src seq l) s = .next (concluded s u) := fun u hu =>
      taken u ((takeSetreq_clamped hop hl ha).trans hu)
    refine ⟨fun hn => ?_, fun hn hs => ?_, fun hn hs hf => ?_, fun hsz hn hs hf hb => ?_, fun hsz hn hs hf hb hq => ?_⟩
    · exact clamps _ ((judgeClamp_unnamed (setreqPost_unnamed hn)).trans (refused _ _ (cap_unnamed hn)))
    · exact clamps _ ((judgeClamp_unserved (post_named hn) (fun hx => hs ((served_iff _).1 hx))).trans (refused _ _ (cap_named hn)))
    · exact clamps _ ((judgeClamp_full (post_named hn) ((served_iff _).2 hs) hf).trans (refused _ _ (cap_named hn)))
    · obtain ⟨hposts, -, -⟩ := hsz
      obtain ⟨hp4, hlen⟩ := place hn hposts
      have no_pass : ¬ (boost = true ∧ q.boost = false) := by
        rintro ⟨h1, h2⟩
        rcases hb with hb | hb
        · exact Bool.false_ne_true (hb.symm.trans h1)
        · exact Bool.false_ne_true (h2.symm.trans hb)
      have clamp := clampSetreq_eq (dst := dst) (src := src) (seq := seq) (s := h) (position := position)
        (request := if nat16At l 1 = 0xFFFF then none else some (int16At l 1)) (boost := boost) hp4 hlen (position_byte l 0)
      refine clamps _ ((judgeClamp_taken (post_named hn) ((served_iff _).2 hs) hf).trans (clamp.trans ?_))
      rw [if_neg no_pass, request_cap, request_value]
      have written : ∀ u : Post, postAt { h with frt := { h.frt with posts := h.frt.posts.set (p - 4) u } } p = u := fun u => by
        simp [postAt, List.getD_eq_getElem?_getD, hlen]
      rw [written]
    · obtain ⟨hposts, -, -⟩ := hsz
      obtain ⟨hp4, hlen⟩ := place hn hposts
      have clamp := clampSetreq_eq (dst := dst) (src := src) (seq := seq) (s := h) (position := position)
        (request := if nat16At l 1 = 0xFFFF then none else some (int16At l 1)) (boost := boost) hp4 hlen (position_byte l 0)
      refine ⟨_, rfl, ?_⟩
      refine clamps _ ((judgeClamp_taken (post_named hn) ((served_iff _).2 hs) hf).trans (clamp.trans ?_))
      have begins : boost = true ∧ (postAt h p).boost = false := ⟨hb, hq⟩
      rw [if_pos begins, request_cap, request_value, hb]

/-! ### The timers at their limits (R27, R44, R52, R105) -/

/-- A cabinet without a row whose answer age has reached the fallback time: UNCONFIGURED, its sent grants 0.0 (R44). -/
theorem answerAged_unconfigured {c : Nat} {s : State} (hc : IsStation c) (hlen : s.ylc.cabinets.length = 16)
    (hoff : (cabAt s c).link = .offline) (hcfg : (cabAt s c).configured = false) :
    let age := max (cabAt s c).age (min 65535 (s.tsm.settings.fallbackTime * 10))
    answerAged c s = clearSent c (updCab c (fun r => { r with age := age, link := .unconfigured }) s) := by
  unfold answerAged
  rw [if_pos hoff]
  dsimp only
  rw [if_neg (ne_of_eq_of_ne hcfg Bool.false_ne_true), updCab_eq_set hc (by rwa [cabinets_length_updCab]),
    cabAt_updCab_same hc hlen, updCab_eq_set hc hlen, updCab_eq_set hc hlen]
  simp only [List.set_set]
  rfl

/-- Settles O39. -/
theorem timersAtTheirLimits : Obligations.TimersAtTheirLimits := by
  intro c s hp hc hsz set old age
  obtain ⟨hposts, hcabs, -⟩ := hsz
  have run {i : Instr} {f : State → State} (hi : exec i s = live f s) {u : State} (hu : f s = u) :
      exec i s = .next (finish u) :=
    hi.trans ((live_on f s hp).trans (congrArg (fun v => Host.Outcome.next (finish v)) hu))
  refine ⟨fun hop hr => ?_, fun hop hr => ?_, fun hop => ?_, fun hq => ?_, fun hoff hcfg => ?_, fun hoff hcfg => ?_⟩
  · refine run (f := roundExpired) rfl ((if_neg hop).trans ?_)
    simp [modYlc, hr]
  · refine run (f := roundExpired) rfl ((if_neg hop).trans ?_)
    simp [modYlc, hr]
  · exact run (f := passTimerExpired) rfl (if_neg hop)
  · exact run (f := quiesceExpired c) rfl ((if_pos hq).trans (updCab_eq_set hc hcabs))
  · refine run (f := answerAged c) rfl ((if_pos hoff).trans ((if_pos hcfg).trans (updCab_eq_set hc hcabs)))
  · let w := updCab c (fun r => { r with age := age, link := .unconfigured }) s
    obtain ⟨ylc, rest⟩ := offPosts_frame (offPosts_clearSent c w)
    have hw : w = set { old with age := age, link := .unconfigured } := updCab_eq_set hc hcabs
    refine ⟨clearSent c w, run (f := answerAged c) rfl (answerAged_unconfigured hc hcabs hoff hcfg), ?_, fun i hi => ?_,
      ⟨fun d hd hne => ?_, fun p hp hne => ?_⟩, ?_⟩
    · exact ylc.trans (congrArg State.ylc hw)
    · have place : c * 4 + i - 4 < w.frt.posts.length := by
        rw [hw]; show _ < s.frt.posts.length; have := hc.2; omega
      rw [postAt_clearSent (by have := hc.1; omega) place, if_pos (by omega), hw]
      rfl
    · exact (cabAt_of_ylc ylc d).trans (cabAt_updCab_other hne)
    · refine (postAt_foldl_updPost_other _ w hp (fun hm => hne (mem_postsOf_iff.1 hm))).trans ?_
      rw [hw]
      rfl
    · rw [hw] at rest ⊢
      exact rest

end Sys2Proof.Machine
end

section
/-! What a pass, its boundary and a round leave of TSM while no activation waits (06_the_allocation_pass.md R103, R108, R110). -/

namespace Sys2Proof.Machine

/-! ### TSM behind the drain (R14) -/

section
variable (s : State)

theorem quiet_of_unsent {s t : State} (h : unsent t = unsent s) : t.tsm.quiet = s.tsm.quiet := (congrArg State.tsm h :)

theorem quiet_of_offList {s t : State} (h : offList t = offList s) : t.tsm.quiet = s.tsm.quiet := (congrArg State.tsm h :)

@[simp] theorem quiet_queueReadiness (k : Nat) : (queueReadiness k s).tsm.quiet = s.tsm.quiet :=
  quiet_of_unsent (unsent_queueReadiness k s)

@[simp] theorem quiet_leaveList (endOfDay : Bool) (n : Nat) : (leaveList endOfDay n s).tsm.quiet = s.tsm.quiet :=
  quiet_of_offList (offList_leaveList endOfDay n s)

@[simp] theorem quiet_buildList : (buildList s).tsm.quiet = s.tsm.quiet := quiet_of_offList (offList_buildList s)

@[simp] theorem quiet_judgeUnplug (k : Nat) : (judgeUnplug k s).tsm.quiet = s.tsm.quiet := by
  unfold judgeUnplug
  dsimp only
  (repeat' split) <;> simp

@[simp] theorem quiet_resolveConflict (k q p : Nat) : (resolveConflict k q p s).tsm.quiet = s.tsm.quiet := by
  unfold resolveConflict
  dsimp only
  split <;> simp

@[simp] theorem quiet_plugMapped (k p : Nat) : (plugMapped k p s).tsm.quiet = s.tsm.quiet := by
  unfold plugMapped
  dsimp only
  (repeat' split) <;> simp

@[simp] theorem quiet_unplugBus (p : Nat) : (unplugBus p s).tsm.quiet = s.tsm.quiet := by
  unfold unplugBus
  dsimp only
  (repeat' split) <;> simp

@[simp] theorem quiet_unplugEvent (p : Nat) : (unplugEvent p s).tsm.quiet = s.tsm.quiet := by
  unfold unplugEvent
  split <;> simp

@[simp] theorem quiet_processEvent (e : PlugEvent) : (processEvent e s).tsm.quiet = s.tsm.quiet := by
  unfold processEvent
  dsimp only
  (repeat' split) <;> simp

@[simp] theorem quiet_drain : (drain s).tsm.quiet = s.tsm.quiet :=
  foldl_keeps (fun v => v.tsm.quiet) _ (fun s e => quiet_processEvent s e) _ _

@[simp] theorem quiet_drainForPass : (drainForPass s).tsm.quiet = s.tsm.quiet := quiet_drain s

/-! ### TSM behind a completion (R109, R110) -/

@[simp] theorem quiet_completeReadiness : (completeReadiness s).tsm.quiet = s.tsm.quiet := by
  have := congrArg State.tsm (readinessFrame_completeReadiness s)
  exact this

@[simp] theorem quiet_completeStorage (f : PassFacts) : (completeStorage f s).tsm.quiet = s.tsm.quiet := by
  unfold completeStorage
  dsimp only
  have classes : ((slots s).foldl (fun s k => classify k s) s).tsm = s.tsm :=
    foldl_keeps State.tsm _ (fun s k => by simp) _ s
  split <;> simp [queueStorage, classes]

@[simp] theorem quiet_takeShortfall (found : Option (Nat × ShortCause)) : (takeShortfall found s).tsm.quiet = s.tsm.quiet := by
  unfold takeShortfall
  dsimp only
  (repeat' split) <;> simp

@[simp] theorem quiet_compareSides : (compareSides s).tsm.quiet = s.tsm.quiet := by
  unfold compareSides
  (repeat' split) <;> simp [queueCapability]

@[simp] theorem quiet_completeReserve (f : PassFacts) (found : Option (Nat × ShortCause)) :
    (completeReserve f found s).tsm.quiet = s.tsm.quiet := by
  simp [completeReserve]

@[simp] theorem quiet_safePass : (safePass s).tsm.quiet = s.tsm.quiet := by
  simp [safePass, writeTiers]

@[simp] theorem quiet_startPass : (startPass s).tsm.quiet = s.tsm.quiet := by
  unfold startPass beginPass
  split <;> simp

end

/-! ### A trigger and a boundary while nothing waits (R103, R108) -/

section
variable {s : State} (h : s.tsm.waiting = [])
include h

theorem applyWaiting_none : applyWaiting s = s := by
  have same : modTsm (fun t => { t with waiting := [] }) s = s := by
    rw [← h]
    rfl
  unfold applyWaiting
  rw [same, h]
  rfl

/-- Where no activation waits, the boundary behind a pass changes nothing. -/
theorem runTriggers_unwaiting : runTriggers s =
    if s.ale.pass = .idle ∧ s.ale.pending = true then startPass { s with ale := { s.ale with pending := false } } else s := by
  unfold runTriggers
  split
  · dsimp only
    have waits : (startPass (modAle (fun a => { a with pending := false }) s)).tsm.waiting = [] := by simp [h]
    rw [applyWaiting_none waits]
    have asked : ¬ (startPass (modAle (fun a => { a with pending := false }) s)).ale.pending = true := by simp
    rw [if_neg asked]
    split <;> rfl
  · rfl

theorem quiet_runTriggers : (runTriggers s).tsm.quiet = s.tsm.quiet := by
  rw [runTriggers_unwaiting h]
  split
  · exact quiet_startPass _
  · rfl

theorem quiet_trigger : (trigger s).tsm.quiet = s.tsm.quiet := by
  unfold trigger
  have waits : (wantPass s).tsm.waiting = [] := by simp [h]
  rw [quiet_runTriggers waits]
  simp

end

theorem waiting_of_quiet {s t : State} (h : t.tsm.quiet = s.tsm.quiet) : t.tsm.waiting = s.tsm.waiting :=
  (congrArg Tsm.waiting h :)

/-! ### The end of a step while nothing waits (R28, R29) -/

section
variable {s : State} (h : s.tsm.waiting = [])
include h

theorem quiet_completeRound : (completeRound s).tsm.quiet = s.tsm.quiet := by
  have ended : (roundOver s).tsm = s.tsm := by simp [roundOver]
  have turn := quiet_trigger (s := roundOver s) (by rw [ended, h])
  unfold completeRound applyRoundDue
  split <;> simp [turn]

theorem quiet_giveLink (g : Grantee) : (giveLink g s).tsm.quiet = s.tsm.quiet := by
  have next (last : Nat) {u : State} (hu : u.tsm = s.tsm) : (continueRound last u).tsm.quiet = s.tsm.quiet := by
    unfold continueRound
    split
    · simp [hu]
    · rw [quiet_completeRound (by rw [hu, h]), hu]
  cases g with
  | curtail => simp [giveLink]
  | resend c waits => simp [giveLink]
  | pool c m => simp [giveLink]
  | forward t rest => simp [giveLink]
  | next last => exact next last rfl
  | round => exact next 0 rfl
  | none => rfl

theorem quiet_settleLink (n : Nat) : (settleLink n s).tsm.quiet = s.tsm.quiet := by
  induction n generalizing s with
  | zero => rfl
  | succ n ih =>
    unfold settleLink
    split
    · split
      · rfl
      · have given := quiet_giveLink h (pick s)
        rw [ih ((waiting_of_quiet given).trans h), given]
    · rfl

theorem quiet_finish : (finish s).tsm.quiet = s.tsm.quiet := quiet_settleLink h 3

end

/-! ### A reserve without an ACTIVE dispatch stays without one (R145 to R155) -/

section
variable {s : State} (h : s.rsu.active = none)
include h

theorem active_none_completeReserve (f : PassFacts) (found : Option (Nat × ShortCause)) :
    (completeReserve f found s).rsu.active = none := by
  have acc : (accumulate s).rsu.active = none := by simp [accumulate, updActive, h]
  have short : takeShortfall found (accumulate s) = accumulate s := by
    unfold takeShortfall
    rw [acc]
    cases found <;> rfl
  unfold completeReserve
  dsimp only
  rw [short]
  unfold compareSides
  split
  · exact acc
  · split
    · simp [queueCapability, recordSides, acc]
    · exact acc

theorem active_none_startPass : (startPass s).rsu.active = none := by
  unfold startPass
  split
  · unfold safePass
    refine active_none_completeReserve ?_ _ _
    simp [writeTiers, h]
  · simp [beginPass, h]

theorem active_none_trigger (hw : s.tsm.waiting = []) : (trigger s).rsu.active = none := by
  unfold trigger
  have waits : (wantPass s).tsm.waiting = [] := by simp [hw]
  rw [runTriggers_unwaiting waits]
  split
  · refine active_none_startPass ?_
    simp [h]
  · simp [h]

theorem active_none_completeRound (hw : s.tsm.waiting = []) : (completeRound s).rsu.active = none := by
  have turn := active_none_trigger (s := roundOver s) (by simp [roundOver, h]) (by simp [roundOver, hw])
  unfold completeRound applyRoundDue
  split <;> simp [evalBand, updActive, turn]

theorem active_none_giveLink (hw : s.tsm.waiting = []) (g : Grantee) : (giveLink g s).rsu.active = none := by
  have next (last : Nat) {u : State} (hr : u.rsu = s.rsu) (hu : u.tsm = s.tsm) : (continueRound last u).rsu.active = none := by
    unfold continueRound
    split
    · simp [hr, h]
    · exact active_none_completeRound (by rw [hr, h]) (by rw [hu, hw])
  cases g with
  | curtail => simp [giveLink, h]
  | resend c waits => simp [giveLink, h]
  | pool c m => simp [giveLink, h]
  | forward t rest => simp [giveLink, h]
  | next last => exact next last rfl rfl
  | round => exact next 0 rfl rfl
  | none => exact h

theorem active_none_finish (hw : s.tsm.waiting = []) : (finish s).rsu.active = none := by
  have settle (n : Nat) {u : State} (hu : u.rsu.active = none) (huw : u.tsm.waiting = []) :
      (settleLink n u).rsu.active = none := by
    induction n generalizing u with
    | zero => exact hu
    | succ n ih =>
      unfold settleLink
      split
      · split
        · exact hu
        · exact ih (active_none_giveLink hu huw _) ((waiting_of_quiet (quiet_giveLink huw _)).trans huw)
      · exact hu
  exact settle 3 h hw

end

end Sys2Proof.Machine
end

section
/-! The end of STARTING and PART_RESTART (10_table_store_and_management.md R198 to R200) (O8, O10). -/

namespace Sys2Proof.Machine

/-! ### The end of STARTING (R199) -/

/-- Every field of TSM but the flag of the outbound queue. -/
theorem Tsm.fields_of_quiet {t u : Tsm} (h : t.quiet = u) :
    t.op = u.op ∧ t.active = u.active ∧ t.store = u.store ∧ t.settings = u.settings ∧ t.code = u.code ∧ t.staged = u.staged ∧
      t.staging = u.staging ∧ t.lastResult = u.lastResult ∧ t.silenceStanding = u.silenceStanding ∧
      t.restartPending = u.restartPending ∧ t.waiting = u.waiting := by
  subst h
  exact ⟨rfl, rfl, rfl, rfl, rfl, rfl, rfl, rfl, rfl, rfl, rfl⟩

section
variable {s : State}

/-- TSM behind the end of STARTING: the operating state alone has moved. -/
theorem quiet_endStarting (h : s.tsm.waiting = []) : (endStarting s).tsm.quiet =
    { s.tsm with outOverflow := false, op := if s.tsm.active.yard.isSome then .coordinating else .safe } := by
  have built : (buildList (evalTariff s)).tsm.quiet = s.tsm.quiet := by simp
  have active : (buildList (evalTariff s)).tsm.active = s.tsm.active := by simp
  have left : (leaveStarting (buildList (evalTariff s))).tsm.quiet =
      { s.tsm with outOverflow := false, op := if s.tsm.active.yard.isSome then .coordinating else .safe } := by
    unfold leaveStarting
    rw [active]
    split
    · exact congrArg (fun t : Tsm => { t with op := .coordinating }) built
    · exact congrArg (fun t : Tsm => { t with op := .safe }) built
  have sent : (trySend (startTimers (leaveStarting (buildList (evalTariff s))))).tsm.quiet =
      (leaveStarting (buildList (evalTariff s))).tsm.quiet := quiet_trySend _
  have waits : (trySend (startTimers (leaveStarting (buildList (evalTariff s))))).tsm.waiting = [] := by
    obtain ⟨-, -, -, -, -, -, -, -, -, -, waiting⟩ := Tsm.fields_of_quiet (sent.trans left)
    rw [waiting, h]
  exact (quiet_trigger waits).trans (sent.trans left)

/-- TSM at the end of the step that ends STARTING. -/
theorem quiet_finish_endStarting (h : s.tsm.waiting = []) : (finish (endStarting s)).tsm.quiet =
    { s.tsm with outOverflow := false, op := if s.tsm.active.yard.isSome then .coordinating else .safe } := by
  have ended := quiet_endStarting h
  have waits : (endStarting s).tsm.waiting = [] := by
    obtain ⟨-, -, -, -, -, -, -, -, -, -, waiting⟩ := Tsm.fields_of_quiet ended
    rw [waiting, h]
  exact (quiet_finish waits).trans ended

theorem clock_finish_endStarting : (finish (endStarting s)).rdu.clock = s.rdu.clock :=
  (still_clock (still_finish _)).trans (still_clock (still_endStarting s))

end

/-! ### The ARMED dispatch at the end of a step (R142) -/

section
variable {s : State} (h : s.tsm.waiting = [])
include h

theorem armed_trigger : (trigger s).rsu.armed = s.rsu.armed := by
  unfold trigger
  have waits : (wantPass s).tsm.waiting = [] := by simp [h]
  rw [runTriggers_unwaiting waits]
  split <;> simp

theorem armed_completeRound : (completeRound s).rsu.armed = s.rsu.armed := by
  have turn := armed_trigger (s := roundOver s) (by simp [roundOver, h])
  unfold completeRound applyRoundDue
  split <;> simp [turn]

theorem armed_giveLink (g : Grantee) : (giveLink g s).rsu.armed = s.rsu.armed := by
  have next (last : Nat) {u : State} (hr : u.rsu = s.rsu) (hu : u.tsm = s.tsm) :
      (continueRound last u).rsu.armed = s.rsu.armed := by
    unfold continueRound
    split
    · simp [hr]
    · rw [armed_completeRound (by rw [hu, h]), hr]
  cases g with
  | curtail => simp [giveLink]
  | resend c waits => simp [giveLink]
  | pool c m => simp [giveLink]
  | forward t rest => simp [giveLink]
  | next last => exact next last rfl rfl
  | round => exact next 0 rfl rfl
  | none => rfl

theorem armed_finish : (finish s).rsu.armed = s.rsu.armed := by
  have settle (n : Nat) {u : State} (hw : u.tsm.waiting = []) : (settleLink n u).rsu.armed = u.rsu.armed := by
    induction n generalizing u with
    | zero => rfl
    | succ n ih =>
      unfold settleLink
      split
      · split
        · rfl
        · exact (ih ((waiting_of_quiet (quiet_giveLink hw _)).trans hw)).trans (armed_giveLink hw _)
      · rfl
  exact settle 3 h

theorem waiting_trySend_startTimers : (trySend (startTimers (leaveStarting (buildList (evalTariff s))))).tsm.waiting = [] := by
  have left : (leaveStarting (buildList (evalTariff s))).tsm.waiting = s.tsm.waiting := by
    unfold leaveStarting
    split <;> simp
  have started : (startTimers (leaveStarting (buildList (evalTariff s)))).tsm.waiting = s.tsm.waiting := by
    simpa [startTimers] using left
  exact (waiting_of_quiet (quiet_trySend _)).trans (started.trans h)

/-- The reserve behind the end of STARTING, where no dispatch stood before it. -/
theorem reserve_finish_endStarting (ha : s.rsu.active = none) :
    (finish (endStarting s)).rsu.active = none ∧ (finish (endStarting s)).rsu.armed = s.rsu.armed ∧
      (finish (endStarting s)).rsu.highId = s.rsu.highId ∧
      (finish (endStarting s)).sli.silentMark = s.sli.silentMark := by
  have waits : (endStarting s).tsm.waiting = [] := by
    obtain ⟨-, -, -, -, -, -, -, -, -, -, waiting⟩ := Tsm.fields_of_quiet (quiet_endStarting h)
    rw [waiting, h]
  have rsu : (startTimers (leaveStarting (buildList (evalTariff s)))).rsu = s.rsu := by
    unfold leaveStarting startTimers
    split <;> simp
  have mark : (startTimers (leaveStarting (buildList (evalTariff s)))).sli.silentMark = s.sli.silentMark := by
    unfold leaveStarting startTimers
    split <;> simp
  have none_waits := waiting_trySend_startTimers h
  refine ⟨active_none_finish (active_none_trigger (by simp [rsu, ha]) none_waits) waits, ?_, ?_, ?_⟩
  · rw [armed_finish waits]
    unfold endStarting
    simp [armed_trigger none_waits, rsu]
  · unfold endStarting
    simp [rsu]
  · unfold endStarting
    simp [mark]

end

/-! ### Loading (R200) -/

theorem SegTable.get_set_same {α : Type} (t : SegTable α) (g : Segment) (a : α) : (t.set g a).get g = a := by cases g <;> rfl

theorem SegTable.get_set_other {α : Type} (t : SegTable α) {g h : Segment} (a : α) (hne : h ≠ g) :
    (t.set g a).get h = t.get h := by
  cases g <;> cases h <;> first | rfl | exact absurd rfl hne

/-- A YARD content leaves the part in STARTING. -/
theorem activateYard_starting {content : Option (List Row)} {s : State} (h : s.tsm.op = .starting) :
    (activateYard content s).tsm.op = .starting := by
  unfold activateYard
  split
  · simp [yardLeft, h]
  · next rows =>
    have stations : (stations.foldl (fun s c => activateStation (yardRows rows) c s) s).tsm = s.tsm :=
      foldl_keeps State.tsm _ (fun s c => by simp) _ s
    simp [yardArrived, stations, h]

theorem handContent_starting {g : Segment} {content : Option (List Row)} {s : State} (h : s.tsm.op = .starting) :
    (handContent g content s).tsm.op = .starting := by
  cases g with
  | yard => exact activateYard_starting h
  | fleet => simp [handContent, h]
  | route => simp [handContent, h]
  | commitment => simp [handContent, activateCommitment, h]
  | tariff => simp [handContent, h]
  | passage => simp [handContent, h]
  | settings => simp [handContent, h]

/-- What the segments loaded so far have left of a part in STARTING: the store, nothing waiting, and their own content. -/
structure Loading (s t : State) (done : List Segment) : Prop where
  op : t.tsm.op = .starting
  store : t.tsm.store = s.tsm.store
  waiting : t.tsm.waiting = s.tsm.waiting
  clock : t.rdu.clock = s.rdu.clock
  content : ∀ g ∈ done, t.tsm.active.get g = loadedContent (s.tsm.store.get g)

/-- One more segment is loaded. -/
theorem Loading.next {s t : State} {done : List Segment} (h : Loading s t done) (g : Segment) :
    Loading s (loadSegment g t) (g :: done) := by
  obtain ⟨hop, hstore, hwait, hclock, hcontent⟩ := h
  have active : (loadSegment g t).tsm.active = t.tsm.active.set g (loadedContent (s.tsm.store.get g)) := by
    simp [loadSegment, hstore]
  refine ⟨handContent_starting hop, by simp [loadSegment, hstore], by simp [loadSegment, hwait], by simp [loadSegment, hclock],
    fun x hx => ?_⟩
  rw [active]
  by_cases he : x = g
  · rw [he, SegTable.get_set_same]
  · rw [SegTable.get_set_other _ _ he]
    exact hcontent x ((List.mem_cons.1 hx).resolve_left he)

theorem Loading.all {s t : State} {done : List Segment} (h : Loading s t done) (l : List Segment) :
    Loading s (l.foldl (fun s g => loadSegment g s) t) (l.reverse ++ done) := by
  induction l generalizing t done with
  | nil => exact h
  | cons g l ih =>
    rw [List.reverse_cons, List.append_assoc]
    exact ih (h.next g)

/-- The whole store is loaded: every segment's content is active. -/
theorem loadStore_loading {s : State} (h : s.tsm.op = .starting) : Loading s (loadStore s) segments := by
  obtain ⟨hop, hstore, hwait, hclock, hcontent⟩ := (Loading.mk h rfl rfl rfl nofun : Loading s s []).all loadOrder
  exact ⟨hop, hstore, hwait, hclock, fun g _ => hcontent g (by cases g <;> decide)⟩

theorem mem_segments (g : Segment) : g ∈ segments := by cases g <;> decide

/-- Settles O8. -/
theorem endOfStartingLoads : Obligations.EndOfStartingLoads := by
  intro s hp hop hwait
  obtain ⟨-, hstore, hw, hclock, hcontent⟩ := loadStore_loading hop
  have tsm := quiet_finish_endStarting (s := loadStore s) (hw.trans hwait)
  obtain ⟨op, active, store, -⟩ := Tsm.fields_of_quiet tsm
  dsimp only at op active store
  have yard : (loadStore s).tsm.active.yard = loadedContent s.tsm.store.yard := hcontent .yard (mem_segments _)
  refine ⟨finish (endStarting (loadStore s)),
    (live_on endLoading s hp).trans (congrArg (fun v => Host.Outcome.next (finish v)) (if_pos hop)), ?_, fun g => ?_, ?_, ?_⟩
  · rw [op, yard]
    by_cases hv : s.tsm.store.yard.content = .valid
    · simp [loadedContent, hv]
    · simp [loadedContent, hv]
  · rw [active]
    exact hcontent g (mem_segments g)
  · exact store.trans hstore
  · exact clock_finish_endStarting.trans hclock

/-! ### RESTART (R198) -/

theorem stations_eq : stations = List.range' 1 16 := by decide

/-- The record of a station's cabinet at a reset, among those of all stations. -/
theorem cabAt_reset {rows : List YardRow} {s : State} (h : s.ylc.cabinets = stations.map (resetCabinet rows)) {c : Nat}
    (hc : IsStation c) : cabAt s c = resetCabinet rows c := by
  obtain ⟨h1, h16⟩ := hc
  rw [cabAt_station ⟨h1, h16⟩, h, stations_eq, List.getD_eq_getElem?_getD, List.getElem?_map,
    List.getElem?_range' (by omega)]
  have place : 1 + 1 * (c - 1) = c := by omega
  rw [place]
  rfl

/-- Settles O10: the blocks at their RESTART values, and what the end of STARTING leaves of them. -/
theorem restartTakesEffect : Obligations.RestartTakesEffect := by
  intro s hp hpend hwrite yard idle cabinet post bus clock leg r
  have record (c : Nat) : resetCabinet yard c = cabinet c := by
    simp only [resetCabinet, cabinet]
    cases yard.find? (fun r => r.station = c) <;> rfl
  have cabinets : stations.map (resetCabinet yard) = (List.range' 1 16).map cabinet := by
    rw [stations_eq]
    exact List.map_congr_left fun c _ => record c
  have at_station : ∀ c, IsStation c → ∀ u : State, u.ylc.cabinets = stations.map (resetCabinet yard) → cabAt u c = cabinet c := by
    intro c hc u hu
    exact (cabAt_reset hu hc).trans (record c)
  let blank : State := { s with
    sli := s.sli.restart, ylc := restartYlc s, sbu := s.sbu.restart, ale := Ale.initial, rsu := s.rsu.restart
    stp := s.stp.restart, tsm := s.tsm.restart }
  have ylc : restartYlc s = r.ylc := congrArg (fun x : List Cabinet => { Ylc.initial with cabinets := x }) cabinets
  have posts : restartPosts blank = (List.range' 4 64).map post := by
    refine List.map_congr_left fun p hp => ?_
    have hc : IsStation (p / 4) := by
      have := List.mem_range'_1.1 hp
      constructor <;> omega
    show resetPost (cabAt blank (p / 4)) (p % 4) = post p
    rw [at_station (p / 4) hc blank rfl]
    rfl
  have legs : (clearMarkers (clearSubstitutes (resetOutcomes (modRdu (fun x => { x with
      clock := if x.clock.set then x.clock else Rdu.initial.clock
      list := [], lastOutcomes := x.lastOutcomes.map (fun _ => none) }) (restartFrt blank))))).rdu = r.rdu := by
    simp only [clearMarkers, clearSubstitutes, resetOutcomes, modRdu, List.map_map, r]
    rfl
  have frt : (restartFrt blank).frt = r.frt :=
    congrArg (fun x : List Post => { s.frt with buses := s.frt.buses.map Bus.restart, posts := x, plugQ := [] }) posts
  have stp : (restartBlocks s).stp = r.stp := by
    have table : s.frt.buses.map (fun b => storageEntryFor s.stp.band b.restart.capacity (firstClass b.restart)) =
        s.frt.buses.map (fun b => storageEntryFor s.stp.band b.capacity (if b.cls = .parked then .cls else .notParked)) := by
      refine List.map_congr_left fun b _ => ?_
      simp [firstClass, Bus.restart]
    have rebuilt : (restartBlocks s).stp = { s.stp.restart with table := (s.frt.buses.map Bus.restart).map (fun b =>
        storageEntryFor s.stp.band b.capacity (firstClass b)) } := rfl
    rw [rebuilt, List.map_map]
    exact congrArg (fun x : List StorageEntry => { s.stp.restart with table := x }) table
  have blocks : restartBlocks s = r := by
    refine State.same rfl rfl ylc frt rfl legs rfl rfl stp rfl rfl rfl
  have run : exec .partRestart s = .next (finish (endStarting (applyWaiting r))) :=
    (live_on partRestart s hp).trans (congrArg (fun v => Host.Outcome.next (finish v))
      ((if_pos ⟨hpend, hwrite⟩).trans (congrArg (fun v => endStarting (applyWaiting v)) blocks)))
  refine ⟨run, fun hwait => ?_⟩
  have none_waits : r.tsm.waiting = [] := hwait
  rw [applyWaiting_none none_waits] at run
  have tsm := quiet_finish_endStarting none_waits
  obtain ⟨op, active, store, settings, code, staged, staging, lastResult, silence, pending, -⟩ := Tsm.fields_of_quiet tsm
  obtain ⟨ractive, rarmed, highId, mark⟩ := reserve_finish_endStarting none_waits rfl
  exact ⟨_, run, lastResult, pending, store, active, code, settings, staged, staging, silence, op, clock_finish_endStarting,
    highId, ractive, rarmed, mark⟩

end Sys2Proof.Machine
end

section
/-! The yard link's arbiter (02_yard_survey.md R27 to R30) (O58). -/

namespace Sys2Proof.Machine

/-! ### The arbiter's turns (R29) -/

section
variable {s : State}

theorem linkOpen_iff : linkOpen s = true ↔ s.tsm.op ≠ .starting ∧ s.ylc.link = .free := by
  simp [linkOpen]

theorem settleLink_shut (n : Nat) (h : ¬ linkOpen s = true) : settleLink n s = s := by
  cases n with
  | zero => rfl
  | succ n => exact if_neg h

/-- A turn that leaves the link free hands on to the next. -/
theorem finish_of_turn {g : Grantee} (hopen : linkOpen s = true) (hg : pick s = g) (hne : g ≠ .none) :
    finish s = settleLink 2 (giveLink g s) := by
  unfold finish
  rw [settleLink, if_pos hopen, hg, if_neg hne]

/-- A turn that takes the link is the last. -/
theorem finish_of_pick {g : Grantee} (hopen : linkOpen s = true) (hg : pick s = g) (hne : g ≠ .none)
    (hshut : ¬ linkOpen (giveLink g s) = true) : finish s = giveLink g s := by
  rw [finish_of_turn hopen hg hne, settleLink_shut 2 hshut]

theorem finish_of_none (hopen : linkOpen s = true) (hg : pick s = .none) : finish s = closeClaims s := by
  unfold finish
  rw [settleLink, if_pos hopen, if_pos hg]

theorem takeLink_shut {l : Link} (h : l ≠ .free) (u : State) : ¬ linkOpen (takeLink l u) = true := by
  simp [linkOpen, takeLink, h]

theorem sendExchange_shut (c waits : Nat) (u : State) : ¬ linkOpen (sendExchange c waits u) = true :=
  takeLink_shut Link.noConfusion _

theorem sendPool_shut (c : Nat) (m : Mode) (u : State) : ¬ linkOpen (sendPool c m u) = true := takeLink_shut Link.noConfusion _

theorem sendForward_shut (t : Telegram) (rest : List Telegram) (u : State) : ¬ linkOpen (sendForward t rest u) = true :=
  takeLink_shut Link.noConfusion _

/-! ### What is given the link (R29) -/

section
variable (hreq : s.ylc.curtailReq = false)
include hreq

theorem pick_of_not_visiting (hv : ¬ ∃ c w p, s.ylc.round = .visit c w p) : pick s = pickOther s := by
  unfold pick
  rw [if_neg (ne_of_eq_of_ne hreq Bool.false_ne_true)]
  split
  · next c w hr => exact absurd ⟨c, w, _, hr⟩ hv
  · next c w p _ hr => exact absurd ⟨c, w, p, hr⟩ hv
  · rfl

theorem pick_of_resend {c w : Nat} (hr : s.ylc.round = .visit c w .resend) : pick s = .resend c w := by
  unfold pick
  rw [if_neg (ne_of_eq_of_ne hreq Bool.false_ne_true), hr]

theorem pick_of_visiting {c w : Nat} (hr : s.ylc.round = .visit c w .awaiting ∨ s.ylc.round = .visit c w .holdOff) :
    pick s = .none := by
  unfold pick
  rw [if_neg (ne_of_eq_of_ne hreq Bool.false_ne_true)]
  rcases hr with hr | hr <;> rw [hr]

end

theorem poolWaiting_some_iff {c : Nat} {m : Mode} : poolWaiting s = some (c, m) ↔
    s.ylc.poolClaim = some c ∧ (cabAt s c).pool.state = .sent ∧ (cabAt s c).pool.target = some m := by
  unfold poolWaiting
  split
  · next h => simp [h]
  · next d h =>
    rw [h]
    constructor
    · split
      · next hs =>
        intro hm
        obtain ⟨m', ht, he⟩ := Option.map_eq_some_iff.1 hm
        obtain ⟨rfl, rfl⟩ := Prod.mk.inj he
        exact ⟨rfl, hs, ht⟩
      · exact nofun
    · rintro ⟨hd, hs, ht⟩
      cases hd
      rw [if_pos hs, ht]
      rfl

theorem poolWaiting_none (h : ¬ ∃ c m, s.ylc.poolClaim = some c ∧ (cabAt s c).pool.state = .sent ∧
    (cabAt s c).pool.target = some m) : poolWaiting s = none := by
  cases hp : poolWaiting s with
  | none => rfl
  | some x => exact absurd ⟨x.1, x.2, poolWaiting_some_iff.1 hp⟩ h

theorem mayForward_iff : mayForward s = true ↔ s.ylc.fwdClaim = true ∨ s.ylc.round = .idle ∧ s.ylc.roundWanted = false := by
  simp [mayForward]

theorem pickOther_pool {c : Nat} {m : Mode} (h : poolWaiting s = some (c, m)) : pickOther s = .pool c m := by
  unfold pickOther
  rw [h]

section
variable (hp : poolWaiting s = none)
include hp

theorem pickOther_forward {t : Telegram} {rest : List Telegram} (hm : mayForward s = true) (hq : s.ylc.fwdQ = t :: rest) :
    pickOther s = .forward t rest := by
  unfold pickOther
  rw [hp, hm, hq]

variable (hf : ¬ (s.ylc.fwdQ ≠ [] ∧ mayForward s = true))
include hf

/-- Behind POOL and the forward queue the link goes to the round. -/
theorem pickOther_between {last : Nat} (hr : s.ylc.round = .between last) : pickOther s = .next last := by
  unfold pickOther
  rw [hp, hr]
  cases hq : s.ylc.fwdQ with
  | nil => cases mayForward s <;> rfl
  | cons t rest =>
    have shut : mayForward s = false := by
      rw [hq] at hf
      simpa using hf
    rw [shut]

theorem pickOther_idle (hr : s.ylc.round = .idle) : pickOther s = if s.ylc.roundWanted then .round else .none := by
  unfold pickOther
  rw [hp, hr]
  cases hq : s.ylc.fwdQ with
  | nil => cases mayForward s <;> rfl
  | cons t rest =>
    have shut : mayForward s = false := by
      rw [hq] at hf
      simpa using hf
    rw [shut]

end

/-- In the order of R29: behind CURTAIL, POOL and the forward queue. -/
theorem pick_of_between {last : Nat} (hreq : s.ylc.curtailReq = false) (hp : poolWaiting s = none)
    (hf : ¬ (s.ylc.fwdQ ≠ [] ∧ mayForward s = true)) (hr : s.ylc.round = .between last) : pick s = .next last :=
  (pick_of_not_visiting hreq (by simp [hr])).trans (pickOther_between hp hf hr)

theorem pick_of_idle (hreq : s.ylc.curtailReq = false) (hp : poolWaiting s = none)
    (hf : ¬ (s.ylc.fwdQ ≠ [] ∧ mayForward s = true)) (hr : s.ylc.round = .idle) :
    pick s = if s.ylc.roundWanted then .round else .none :=
  (pick_of_not_visiting hreq (by simp [hr])).trans (pickOther_idle hp hf hr)

/-! ### The next station of a round (R28) -/

theorem continueRound_visits {last c : Nat} (h : nextStation s last = some c) :
    continueRound last s = sendExchange c 0 (modYlc (fun y => { y with poolClaim := none, fwdClaim := false }) s) := by
  unfold continueRound
  rw [h]

theorem continueRound_completes {last : Nat} (h : nextStation s last = none) : continueRound last s = completeRound s := by
  unfold continueRound
  rw [h]

theorem nextStation_some {last c : Nat} (hlt : last < c) (hc : IsStation c) (hcfg : (cabAt s c).configured = true)
    (hbefore : ∀ d, last < d → d < c → IsStation d → (cabAt s d).configured = false) : nextStation s last = some c := by
  unfold nextStation
  rw [stations_eq, List.find?_range'_eq_some]
  refine ⟨by simp [hlt, hcfg], List.mem_range'_1.2 (by have := hc.2; have := hc.1; omega), fun d h1 hd => ?_⟩
  rw [Bool.not_eq_true', Bool.and_eq_false_iff, decide_eq_false_iff_not]
  by_cases hl : last < d
  · exact .inr (hbefore d hl hd ⟨h1, by have := hc.2; omega⟩)
  · exact .inl hl

theorem nextStation_none {last : Nat} (h : ∀ d, last < d → IsStation d → (cabAt s d).configured = false) :
    nextStation s last = none := by
  unfold nextStation
  rw [List.find?_eq_none, stations_eq]
  intro d hd
  obtain ⟨h1, h17⟩ := List.mem_range'_1.1 hd
  simp only [Bool.and_eq_true, decide_eq_true_eq, not_and]
  intro hlt
  rw [h d hlt ⟨h1, by omega⟩]
  exact Bool.false_ne_true

end

/-! ### A trigger outside SAFE (R103, R106) -/

section
variable {s : State} (hop : s.tsm.op ≠ .starting)
include hop

theorem wantPass_asked : wantPass s = { s with ale := { s.ale with pending := true } } := if_neg hop

theorem trigger_running (h : s.ale.pass = .running) : trigger s = { s with ale := { s.ale with pending := true } } := by
  unfold trigger runTriggers
  rw [wantPass_asked hop]
  exact if_neg fun hi => PassState.noConfusion (h.symm.trans hi.1)

theorem trigger_idle (h : s.ale.pass = .idle) (hs : s.tsm.op ≠ .safe) :
    trigger s = beginPass { s with ale := { s.ale with pending := false } } := by
  unfold trigger runTriggers
  rw [wantPass_asked hop]
  refine (if_pos ⟨h, rfl⟩).trans ?_
  have begins : startPass { s with ale := { s.ale with pending := false } } =
      beginPass { s with ale := { s.ale with pending := false } } := if_neg hs
  have runs : ¬ (startPass { s with ale := { s.ale with pending := false } }).ale.pass = .idle := by
    rw [begins]
    exact PassState.noConfusion
  exact (if_neg runs).trans begins

/-- A trigger outside SAFE leaves the yard link's block but for the refusal marker. -/
theorem ylc_trigger (hs : s.tsm.op ≠ .safe) :
    let t := trigger s
    t.ylc.curtailReq = s.ylc.curtailReq ∧ t.ylc.round = s.ylc.round ∧ t.ylc.poolClaim = s.ylc.poolClaim ∧
      t.ylc.fwdClaim = s.ylc.fwdClaim ∧ t.ylc.fwdQ = s.ylc.fwdQ ∧ t.ylc.roundWanted = s.ylc.roundWanted ∧
      t.ylc.roundDue = s.ylc.roundDue := by
  cases hpass : s.ale.pass with
  | running => rw [trigger_running hop hpass]; simp
  | idle => rw [trigger_idle hop hpass hs]; simp

end

/-! ### The claims (R29) -/

theorem closeClaims_of_closed {s : State} (hp : s.ylc.poolClaim = none) (hf : s.ylc.fwdClaim = false) : closeClaims s = s := by
  have same : ({ s.ylc with poolClaim := none, fwdClaim := false } : Ylc) = s.ylc := by rw [← hp, ← hf]
  show { s with ylc := { s.ylc with poolClaim := none, fwdClaim := false } } = s
  rw [same]

/-- Where nothing waits and no claim is open, the arbiter changes nothing. -/
theorem settleLink_at_rest {s : State} (n : Nat) (hreq : s.ylc.curtailReq = false) (hr : s.ylc.round = .idle)
    (hw : s.ylc.roundWanted = false) (hp : s.ylc.poolClaim = none) (hf : s.ylc.fwdClaim = false) (hq : s.ylc.fwdQ = []) :
    settleLink n s = s := by
  cases n with
  | zero => rfl
  | succ n =>
    have waiting : poolWaiting s = none := by unfold poolWaiting; rw [hp]
    have nothing : pick s = .none := by
      rw [pick_of_not_visiting hreq (by simp [hr]), pickOther_idle waiting (by simp [hq]) hr, hw]
      rfl
    rw [settleLink, if_pos nothing, closeClaims_of_closed hp hf, ite_self]

/-! ### The obligation -/

theorem exchangeGrants_eq (s : State) (c : Nat) :
    exchangeGrants s c = [0, 1, 2, 3].map (fun i => if s.tsm.op = .safe then 0 else (postAt s (c * 4 + i)).grant) := rfl

theorem exchangeFlags_eq (s : State) (c : Nat) : exchangeFlags s c = [0, 1, 2, 3].map (fun i =>
    s.tsm.op ≠ .safe && (postAt s (c * 4 + i)).precond && !(cabAt s c).pool.quiesce.contains i) := by
  have quiesced : ∀ i ∈ positions, inQuiesce s (postNo c i) = (cabAt s c).pool.quiesce.contains i := by
    intro i hi
    have hi4 : i < 4 := by
      simp only [positions, List.mem_cons, List.not_mem_nil, or_false] at hi
      omega
    have station : postNo c i / 4 = c := by unfold postNo; omega
    have position : postNo c i % 4 = i := by unfold postNo; omega
    rw [inQuiesce, station, position]
  show (positions.map (postNo c)).map _ = positions.map _
  rw [List.map_map]
  refine List.map_congr_left fun i hi => ?_
  rw [Function.comp_apply, quiesced i hi]
  rfl

/-- Settles O58: the arbiter's list, claim by claim. -/
theorem linkIsGivenInOrder : Obligations.LinkIsGivenInOrder := by
  intro s y seq isOpen grants flags exchange visiting pool mayFwd
  have opens : isOpen → linkOpen s = true := linkOpen_iff.2
  have forwards : ¬ mayFwd → ¬ (s.ylc.fwdQ ≠ [] ∧ mayForward s = true) := fun hn hf => hn ⟨hf.1, mayForward_iff.1 hf.2⟩
  have no_pool : (¬ ∃ c m, pool c m) → poolWaiting s = none := poolWaiting_none
  have sent : ∀ c, exchange c = .exchange (yardTelegram s c kindExchange
      (exchangePayload (exchangeGrants s c) (exchangeFlags s c) (cabAt s c).restartAck (cabAt s c).lastSeq)) (exchangeGrants s c) := by
    intro c
    rw [exchangeFlags_eq, exchangeGrants_eq]
    rfl
  refine ⟨fun hs => settleLink_shut 3 (fun hl => hs (linkOpen_iff.1 hl)), fun ho hreq => finish_of_curtailReq s (opens ho) hreq,
    fun ho hreq => ⟨fun c w hc hr => ?_, fun c m hc hv hp => ?_, fun t rest hv hp hf hq => ?_,
      fun last c hr hp hf hlt hc hcfg hb => ?_, fun c hr hw hp hf hc hcfg hb => ?_, fun h => ?_, ?_⟩, fun n u => ⟨rfl, ?_⟩⟩
  · have turn := finish_of_pick (opens ho) (pick_of_resend hreq hr) Grantee.noConfusion (sendExchange_shut c w s)
    rw [turn, sent]
    rfl
  · have picked : pick s = .pool c m := (pick_of_not_visiting hreq hv).trans (pickOther_pool (poolWaiting_some_iff.2 hp))
    exact finish_of_pick (opens ho) picked Grantee.noConfusion (sendPool_shut c m s)
  · have picked : pick s = .forward t rest :=
      (pick_of_not_visiting hreq hv).trans (pickOther_forward (no_pool hp) (mayForward_iff.2 hf.2) hq)
    exact finish_of_pick (opens ho) picked Grantee.noConfusion (sendForward_shut t rest s)
  · have picked : pick s = .next last := pick_of_between hreq (no_pool hp) (forwards hf) hr
    have visits := continueRound_visits (nextStation_some hlt hc hcfg hb)
    have turn := finish_of_pick (opens ho) picked Grantee.noConfusion (by rw [giveLink, visits]; exact sendExchange_shut _ _ _)
    rw [turn, sent, giveLink, visits]
    rfl
  · have picked : pick s = .round := (pick_of_idle hreq (no_pool hp) (forwards hf) hr).trans (if_pos hw)
    have visits := continueRound_visits (s := modYlc (fun y => { y with
      roundTimer := some 0, roundWanted := false, poolClaim := none, fwdClaim := false }) s)
      (nextStation_some (last := 0) hc.1 hc hcfg (fun d _ => hb d))
    have turn := finish_of_pick (opens ho) picked Grantee.noConfusion
      (by rw [giveLink, startRound, visits]; exact sendExchange_shut _ _ _)
    rw [turn, sent, giveLink, startRound, visits]
    rfl
  · refine finish_of_none (opens ho) ?_
    rcases h with ⟨c, w, hr⟩ | ⟨hr, hw, hp, hq⟩
    · exact pick_of_visiting hreq hr
    · exact (pick_of_idle hreq (no_pool hp) (fun hf => hf.1 hq) hr).trans (if_neg (ne_of_eq_of_ne hw Bool.false_ne_true))
  · intro completed started left
    refine ⟨fun hr hw hp hf hcfg => ?_, fun last hr hp hf hcfg => ?_⟩
    · have picked : pick s = .round := (pick_of_idle hreq (no_pool hp) (forwards hf) hr).trans (if_pos hw)
      have completes := continueRound_completes (s := modYlc (fun y => { y with
        roundTimer := some 0, roundWanted := false, poolClaim := none, fwdClaim := false }) s)
        (nextStation_none (last := 0) (fun d _ => hcfg d))
      have turn : finish s = left (completed started) :=
        (finish_of_turn (opens ho) picked Grantee.noConfusion).trans (congrArg (settleLink 2) completes)
      refine ⟨turn, fun hsafe hdue hq => turn.trans ?_⟩
      obtain ⟨creq, cround, cpool, cfwd, cq, cwanted, cdue⟩ := ylc_trigger (s := { s with
        ylc := { started with round := .idle }, ale := { s.ale with timer := s.ale.timer.map (fun _ => 0) } }) ho.1 hsafe
      have done : completed started = evalBand (trigger { s with
          ylc := { started with round := .idle }, ale := { s.ale with timer := s.ale.timer.map (fun _ => 0) } }) :=
        if_neg (by simpa [cdue] using hdue)
      rw [done]
      exact settleLink_at_rest 2 (by simpa [creq] using hreq) (by simp [cround]) (by simp [cwanted, started])
        (by simp [cpool, started]) (by simp [cfwd, started]) (by simpa [cq] using hq)
    · have picked : pick s = .next last := pick_of_between hreq (no_pool hp) (forwards hf) hr
      have completes := continueRound_completes (nextStation_none hcfg)
      exact (finish_of_turn (opens ho) picked Grantee.noConfusion).trans (congrArg (settleLink 2) completes)
  · rw [settleLink]
    by_cases hl : linkOpen u = true
    · obtain ⟨hop, hfree⟩ := linkOpen_iff.1 hl
      have not_shut : ¬ (u.tsm.op = .starting ∨ u.ylc.link ≠ .free) := fun h => h.elim hop (fun hn => hn hfree)
      exact (if_pos hl).trans (if_neg not_shut).symm
    · have shut : u.tsm.op = .starting ∨ u.ylc.link ≠ .free := by
        by_contra hn
        rw [not_or, not_not] at hn
        exact hl (linkOpen_iff.2 hn)
      exact (if_neg hl).trans (if_pos shut).symm

end Sys2Proof.Machine
end

section
/-! Waits, misses and the end of a visit (02_yard_survey.md R28, R33, R37), the events of a STATUS (R36), and the band
(07_grid_reserve.md R145 to R147) (O41, O42, O44). -/

namespace Sys2Proof.Machine

/-! ### The events of a STATUS (R36) -/

theorem offerEvents_refused (c : Nat) (l : List RawEvent) (s : State) :
    offerEvents c true l s = (s, List.replicate l.length .refused) := by
  induction l with
  | nil => rfl
  | cons e l ih =>
    unfold offerEvents
    dsimp only
    rw [if_pos rfl, ih]
    rfl

/-- An event is new by its sequence: 1 to 127 ahead of the last, or the first of all (R36). -/
theorem isNewEvent_iff (last : Option Nat) (seq : Byte) : isNewEvent last seq = true ↔
    ∀ n, last = some n → 1 ≤ (seq.toNat + 256 - n % 256) % 256 ∧ (seq.toNat + 256 - n % 256) % 256 ≤ 127 := by
  cases last with
  | none => simp [isNewEvent]
  | some n => simp [isNewEvent]

section
variable {c : Nat} {e : RawEvent} {l : List RawEvent} {s : State}

/-- The cabinet's last sequence is that of an event. -/
def seqTaken (c : Nat) (e : RawEvent) (s : State) : State := updCab c (fun r => { r with lastSeq := some e.seq.toNat }) s

theorem offerEvents_duplicate (h : isNewEvent (cabAt s c).lastSeq e.seq = false) :
    offerEvents c false (e :: l) s = ((offerEvents c false l s).1, .duplicate :: (offerEvents c false l s).2) := by
  rw [offerEvents]
  exact (if_neg Bool.false_ne_true).trans (if_pos h)

section
variable (h : isNewEvent (cabAt s c).lastSeq e.seq = true)
include h

theorem offerEvents_ignored (hn : entryOf c e = none) : offerEvents c false (e :: l) s =
    ((offerEvents c false l (seqTaken c e s)).1, .ignored :: (offerEvents c false l (seqTaken c e s)).2) := by
  rw [offerEvents, hn]
  exact (if_neg Bool.false_ne_true).trans (if_neg (ne_false_of_eq_true h))

variable {x : PlugEvent} (hx : entryOf c e = some x)
include hx

theorem offerEvents_full (hf : 32 ≤ s.frt.plugQ.length) : offerEvents c false (e :: l) s =
    (refuseEvent s, List.replicate (l.length + 1) .refused) := by
  rw [offerEvents, hx]
  refine (if_neg Bool.false_ne_true).trans ((if_neg (ne_false_of_eq_true h)).trans ((if_pos (decide_eq_true hf)).trans ?_))
  rw [offerEvents_refused]
  rfl

theorem offerEvents_accepted (hf : s.frt.plugQ.length < 32) : offerEvents c false (e :: l) s =
    ((offerEvents c false l (joinPlug x (seqTaken c e s))).1, .accepted :: (offerEvents c false l (joinPlug x (seqTaken c e s))).2) := by
  have room : ¬ plugFull s = true := by
    rw [plugFull, decide_eq_true_eq]
    exact Nat.not_le.2 hf
  rw [offerEvents, hx]
  exact (if_neg Bool.false_ne_true).trans ((if_neg (ne_false_of_eq_true h)).trans (if_neg room))

end

theorem plugKindOfCode_none (h : e.kind.toNat < 1 ∨ 4 < e.kind.toNat) : plugKindOfCode e.kind = none := by
  have unknown : e.kind ≠ 1 ∧ e.kind ≠ 2 ∧ e.kind ≠ 3 ∧ e.kind ≠ 4 := by
    refine ⟨?_, ?_, ?_, ?_⟩ <;> rintro hk <;> rw [hk] at h <;> revert h <;> decide
  obtain ⟨h1, h2, h3, h4⟩ := unknown
  unfold plugKindOfCode
  rw [if_neg h1, if_neg h2, if_neg h3, if_neg h4]

theorem entryOf_none (h : 3 < e.position.toNat ∨ e.kind.toNat < 1 ∨ 4 < e.kind.toNat) : entryOf c e = none := by
  unfold entryOf
  rcases h with h | h
  · split
    · rfl
    · exact if_pos h
  · rw [plugKindOfCode_none h]

theorem entryOf_some {k : PlugKind} (hk : plugKindOfCode e.kind = some k) (hp : e.position.toNat ≤ 3) :
    entryOf c e = some ⟨c, e.position.toNat, k, if k = .plugged then e.tag else [], some e.seq.toNat⟩ := by
  unfold entryOf
  rw [hk]
  exact if_neg (Nat.not_lt.2 hp)

theorem entryOf_known (h : 1 ≤ e.kind.toNat ∧ e.kind.toNat ≤ 4) (hp : e.position.toNat ≤ 3) : ∃ x, entryOf c e = some x := by
  have kind : e.kind = 1 ∨ e.kind = 2 ∨ e.kind = 3 ∨ e.kind = 4 := by bv_omega
  rcases kind with hk | hk | hk | hk
  · exact ⟨_, entryOf_some (k := .plugged) (by rw [hk]; rfl) hp⟩
  · exact ⟨_, entryOf_some (k := .unplugged) (by rw [hk]; rfl) hp⟩
  · exact ⟨_, entryOf_some (k := .fault) (by rw [hk]; rfl) hp⟩
  · exact ⟨_, entryOf_some (k := .faultClear) (by rw [hk]; rfl) hp⟩

end

/-- Settles O41. -/
theorem eventsAreOffered : Obligations.EventsAreOffered := by
  intro c e l s hc hsz fresh taken join next
  obtain ⟨-, hcabs, -⟩ := hsz
  have isNew : fresh → isNewEvent (cabAt s c).lastSeq e.seq = true := (isNewEvent_iff _ _).2
  have took : seqTaken c e s = taken := updCab_eq_set hc hcabs
  refine ⟨offerEvents_refused c l s, fun hf => ?_, fun hf hn => ?_, fun hf hp hk hfull => ?_, fun hf hp hroom => ?_⟩
  · exact offerEvents_duplicate (Bool.eq_false_iff.2 fun h => hf ((isNewEvent_iff _ _).1 h))
  · have ignored := offerEvents_ignored (l := l) (isNew hf) (entryOf_none (c := c) hn)
    rw [took] at ignored
    exact ignored
  · obtain ⟨x, hx⟩ := entryOf_known (c := c) hk hp
    exact offerEvents_full (isNew hf) hx hfull
  · have accepted {k : PlugKind} (hk : plugKindOfCode e.kind = some k) :
        next .accepted (join k (if k = .plugged then e.tag else [])) := by
      have joined := offerEvents_accepted (l := l) (isNew hf) (entryOf_some (c := c) hk hp) hroom
      rw [took] at joined
      exact joined
    refine ⟨fun hk => ?_, fun hk => ?_, fun hk => ?_, fun hk => ?_⟩
    · exact accepted (k := .plugged) (by rw [hk]; rfl)
    · exact accepted (k := .unplugged) (by rw [hk]; rfl)
    · exact accepted (k := .fault) (by rw [hk]; rfl)
    · exact accepted (k := .faultClear) (by rw [hk]; rfl)

/-! ### WAIT and the reply timeout (R33, R37) -/

/-- Settles O42. -/
theorem waitsAndMisses : Obligations.WaitsAndMisses := by
  intro src seq c waits grants s hp
  have waited (h : Awaits s c waits grants) (hsrc : src.toNat = c) :
      replyWait src [] { s with ylc := { s.ylc with framer := [] } } = holdOff c waits { s with ylc := { s.ylc with framer := [] } } := by
    have due : awaited { s with ylc := { s.ylc with framer := [] } } = some (c, waits, grants) := (awaited_some_iff _ _ _ _).2 h
    unfold replyWait
    rw [due]
    exact if_pos ⟨hsrc, rfl⟩
  refine ⟨fun h hsrc hw => ?_, fun h hsrc hw => ?_, fun hr => ?_, fun h => ?_⟩
  · exact onYard_eq hp ((waited h hsrc).trans (if_pos hw))
  · exact onYard_eq hp ((waited h hsrc).trans (if_neg (Nat.not_lt.2 hw)))
  · refine (live_on holdOffExpired s hp).trans (congrArg (fun v => Host.Outcome.next (finish v)) ?_)
    unfold holdOffExpired
    rw [hr]
    rfl
  · refine (live_on exchangeTimeout s hp).trans (congrArg (fun v => Host.Outcome.next (finish v)) ?_)
    have due : awaited s = some (c, waits, grants) := (awaited_some_iff _ _ _ _).2 h
    unfold exchangeTimeout
    rw [due]

/-! ### The end of a visit and of a round (R28, R54) -/

/-- The link is free for the claims of a visit that has ended. -/
def visitEnded (c : Nat) (answered : Bool) (s : State) : State :=
  { s with ylc := { s.ylc with
    link := .free, round := .between c, fwdClaim := true
    poolClaim := if answered = true ∧ (cabAt s c).pool.state = .sent then some c else none } }

theorem endVisit_eq (c : Nat) (answered : Bool) (s : State) : endVisit c answered s =
    if (nextStation s c).isNone then completeRound (visitEnded c answered s) else visitEnded c answered s := rfl

theorem nextStation_isSome {s : State} {last d : Nat} (hlt : last < d) (hd : IsStation d) (h : (cabAt s d).configured = true) :
    (nextStation s last).isSome = true := by
  unfold nextStation
  rw [List.find?_isSome, stations_eq]
  exact ⟨d, List.mem_range'_1.2 (by have := hd.1; have := hd.2; omega), by simp [hlt, h]⟩

/-! ### The band (R145 to R147) -/

theorem inBand_iff (s : State) (d : Dispatch) : inBand s d = true ↔
    fleetMeasured s - (if d.dir = .up then d.baseline - d.power else d.baseline + d.power) ≤
        max 10 (d.power * s.tsm.settings.tolerance / 100) ∧
      -max 10 (d.power * s.tsm.settings.tolerance / 100) ≤
        fleetMeasured s - (if d.dir = .up then d.baseline - d.power else d.baseline + d.power) := by
  have target : dispatchTarget d.dir d.baseline d.power = if d.dir = .up then d.baseline - d.power else d.baseline + d.power := by
    cases d.dir <;> rfl
  simp only [inBand, halfWidth, target, decide_eq_true_eq]
  exact and_comm

section
variable {s : State}

theorem updActive_none {f : Dispatch → Dispatch} (h : s.rsu.active = none) : updActive f s = s := by
  have kept : ({ s.rsu with active := s.rsu.active.map f } : Rsu) = s.rsu := by
    rw [h, Option.map_none, ← h]
  exact congrArg (fun r : Rsu => { s with rsu := r }) kept

theorem updActive_some {f : Dispatch → Dispatch} {d : Dispatch} (h : s.rsu.active = some d) :
    updActive f s = { s with rsu := { s.rsu with active := some (f d) } } := by
  have changed : ({ s.rsu with active := s.rsu.active.map f } : Rsu) = { s.rsu with active := some (f d) } := by
    rw [h, Option.map_some]
  exact congrArg (fun r : Rsu => { s with rsu := r }) changed

theorem evalBand_none (h : s.rsu.active = none) : evalBand s = s := updActive_none h

theorem evalBand_some {d : Dispatch} (h : s.rsu.active = some d) :
    evalBand s = { s with rsu := { s.rsu with active := some (afterRound (inBand s d) d) } } := updActive_some h

end

theorem fleetMeasured_eq_sum_posts (s : State) : fleetMeasured s = (postNos.map (fun p =>
    if countsMeasured (cabAt s (p / 4)) then measuredOf (postAt s p) else 0)).sum := by
  rw [fleetMeasured, postNos_eq_flatMap]
  exact sum_filter_stations stations (fun c => countsMeasured (cabAt s c)) (fun p => measuredOf (postAt s p))

/-- Settles O44. -/
theorem visitsEndAndRoundsComplete : Obligations.VisitsEndAndRoundsComplete := by
  refine ⟨fun c answered s hc => ?_, fun s => ⟨evalBand_none, fun d hd => ?_, ?_⟩⟩
  · intro ended done
    refine ⟨fun ⟨d, hlt, hd, hcfg⟩ => ?_, fun h => ?_⟩
    · rw [endVisit_eq, if_neg]
      · rfl
      · have some_left := nextStation_isSome hlt hd hcfg
        simpa using Option.ne_none_iff_isSome.2 some_left
    · rw [endVisit_eq, if_pos (by rw [nextStation_none h]; rfl)]
      rfl
  · intro half off inside becomes
    have judged := evalBand_some hd
    have band : inside ↔ inBand s d = true := (inBand_iff s d).symm
    refine ⟨fun hs hi => ?_, fun hs hi => ?_, fun hs hi => ?_, fun hs hi => ?_⟩
    · rw [band.1 hi] at judged
      simpa [becomes, afterRound, hs, Bool.or_comm] using judged
    · rw [Bool.eq_false_iff.2 (fun h => hi (band.2 h))] at judged
      simpa [becomes, afterRound, hs] using judged
    · rw [band.1 hi] at judged
      simpa [becomes, afterRound, hs] using judged
    · rw [Bool.eq_false_iff.2 (fun h => hi (band.2 h))] at judged
      simpa [becomes, afterRound, hs] using judged
  · refine (fleetMeasured_eq_sum_posts s).trans (congrArg List.sum (List.map_congr_left fun p _ => ?_))
    simp only [countsMeasured, Bool.or_eq_true, decide_eq_true_eq]
    rfl

end Sys2Proof.Machine
end

section
/-! A post's change of state (01_fleet_records.md R10) and a cabinet's entry into OFFLINE (02_yard_survey.md R33, R22; R58)
(O43). -/

namespace Sys2Proof.Machine

/-! ### A telegram queued (R179) -/

theorem unsent_frame {s t : State} (h : unsent t = unsent s) :
    t.ylc = s.ylc ∧ t.frt = s.frt ∧ t.sbu = s.sbu ∧ t.rdu = s.rdu ∧ t.ale = s.ale ∧ t.rsu = s.rsu ∧ t.stp = s.stp ∧
      t.freeCount = s.freeCount :=
  ⟨(congrArg State.ylc h :), (congrArg State.frt h :), (congrArg State.sbu h :), (congrArg State.rdu h :),
    (congrArg State.ale h :), (congrArg State.rsu h :), (congrArg State.stp h :), (congrArg State.freeCount h :)⟩

/-! ### A post enters a state (R10, R130) -/

/-- The state with the post table, the ring and the tiers blanked: what a change of a post's state leaves. -/
def offPlaces (s : State) : State :=
  { s with frt := { s.frt with posts := [] }, ale := { s.ale with ring := [], tiers := [] } }

section
variable {s t : State} (h : offPlaces t = offPlaces s)
include h

theorem offPlaces_frame :
    t.ylc = s.ylc ∧ t.frt.buses = s.frt.buses ∧ t.frt.tagMap = s.frt.tagMap ∧ t.frt.plugQ = s.frt.plugQ ∧ t.sli = s.sli ∧
      t.sbu = s.sbu ∧ t.rdu = s.rdu ∧ t.rsu = s.rsu ∧ t.stp = s.stp ∧ t.tsm = s.tsm ∧ t.freeCount = s.freeCount :=
  ⟨(congrArg State.ylc h :), (congrArg (fun v : State => v.frt.buses) h :), (congrArg (fun v : State => v.frt.tagMap) h :),
    (congrArg (fun v : State => v.frt.plugQ) h :), (congrArg State.sli h :), (congrArg State.sbu h :),
    (congrArg State.rdu h :), (congrArg State.rsu h :), (congrArg State.stp h :), (congrArg State.tsm h :),
    (congrArg State.freeCount h :)⟩

theorem offPlaces_ale : t.ale = { s.ale with ring := t.ale.ring, tiers := t.ale.tiers } :=
  (congrArg (fun v : State => { v.ale with ring := t.ale.ring, tiers := t.ale.tiers }) h :)

end

section
variable (p : Nat) (st : PostState) (s : State)

theorem offPlaces_updPost (f : Post → Post) : offPlaces (updPost p f s) = offPlaces s := by
  unfold updPost
  split <;> rfl

theorem offPlaces_setPostState : offPlaces (setPostState p st s) = offPlaces s := by
  unfold setPostState
  split
  · rfl
  · dsimp only
    split
    · exact offPlaces_updPost p s _
    · exact offPlaces_updPost p s _

theorem posts_length_setPostState : (setPostState p st s).frt.posts.length = s.frt.posts.length :=
  congrArg (fun x => x.2.2.2.1) (still_setPostState p st s)

end

/-- The record of a post that enters a state, or stands in it already. -/
def Post.entered (q : Post) (st : PostState) : Post := if q.state = st then q else q.enter st

section
variable {p : Nat} {st : PostState} {s : State}

theorem setPostState_stands (h : (postAt s p).state = st) : setPostState p st s = s := if_pos h

theorem setPostState_leaves (h : (postAt s p).state ≠ st) (hs : (postAt s p).state.served = true) (hst : st.served = false) :
    setPostState p st s = leaveRing p (updPost p (fun q => q.enter st) s) :=
  (if_neg h).trans (if_pos ⟨hs, by simp [hst]⟩)

theorem setPostState_enters (h : (postAt s p).state ≠ st) (hs : ¬ ((postAt s p).state.served = true ∧ st.served = false)) :
    setPostState p st s = updPost p (fun q => q.enter st) s :=
  (if_neg h).trans (if_neg (by simpa using hs))

theorem postAt_setPostState_same (hp : 4 ≤ p) (hlen : p - 4 < s.frt.posts.length) :
    postAt (setPostState p st s) p = (postAt s p).entered st := by
  unfold Post.entered
  split
  · next h => rw [setPostState_stands h]
  · next h =>
    have entered := postAt_updPost_same (f := fun q => q.enter st) hp hlen
    by_cases hs : (postAt s p).state.served = true ∧ st.served = false
    · rw [setPostState_leaves h hs.1 hs.2]
      exact entered
    · rw [setPostState_enters h hs, entered]

theorem postAt_setPostState_other {q : Nat} (hq : 4 ≤ q) (hne : q ≠ p) : postAt (setPostState p st s) q = postAt s q := by
  unfold setPostState
  split
  · rfl
  · dsimp only
    split
    · exact postAt_updPost_other hq hne
    · exact postAt_updPost_other hq hne

/-- A served post that enters a state not served leaves the ring. -/
theorem ale_setPostState : (setPostState p st s).ale =
    if ((postAt s p).state.served && !st.served) = true then (leaveRing p s).ale else s.ale := by
  split
  · next hs =>
    rw [Bool.and_eq_true, Bool.not_eq_true'] at hs
    have h : (postAt s p).state ≠ st := by
      intro he
      rw [he] at hs
      exact ne_false_of_eq_true hs.1 hs.2
    rw [setPostState_leaves h hs.1 hs.2]
    simp [leaveRing]
  · next hs =>
    rw [Bool.and_eq_true, Bool.not_eq_true'] at hs
    by_cases h : (postAt s p).state = st
    · rw [setPostState_stands h]
    · rw [setPostState_enters h hs]
      simp

end

/-! ### Posts that move -/

/-- What a change of some posts leaves: the record each of them has then, and which of them leave the ring. -/
structure Moved (l : List Nat) (record : Nat → Post) (leaves : Nat → Bool) (s t : State) : Prop where
  frame : offPlaces t = offPlaces s
  posts : ∀ p ∈ l, p - 4 < s.frt.posts.length → postAt t p = record p
  others : ∀ p, 4 ≤ p → p ∉ l → postAt t p = postAt s p
  ring : t.ale.ring = s.ale.ring.filter (fun p => !(decide (p ∈ l) && leaves p))
  tiers : ∀ p, 4 ≤ p → p - 4 < s.ale.tiers.length → t.ale.tiers[p - 4]? =
    if p ∈ l ∧ leaves p = true then some .idle else s.ale.tiers[p - 4]?
  length : t.ale.tiers.length = s.ale.tiers.length
  size : t.frt.posts.length = s.frt.posts.length

/-- One post that takes a record and leaves the ring, or keeps its place. -/
theorem moved_one {p : Nat} {record : Nat → Post} {leaves : Nat → Bool} {s t : State} (frame : offPlaces t = offPlaces s)
    (size : t.frt.posts.length = s.frt.posts.length) (own : p - 4 < s.frt.posts.length → postAt t p = record p)
    (others : ∀ q, 4 ≤ q → q ≠ p → postAt t q = postAt s q)
    (ale : t.ale = if leaves p = true then (leaveRing p s).ale else s.ale) (hp : 4 ≤ p) : Moved [p] record leaves s t := by
  refine ⟨frame, fun q hq hlen => ?_, fun q hq hne => others q hq (fun he => hne (List.mem_singleton.2 he)), ?_,
    fun q hq hlen => ?_, ?_, size⟩
  · obtain rfl := List.mem_singleton.1 hq
    exact own hlen
  · rw [ale]
    split
    · next hs =>
      refine List.filter_congr fun q _ => ?_
      by_cases hq : q = p
      · simp [hq, hs]
      · simp [hq]
    · next hs =>
      refine (List.filter_eq_self.2 fun q _ => ?_).symm
      by_cases hq : q = p
      · simp [hq, hs]
      · simp [hq]
  · rw [ale]
    by_cases hs : leaves p = true
    · rw [if_pos hs]
      by_cases hqp : q = p
      · subst hqp
        simp [leaveRing, modAle, hs, hlen]
      · have place : p - 4 ≠ q - 4 := by omega
        simp [leaveRing, modAle, hqp, place]
    · rw [if_neg hs, if_neg]
      rintro ⟨hm, hqs⟩
      rw [List.mem_singleton.1 hm] at hqs
      exact hs hqs
  · rw [ale]
    split <;> simp [leaveRing, modAle]

theorem Moved.cons {a : Nat} {l : List Nat} {record record' : Nat → Post} {leaves leaves' : Nat → Bool} {s t u : State}
    (h : Moved [a] record leaves s t) (hl : Moved l record' leaves' t u) (ha : a ∉ l) (ha4 : 4 ≤ a)
    (hr : ∀ p ∈ l, record' p = record p) (hv : ∀ p ∈ l, leaves' p = leaves p) : Moved (a :: l) record leaves s u := by
  refine ⟨hl.frame.trans h.frame, fun p hp hlen => ?_, fun p hp hne => ?_, ?_, fun p hp hlen => ?_, hl.length.trans h.length,
    hl.size.trans h.size⟩
  · rcases List.mem_cons.1 hp with rfl | hm
    · rw [hl.others p ha4 ha]
      exact h.posts p (List.mem_singleton.2 rfl) hlen
    · rw [hl.posts p hm (by rwa [h.size]), hr p hm]
  · rw [List.mem_cons, not_or] at hne
    rw [hl.others p hp hne.2, h.others p hp (fun hm => hne.1 (List.mem_singleton.1 hm))]
  · rw [hl.ring, h.ring, List.filter_filter]
    refine List.filter_congr fun p _ => ?_
    by_cases hm : p ∈ l
    · have hne : p ≠ a := fun he => ha (he ▸ hm)
      simp [hm, hne, hv p hm]
    · simp [hm]
  · have tl : p - 4 < t.ale.tiers.length := by rwa [h.length]
    rw [hl.tiers p hp tl, h.tiers p hp hlen]
    by_cases hm : p ∈ l
    · have hne : p ≠ a := fun he => ha (he ▸ hm)
      simp [hm, hne, hv p hm]
    · simp [hm]

/-- Distinct posts that change one after another, each change reading its own post and the blocks that none changes. -/
theorem moved_foldl {f : State → Nat → State} {record : State → Nat → Post} {leaves : State → Nat → Bool}
    (one : ∀ s p, 4 ≤ p → Moved [p] (record s) (leaves s) s (f s p))
    (reads : ∀ {s t} p, offPlaces t = offPlaces s → postAt t p = postAt s p → record t p = record s p ∧ leaves t p = leaves s p)
    {l : List Nat} (hl : l.Nodup) (h4 : ∀ p ∈ l, 4 ≤ p) (s : State) : Moved l (record s) (leaves s) s (l.foldl f s) := by
  induction l generalizing s with
  | nil => exact ⟨rfl, nofun, fun _ _ _ => rfl, by simp, fun p _ _ => by simp, rfl, rfl⟩
  | cons a l ih =>
    obtain ⟨ha, hnd⟩ := List.nodup_cons.1 hl
    have h4l : ∀ p ∈ l, 4 ≤ p := fun p hp => h4 p (List.mem_cons_of_mem _ hp)
    have ha4 : 4 ≤ a := h4 a (List.mem_cons_self ..)
    have first := one s a ha4
    have same (p : Nat) (hp : p ∈ l) : record (f s a) p = record s p ∧ leaves (f s a) p = leaves s p :=
      reads p first.frame (first.others p (h4l p hp) (fun hm => ha (List.mem_singleton.1 hm ▸ hp)))
    exact first.cons (ih hnd h4l _) ha ha4 (fun p hp => (same p hp).1) (fun p hp => (same p hp).2)

theorem moved_setPostState {p : Nat} (st : PostState) (hp : 4 ≤ p) (s : State) : Moved [p]
    (fun q => (postAt s q).entered st) (fun q => (postAt s q).state.served && !st.served) s (setPostState p st s) :=
  moved_one (offPlaces_setPostState p st s) (posts_length_setPostState p st s) (postAt_setPostState_same hp)
    (fun _ hq hne => postAt_setPostState_other hq hne) ale_setPostState hp

/-! ### A cabinet's posts enter a state that is not served -/

/-- What the posts of a list entering a state not served one after another leave. -/
def Entered (l : List Nat) (st : PostState) (s t : State) : Prop :=
  Moved l (fun p => (postAt s p).entered st) (fun p => (postAt s p).state.served) s t

/-- One post enters a state not served. -/
theorem entered_one {p : Nat} {st : PostState} (hst : st.served = false) (hp : 4 ≤ p) (s : State) :
    Entered [p] st s (setPostState p st s) := by
  have moved := moved_setPostState st hp s
  simp only [hst, Bool.not_false, Bool.and_true] at moved
  exact moved

theorem entered_foldl {st : PostState} (hst : st.served = false) {l : List Nat} (hl : l.Nodup) (h4 : ∀ p ∈ l, 4 ≤ p)
    (s : State) : Entered l st s (l.foldl (fun s p => setPostState p st s) s) :=
  moved_foldl (record := fun s p => (postAt s p).entered st) (leaves := fun s p => (postAt s p).state.served)
    (fun s _ hp => entered_one hst hp s) (fun _ _ h => by simp only [h, and_self]) hl h4 s

theorem enterAll_entered {c : Nat} {st : PostState} (hc : IsStation c) (hst : st.served = false) (s : State) :
    Entered (postsOf c) st s (enterAll c st s) := by
  refine entered_foldl hst (postsOf_nodup c) (fun p hp => ?_) s
  have := mem_postsOf_iff.1 hp
  have := hc.1
  omega

/-! ### A cabinet enters OFFLINE (R33, R22, R58) -/

theorem updCab_updCab (c : Nat) (f g : Cabinet → Cabinet) (s : State) : updCab c g (updCab c f s) = updCab c (fun r => g (f r)) s := by
  unfold updCab
  split
  · rfl
  · simp only [modYlc, List.modify_modify_eq]
    rfl

theorem inFlight_iff (x : SeqState) : x.inFlight = true ↔ x = .quiesce ∨ x = .sent ∨ x = .await := by
  cases x <;> simp [SeqState.inFlight]

/-- The sequencer of a cabinet that enters OFFLINE (R58). -/
def Sequencer.offline (q : Sequencer) : Sequencer :=
  if q.state.inFlight then { q with
    state := .failed, target := none, pending := none, quiesce := [], quiet := [], cause := some .offline }
  else q

/-- What is told of a change in flight at a cabinet that enters OFFLINE (R58). -/
def tellFailed (c : Nat) (q : Sequencer) (s : State) : State :=
  match q.target with
  | none => s
  | some m => if q.state.inFlight then notice (.poolingFailed c m q.attempts .offline) s else s

section
variable {c : Nat} {s : State}

theorem failOffline_idle (h : ¬ (cabAt s c).pool.state.inFlight = true) : failOffline c s = s := if_neg h

theorem failOffline_eq : failOffline c s =
    tellFailed c (cabAt s c).pool (if (cabAt s c).pool.state.inFlight then updPool c (fun q => { q with
      state := .failed, target := none, pending := none, quiesce := [], quiet := [], cause := some .offline }) s else s) := by
  unfold failOffline tellFailed
  dsimp only
  cases (cabAt s c).pool.target with
  | none => rfl
  | some m => by_cases h : (cabAt s c).pool.state.inFlight = true <;> simp [h]

end

theorem tellFailed_frame (c : Nat) (q : Sequencer) (s : State) : unsent (tellFailed c q s) = unsent s := by
  unfold tellFailed
  split
  · rfl
  · split
    · exact unsent_notice _ s
    · rfl

theorem tellFailed_same {s t : State} (c : Nat) (q : Sequencer) (h1 : s.sli = t.sli) (h2 : s.tsm = t.tsm)
    (h3 : s.rdu.clock = t.rdu.clock) :
    (tellFailed c q s).sli = (tellFailed c q t).sli ∧ (tellFailed c q s).tsm = (tellFailed c q t).tsm := by
  unfold tellFailed
  cases q.target with
  | none => exact ⟨h1, h2⟩
  | some m =>
    by_cases h : q.state.inFlight = true
    · simp only [h, if_true]
      exact notice_same _ h1 h2 h3
    · simp only [h]
      exact ⟨h1, h2⟩

/-- The miss that takes a cabinet offline (R33): its count, its link state, its posts and its sequencer. -/
theorem countMiss_offline {c : Nat} {s : State} (hlink : (cabAt s c).link ≠ .offline)
    (hn : s.tsm.settings.missLimit ≤ min 7 ((cabAt s c).misses + 1)) :
    countMiss c s = goOffline c (updCab c (fun r => { r with misses := min 7 ((cabAt s c).misses + 1) }) s) := by
  unfold countMiss
  dsimp only
  rw [if_neg hlink, if_pos hn]

theorem countMiss_counted {c : Nat} {s : State} (h : (cabAt s c).link = .offline ∨
    (cabAt s c).link = .unseen ∧ min 7 ((cabAt s c).misses + 1) < s.tsm.settings.missLimit) :
    countMiss c s = updCab c (fun r => { r with misses := min 7 ((cabAt s c).misses + 1) }) s := by
  unfold countMiss
  dsimp only
  rcases h with h | ⟨h, hn⟩
  · rw [if_pos h]
  · rw [if_neg (by rw [h]; exact LinkState.noConfusion), if_neg (Nat.not_le.2 hn), if_pos h]

theorem countMiss_missing {c : Nat} {s : State} (h : (cabAt s c).link = .online ∨ (cabAt s c).link = .missing)
    (hn : min 7 ((cabAt s c).misses + 1) < s.tsm.settings.missLimit) :
    countMiss c s = updCab c (fun r => { r with misses := min 7 ((cabAt s c).misses + 1), link := .missing }) s := by
  have not_offline : (cabAt s c).link ≠ .offline := by rcases h with h | h <;> rw [h] <;> exact LinkState.noConfusion
  have not_unseen : (cabAt s c).link ≠ .unseen := by rcases h with h | h <;> rw [h] <;> exact LinkState.noConfusion
  unfold countMiss
  dsimp only
  rw [if_neg not_offline, if_neg (Nat.not_le.2 hn), if_neg not_unseen, updCab_updCab]

/-- The record of a post that enters OFFLINE (R22). -/
theorem entered_offline (q : Post) : q.entered .offline = if q.state = .offline then q
    else { q with state := .offline, grant := 0, requestCap := none, boost := false, mismatch := 0 } := by
  unfold Post.entered
  split
  · rfl
  · simp [Post.enter, PostState.served, PostState.clearsPrev]

/-- A cabinet's entry into OFFLINE: its notice, its posts, its record, and what is told of a change in flight. -/
theorem goOffline_parts {c : Nat} {s : State} (hc : IsStation c) (hlen : s.ylc.cabinets.length = 16) :
    ∃ e, Entered (postsOf c) .offline (notice (.cabinetOffline c) (updCab c (fun r => { r with link := .offline }) s)) e ∧
      goOffline c s = tellFailed c (cabAt s c).pool
        { e with ylc := (updCab c (fun r => { r with link := .offline, pool := r.pool.offline }) s).ylc } := by
  let w := updCab c (fun r => { r with link := .offline }) s
  let e := enterAll c .offline (notice (.cabinetOffline c) w)
  have entered : Entered (postsOf c) .offline (notice (.cabinetOffline c) w) e := enterAll_entered hc rfl _
  have ylc : e.ylc = w.ylc := (offPlaces_frame entered.frame).1.trans (by simp)
  have own : cabAt e c = { cabAt s c with link := .offline } := (cabAt_of_ylc ylc c).trans (cabAt_updCab_same hc hlen)
  have length : e.ylc.cabinets.length = 16 := by rw [ylc, cabinets_length_updCab, hlen]
  refine ⟨e, entered, failOffline_eq.trans ?_⟩
  rw [own]
  refine congrArg (tellFailed c (cabAt s c).pool) ?_
  by_cases hf : (cabAt s c).pool.state.inFlight = true
  · have fails : (cabAt s c).pool.offline = { (cabAt s c).pool with
        state := .failed, target := none, pending := none, quiesce := [], quiet := [], cause := some .offline } := if_pos hf
    rw [if_pos hf, updPool, updCab_eq_set hc length, own, ylc, updCab_eq_set hc hlen, fails]
    simp only [w, updCab_eq_set hc hlen, List.set_set]
  · have stays : (cabAt s c).pool.offline = (cabAt s c).pool := if_neg hf
    have same : (updCab c (fun r => { r with link := .offline, pool := r.pool.offline }) s).ylc = e.ylc := by
      rw [ylc, updCab_eq_set hc hlen, stays]
      exact (congrArg State.ylc (updCab_eq_set (f := fun r => { r with link := .offline }) hc hlen)).symm
    rw [if_neg hf, same]

/-- Settles O43. -/
theorem missesTakeACabinetOffline : Obligations.MissesTakeACabinetOffline := by
  intro c s hc hsz old n set leaves offline told
  obtain ⟨hposts, hcabs, htiers⟩ := hsz
  have missed : ∀ u, countMiss c s = u → missVisit c s = endVisit c false u := fun u hu => congrArg (endVisit c false) hu
  refine ⟨fun h => ?_, fun h hn => ?_, fun h hn => ?_, fun h hn => ?_⟩
  · exact missed _ ((countMiss_counted (.inl h)).trans (updCab_eq_set hc hcabs))
  · exact missed _ ((countMiss_counted (.inr ⟨h, hn⟩)).trans (updCab_eq_set hc hcabs))
  · exact missed _ ((countMiss_missing h hn).trans (updCab_eq_set hc hcabs))
  · let m := updCab c (fun r => { r with misses := n }) s
    let b := notice (.cabinetOffline c) (updCab c (fun r => { r with link := .offline }) m)
    obtain ⟨e, entered, went⟩ := goOffline_parts (s := m) hc (by rw [cabinets_length_updCab, hcabs])
    have own : cabAt m c = { old with misses := n } := cabAt_updCab_same hc hcabs
    let g : State := { e with ylc := (updCab c (fun r => { r with link := .offline, pool := r.pool.offline }) m).ylc }
    have offlined : countMiss c s = tellFailed c old.pool g := by
      rw [countMiss_offline h hn, went, own]
    have b_frt : b.frt = s.frt := by simp [b, m]
    have b_ale : b.ale = s.ale := by simp [b, m]
    have b_posts : ∀ p, postAt b p = postAt s p := fun p => by rw [postAt, b_frt]; rfl
    have b_told : b.sli = offline.sli ∧ b.tsm = offline.tsm := notice_same _ (by simp [m]) (by simp [m]) (by simp [m])
    have told_eq : told = tellFailed c old.pool offline := by
      unfold tellFailed
      cases ht : old.pool.target with
      | none => simp only [told, ht]
      | some m => simp only [told, ht, inFlight_iff]
    obtain ⟨eylc, ebuses, etags, equeue, esli, esbu, erdu, ersu, estp, etsm, efree⟩ := offPlaces_frame entered.frame
    have e_clock : e.rdu.clock = offline.rdu.clock := by
      rw [erdu]
      simp [offline, m]
    obtain ⟨tsli, ttsm⟩ := tellFailed_same c old.pool (s := g) (t := offline) (esli.trans b_told.1) (etsm.trans b_told.2) e_clock
    obtain ⟨tylc, tfrt, tsbu, trdu, tale, trsu, tstp, tfree⟩ := unsent_frame (tellFailed_frame c old.pool g)
    have posts : ∀ p, postAt (tellFailed c old.pool g) p = postAt e p := fun p => by rw [postAt, tfrt]; rfl
    have ale := offPlaces_ale entered.frame
    refine ⟨tellFailed c old.pool g, missed _ offlined, ?_, fun i hi => ?_, ⟨fun d hd hne => ?_, fun p hp hne => ?_⟩, ?_⟩
    · have set_eq : (updCab c (fun r => { r with link := .offline, pool := r.pool.offline }) m).ylc =
          (set { old with link := .offline, misses := n, pool := old.pool.offline }).ylc := by
        rw [updCab_updCab, updCab_eq_set hc hcabs]
      rw [tylc, set_eq, Sequencer.offline]
      simp only [inFlight_iff]
    · have h1 := hc.1
      have h16 := hc.2
      rw [posts, entered.posts (c * 4 + i) (mem_postsOf_iff.2 (by omega)) (by rw [b_frt, hposts]; omega), entered_offline, b_posts]
    · have kept : cabAt (tellFailed c old.pool g) d = cabAt m d := by
        rw [cabAt_of_ylc tylc]
        exact (cabAt_of_ylc (t := g) (s := updCab c (fun r => { r with link := .offline, pool := r.pool.offline }) m) rfl d).trans
          (cabAt_updCab_other hne)
      exact kept.trans (cabAt_updCab_other hne)
    · rw [posts, entered.others p hp (fun hm => hne (mem_postsOf_iff.1 hm)), b_posts]
    · have goes : ∀ p, leaves p ↔ p ∈ postsOf c ∧ (postAt s p).state.served = true := fun p =>
        and_congr mem_postsOf_iff.symm (served_iff _).symm
      refine ⟨?_, ?_, ?_, ?_, fun p => ?_, ?_, fun p h4 h67 => ?_, ?_, ?_, ?_, ?_, ?_, ?_, ?_⟩
      · rw [tfrt]; exact ebuses.trans (by rw [b_frt])
      · rw [tfrt]; exact etags.trans (by rw [b_frt])
      · rw [tfrt]; exact equeue.trans (by rw [b_frt])
      · rw [tale]; exact ale.trans (by rw [b_ale])
      · rw [tale, goes]
        show p ∈ e.ale.ring ↔ _
        rw [entered.ring, b_ale, List.mem_filter, b_posts, Bool.not_eq_true', Bool.and_eq_false_iff, decide_eq_false_iff_not,
          Bool.eq_false_iff, ← not_and_or]
      · rw [tale]
        show e.ale.ring.Sublist _
        rw [entered.ring, b_ale]
        exact List.filter_sublist
      · rw [tale, goes]
        have tier := entered.tiers p h4 (by rw [b_ale, htiers]; omega)
        rw [b_posts, b_ale] at tier
        exact ⟨fun hl => tier.trans (if_pos hl), fun hl => tier.trans (if_neg hl)⟩
      · rw [tsli, told_eq]
      · rw [ttsm, told_eq]
      · rw [tsbu]; exact esbu.trans (by simp [m])
      · rw [trdu]; exact erdu.trans (by simp [m])
      · rw [trsu]; exact ersu.trans (by simp [m])
      · rw [tstp]; exact estp.trans (by simp [m])
      · rw [tfree]; exact efree.trans (by simp [m])

end Sys2Proof.Machine
end

section
/-! The pooling sequencer (03_cabinet_module_pooling.md R51 to R59): its record and the grants it zeroes written as one state,
and its rules on it (O47). -/

namespace Sys2Proof.Machine

/-! ### A cabinet's sequencer, and grants at 0.0 (R52, R57) -/

/-- The YLC block with another sequencer for a station. -/
def pooled (c : Nat) (p : Sequencer) (s : State) : Ylc :=
  { s.ylc with cabinets := s.ylc.cabinets.set (c - 1) { cabAt s c with pool := p } }

/-- The post tables with the grants of some positions of a station at 0.0. -/
def zeroedAt (c : Nat) (zeroed : List Nat) (s : State) : Frt :=
  { s.frt with posts := s.frt.posts.mapIdx (fun k r =>
      if k / 4 + 1 = c ∧ k % 4 ∈ zeroed then { r with grant := 0, prevGrant := 0 } else r) }

/-- The state with another sequencer for a station and the grants of some of its positions at 0.0. -/
def sequenced (c : Nat) (p : Sequencer) (zeroed : List Nat) (s : State) : State :=
  { s with ylc := pooled c p s, frt := zeroedAt c zeroed s }

theorem zeroedAt_nil (c : Nat) (s : State) : zeroedAt c [] s = s.frt := by
  have same : s.frt.posts.mapIdx (fun k r =>
      if k / 4 + 1 = c ∧ k % 4 ∈ ([] : List Nat) then { r with grant := 0, prevGrant := 0 } else r) = s.frt.posts :=
    List.ext_getElem? fun i => by simp
  unfold zeroedAt
  rw [same]

theorem updPost_eq_mapIdx {p : Nat} (hp : 4 ≤ p) (f : Post → Post) (s : State) : updPost p f s =
    { s with frt := { s.frt with posts := s.frt.posts.mapIdx (fun k r => if k = p - 4 then f r else r) } } := by
  have same : s.frt.posts.modify (p - 4) f = s.frt.posts.mapIdx (fun k r => if k = p - 4 then f r else r) := by
    refine List.ext_getElem? fun i => ?_
    rw [List.getElem?_modify, List.getElem?_mapIdx]
    simp only [eq_comm (a := p - 4)]
    rfl
  rw [← same]
  exact if_neg (by omega)

theorem zeroGrants_eq {c : Nat} (hc : IsStation c) {l : List Nat} (hl : ∀ i ∈ l, i < 4) (s : State) :
    zeroGrants c l s = { s with frt := zeroedAt c l s } := by
  induction l generalizing s with
  | nil =>
    rw [zeroedAt_nil]
    rfl
  | cons i l ih =>
    have hi : i < 4 := hl i (List.mem_cons_self ..)
    have hc1 := hc.1
    have step : zeroGrants c (i :: l) s =
        zeroGrants c l (updPost (postNo c i) (fun q => { q with grant := 0, prevGrant := 0 }) s) := rfl
    rw [step, ih (fun j hj => hl j (List.mem_cons_of_mem _ hj)), updPost_eq_mapIdx (by unfold postNo; omega)]
    unfold zeroedAt
    simp only [List.mapIdx_mapIdx]
    refine congrArg (fun posts => { s with frt := { s.frt with posts := posts } })
      (List.ext_getElem? fun k => ?_)
    have place : k = postNo c i - 4 ↔ k / 4 + 1 = c ∧ k % 4 = i := by unfold postNo; omega
    simp only [List.getElem?_mapIdx, place, List.mem_cons]
    refine congrArg (Option.map · s.frt.posts[k]?) (funext fun r => ?_)
    by_cases hk : k / 4 + 1 = c <;> by_cases hki : k % 4 = i <;> by_cases hkl : k % 4 ∈ l <;> simp [hk, hki, hkl]

theorem quiesceSet_positions {m : Option Mode} {t : Mode} : ∀ i ∈ quiesceSet m t, i < 4 := by
  intro i hi
  have hm : i ∈ positions := (List.mem_filter.1 hi).1
  simp only [positions, List.mem_cons, List.not_mem_nil, or_false] at hm
  omega

section
variable {c : Nat} {s : State} (hc : IsStation c) (hlen : s.ylc.cabinets.length = 16)
include hc hlen

theorem updPool_eq (f : Sequencer → Sequencer) : updPool c f s = { s with ylc := pooled c (f (cabAt s c).pool) s } :=
  updCab_eq_set hc hlen

theorem updPool_sequenced (f : Sequencer → Sequencer) : updPool c f s = sequenced c (f (cabAt s c).pool) [] s := by
  rw [updPool_eq hc hlen, sequenced, zeroedAt_nil]

theorem zeroGrants_updPool (f : Sequencer → Sequencer) {l : List Nat} (hl : ∀ i ∈ l, i < 4) :
    zeroGrants c l (updPool c f s) = sequenced c (f (cabAt s c).pool) l s := by
  rw [zeroGrants_eq hc hl, updPool_eq hc hlen]
  rfl

/-! ### The rules of the sequencer -/

theorem compareMode_begins {r d : Mode} (hr : (cabAt s c).reported = some r) (hd : r ≠ d) :
    let q := (cabAt s c).pool
    let set := quiesceSet q.inForce d
    let begun : Sequencer := { q with
      state := .quiesce, target := some d, attempts := 0, cause := none, quiesce := set, quiet := [], timer := 0 }
    compareMode c (some d) s = sequenced c begun set s := by
  unfold compareMode
  rw [hr]
  exact (if_neg hd).trans (zeroGrants_updPool hc hlen _ quiesceSet_positions)

theorem markQuiet_flying (h : (cabAt s c).pool.state.inFlight = true) :
    let q := (cabAt s c).pool
    let quiet := q.quiesce.filter (fun i => q.quiet.contains i || isQuiet s (postNo c i))
    let marked : Sequencer := { q with
      quiet := quiet, state := if q.state = .quiesce ∧ quiet = q.quiesce then .sent else q.state }
    markQuiet c s = sequenced c marked [] s :=
  (if_pos h).trans (updPool_sequenced hc hlen _)

theorem reformSet_eq (t : Mode) :
    let q := (cabAt s c).pool
    let set := quiesceSet q.inForce t
    let joined := set.filter (fun i => !q.quiesce.contains i)
    let quiet := q.quiet.filter set.contains
    let formed : Sequencer := { q with
      state := if quiet = set then .sent else q.state, target := some t, quiesce := set, quiet := quiet,
      timer := if joined.isEmpty then q.timer else 0 }
    reformSet c t s = sequenced c formed joined s :=
  zeroGrants_updPool hc hlen _ (fun i hi => quiesceSet_positions i (List.mem_filter.1 hi).1)

theorem joinSet_eq (t : Mode) :
    let q := (cabAt s c).pool
    let joined := (quiesceSet q.inForce t).filter (fun i => !q.quiesce.contains i)
    joinSet c t s = sequenced c { q with quiesce := q.quiesce ++ joined } joined s :=
  zeroGrants_updPool hc hlen _ (fun i hi => quiesceSet_positions i (List.mem_filter.1 hi).1)

end

/-- The state with a YLC block of an ended change, and the station's pending mode taken up (R55 step 4, R57). -/
def ended (c : Nat) (y : Ylc) (pending : Option Mode) (s : State) : State :=
  let u : State := { s with ylc := y }
  match pending with
  | none => u
  | some w => compareMode c (some w) u

theorem takePending_eq {c : Nat} {s : State} (hc : IsStation c) (hlen : s.ylc.cabinets.length = 16) :
    let q := (cabAt s c).pool
    takePending c s = ended c (pooled c { q with state := .done, target := none, pending := none } s) q.pending s := by
  unfold takePending ended
  dsimp only
  rw [updPool_eq hc hlen]
  cases (cabAt s c).pool.pending <;> rfl

theorem compareMode_stays {c : Nat} {wanted : Option Mode} {s : State}
    (h : wanted = none ∨ (cabAt s c).reported = none ∨ wanted = (cabAt s c).reported) : compareMode c wanted s = s := by
  unfold compareMode
  split
  · next r d hr =>
    refine if_pos ?_
    rcases h with h | h | h
    · exact nomatch h
    · exact nomatch hr.symm.trans h
    · exact Option.some.inj (hr.symm.trans h.symm)
  · rfl

/-- What a change of a station's sequencer leaves of the station's record. -/
theorem cabAt_pooled {c : Nat} {s t : State} (hc : IsStation c) (hlen : s.ylc.cabinets.length = 16) {p : Sequencer}
    (h : t.ylc = pooled c p s) : cabAt t c = { cabAt s c with pool := p } := by
  have hc1 := hc.1
  have hc2 := hc.2
  rw [cabAt_station hc, h]
  simp only [pooled]
  rw [List.getD_eq_getElem?_getD, List.getElem?_set_self (by omega)]
  rfl

theorem pooled_pooled {c : Nat} {s t : State} (hc : IsStation c) (hlen : s.ylc.cabinets.length = 16) {p q : Sequencer}
    (h : t.ylc = pooled c p s) : pooled c q t = pooled c q s := by
  unfold pooled
  rw [cabAt_pooled hc hlen h, h]
  simp only [pooled, List.set_set]

/-- A notice over a change of the YLC block. -/
theorem notice_setYlc (n : Notice) (y : Ylc) (s : State) : notice n { s with ylc := y } = { notice n s with ylc := y } := by
  have on : notice n s = _ := queueOut_of_same _ (s := s) (t := s) rfl rfl rfl
  have off : notice n { s with ylc := y } = _ := queueOut_of_same _ (s := s) (t := { s with ylc := y }) rfl rfl rfl
  rw [off, on]
  rfl

/-- A change ends as done (R55): its notice, the sequencer's record, and a pending target taken up. -/
theorem endDone_eq {c : Nat} {s : State} {m : Mode} (hc : IsStation c) (hlen : s.ylc.cabinets.length = 16)
    (hm : (cabAt s c).pool.target = some m) :
    let q := (cabAt s c).pool
    let done : Sequencer := { q with state := .done, target := none, pending := none, quiesce := [], quiet := [] }
    endDone c s = ended c (pooled c done s) q.pending (notice (.poolingDone c m q.attempts) s) := by
  intro q done
  let told := notice (.poolingDone c m q.attempts) s
  let cleared : Sequencer := { q with quiesce := [], quiet := [] }
  have eq : endDone c s = takePending c { told with ylc := pooled c cleared s } := by
    unfold endDone
    rw [hm]
    dsimp only
    rw [updPool_eq hc hlen, notice_setYlc]
  have own : cabAt { told with ylc := pooled c cleared s } c = { cabAt s c with pool := cleared } :=
    cabAt_pooled hc hlen rfl
  have length : { told with ylc := pooled c cleared s }.ylc.cabinets.length = 16 := List.length_set.trans hlen
  rw [eq, takePending_eq hc length, own, pooled_pooled hc hlen (s := s) (p := cleared) rfl]
  rfl

theorem isQuiet_iff (s : State) (p : Nat) :
    isQuiet s p = true ↔ (postAt s p).sentGrant = 0 ∧ -5 ≤ measuredOf (postAt s p) ∧ measuredOf (postAt s p) ≤ 5 := by
  unfold isQuiet
  rw [Bool.and_eq_true, decide_eq_true_iff, decide_eq_true_iff]

/-- A POOL_SENT of a sequencer in SENT, and of another (R54, log 40). -/
theorem poolSendDone_sent {c : Nat} {tel : Telegram} {s : State} (hc : IsStation c) (hlen : s.ylc.cabinets.length = 16)
    (hl : s.ylc.link = .poolSending c tel) (h : (cabAt s c).pool.state = .sent) :
    let q := (cabAt s c).pool
    let awaits : Sequencer := { q with state := .await, attempts := q.attempts + 1 }
    poolSendDone s = { s with ylc := { pooled c awaits s with link := .poolAwait c } } := by
  unfold poolSendDone
  rw [hl]
  dsimp only
  exact (if_pos h).trans (updPool_eq (s := modYlc (fun y => { y with link := .poolAwait c }) s) hc hlen _)

theorem poolSendDone_lost {c : Nat} {tel : Telegram} {s : State}
    (hl : s.ylc.link = .poolSending c tel) (h : (cabAt s c).pool.state ≠ .sent) : poolSendDone s = freeLink s := by
  unfold poolSendDone
  rw [hl]
  exact if_neg h

/-! ### A report of a mode (R59) -/

section
variable {c : Nat} {m : Mode} {moved : Bool} {s : State}

theorem afterReport_done (h : (cabAt s c).pool.state = .done) :
    afterReport c m moved s = compareMode c (cabAt s c).desired s := by
  unfold afterReport
  rw [h]

theorem afterReport_quiesce {t : Mode} (h : (cabAt s c).pool.state = .quiesce) (ht : (cabAt s c).pool.target = some t) :
    afterReport c m moved s = if moved then (if m = t then endDone c s else reformSet c t s) else s := by
  unfold afterReport
  rw [h, ht]

theorem afterReport_sent {t : Mode} (h : (cabAt s c).pool.state = .sent) (ht : (cabAt s c).pool.target = some t) :
    afterReport c m moved s = if m = t then endDone c s else if moved then joinSet c t s else s := by
  unfold afterReport
  rw [h, ht]

theorem afterReport_stays (h : (cabAt s c).pool.state = .await ∨ (cabAt s c).pool.state = .failed) :
    afterReport c m moved s = s := by
  unfold afterReport
  rcases h with h | h <;> rw [h]

end

theorem reportMode_unknown {c : Nat} {code : Byte} {s : State} (h : modeOfCode code = none) : reportMode c code s = s := by
  unfold reportMode
  rw [h]

theorem reportMode_known {c : Nat} {code : Byte} {m : Mode} {s : State} (h : modeOfCode code = some m) :
    reportMode c code s = afterReport c m (decide ((cabAt s c).pool.inForce ≠ some m))
      (setModeInForce c (some m) (updCab c (fun r => { r with reported := some m }) s)) := by
  unfold reportMode
  rw [h]

/-! ### The desired mode of an activation (R51, R57) -/

section
variable {c : Nat} {d : Mode} {s : State}

theorem wantMode_done (h : (cabAt s c).pool.state = .done) : wantMode c d s = compareMode c (some d) s := by
  unfold wantMode
  dsimp only
  rw [h]

theorem wantMode_failed (h : (cabAt s c).pool.state = .failed) :
    wantMode c d s = compareMode c (some d) (updPool c (fun q => { q with state := .done, cause := none }) s) := by
  unfold wantMode
  dsimp only
  rw [h]

theorem wantMode_quiesce {t : Mode} (h : (cabAt s c).pool.state = .quiesce) (ht : (cabAt s c).pool.target = some t) :
    wantMode c d s = if d = t then s
      else if (cabAt s c).pool.inForce = some d then
        updPool c (fun q => { q with state := .done, target := none, quiesce := [], quiet := [] }) s
      else reformSet c d s := by
  unfold wantMode
  dsimp only
  rw [h, ht]

theorem wantMode_flying {t : Mode} (h : (cabAt s c).pool.state = .sent ∨ (cabAt s c).pool.state = .await)
    (ht : (cabAt s c).pool.target = some t) :
    wantMode c d s = updPool c (fun q => { q with pending := if d = t then none else some d }) s := by
  unfold wantMode
  dsimp only
  rcases h with h | h <;> rw [h, ht]

end

/-- Settles O47. -/
theorem poolSendingEnds : Obligations.PoolSendingEnds := by
  refine ⟨?_, ?_⟩
  · intro c tel s hp hc ⟨_, hlen, _⟩ hl old
    refine ⟨fun h => ?_, fun h => ?_⟩
    · exact (live_on poolSendDone s hp).trans
        (congrArg (fun v => Host.Outcome.next (finish v)) (poolSendDone_sent hc hlen hl h))
    · exact (live_on poolSendDone s hp).trans (congrArg (fun v => Host.Outcome.next (finish v)) (poolSendDone_lost hl h))
  · intro c s hc ⟨_, hlen, _⟩ old q fedBy differing pooledIn takes
    have fed (m : Option Mode) (i : Nat) : fedBy m i = feedsInForce m i := by cases m <;> rfl
    have differs (t : Mode) : differing t = quiesceSet q.inForce t := by
      simp only [differing, fed]
      rfl
    refine ⟨fun wanted h => compareMode_stays h, ?_, ?_, ?_, ?_, ?_, ?_, ?_, ?_, ?_⟩
    · intro r d hr hd
      rw [differs]
      exact compareMode_begins hc hlen hr hd
    · intro h
      refine if_neg fun hf => ?_
      rw [inFlight_iff] at hf
      rcases h with h | h <;> rw [show (cabAt s c).pool.state = _ from h] at hf <;> simp at hf
    · intro h isStill quiet
      have marks : quiet = q.quiesce.filter (fun i => q.quiet.contains i || isQuiet s (postNo c i)) := by
        refine List.filter_congr fun i _ => ?_
        rw [Bool.eq_iff_iff, decide_eq_true_iff, Bool.or_eq_true, isQuiet_iff, List.contains_iff_mem]
        rfl
      rw [marks]
      exact markQuiet_flying hc hlen ((inFlight_iff _).2 h)
    · intro m hm told ended
      have eq := endDone_eq hc hlen hm
      refine ⟨fun hn => ?_, fun w hw => ?_⟩
      · rw [eq, show (cabAt s c).pool.pending = none from hn]
        rfl
      · rw [eq, show (cabAt s c).pool.pending = some w from hw]
        rfl
    · exact fun code h => reportMode_unknown h
    · intro code m h
      rw [reportMode_known h, updCab_eq_set hc hlen]
    · intro m moved follows
      refine ⟨fun h => afterReport_done h, fun t h ht => ?_, fun t h ht => ?_, fun h => afterReport_stays h⟩
      · have eq := afterReport_quiesce (m := m) (moved := moved) h ht
        refine ⟨fun hv => ?_, fun hv hmt => ?_, fun hv hmt => ?_⟩
        · exact eq.trans (if_neg (ne_of_eq_of_ne hv Bool.false_ne_true))
        · exact (eq.trans (if_pos hv)).trans (if_pos hmt)
        · exact (eq.trans (if_pos hv)).trans (if_neg hmt)
      · have eq := afterReport_sent (m := m) (moved := moved) h ht
        refine ⟨fun hmt => eq.trans (if_pos hmt), fun hmt hv => ?_, fun hmt hv => ?_⟩
        · exact (eq.trans (if_neg hmt)).trans (if_neg (ne_of_eq_of_ne hv Bool.false_ne_true))
        · exact (eq.trans (if_neg hmt)).trans (if_pos hv)
    · intro t set joined quiet
      have joins : joined = (quiesceSet q.inForce t).filter (fun i => !q.quiesce.contains i) := by
        simp only [joined, set, differs]
        exact List.filter_congr fun i _ => by simp
      have quiets : quiet = q.quiet.filter (quiesceSet q.inForce t).contains := by
        simp only [quiet, set, differs]
        exact List.filter_congr fun i _ => by simp
      have sets : set = quiesceSet q.inForce t := differs t
      refine ⟨(reformSet_eq hc hlen t).trans ?_, (joinSet_eq hc hlen t).trans ?_⟩
      · rw [← joins, ← quiets, ← sets]
        simp only [List.isEmpty_iff]
        rfl
      · rw [← joins]
        rfl
    · intro d follows
      refine ⟨fun h => wantMode_done h, fun h => ?_, fun t h ht => ?_, fun t h ht => ?_⟩
      · exact (wantMode_failed h).trans (congrArg (compareMode c (some d)) (updPool_sequenced hc hlen _))
      · have eq := wantMode_quiesce (d := d) h ht
        refine ⟨fun hd => eq.trans (if_pos hd), fun hd hf => ?_, fun hd hf => ?_⟩
        · exact ((eq.trans (if_neg hd)).trans (if_pos hf)).trans (updPool_sequenced hc hlen _)
        · exact (eq.trans (if_neg hd)).trans (if_neg hf)
      · exact (wantMode_flying h ht).trans (updPool_sequenced hc hlen _)

end Sys2Proof.Machine
end

section
/-! The replies to a POOL (03_cabinet_module_pooling.md R55, R56), and the posts of a cabinet under another mode in force
(R48, R49) (O48). -/

namespace Sys2Proof.Machine

/-! ### A post under another mode in force (R12, R49) -/

/-- The state that settling gives a post that a module feeds (R12). -/
def Post.settled (q : Post) : PostState :=
  if 0 < (q.report.map Report.fault).getD 0 then .faulted
  else if q.bus.isSome then .plugged
  else if (q.report.map Report.occupied).getD false then .guest else .empty

/-- The record of a post under another mode in force: its rating, and the state that the mode gives it (R49). -/
def Post.refed (q : Post) (rating : Int) (fed : Bool) : Post :=
  let v := { q with rating := rating }
  if q.state = .unknown ∨ q.state = .offline then v
  else if fed = false then v.entered .disabled
  else if q.state = .disabled then v.entered q.settled
  else v

/-- The record that post p takes under its cabinet's mode in force. -/
def refedAt (s : State) (p : Nat) : Post :=
  (postAt s p).refed (pooledRating (cabAt s (p / 4)).ratings (cabAt s (p / 4)).pool.inForce (p % 4)) (isFed s p)

/-- A served post that no module feeds leaves the ring. -/
def starvedAt (s : State) (p : Nat) : Bool := (postAt s p).state.served && !isFed s p

theorem refed_reads {s t : State} (p : Nat) (h : offPlaces t = offPlaces s) (hq : postAt t p = postAt s p) :
    refedAt t p = refedAt s p ∧ starvedAt t p = starvedAt s p := by
  have ylc := (offPlaces_frame h).1
  simp only [refedAt, starvedAt, isFed, hq, cabAt_of_ylc ylc, and_self]

theorem settledState_fed {s : State} {p : Nat} (h : isFed s p = true) : settledState s p true = (postAt s p).settled := by
  unfold settledState Post.settled
  simp [h]

theorem isFed_updPost (s : State) (p q : Nat) (f : Post → Post) : isFed (updPost p f s) q = isFed s q := by
  unfold isFed
  rw [cabAt_of_ylc (offPosts_frame (offPosts_updPost p f s)).1]

theorem Moved.after {l : List Nat} {r r' : Nat → Post} {v : Nat → Bool} {s t u : State} (h : Moved l r (fun _ => false) s t)
    (h' : Moved l r' v t u) : Moved l r' v s u := by
  have ring : t.ale.ring = s.ale.ring := by simpa using h.ring
  have tiers : ∀ p, 4 ≤ p → p - 4 < s.ale.tiers.length → t.ale.tiers[p - 4]? = s.ale.tiers[p - 4]? :=
    fun p hp hlen => by simpa using h.tiers p hp hlen
  refine ⟨h'.frame.trans h.frame, fun p hp hlen => h'.posts p hp (by rwa [h.size]),
    fun p hp hne => (h'.others p hp hne).trans (h.others p hp hne), ?_, fun p hp hlen => ?_, h'.length.trans h.length,
    h'.size.trans h.size⟩
  · rw [h'.ring, ring]
  · rw [h'.tiers p hp (by rwa [h.length]), tiers p hp hlen]

/-- A change of a post's record that leaves its state leaves the ring. -/
theorem moved_updPost {p : Nat} (f : Post → Post) (hp : 4 ≤ p) (s : State) :
    Moved [p] (fun q => f (postAt s q)) (fun _ => false) s (updPost p f s) :=
  moved_one (offPlaces_updPost p s f) (posts_length_updPost p f s) (postAt_updPost_same hp)
    (fun _ hq hne => postAt_updPost_other hq hne) (by simp) hp

theorem Moved.congr_one {p : Nat} {r r' : Nat → Post} {v v' : Nat → Bool} {s t : State} (h : Moved [p] r v s t)
    (hr : p - 4 < s.frt.posts.length → r p = r' p) (hv : v p = v' p) : Moved [p] r' v' s t := by
  refine ⟨h.frame, fun q hq hlen => ?_, h.others, ?_, fun q hq hlen => ?_, h.length, h.size⟩
  · obtain rfl := List.mem_singleton.1 hq
    rw [h.posts q hq hlen, hr hlen]
  · have same : ∀ q, (decide (q ∈ [p]) && v q) = (decide (q ∈ [p]) && v' q) := fun q => by
      by_cases hq : q = p
      · rw [hq, hv]
      · simp [hq]
    simpa only [same] using h.ring
  · have iff : (q ∈ [p] ∧ v q = true) ↔ (q ∈ [p] ∧ v' q = true) :=
      and_congr_right fun hq => by rw [List.mem_singleton.1 hq, hv]
    simpa only [iff] using h.tiers q hq hlen

/-- The number of a post that is in no table reads as a post in OFFLINE. -/
theorem post_stands {s : State} {p : Nat} (h : (postAt s p).state ≠ .offline) : p - 4 < s.frt.posts.length := by
  by_contra hn
  refine h ?_
  unfold postAt
  rw [List.getD_eq_default _ _ (Nat.not_lt.1 hn)]
  rfl

/-- One post follows its cabinet's mode in force (R49). -/
theorem refeed_moved {c i : Nat} (hi : i < 4) (hp : 4 ≤ postNo c i) (s : State) :
    Moved [postNo c i] (refedAt s) (starvedAt s) s (refeed c i s) := by
  let p := postNo c i
  let rating := pooledRating (cabAt s c).ratings (cabAt s c).pool.inForce i
  let rate (q : Post) : Post := { q with rating := rating }
  have cab : p / 4 = c := by simp only [p, postNo]; omega
  have pos : p % 4 = i := by simp only [p, postNo]; omega
  have rated : Moved [p] (fun q => rate (postAt s q)) (fun _ => false) s (updPost p rate s) := moved_updPost rate hp s
  have record : refedAt s p = (postAt s p).refed rating (isFed s p) := by
    unfold refedAt
    rw [cab, pos]
  by_cases held : (postAt s p).state = .unknown ∨ (postAt s p).state = .offline
  · have eq : refeed c i s = updPost p rate s := if_pos held
    rw [eq]
    refine rated.congr_one (fun _ => (record.trans (if_pos held)).symm) ?_
    unfold starvedAt
    rcases held with h | h <;> rw [h] <;> rfl
  have hlen : p - 4 < s.frt.posts.length := post_stands fun h => held (.inr h)
  have own : postAt (updPost p rate s) p = rate (postAt s p) := postAt_updPost_same hp hlen
  by_cases hf : isFed s p = false
  · have eq : refeed c i s = setPostState p .disabled (updPost p rate s) := (if_neg held).trans (if_pos hf)
    rw [eq]
    refine (rated.after (moved_setPostState .disabled hp _)).congr_one (fun _ => ?_) ?_
    · rw [own]
      exact (record.trans ((if_neg held).trans (if_pos hf))).symm
    · rw [own, starvedAt, hf]
      rfl
  have fed : isFed s p = true := Bool.of_not_eq_false hf
  by_cases hd : (postAt s p).state = .disabled
  · have eq : refeed c i s = setPostState p (settledState (updPost p rate s) p true) (updPost p rate s) :=
      ((if_neg held).trans (if_neg hf)).trans (if_pos hd)
    have settles : settledState (updPost p rate s) p true = (postAt s p).settled := by
      rw [settledState_fed ((isFed_updPost s p p _).trans fed), own]
      rfl
    rw [eq, settles]
    refine (rated.after (moved_setPostState _ hp _)).congr_one (fun _ => ?_) ?_
    · rw [own]
      exact (record.trans (((if_neg held).trans (if_neg hf)).trans (if_pos hd))).symm
    · have state : (rate (postAt s p)).state = .disabled := hd
      rw [own, state, starvedAt, show (postAt s (postNo c i)).state = .disabled from hd]
      rfl
  · have eq : refeed c i s = updPost p rate s := ((if_neg held).trans (if_neg hf)).trans (if_neg hd)
    rw [eq]
    refine rated.congr_one (fun _ => (record.trans (((if_neg held).trans (if_neg hf)).trans (if_neg hd))).symm) ?_
    rw [starvedAt, fed, Bool.not_true, Bool.and_false]

/-- The four posts of a cabinet follow its mode in force (R49). -/
theorem refeedAll_moved {c : Nat} (hc : IsStation c) (s : State) :
    Moved (postsOf c) (refedAt s) (starvedAt s) s (refeedAll c s) := by
  have posts (p : Nat) (hp : p ∈ postsOf c) : 4 ≤ p ∧ postNo c (p % 4) = p := by
    have h := mem_postsOf_iff.1 hp
    have h1 := hc.1
    unfold postNo
    omega
  have folds : refeedAll c s = (postsOf c).foldl (fun s p => refeed (p / 4) (p % 4) s) s := by
    have h (i : Nat) (hi : i < 4) : (c * 4 + i) / 4 = c ∧ (c * 4 + i) % 4 = i := by omega
    simp [refeedAll, postsOf, positions, postNo, h]
  rw [folds]
  refine moved_foldl (fun s p hp => ?_) refed_reads (postsOf_nodup c) (fun p hp => (posts p hp).1) s
  have number : postNo (p / 4) (p % 4) = p := by unfold postNo; omega
  have moved := refeed_moved (c := p / 4) (i := p % 4) (by omega) (by rwa [number]) s
  rwa [number] at moved

/-! ### The end of a change (R55, R56) -/

/-- The state with a reply to a POOL taken: the bytes of the framer, and the link free. -/
def answered (framer : List Byte) (s : State) : State := { s with ylc := { s.ylc with framer := framer, link := .free } }

section
variable {c : Nat} {s : State} (hc : IsStation c) (hlen : s.ylc.cabinets.length = 16)
include hc hlen

theorem pooled_same : pooled c (cabAt s c).pool s = s.ylc := by
  have hc1 := hc.1
  have hc2 := hc.2
  have place : c - 1 < s.ylc.cabinets.length := by omega
  have own : cabAt s c = s.ylc.cabinets[c - 1] := by
    rw [cabAt_station hc, List.getD_eq_getElem _ _ place]
  have same : s.ylc.cabinets.set (c - 1) { cabAt s c with pool := (cabAt s c).pool } = s.ylc.cabinets := by
    rw [own]
    exact List.set_getElem_self place
  unfold pooled
  rw [same]

theorem failAttempt_again {cause : PoolCause} (h : (cabAt s c).pool.attempts < 3) :
    failAttempt c cause s = { s with ylc := pooled c { (cabAt s c).pool with state := .sent, cause := some cause } s } :=
  (if_pos h).trans (updPool_eq hc hlen _)

/-- The third failure of a change: its notice, and the sequencer's record; a pending target is taken up (R56, R57). -/
theorem failAttempt_last {cause : PoolCause} {m : Mode} (h : 3 ≤ (cabAt s c).pool.attempts)
    (hm : (cabAt s c).pool.target = some m) :
    let q := (cabAt s c).pool
    let told := notice (.poolingFailed c m q.attempts cause) s
    let failed : Sequencer := { q with state := .failed, target := none, quiesce := [], quiet := [], cause := some cause }
    let done : Sequencer := { q with
      state := .done, target := none, pending := none, quiesce := [], quiet := [], cause := none }
    (q.pending = none → failAttempt c cause s = { told with ylc := pooled c failed s }) ∧
    (∀ w, q.pending = some w → failAttempt c cause s = compareMode c (some w) { told with ylc := pooled c done s }) := by
  intro q told failed done
  have writes (p p' : Sequencer) (t : State) (ht : t.ylc = pooled c p s) : pooled c p' t = pooled c p' s :=
    pooled_pooled hc hlen ht
  let cleared : Sequencer := { q with quiesce := [], quiet := [], cause := some cause }
  let v : State := { told with ylc := pooled c cleared s }
  have length (p : Sequencer) : (pooled c p s).cabinets.length = 16 := List.length_set.trans hlen
  have own : cabAt v c = { cabAt s c with pool := cleared } := cabAt_pooled hc hlen rfl
  have eq : failAttempt c cause s = if q.pending.isSome
      then takePending c (updPool c (fun q => { q with cause := none }) v)
      else updPool c (fun q => { q with state := .failed, target := none }) v := by
    unfold failAttempt
    dsimp only
    rw [if_neg (Nat.not_lt.2 h), hm]
    dsimp only
    rw [updPool_eq hc hlen, notice_setYlc]
  refine ⟨fun hn => ?_, fun w hw => ?_⟩
  · have none_pends : ¬ q.pending.isSome = true := by simp [hn]
    rw [eq, if_neg none_pends, updPool_eq hc (length cleared), own, writes cleared _ v rfl]
  · have pends : q.pending.isSome = true := by simp [hw]
    let uncaused : Sequencer := { cleared with cause := none }
    have eq' : updPool c (fun q => { q with cause := none }) v = { told with ylc := pooled c uncaused s } := by
      rw [updPool_eq hc (length cleared), own, writes cleared _ v rfl]
    have own' : cabAt { told with ylc := pooled c uncaused s } c = { cabAt s c with pool := uncaused } :=
      cabAt_pooled hc hlen rfl
    have pending : uncaused.pending = some w := hw
    rw [eq, if_pos pends, eq', takePending_eq hc (length uncaused), own', writes uncaused _ _ rfl, pending]
    rfl

end

/-! ### The replies -/

section
variable {c : Nat} {src : Byte} {s : State} (hl : s.ylc.link = .poolAwait c)
include hl

theorem replyPoolAck_awaited (r hi lo : Byte) (hs : src.toNat = c) :
    replyPoolAck src [r, hi, lo] s = poolAnswer c r (hi.toNat * 256 + lo.toNat) (freeLink s) := by
  unfold replyPoolAck
  rw [(poolAwaited_some_iff s c).2 hl]
  exact if_pos hs

theorem replyPoolWait_awaited (hs : src.toNat = c) : replyPoolWait src [] s = failAttempt c (.rejected 0) (freeLink s) := by
  unfold replyPoolWait
  rw [(poolAwaited_some_iff s c).2 hl]
  exact if_pos ⟨hs, rfl⟩

theorem poolTimeout_awaited : poolTimeout s = failAttempt c .noReply (freeLink s) := by
  unfold poolTimeout
  rw [(poolAwaited_some_iff s c).2 hl]

end

/-! ### An accepted target -/

/-- The state before the posts follow an accepted target: the mode reported and in force (R49, R55). -/
def acceptedMode (c : Nat) (m : Mode) (s : State) : State :=
  let accepted : Cabinet := { cabAt s c with reported := some m, pool := { (cabAt s c).pool with inForce := some m } }
  { s with ylc := { s.ylc with cabinets := s.ylc.cabinets.set (c - 1) accepted } }

/-- The state with the posts following an accepted target. -/
def acceptedPosts (c : Nat) (m : Mode) (s : State) : State :=
  if (cabAt s c).pool.inForce = some m then acceptedMode c m s else refeedAll c (acceptedMode c m s)

section
variable {c : Nat} {m : Mode} {s : State} (hc : IsStation c)
include hc

theorem acceptedPosts_frame : offPlaces (acceptedPosts c m s) = offPlaces (acceptedMode c m s) := by
  unfold acceptedPosts
  split
  · rfl
  · exact (refeedAll_moved hc _).frame

theorem cabAt_acceptedMode (hlen : s.ylc.cabinets.length = 16) : cabAt (acceptedMode c m s) c =
    { cabAt s c with reported := some m, pool := { (cabAt s c).pool with inForce := some m } } := by
  have hc1 := hc.1
  have hc2 := hc.2
  have place : c - 1 < s.ylc.cabinets.length := by omega
  rw [cabAt_station hc]
  dsimp only [acceptedMode]
  rw [List.getD_eq_getElem?_getD, List.getElem?_set_self place]
  rfl

/-- The mode in force that an accepted target becomes, with the posts that follow it (R49, R55). -/
theorem setModeInForce_accepted (hlen : s.ylc.cabinets.length = 16) :
    setModeInForce c (some m) (updCab c (fun r => { r with reported := some m }) s) = acceptedPosts c m s := by
  have reported : cabAt (updCab c (fun r => { r with reported := some m }) s) c = { cabAt s c with reported := some m } :=
    cabAt_updCab_same hc hlen
  have set_eq : updPool c (fun q => { q with inForce := some m }) (updCab c (fun r => { r with reported := some m }) s) =
      acceptedMode c m s := by
    rw [updPool, updCab_updCab, updCab_eq_set hc hlen]
    rfl
  unfold setModeInForce acceptedPosts
  rw [reported, set_eq]
  dsimp only
  by_cases h : (cabAt s c).pool.inForce = some m
  · have kept : ({ (cabAt s c).pool with inForce := some m } : Sequencer) = (cabAt s c).pool := by rw [← h]
    rw [if_pos h, if_pos h, updCab_eq_set hc hlen]
    dsimp only [acceptedMode]
    rw [kept]
  · rw [if_neg h, if_neg h]

/-- An accepted target ends its change as done (R55). -/
theorem acceptTarget_eq (hlen : s.ylc.cabinets.length = 16) (hm : (cabAt s c).pool.target = some m) :
    let q := (cabAt s c).pool
    let done : Cabinet := { cabAt s c with reported := some m, pool := { q with
      state := .done, inForce := some m, target := none, pending := none, quiesce := [], quiet := [] } }
    acceptTarget c s = ended c { s.ylc with cabinets := s.ylc.cabinets.set (c - 1) done } q.pending
      (notice (.poolingDone c m q.attempts) (acceptedPosts c m s)) := by
  intro q done
  have ylc : (acceptedPosts c m s).ylc = (acceptedMode c m s).ylc := (offPlaces_frame (acceptedPosts_frame hc)).1
  have own : cabAt (acceptedPosts c m s) c = _ := (cabAt_of_ylc ylc c).trans (cabAt_acceptedMode hc hlen)
  have length : (acceptedPosts c m s).ylc.cabinets.length = 16 := by
    rw [ylc]
    exact List.length_set.trans hlen
  have target : (cabAt (acceptedPosts c m s) c).pool.target = some m := by
    rw [own]
    exact hm
  have eq : acceptTarget c s = endDone c (acceptedPosts c m s) := by
    unfold acceptTarget
    rw [hm]
    exact congrArg (endDone c) (setModeInForce_accepted hc hlen)
  rw [eq, endDone_eq hc length target, own]
  unfold pooled
  rw [own, ylc]
  simp only [acceptedMode, List.set_set]
  rfl

end

/-- The record of a post that a mode sends into a state that it settles in, or DISABLED (R10). -/
theorem enter_settling (q : Post) {st : PostState} (h : st = .disabled ∨ st = .faulted ∨ st = .plugged ∨ st = .guest ∨ st = .empty) :
    q.enter st = { q with
      state := st, grant := if st = .plugged ∨ st = .guest then q.grant else 0
      prevGrant := if st = .empty then 0 else q.prevGrant
      requestCap := if st = .plugged ∨ st = .guest then q.requestCap else none
      boost := if st = .plugged ∨ st = .guest then q.boost else false, mismatch := 0 } := by
  rcases h with rfl | rfl | rfl | rfl | rfl <;> rfl

theorem settled_cases (q : Post) : q.settled = .faulted ∨ q.settled = .plugged ∨ q.settled = .guest ∨ q.settled = .empty := by
  unfold Post.settled
  split
  · exact .inl rfl
  split
  · exact .inr (.inl rfl)
  split
  · exact .inr (.inr (.inl rfl))
  · exact .inr (.inr (.inr rfl))

/-- The record of a post under another mode in force, case by case (R49). -/
theorem refed_cases (q : Post) (rating : Int) (fed : Bool) :
    let v : Post := { q with rating := rating }
    (q.state = .unknown ∨ q.state = .offline → q.refed rating fed = v) ∧
    (q.state ≠ .unknown → q.state ≠ .offline → q.state ≠ .disabled → fed = true → q.refed rating fed = v) ∧
    (q.state ≠ .unknown → q.state ≠ .offline → q.state ≠ .disabled → fed = false → q.refed rating fed = v.enter .disabled) ∧
    (q.state = .disabled → fed = false → q.refed rating fed = v) ∧
    (q.state = .disabled → fed = true → q.refed rating fed = v.enter q.settled) := by
  intro v
  have free (h1 : q.state ≠ .unknown) (h2 : q.state ≠ .offline) : ¬ (q.state = .unknown ∨ q.state = .offline) := by
    rintro (h | h)
    · exact h1 h
    · exact h2 h
  have free' (h : q.state = .disabled) : ¬ (q.state = .unknown ∨ q.state = .offline) :=
    free (by rw [h]; exact PostState.noConfusion) (by rw [h]; exact PostState.noConfusion)
  refine ⟨fun h => if_pos h, fun h1 h2 h3 hf => ?_, fun h1 h2 h3 hf => ?_, fun h hf => ?_, fun h hf => ?_⟩
  · exact (if_neg (free h1 h2)).trans ((if_neg (ne_false_of_eq_true hf)).trans (if_neg h3))
  · exact (if_neg (free h1 h2)).trans ((if_pos hf).trans (if_neg h3))
  · exact (if_neg (free' h)).trans ((if_pos hf).trans (if_pos h))
  · have moves : ¬ v.state = q.settled := by
      rw [show v.state = .disabled from h]
      rcases settled_cases q with h | h | h | h <;> rw [h] <;> exact PostState.noConfusion
    exact (if_neg (free' h)).trans ((if_neg (ne_false_of_eq_true hf)).trans ((if_pos h).trans (if_neg moves)))

/-- The posts, the ring and the tiers where an accepted target is another mode than the one in force. -/
theorem acceptedPosts_moved {c : Nat} {m : Mode} {s : State} (hc : IsStation c) (h : (cabAt s c).pool.inForce ≠ some m) :
    Moved (postsOf c) (refedAt (acceptedMode c m s)) (starvedAt (acceptedMode c m s)) (acceptedMode c m s)
      (acceptedPosts c m s) := by
  unfold acceptedPosts
  rw [if_neg h]
  exact refeedAll_moved hc _

theorem isFed_accepted {c : Nat} {m : Mode} {s : State} (hc : IsStation c) (hlen : s.ylc.cabinets.length = 16) {p : Nat}
    (hp : p / 4 = c) : isFed (acceptedMode c m s) p = true ↔ feeds m (p % 4) ≠ [] := by
  unfold isFed
  rw [hp, cabAt_acceptedMode hc hlen, Bool.not_eq_true', List.isEmpty_eq_false_iff]
  rfl

theorem starved_iff {c : Nat} {m : Mode} {s : State} (hc : IsStation c) (hlen : s.ylc.cabinets.length = 16) (p : Nat) :
    (p ∈ postsOf c ∧ starvedAt (acceptedMode c m s) p = true) ↔
      p / 4 = c ∧ ((postAt s p).state = .plugged ∨ (postAt s p).state = .guest) ∧ ¬ feeds m (p % 4) ≠ [] := by
  rw [mem_postsOf_iff]
  refine and_congr_right fun hp => ?_
  unfold starvedAt
  rw [Bool.and_eq_true, served_iff, Bool.not_eq_true', ← isFed_accepted (s := s) hc hlen hp, Bool.not_eq_true]
  rfl

/-- Settles O48. -/
theorem poolRepliesAreTaken : Obligations.PoolRepliesAreTaken := by
  intro c src seq high low target s hp hc ⟨hposts, hlen, htiers⟩ hl hs ht old reason free again failed followed
  have ack (r : Byte) : exec (.poolAck src seq [r, high, low]) s = .next (finish (poolAnswer c r reason (answered [] s))) :=
    onYard_eq hp (replyPoolAck_awaited (s := { s with ylc := { s.ylc with framer := [] } }) hl r high low hs)
  have wait : exec (.poolWait src seq []) s = .next (finish (failAttempt c (.rejected 0) (answered [] s))) :=
    onYard_eq hp (replyPoolWait_awaited (s := { s with ylc := { s.ylc with framer := [] } }) hl hs)
  have timeout : exec .poolReplyTimeout s = .next (finish (failAttempt c .noReply (answered s.ylc.framer s))) :=
    (live_on poolTimeout s hp).trans (congrArg (fun v => Host.Outcome.next (finish v)) (poolTimeout_awaited hl))
  have rejected (r : Byte) (hr : r ≠ 0) : poolAnswer c r reason (answered [] s) =
      failAttempt c (.rejected reason) (answered [] s) := if_neg hr
  have freed (framer : List Byte) : free framer old.pool = answered framer s :=
    congrArg (fun y : Ylc => { s with ylc := { y with framer := framer, link := .free } }) (pooled_same hc hlen)
  have once (framer : List Byte) (cause : PoolCause) (h : old.pool.attempts < 3) :
      failAttempt c cause (answered framer s) = free framer (again cause) :=
    failAttempt_again (s := answered framer s) hc hlen h
  have writes (n : Notice) (framer : List Byte) (p : Sequencer) :
      (let told := notice n (free framer old.pool)
       ({ told with ylc := { told.ylc with cabinets := told.ylc.cabinets.set (c - 1) { old with pool := p } } } : State)) =
      { notice n (answered framer s) with ylc := pooled c p (answered framer s) } := by
    dsimp only
    rw [freed, (unsent_frame (unsent_notice n (answered framer s))).1]
    rfl
  have last (framer : List Byte) (cause : PoolCause) (h : 3 ≤ old.pool.attempts) :
      (old.pool.pending = none → failAttempt c cause (answered framer s) = failed framer cause) ∧
      (∀ w, old.pool.pending = some w → failAttempt c cause (answered framer s) = followed w framer cause) := by
    obtain ⟨ends, follows⟩ := failAttempt_last (s := answered framer s) (cause := cause) hc hlen h ht
    exact ⟨fun hn => (ends hn).trans (writes _ framer _).symm,
      fun w hw => (follows w hw).trans (congrArg (compareMode c (some w)) (writes _ framer _).symm)⟩
  refine ⟨fun r hr h => ?_, fun h => ⟨?_, ?_⟩, fun r hr h hn => ?_, fun h hn => ⟨?_, ?_⟩, fun w h hw => ⟨fun r hr => ?_, ?_, ?_⟩,
    ?_⟩
  · rw [ack, rejected r hr, once _ _ h]
  · rw [wait, once _ _ h]
  · rw [timeout, once _ _ h]
  · rw [ack, rejected r hr, (last _ _ h).1 hn]
  · rw [wait, (last _ _ h).1 hn]
  · rw [timeout, (last _ _ h).1 hn]
  · rw [ack, rejected r hr, (last _ _ h).2 w hw]
  · rw [wait, (last _ _ h).2 w hw]
  · rw [timeout, (last _ _ h).2 w hw]
  let a := answered [] s
  let x := acceptedMode c target a
  let v := acceptedPosts c target a
  let y : Ylc := { a.ylc with cabinets := a.ylc.cabinets.set (c - 1) { old with reported := some target, pool := { old.pool with
    state := .done, inForce := some target, target := none, pending := none, quiesce := [], quiet := [] } } }
  let u : State := { notice (.poolingDone c target old.pool.attempts) v with ylc := y }
  have accepts : poolAnswer c 0 reason a = ended c y old.pool.pending (notice (.poolingDone c target old.pool.attempts) v) :=
    (if_pos rfl).trans (acceptTarget_eq (s := a) hc hlen ht)
  obtain ⟨-, nfrt, nsbu, nrdu, nale, nrsu, nstp, nfree⟩ := unsent_frame (unsent_notice (.poolingDone c target old.pool.attempts) v)
  obtain ⟨vylc, vbuses, vtags, vqueue, vsli, vsbu, vrdu, vrsu, vstp, vtsm, vfree⟩ :=
    offPlaces_frame (acceptedPosts_frame (m := target) (s := a) hc)
  obtain ⟨usli, utsm⟩ := notice_same (.poolingDone c target old.pool.attempts) (s := v) (t := s) vsli vtsm
    (congrArg Rdu.clock vrdu)
  have uposts (p : Nat) : postAt u p = postAt v p := congrArg (fun f : Frt => f.posts.getD (p - 4) Post.initial) nfrt
  refine ⟨u, fun hn => ?_, fun w hw => ?_, rfl, usli, utsm, fun h => ?_, fun h => ⟨fun i hi => ?_, fun p => ?_, ?_, fun p h4 h67 => ?_⟩,
    ⟨fun d hd hne => ?_, fun p h4 hne => ?_⟩, ?_, ?_, ?_, ?_, nsbu.trans vsbu, nrdu.trans vrdu, nrsu.trans vrsu, nstp.trans vstp,
    nfree.trans vfree⟩
  · rw [ack, accepts, hn]
    rfl
  · rw [ack, accepts, hw]
    rfl
  · have same : v = x := if_pos h
    exact ⟨nfrt.trans (congrArg State.frt same :), nale.trans (congrArg State.ale same :)⟩
  · have moved := acceptedPosts_moved (s := a) hc h
    have h1 := hc.1
    have h16 := hc.2
    have home : (c * 4 + i) / 4 = c := by omega
    have pos : (c * 4 + i) % 4 = i := by omega
    intro q w enters stays
    have record : postAt u (c * 4 + i) = q.refed w.rating (isFed x (c * 4 + i)) := by
      rw [uposts, moved.posts _ (mem_postsOf_iff.2 home) (show _ < s.frt.posts.length by rw [hposts]; omega)]
      unfold refedAt
      rw [home, pos, cabAt_acceptedMode (s := a) hc hlen]
      rfl
    have fed_iff : isFed x (c * 4 + i) = true ↔ feeds target (i % 4) ≠ [] := by
      have h := isFed_accepted (m := target) (s := a) hc hlen home
      rw [Nat.mod_eq_of_lt hi]
      rwa [pos] at h
    have starved (hf : ¬ feeds target (i % 4) ≠ []) : isFed x (c * 4 + i) = false :=
      Bool.eq_false_iff.2 fun h => hf (fed_iff.1 h)
    obtain ⟨held, served, unfed, disabled, settles⟩ := refed_cases q w.rating (isFed x (c * 4 + i))
    have takes {st : PostState} (hst : st = .disabled ∨ st = .faulted ∨ st = .plugged ∨ st = .guest ∨ st = .empty)
        (h : q.refed w.rating (isFed x (c * 4 + i)) = w.enter st) : enters st :=
      record.trans (h.trans (enter_settling w hst))
    refine ⟨fun h => record.trans (held h), fun h1 h2 h3 hf => record.trans (served h1 h2 h3 (fed_iff.2 hf)),
      fun h1 h2 h3 hf => takes (.inl rfl) (unfed h1 h2 h3 (starved hf)), fun h hf => record.trans (disabled h (starved hf)),
      fun h hf => takes (.inr (settled_cases q)) (settles h (fed_iff.2 hf))⟩
  · have ring := (acceptedPosts_moved (s := a) hc h).ring
    rw [nale, ring, List.mem_filter, Bool.not_eq_true', Bool.and_eq_false_iff, decide_eq_false_iff_not, ← Bool.not_eq_true,
      ← not_and_or, starved_iff (s := a) hc hlen]
    rfl
  · rw [nale, (acceptedPosts_moved (s := a) hc h).ring]
    exact List.filter_sublist
  · have tier := (acceptedPosts_moved (s := a) hc h).tiers p h4 (show _ < s.ale.tiers.length by rw [htiers]; omega)
    have goes := starved_iff (m := target) (s := a) hc hlen p
    rw [nale]
    exact ⟨fun hl => tier.trans (if_pos (goes.2 hl)), fun hl => tier.trans (if_neg fun h => hl (goes.1 h))⟩
  · have set_eq : u.ylc = (updCab c (fun r => { r with reported := some target, pool := { r.pool with
        state := .done, inForce := some target, target := none, pending := none, quiesce := [], quiet := [] } }) a).ylc := by
      rw [updCab_eq_set (s := a) hc hlen]
      rfl
    rw [cabAt_of_ylc set_eq, cabAt_updCab_other hne]
    rfl
  · rw [uposts]
    by_cases h : (cabAt s c).pool.inForce = some target
    · have same : v = x := if_pos h
      rw [same]
      rfl
    · exact (acceptedPosts_moved (s := a) hc h).others p h4 fun hm => hne (mem_postsOf_iff.1 hm)
  · exact (congrArg Frt.buses nfrt).trans vbuses
  · exact (congrArg Frt.tagMap nfrt).trans vtags
  · exact (congrArg Frt.plugQ nfrt).trans vqueue
  · have ale := offPlaces_ale (acceptedPosts_frame (m := target) (s := a) hc)
    have same : u.ale = v.ale := nale
    rw [same]
    exact ale

end Sys2Proof.Machine
end

section
/-! The verdict of a bus (05_route_readiness.md R95), and fleet storage (08_fleet_storage.md): band energies, classes,
eligibility, the view and the STORAGE of a completion (O53). -/

namespace Sys2Proof.Machine

/-! ### The verdict (R95) -/

section
variable {s : State} {b : Bus} {floor : Nat}

theorem verdictOf_unset {next : Option NextLeg} (h : s.rdu.clock.set = false) : verdictOf s b next floor = .unknown := by
  unfold verdictOf
  rw [h]

theorem verdictOf_unheld {next : Option NextLeg} (h : b.held = none) : verdictOf s b next floor = .unknown := by
  unfold verdictOf
  rw [h]
  cases s.rdu.clock.set <;> rfl

theorem verdictOf_free {h : Held} (hset : s.rdu.clock.set = true) (hb : b.held = some h) :
    verdictOf s b none floor = .noLeg := by
  unfold verdictOf
  rw [hset, hb]

theorem verdictOf_leg {h : Held} {n : NextLeg} (hset : s.rdu.clock.set = true) (hb : b.held = some h) :
    verdictOf s b (some n) floor =
      if b.capacity < legFloor s n.leg.row then .short
      else if floor ≤ h.energy then .ready
      else match b.post with
        | none => .noPost
        | some p =>
          if (floor : Int) ≤ h.energy + (postAt s p).grant * n.mins / 60 then .onTrack
          else if (floor : Int) ≤ h.energy +
            min (((postAt s p).report.map Report.accept).getD 0) (postAt s p).rating * n.mins / 60 then .atRisk
          else .short := by
  unfold verdictOf
  rw [hset, hb] <;> rfl

end

/-! ### The storage table (R159 to R161) -/

theorem bandEnergy_mono {a b : Nat} (h : a ≤ b) (capacity : Nat) : bandEnergy a capacity ≤ bandEnergy b capacity :=
  Nat.div_le_div_right (Nat.mul_le_mul_right capacity h)

theorem bandEnergy_le {percent : Nat} (h : percent ≤ 100) (capacity : Nat) : bandEnergy percent capacity ≤ capacity := by
  unfold bandEnergy
  exact Nat.div_le_of_le_mul (Nat.mul_le_mul_right capacity h)

section
variable {s : State} {k : Nat} {b : Bus} (hb : busAt s k = some b)
include hb

theorem classify_eq : classify k s =
    (let s1 := modStp (fun t => { t with table := t.table.modify k (fun e => { e with cls := parkedClass s k b }) }) s
      if parkedClass s k b = .notParked then s1
      else updBus k (fun b => { b with dischargeFloor := parkedFloor s (storageAt s k) b }) s1) := by
  unfold classify
  rw [hb]

theorem classify_table : (classify k s).stp.table = s.stp.table.modify k (fun e => { e with cls := parkedClass s k b }) := by
  rw [classify_eq hb]
  dsimp only
  split
  · rfl
  · rfl

theorem busAt_classify : busAt (classify k s) k = some (if parkedClass s k b = .notParked then b
    else { b with dischargeFloor := parkedFloor s (storageAt s k) b }) := by
  rw [classify_eq hb]
  dsimp only
  split
  · exact hb
  · have hk : s.frt.buses[k]? = some b := hb
    simp [busAt, updBus, modFrt, modStp, hk]

theorem busAt_classify_other {j : Nat} (h : j ≠ k) : busAt (classify k s) j = busAt s j := by
  rw [classify_eq hb]
  dsimp only
  split
  · rfl
  · simp [busAt, updBus, modFrt, modStp, h.symm]

end

/-! ### Parked classes (R160) -/

section
variable {s : State} {k : Nat} {b : Bus}

theorem parkedClass_withdrawn (h : b.state = .withdrawn) : parkedClass s k b = .notParked := if_pos h

theorem parkedClass_class (h : b.state ≠ .withdrawn) (hc : b.cls = .parked) : parkedClass s k b = .cls :=
  (if_neg h).trans (if_pos hc)

theorem parkedClass_free (h : b.state ≠ .withdrawn) (hc : b.cls ≠ .parked) (hl : recordedLeg s.rdu.legs b = none) :
    parkedClass s k b = .noDuty := by
  unfold parkedClass
  rw [if_neg h, if_neg hc, hl]

theorem parkedClass_leg {l : Leg} (h : b.state ≠ .withdrawn) (hc : b.cls ≠ .parked) (hl : recordedLeg s.rdu.legs b = some l) :
    parkedClass s k b = if recessParked s k l then .recess else .notParked := by
  unfold parkedClass
  rw [if_neg h, if_neg hc, hl]

theorem recessParked_iff (l : Leg) : recessParked s k l = true ↔ s.stp.season = .recess ∧
    (if s.rdu.clock.set then l.row.recess = false
     else ∀ m ∈ s.rdu.legs, legSlot s m = some k → m.row.recess = false) := by
  unfold recessParked
  rw [Bool.and_eq_true, decide_eq_true_iff]
  refine and_congr_right fun _ => ?_
  cases s.rdu.clock.set
  · simp
  · simp

end

/-! ### Eligibility (R118, R133, R165) -/

theorem dischargeBarTemp_iff (q : Post) (b : Bus) (bidir : Bool) (draw : Int) (tier : Tier) :
    dischargeBarTemp q b bidir draw tier = true ↔ q.state = .plugged ∧ (b.state ≠ .withdrawn ∧ b.v2g = true ∧
      b.dischargeFloor < b.heldOr0) ∧ bidir = true ∧ draw = 0 ∧ tier ≠ .urgent ∧ tier ≠ .belowFloor := by
  unfold dischargeBarTemp
  simp only [Bool.and_eq_true, decide_eq_true_iff, Bool.not_eq_true', decide_eq_false_iff_not, Bool.or_eq_false_iff]
  tauto

theorem eligibleBarTemp_iff (s : State) (f : PassFacts) (p : Nat) :
    eligibleBarTemp s f p = true ↔ p ∈ f.taken ∧ p % 4 ∉ (cabAt s (p / 4)).pool.quiesce ∧ (postAt s p).state = .plugged ∧
      (∃ k b, (postAt s p).bus = some k ∧ busAt s k = some b ∧ b.state ≠ .withdrawn ∧ b.v2g = true ∧
        b.dischargeFloor < b.heldOr0) ∧
      (cabAt s (p / 4)).bidir = true ∧ f.draws.getD (p - 4) 0 = 0 ∧
      s.ale.tiers.getD (p - 4) .idle ≠ .urgent ∧ s.ale.tiers.getD (p - 4) .idle ≠ .belowFloor := by
  unfold eligibleBarTemp testedPost inQuiesce
  rw [Bool.and_eq_true, Bool.and_eq_true, List.contains_iff_mem, Bool.not_eq_true', ← Bool.not_eq_true, List.contains_iff_mem,
    and_assoc]
  refine and_congr_right fun _ => and_congr_right fun _ => ?_
  cases hk : (postAt s p).bus with
  | none => simp
  | some k =>
    cases hb : busAt s k with
    | none => simp [hb]
    | some b =>
      simp only [Option.bind_some, hb, dischargeBarTemp_iff]
      simp [hb]

theorem warmEnough_iff (g : Settings) (q : Post) :
    warmEnough g q = true ↔ ∃ r t, q.report = some r ∧ r.temp = some t ∧ g.minTemp ≤ t := by
  unfold warmEnough
  cases q.report with
  | none => simp
  | some r => cases ht : r.temp <;> simp [ht]

/-! ### The view (R166) -/

/-- The STORAGE of a state (R167). -/
def storageMsg (s : State) : OutMsg := ⟨103, .storage ⟨s.stp.season, s.stp.band, s.stp.view⟩⟩

theorem queueStorage_told {s v : State} (h1 : v.sli = s.sli) (h2 : v.tsm = s.tsm) (h3 : v.rdu.clock = s.rdu.clock) :
    (queueStorage v).sli = (queueOut (storageMsg (queueStorage v)) s).sli ∧
      (queueStorage v).tsm = (queueOut (storageMsg (queueStorage v)) s).tsm := by
  have stp : (queueStorage v).stp = v.stp := by simp
  have msg : storageMsg (queueStorage v) = storageMsg v := by
    unfold storageMsg
    rw [stp]
  rw [msg]
  exact queueOut_same _ h1 h2 h3

section
variable (s : State) (f : PassFacts)

theorem completeStorage_view : (completeStorage f s).stp.viewDue = false ∧
    (completeStorage f s).stp.view = some (viewOf (completeStorage f s) f) := by
  obtain ⟨-, does⟩ := completeStorage_does f s
  have stp := congrArg State.stp does
  split at stp
  · rw [stp]
    simp
  · rw [stp]
    simp

theorem completeStorage_undue (h : s.stp.viewDue = false) :
    (completeStorage f s).sli = s.sli ∧ (completeStorage f s).tsm = s.tsm := by
  obtain ⟨-, does⟩ := completeStorage_does f s
  rw [h] at does
  rw [does]
  exact ⟨rfl, rfl⟩

theorem completeStorage_due (h : s.stp.viewDue = true) :
    let t := completeStorage f s
    let m : OutMsg := ⟨103, .storage ⟨t.stp.season, t.stp.band, t.stp.view⟩⟩
    t.sli = (queueOut m s).sli ∧ t.tsm = (queueOut m s).tsm := by
  obtain ⟨-, does⟩ := completeStorage_does f s
  rw [h, if_pos rfl] at does
  exact does ▸ queueStorage_told (v := _) rfl rfl rfl

theorem roomAt_eq (p : Nat) : (roomAt s p).getD 0 = (match pluggedBus s p with
    | none => 0
    | some x => match x.2.held with
      | none => 0
      | some h => absorptionCeiling x.2 (storageAt s x.1) - h.energy) := by
  unfold roomAt
  cases pluggedBus s p with
  | none => rfl
  | some x => cases hx : x.2.held <;> simp [hx]

end

/-- The plugged posts whose bus has a property. -/
theorem plugged_filter (s : State) {h : Nat → Bool} {g : Nat × Bus → Bool} (hg : ∀ p x, pluggedBus s p = some x → h p = g x) :
    (postNos.filter (fun p => (pluggedBus s p).isSome)).filter h = postNos.filter (fun p => (pluggedBus s p).any g) := by
  rw [List.filter_filter]
  refine List.filter_congr fun p _ => ?_
  cases hp : pluggedBus s p with
  | none => simp
  | some x => simp [hg p x hp]

/-- Settles O53. -/
theorem verdictsAndStorageEntries : Obligations.VerdictsAndStorageEntries := by
  refine ⟨?_, ?_, ?_⟩
  · intro s b h n floor p set mins e rate accept bus judged feasible
    have leg (hset : set = true) (post : Option Nat) := verdictOf_leg (floor := floor) (n := n) (b := bus post) hset rfl
    refine ⟨fun next => verdictOf_unset, fun next => verdictOf_unheld, fun hset => verdictOf_free hset rfl,
      fun hset hf => ?_, fun hset hf hr => ?_, fun hset hf hr => ⟨?_, fun ho => ?_, fun ho ha => ?_, fun ho ha => ?_⟩, ?_, ?_⟩
    · exact (leg hset b.post).trans (if_pos (Nat.not_le.1 hf))
    · exact (leg hset b.post).trans ((if_neg (Nat.not_lt.2 hf)).trans (if_pos hr))
    · exact (leg hset none).trans ((if_neg (Nat.not_lt.2 hf)).trans (if_neg (Nat.not_le.2 hr)))
    · exact (leg hset (some p)).trans ((if_neg (Nat.not_lt.2 hf)).trans ((if_neg (Nat.not_le.2 hr)).trans (if_pos ho)))
    · exact (leg hset (some p)).trans ((if_neg (Nat.not_lt.2 hf)).trans ((if_neg (Nat.not_le.2 hr)).trans
        ((if_neg (Int.not_le.2 ho)).trans (if_pos ha))))
    · exact (leg hset (some p)).trans ((if_neg (Nat.not_lt.2 hf)).trans ((if_neg (Nat.not_le.2 hr)).trans
        ((if_neg (Int.not_le.2 ho)).trans (if_neg (Int.not_le.2 ha)))))
    · intro band capacity parked
      exact ⟨rfl, fun h1 h2 h3 h4 => ⟨bandEnergy_mono h1 _, bandEnergy_mono h2 _, bandEnergy_mono h3 _, bandEnergy_le h4 _⟩⟩
    · intro k hb hk parked u x low
      have floor_eq : parkedFloor s x b = low := by
        unfold parkedFloor
        cases hl : recordedLeg s.rdu.legs b <;> simp [low, hl]
      refine ⟨?_, ?_, fun j hj => ⟨busAt_classify_other hb hj, ?_⟩⟩
      · rw [classify_table hb, List.getElem?_modify_eq, List.getElem?_eq_getElem hk]
        rfl
      · rw [busAt_classify hb, floor_eq]
      · rw [classify_table hb, List.getElem?_modify_ne _ _ hj.symm]
  · intro s k b duty resting
    refine ⟨parkedClass_withdrawn, parkedClass_class, parkedClass_free, fun l h hc hl hr => ?_, fun l h hc hl hr => ?_⟩
    · exact (parkedClass_leg h hc hl).trans (if_pos ((recessParked_iff l).2 hr))
    · exact (parkedClass_leg h hc hl).trans (if_neg fun h => hr ((recessParked_iff l).1 h))
  · intro s f posts tested warm held room surplus parked give power storage t
    have tests (p : Nat) : eligibleBarTemp s f p = true ↔ tested p := eligibleBarTemp_iff s f p
    have warms (p : Nat) : warmEnough s.tsm.settings (postAt s p) = true ↔ warm p := warmEnough_iff _ _
    have rooms (p : Nat) : (roomAt s p).getD 0 = room p := roomAt_eq s p
    have reading : (clockReading s).map (fun r => (r.weekday, r.minute)) =
        if s.rdu.clock.set then some (s.rdu.clock.weekday, s.rdu.clock.minute) else none := by
      unfold clockReading
      split <;> rfl
    obtain ⟨undue, view⟩ := completeStorage_view s f
    refine ⟨fun p => ?_, fun p => ?_, fun b e => rfl, ?_, rfl, undue, view, completeStorage_undue s f, completeStorage_due s f, rfl⟩
    · unfold eligible
      rw [Bool.and_eq_true, Bool.and_eq_true, Bool.not_eq_true', and_assoc, tests, warms]
    · unfold coldExcluded
      rw [Bool.and_eq_true, Bool.not_eq_true', ← Bool.not_eq_true, tests, warms]
    · unfold viewOf
      dsimp only
      rw [plugged_filter s (g := fun x => parked x.1) (fun p x h => by rw [h]),
        plugged_filter s (g := fun x => x.2.held.isNone) (fun p x h => by rw [h])]
      simp only [rooms, reading]
      rfl

end Sys2Proof.Machine
end

section
/-! What STP and RSU write at a pass completion (06_the_allocation_pass.md R109 steps 5 and 6): the classes and floors of the
buses, the view, the accumulator and the shortfall, the capabilities and the sides, with their telegrams. -/

namespace Sys2Proof.Machine

/-! ### The discharge floors of parked buses (R160, R161) -/

/-- The record of a bus that has been classified. -/
def floored (s : State) (k : Nat) (b : Bus) : Bus :=
  if parkedClass s k b = .notParked then b else { b with dischargeFloor := parkedFloor s (storageAt s k) b }

/-- Writing classes leaves the band energies of an entry. -/
theorem storage_floor_classed {s t : State} {n : Nat} (h : t.stp.table = s.stp.table.mapIdx (classed s n)) (k : Nat) :
    (storageAt t k).floor = (storageAt s k).floor := by
  unfold storageAt
  rw [h, List.getD_eq_getElem?_getD, List.getD_eq_getElem?_getD, List.getElem?_mapIdx]
  cases s.stp.table[k]? with
  | none => rfl
  | some e =>
    simp only [Option.map_some, Option.getD_some, classed]
    split
    · rfl
    · split <;> rfl

theorem classify_range_buses (s : State) (n : Nat) (hn : n ≤ s.frt.buses.length) {k : Nat} {b : Bus}
    (hb : busAt s k = some b) :
    busAt ((List.range n).foldl (fun s k => classify k s) s) k = some (if k < n then floored s k b else b) := by
  induction n generalizing k b with
  | zero => simpa using hb
  | succ n ih =>
    obtain ⟨unfloored, frame⟩ := classify_range s n (by omega)
    rw [List.range_succ, List.foldl_append]
    simp only [List.foldl_cons, List.foldl_nil]
    have before {j : Nat} {c : Bus} (hc : busAt s j = some c) := ih (by omega) hc
    generalize (List.range n).foldl (fun s k => classify k s) s = t at unfloored frame before
    obtain ⟨d, hd⟩ : ∃ d, busAt s n = some d := ⟨_, List.getElem?_eq_getElem (by omega)⟩
    have own : busAt t n = some d := by
      rw [before hd, if_neg (Nat.lt_irrefl n)]
    by_cases hk : k = n
    · subst hk
      obtain rfl : d = b := Option.some.inj (hd.symm.trans hb)
      have rdu : t.rdu = s.rdu := by rw [frame]
      have cls : parkedClass t k d = parkedClass s k d := parkedClass_unfloored unfloored rdu (by rw [frame]) k rfl
      have floor : parkedFloor t (storageAt t k) d = parkedFloor s (storageAt s k) d := by
        unfold parkedFloor
        rw [rdu, storage_floor_classed (s := s) (n := k) (by rw [frame])]
      rw [busAt_classify own, if_pos (Nat.lt_succ_self k), cls, floor]
      rfl
    · have place : k < n + 1 ↔ k < n := by omega
      rw [busAt_classify_other own hk, before hb]
      simp only [place]

theorem completeStorage_frt (f : PassFacts) (s : State) :
    (completeStorage f s).frt = ((slots s).foldl (fun s k => classify k s) s).frt := by
  unfold completeStorage
  dsimp only
  split
  · simp
  · rfl

theorem busAt_completeStorage (f : PassFacts) {s : State} {k : Nat} {b : Bus} (hb : busAt s k = some b) :
    busAt (completeStorage f s) k = some (floored s k b) := by
  have inside : k < s.frt.buses.length := (List.getElem?_eq_some_iff.1 hb).1
  have classes := classify_range_buses s s.frt.buses.length (Nat.le_refl _) hb
  rw [if_pos inside] at classes
  rw [← classes]
  unfold busAt
  rw [completeStorage_frt]
  rfl

/-! ### The accumulator and the shortfall (R148, R152) -/

/-- A dispatch in force with what it has delivered since the last completion (R148). -/
def Dispatch.accrued (measured : Int) (pre : Nat) (d : Dispatch) : Dispatch :=
  { d with delivered := sat32 (d.delivered +
      (if d.dir = .up then d.baseline - measured else measured - d.baseline) * (pre + 1)) }

/-- A dispatch in force after a pass completion: what it has delivered, and a shortfall found (R152). -/
def Dispatch.counted (measured : Int) (pre : Nat) (found : Option (Nat × ShortCause)) (d : Dispatch) : Dispatch :=
  let hit := decide (found.map Prod.fst = some d.id)
  { d.accrued measured pre with shortfall := d.shortfall || hit, noticed := d.noticed || hit }

/-- What is told of a shortfall found: its notice, once for a dispatch (R152). -/
def tellShortfall (found : Option (Nat × ShortCause)) (active : Option Dispatch) (s : State) : State :=
  match found, active with
  | some (id, cause), some d => if d.id = id ∧ d.noticed = false then notice (.dispatchShortfall d.id cause d.power) s else s
  | _, _ => s

/-- The state with another ACTIVE record. -/
def withActive (active : Option Dispatch) (s : State) : State := modRsu (fun r => { r with active := active }) s

theorem notice_withActive (n : Notice) (a : Option Dispatch) (s : State) :
    notice n (withActive a s) = withActive a (notice n s) := queueOut_modRsu _ _ s

theorem accumulate_eq (s : State) : accumulate s =
    withActive (s.rsu.active.map (Dispatch.accrued (fleetMeasured s) s.tsm.settings.passPre)) s := by
  refine congrArg (fun f => withActive (s.rsu.active.map f) s) (funext fun d => ?_)
  unfold Dispatch.accrued
  cases d.dir <;> rfl

theorem takeShortfall_other {found : Option (Nat × ShortCause)} {s : State}
    (h : ∀ d, s.rsu.active = some d → found.map Prod.fst ≠ some d.id) : takeShortfall found s = s := by
  unfold takeShortfall
  split
  · next id cause d hd => exact if_neg fun he => h d hd (congrArg some he.symm)
  · rfl

theorem takeShortfall_hit {cause : ShortCause} {s : State} {d : Dispatch} (hd : s.rsu.active = some d) :
    takeShortfall (some (d.id, cause)) s =
      withActive (some { d with shortfall := true, noticed := true })
        (if d.noticed then s else notice (.dispatchShortfall d.id cause d.power) s) := by
  have marks : updActive (fun d => { d with shortfall := true, noticed := true }) s =
      withActive (some { d with shortfall := true, noticed := true }) s := by
    simp only [updActive, withActive, modRsu, hd, Option.map_some]
  unfold takeShortfall
  rw [hd]
  dsimp only
  rw [if_pos rfl, marks, notice_withActive]
  split <;> rfl

theorem counted_missed {m : Int} {pre : Nat} {found : Option (Nat × ShortCause)} {d : Dispatch}
    (h : found.map Prod.fst ≠ some d.id) : d.counted m pre found = d.accrued m pre := by
  simp [Dispatch.counted, Dispatch.accrued, h]

theorem counted_hit {m : Int} {pre : Nat} {cause : ShortCause} {d : Dispatch} :
    d.counted m pre (some (d.id, cause)) = { d.accrued m pre with shortfall := true, noticed := true } := by
  simp [Dispatch.counted]

theorem tellShortfall_missed {found : Option (Nat × ShortCause)} {s t : State}
    (h : ∀ d, s.rsu.active = some d → found.map Prod.fst ≠ some d.id) : tellShortfall found s.rsu.active t = t := by
  unfold tellShortfall
  split
  · next id cause d hd => exact if_neg fun he => h d hd (congrArg some he.1.symm)
  · rfl

/-- The ACTIVE record of a completion, with the notice of a shortfall found. -/
theorem takeShortfall_accumulate (found : Option (Nat × ShortCause)) (s : State) :
    takeShortfall found (accumulate s) =
      withActive (s.rsu.active.map (Dispatch.counted (fleetMeasured s) s.tsm.settings.passPre found))
        (tellShortfall found s.rsu.active s) := by
  rw [accumulate_eq]
  by_cases hit : ∃ d cause, s.rsu.active = some d ∧ found = some (d.id, cause)
  · obtain ⟨d, cause, hd, rfl⟩ := hit
    let a := d.accrued (fleetMeasured s) s.tsm.settings.passPre
    have active : s.rsu.active.map (Dispatch.accrued (fleetMeasured s) s.tsm.settings.passPre) = some a := by rw [hd]; rfl
    rw [active]
    refine (takeShortfall_hit (d := a) rfl).trans ?_
    rw [hd, Option.map_some, counted_hit]
    have tells : tellShortfall (some (d.id, cause)) (some d) s =
        if d.noticed then s else notice (.dispatchShortfall d.id cause d.power) s := by
      unfold tellShortfall
      simp only [true_and]
      cases d.noticed <;> rfl
    have keeps (n : Notice) : notice n (withActive (some a) s) = withActive (some a) (notice n s) := notice_withActive n _ s
    rw [tells, keeps]
    by_cases hn : d.noticed = true
    · rw [if_pos hn, if_pos (show a.noticed = true from hn)]
      rfl
    · rw [if_neg hn, if_neg (show ¬ a.noticed = true from hn)]
      rfl
  · have missed (d : Dispatch) (hd : s.rsu.active = some d) : found.map Prod.fst ≠ some d.id := by
      intro h
      obtain ⟨⟨id, cause⟩, hf, hid⟩ := Option.map_eq_some_iff.1 h
      exact hit ⟨d, cause, hd, hid ▸ hf⟩
    have same : s.rsu.active.map (Dispatch.counted (fleetMeasured s) s.tsm.settings.passPre found) =
        s.rsu.active.map (Dispatch.accrued (fleetMeasured s) s.tsm.settings.passPre) :=
      Option.map_congr fun d hd => counted_missed (missed d hd)
    rw [tellShortfall_missed missed, same]
    refine takeShortfall_other fun a ha => ?_
    obtain ⟨d, hd, rfl⟩ := Option.map_eq_some_iff.1 ha
    exact missed d hd

end Sys2Proof.Machine
end

section
/-! The capabilities, the sides and the CAPABILITY of a pass completion (07_grid_reserve.md R133 to R136), and STP's and RSU's
parts of it together. -/

namespace Sys2Proof.Machine

/-! ### The sides of the commitments (R135, R136) -/

/-- The side of a direction after the sides have been compared. -/
def sideAfter (s : State) (dir : Direction) (old : Option Side) : Option Side :=
  if s.rdu.clock.set = true ∧ s.rsu.slot.isSome = true then some (sideOf s (s.rsu.slot.getD 0) dir) else old

/-- The content of the CAPABILITY that a crossing queues. -/
def crossingMsg (s : State) : OutMsg :=
  ⟨103, .capability
    { slot := s.rsu.slot.getD 0, left := 30 - s.rdu.clock.minute % 30, upCap := s.rsu.upCap, downCap := s.rsu.downCap
      upCommit := commitmentIn s (s.rsu.slot.getD 0) .up, downCommit := commitmentIn s (s.rsu.slot.getD 0) .down
      active := s.rsu.active.map dispatchRef, armed := s.rsu.armed.map dispatchRef }⟩

theorem sideOf_congr {s t : State} (h1 : t.rsu.slots = s.rsu.slots) (h2 : t.rsu.upCap = s.rsu.upCap)
    (h3 : t.rsu.downCap = s.rsu.downCap) (slot : Nat) (dir : Direction) :
    commitmentIn t slot dir = commitmentIn s slot dir ∧ sideOf t slot dir = sideOf s slot dir := by
  have commits : commitmentIn t slot dir = commitmentIn s slot dir := by
    unfold commitmentIn
    rw [h1]
  have caps : capabilityIn t dir = capabilityIn s dir := by
    unfold capabilityIn
    rw [h2, h3]
  refine ⟨commits, ?_⟩
  unfold sideOf
  rw [commits, caps]

theorem sides_closed {s : State} (h : ¬ (s.rdu.clock.set = true ∧ s.rsu.slot.isSome = true)) :
    s.rdu.clock.set = false ∨ s.rsu.slot = none := by
  rwa [not_and_or, Bool.not_eq_true, Bool.not_eq_true, Option.isSome_eq_false_iff, Option.isNone_iff_eq_none] at h

/-- The sides after they have been compared. -/
theorem compareSides_sides (s : State) : (compareSides s).rsu = { s.rsu with
    upSide := sideAfter s .up s.rsu.upSide, downSide := sideAfter s .down s.rsu.downSide } := by
  obtain ⟨closed, opened⟩ := compareSides_does s
  unfold sideAfter
  by_cases h : s.rdu.clock.set = true ∧ s.rsu.slot.isSome = true
  · obtain ⟨slot, hslot⟩ := Option.isSome_iff_exists.1 h.2
    rw [if_pos h, if_pos h, opened slot h.1 hslot, hslot, Option.getD_some]
    split
    · next same => rw [← same.1, ← same.2]
    · simp [queueCapability, recordSides]
  · rw [if_neg h, if_neg h, closed (sides_closed h)]

/-- What is told when the sides have been compared: one CAPABILITY where a side is another than before. -/
theorem compareSides_told (s : State) :
    let t := compareSides s
    let told := if t.rsu.upSide = s.rsu.upSide ∧ t.rsu.downSide = s.rsu.downSide then s else queueOut (crossingMsg t) s
    t.sli = told.sli ∧ t.tsm = told.tsm := by
  intro t told
  obtain ⟨closed, opened⟩ := compareSides_does s
  have sides := compareSides_sides s
  have up : t.rsu.upSide = sideAfter s .up s.rsu.upSide := congrArg Rsu.upSide sides
  have down : t.rsu.downSide = sideAfter s .down s.rsu.downSide := congrArg Rsu.downSide sides
  by_cases h : s.rdu.clock.set = true ∧ s.rsu.slot.isSome = true
  · obtain ⟨slot, hslot⟩ := Option.isSome_iff_exists.1 h.2
    have eq := opened slot h.1 hslot
    rw [sideAfter, if_pos h, hslot, Option.getD_some] at up down
    by_cases same : s.rsu.upSide = some (sideOf s slot .up) ∧ s.rsu.downSide = some (sideOf s slot .down)
    · have stays : told = s := if_pos ⟨up.trans same.1.symm, down.trans same.2.symm⟩
      rw [stays, show t = s from eq.trans (if_pos same)]
      exact ⟨rfl, rfl⟩
    · have crosses : told = queueOut (crossingMsg t) s :=
        if_neg fun hs => same ⟨hs.1.symm.trans up, hs.2.symm.trans down⟩
      have msg : crossingMsg t = ⟨aggregatorStation, .capability
          { slot := slot, left := slotLeft s, upCap := s.rsu.upCap, downCap := s.rsu.downCap
            upCommit := commitmentIn s slot .up, downCommit := commitmentIn s slot .down
            active := s.rsu.active.map dispatchRef, armed := s.rsu.armed.map dispatchRef }⟩ := by
        have rsu : t.rsu.slots = s.rsu.slots ∧ t.rsu.upCap = s.rsu.upCap ∧ t.rsu.downCap = s.rsu.downCap ∧
            t.rsu.slot = some slot ∧ t.rsu.active = s.rsu.active ∧ t.rsu.armed = s.rsu.armed := by
          simp [t, hslot]
        obtain ⟨slots, upCap, downCap, slot_eq, active, armed⟩ := rsu
        have clock : t.rdu = s.rdu := by simp [t]
        have left : slotLeft s = 30 - s.rdu.clock.minute % 30 := if_pos h.1
        unfold crossingMsg
        rw [slot_eq, upCap, downCap, active, armed, clock, Option.getD_some, (sideOf_congr slots upCap downCap slot .up).1,
          (sideOf_congr slots upCap downCap slot .down).1, left]
        rfl
      rw [crosses, msg, show t = queueCapability slot (recordSides slot s) from eq.trans (if_neg same)]
      exact queueOut_same _ rfl rfl rfl
  · have same : t = s := closed (sides_closed h)
    have stays : told = s := if_pos (by rw [same]; exact ⟨rfl, rfl⟩)
    rw [stays, same]
    exact ⟨rfl, rfl⟩

/-! ### RSU's part of a completion (R155) -/

theorem unsent_tellShortfall (found : Option (Nat × ShortCause)) (active : Option Dispatch) (s : State) :
    unsent (tellShortfall found active s) = unsent s := by
  unfold tellShortfall
  split
  · split
    · exact unsent_notice _ s
    · rfl
  · rfl

theorem tellShortfall_same {s t : State} (found : Option (Nat × ShortCause)) (active : Option Dispatch) (h1 : s.sli = t.sli)
    (h2 : s.tsm = t.tsm) (h3 : s.rdu.clock = t.rdu.clock) :
    (tellShortfall found active s).sli = (tellShortfall found active t).sli ∧
      (tellShortfall found active s).tsm = (tellShortfall found active t).tsm := by
  unfold tellShortfall
  split
  · split
    · exact notice_same _ h1 h2 h3
    · exact ⟨h1, h2⟩
  · exact ⟨h1, h2⟩

theorem completeReserve_rsu (f : PassFacts) (found : Option (Nat × ShortCause)) (s : State) :
    let u := completeReserve f found s
    u.rsu = { s.rsu with
      upCap := upCapability u f, downCap := downCapability u f
      upSide := sideAfter u .up s.rsu.upSide, downSide := sideAfter u .down s.rsu.downSide
      active := s.rsu.active.map (Dispatch.counted (fleetMeasured s) s.tsm.settings.passPre found) } := by
  intro u
  let a := takeShortfall found (accumulate s)
  let b := modRsu (fun r => { r with upCap := upCapability a f, downCap := downCapability a f }) a
  have ub : u = compareSides b := rfl
  have rsu_a : a.rsu = { s.rsu with
      active := s.rsu.active.map (Dispatch.counted (fleetMeasured s) s.tsm.settings.passPre found) } := by
    have same := (unsent_frame (unsent_tellShortfall found s.rsu.active s)).2.2.2.2.2.1
    simp only [a, takeShortfall_accumulate, withActive, modRsu_rsu, same]
  have up : upCapability u f = upCapability a f := upCapability_same f (by simp [ub, b]) (by simp [ub, b]) (by simp [ub, b])
    (by simp [ub, b]) (by simp [ub, b])
  have down : downCapability u f = downCapability a f := downCapability_same f (by simp [ub, b]) (by simp [ub, b])
    (by simp [ub, b]) (by simp [ub, b]) (by simp [ub, b]) (by simp [ub, b])
  have sides (dir : Direction) (old : Option Side) : sideAfter u dir old = sideAfter b dir old := by
    have clock : u.rdu = b.rdu := by simp [ub]
    have slot : u.rsu.slot = b.rsu.slot := by simp [ub]
    unfold sideAfter
    rw [clock, slot, (sideOf_congr (s := b) (by simp [ub]) (by simp [ub]) (by simp [ub]) _ dir).2]
  have parts := compareSides_sides b
  rw [sides, sides, up, down, ub, parts]
  simp only [b, modRsu_rsu, rsu_a]

/-- What RSU's part of a completion tells: a shortfall, then a crossing. -/
theorem completeReserve_told (f : PassFacts) (found : Option (Nat × ShortCause)) (s : State) :
    let u := completeReserve f found s
    let short := tellShortfall found s.rsu.active s
    let told := if u.rsu.upSide = s.rsu.upSide ∧ u.rsu.downSide = s.rsu.downSide then short
      else queueOut (crossingMsg u) short
    u.sli = told.sli ∧ u.tsm = told.tsm := by
  intro u short told
  let a := takeShortfall found (accumulate s)
  let b := modRsu (fun r => { r with upCap := upCapability a f, downCap := downCapability a f }) a
  have ub : u = compareSides b := rfl
  have a_eq : a = withActive _ short := takeShortfall_accumulate found s
  have sli : b.sli = short.sli := (congrArg State.sli a_eq :)
  have tsm : b.tsm = short.tsm := (congrArg State.tsm a_eq :)
  have clock : b.rdu.clock = short.rdu.clock := (congrArg (fun v : State => v.rdu.clock) a_eq :)
  have same := (unsent_frame (unsent_tellShortfall found s.rsu.active s)).2.2.2.2.2.1
  have up : b.rsu.upSide = s.rsu.upSide := (congrArg (fun v : State => v.rsu.upSide) a_eq :).trans (congrArg Rsu.upSide same :)
  have down : b.rsu.downSide = s.rsu.downSide :=
    (congrArg (fun v : State => v.rsu.downSide) a_eq :).trans (congrArg Rsu.downSide same :)
  obtain ⟨tsli, ttsm⟩ := compareSides_told b
  rw [← ub, up, down] at tsli ttsm
  have branch : (if u.rsu.upSide = s.rsu.upSide ∧ u.rsu.downSide = s.rsu.downSide then b
      else queueOut (crossingMsg u) b).sli = told.sli ∧
      (if u.rsu.upSide = s.rsu.upSide ∧ u.rsu.downSide = s.rsu.downSide then b
      else queueOut (crossingMsg u) b).tsm = told.tsm := by
    dsimp only [told]
    split
    · exact ⟨sli, tsm⟩
    · exact queueOut_same _ sli tsm clock
  exact ⟨tsli.trans branch.1, ttsm.trans branch.2⟩

/-! ### STP's and RSU's part together (R109 steps 5 and 6) -/

/-- What a completion tells from RDU's fields on: the STORAGE left due, a shortfall, a crossing. `u` is the state it leaves. -/
def toldAtEnd (found : Option (Nat × ShortCause)) (w u : State) : State :=
  let stored := if w.stp.viewDue then queueOut ⟨103, .storage ⟨w.stp.season, w.stp.band, u.stp.view⟩⟩ w else w
  let short := tellShortfall found w.rsu.active stored
  if u.rsu.upSide = w.rsu.upSide ∧ u.rsu.downSide = w.rsu.downSide then short else queueOut (crossingMsg u) short

/-- What STP's and RSU's part of a completion writes over a state `w`. -/
structure Closed (f : PassFacts) (found : Option (Nat × ShortCause)) (w u : State) : Prop where
  buses : ∀ k b, busAt w k = some b → busAt u k = some (floored w k b)
  count : u.frt.buses.length = w.frt.buses.length
  bare : u.frt.buses.map Bus.unfloored = w.frt.buses.map Bus.unfloored
  frt : u.frt.posts = w.frt.posts ∧ u.frt.plugQ = w.frt.plugQ ∧ u.frt.tagMap = w.frt.tagMap
  others : u.ylc = w.ylc ∧ u.sbu = w.sbu ∧ u.rdu = w.rdu ∧ u.ale = w.ale ∧ u.freeCount = w.freeCount
  stp : u.stp = { w.stp with
    table := w.stp.table.mapIdx (fun k e => match busAt u k with
      | none => e
      | some b => { e with cls := parkedClass u k b })
    viewDue := false, view := some (viewOf u f) }
  rsu : u.rsu = { w.rsu with
    upCap := upCapability u f, downCap := downCapability u f
    upSide := sideAfter u .up w.rsu.upSide, downSide := sideAfter u .down w.rsu.downSide
    active := w.rsu.active.map (Dispatch.counted (fleetMeasured w) w.tsm.settings.passPre found) }
  told : u.sli = (toldAtEnd found w u).sli ∧ u.tsm = (toldAtEnd found w u).tsm

theorem fleetMeasured_same {s t : State} (h1 : t.frt.posts = s.frt.posts) (h2 : t.ylc = s.ylc) :
    fleetMeasured t = fleetMeasured s := by
  have posts : postAt t = postAt s := funext fun p => by rw [postAt, h1]; rfl
  have cabs : cabAt t = cabAt s := funext fun c => cabAt_of_ylc h2 c
  unfold fleetMeasured
  rw [posts, cabs]

theorem completeStorage_stp (f : PassFacts) (s : State) :
    let t := completeStorage f s
    t.stp = { s.stp with
      table := s.stp.table.mapIdx (fun k e => match busAt t k with
        | none => e
        | some b => { e with cls := parkedClass t k b })
      viewDue := false, view := some (viewOf t f) } := by
  intro t
  have stp := congrArg State.stp (completeStorage_does f s).2
  split at stp
  · exact stp.trans (congrArg State.stp (unsent_queueOut _ _) :)
  · exact stp

theorem completeStorage_told (f : PassFacts) (s : State) :
    let t := completeStorage f s
    let stored := if s.stp.viewDue then queueOut ⟨103, .storage ⟨s.stp.season, s.stp.band, t.stp.view⟩⟩ s else s
    t.sli = stored.sli ∧ t.tsm = stored.tsm := by
  intro t stored
  have stp := completeStorage_stp f s
  have season : t.stp.season = s.stp.season := (congrArg Stp.season stp :)
  have band : t.stp.band = s.stp.band := (congrArg Stp.band stp :)
  cases h : s.stp.viewDue
  · have plain : stored = s := if_neg (ne_of_eq_of_ne h Bool.false_ne_true)
    rw [plain]
    exact completeStorage_undue s f h
  · have told := completeStorage_due s f h
    have queues : stored = _ := if_pos h
    rw [queues, ← season, ← band]
    exact told

theorem completion_closed (f : PassFacts) (found : Option (Nat × ShortCause)) (w : State) :
    Closed f found w (completeReserve f found (completeStorage f w)) := by
  let c := completeStorage f w
  let u := completeReserve f found c
  show Closed f found w u
  have frt : u.frt = c.frt := by simp [u]
  have ylc : u.ylc = c.ylc := by simp [u]
  have rdu : u.rdu = c.rdu := by simp [u]
  have ale : u.ale = c.ale := by simp [u]
  have stp : u.stp = c.stp := by simp [u]
  have settings : u.tsm.settings = c.tsm.settings := by simp [u]
  have c_rsu : c.rsu = w.rsu := by simp [c]
  have bus (k : Nat) : busAt u k = busAt c k := by rw [busAt, frt]; rfl
  have posts : c.frt.posts = w.frt.posts := by simp [c]
  have bare : u.frt.buses.map Bus.unfloored = w.frt.buses.map Bus.unfloored := by
    rw [frt]
    exact (completeStorage_does f w).1
  have view : viewOf u f = viewOf c f := viewOf_same f frt ylc (by rw [ale]) (by rw [stp]) settings (by rw [rdu])
  have cls (k : Nat) (b : Bus) : parkedClass u k b = parkedClass c k b :=
    parkedClass_unfloored (by rw [frt]) rdu (by rw [stp]) k rfl
  have rsu : u.rsu = _ := completeReserve_rsu f found c
  refine ⟨fun k b hb => (bus k).trans (busAt_completeStorage f hb), ?_, bare, ?_, ?_, ?_, ?_, ?_⟩
  · simpa using congrArg List.length bare
  · rw [frt]
    simp [c]
  · simp [u, c]
  · rw [stp, view]
    simp only [bus, cls]
    exact completeStorage_stp f w
  · rw [rsu, c_rsu, fleetMeasured_same posts (by simp [c]), show c.tsm.settings = w.tsm.settings by simp [c]]
  · obtain ⟨csli, ctsm⟩ := completeStorage_told f w
    obtain ⟨usli, utsm⟩ := completeReserve_told f found c
    let stored := if w.stp.viewDue then queueOut ⟨103, .storage ⟨w.stp.season, w.stp.band, u.stp.view⟩⟩ w else w
    have stored_eq : stored = if w.stp.viewDue then queueOut ⟨103, .storage ⟨w.stp.season, w.stp.band, c.stp.view⟩⟩ w else w := by
      rw [← stp]
    have clock : c.rdu.clock = stored.rdu.clock := by
      have same : unsent stored = unsent w := by
        dsimp only [stored]
        split
        · exact unsent_queueOut _ w
        · rfl
      rw [(unsent_frame same).2.2.2.1]
      simp [c]
    obtain ⟨ssli, stsm⟩ := tellShortfall_same found w.rsu.active (csli.trans (by rw [stored_eq])) (ctsm.trans (by rw [stored_eq])) clock
    have sclock : (tellShortfall found w.rsu.active c).rdu.clock = (tellShortfall found w.rsu.active stored).rdu.clock := by
      rw [(unsent_frame (unsent_tellShortfall found w.rsu.active c)).2.2.2.1,
        (unsent_frame (unsent_tellShortfall found w.rsu.active stored)).2.2.2.1, clock]
    rw [c_rsu] at usli utsm
    refine ⟨usli.trans ?_, utsm.trans ?_⟩
    · unfold toldAtEnd
      dsimp only
      split
      · exact ssli
      · exact (queueOut_same _ ssli stsm sclock).1
    · unfold toldAtEnd
      dsimp only
      split
      · exact stsm
      · exact (queueOut_same _ ssli stsm sclock).2

end Sys2Proof.Machine
end

section
/-! RDU's part of a pass completion (05_route_readiness.md R86 to R89, R95 to R97): the review of a leg, the readiness fields of a
bus, the largest floor, and the content of a READINESS. -/

namespace Sys2Proof.Machine

/-! ### The review of a leg (R86) -/

theorem bus_of_fleetNo (s : State) (n : Nat) :
    (slotOf s n).bind (busAt s) = s.frt.buses.find? (fun b => b.fleetNo = n) :=
  List.find?_eq_bind_findIdx?_getElem?.symm

theorem unassignedReason_none {s : State} {l : Leg} (h : l.effective = none) : unassignedReason s l = some .noBus := by
  unfold unassignedReason
  rw [h]

theorem unassignedReason_some {s : State} {l : Leg} {n : Nat} (h : l.effective = some n) :
    unassignedReason s l = match s.frt.buses.find? (fun b => b.fleetNo = n) with
      | none => some .notInFleet
      | some b => if b.state = .withdrawn then some .withdrawn else none := by
  unfold unassignedReason
  rw [h]
  dsimp only
  rw [bus_of_fleetNo] <;> rfl

section
variable {s : State} {l m : Leg} (hm : reportedLeg s l = some m)
include hm

theorem reviewLeg_assigned (h : unassignedReason s m = none) :
    reviewLeg l s = updLeg l.row.legNo (fun l => { l with unassigned := false }) s := by
  unfold reviewLeg
  rw [hm]
  dsimp only
  rw [h]

theorem reviewLeg_marked {why : UnassignedReason} (h : unassignedReason s m = some why) (hl : l.unassigned = true) :
    reviewLeg l s = s := by
  unfold reviewLeg
  rw [hm]
  dsimp only
  rw [h]
  exact if_pos hl

theorem reviewLeg_unmarked {why : UnassignedReason} (h : unassignedReason s m = some why) (hl : l.unassigned = false) :
    reviewLeg l s = notice (.legUnassigned l.row.legNo m.effective why)
      (updLeg l.row.legNo (fun l => { l with unassigned := true }) s) := by
  unfold reviewLeg
  rw [hm]
  dsimp only
  rw [h]
  exact if_neg (ne_of_eq_of_ne hl Bool.false_ne_true)

end

theorem reviewLeg_out {s : State} {l : Leg} (h : reportedLeg s l = none) : reviewLeg l s = s := by
  unfold reviewLeg
  rw [h]

theorem openToday_iff (s : State) (l : Leg) : openToday s l = true ↔
    l.outcome = .pending ∧ s.rdu.clock.minute < l.row.departure + s.tsm.settings.grace := by
  unfold openToday Leg.close
  rw [Bool.and_eq_true, decide_eq_true_iff, decide_eq_true_iff]

theorem withinTomorrow_iff (s : State) (l : Leg) : withinTomorrow s l = true ↔
    l.row.runs ((s.rdu.clock.weekday + 1) % 7) s.stp.season = true ∧ l.row.departure ≤ s.rdu.clock.minute := by
  unfold withinTomorrow
  rw [Bool.and_eq_true, decide_eq_true_iff]

/-- The leg looked at: today's with its substitute, tomorrow's without. -/
theorem reportedLeg_some {s : State} {l : Leg} (h : openToday s l = true ∨ withinTomorrow s l = true) :
    reportedLeg s l = some { l with substitute := if openToday s l then l.substitute else none } := by
  unfold reportedLeg Leg.tomorrow
  cases ho : openToday s l
  · rw [if_pos (h.resolve_left (ne_of_eq_of_ne ho Bool.false_ne_true))]
    rfl
  · rfl

theorem reportedLeg_none {s : State} {l : Leg} (h1 : ¬ openToday s l = true) (h2 : ¬ withinTomorrow s l = true) :
    reportedLeg s l = none := (if_neg h1).trans (if_neg h2)

/-! ### The readiness fields of a bus (R88, R89, R95, R96) -/

theorem writeReadiness_eq {s : State} {k : Nat} {b : Bus} (hb : busAt s k = some b) :
    let next := findNextLeg s k
    let floor := (next.map (fun n => min (legFloor s n.leg.row) b.capacity)).getD 0
    let v := verdictOf s b next floor
    let fields : Bus := { b with
      nextLeg := next.map (fun n => n.leg.row.legNo), nextDay := nextDayOf s next, floor := floor
      dischargeFloor := (next.map (fun _ => min 65535 (floor + s.tsm.settings.v2gMargin))).getD 0, verdict := v }
    let reviewed := reviewInfeasible b next s
    let written : State := { reviewed with frt := { s.frt with buses := s.frt.buses.set k fields } }
    writeReadiness k s = if v = b.verdict then written else queueReadiness k written := by
  intro next floor v fields reviewed written
  have inside : k < s.frt.buses.length := (List.getElem?_eq_some_iff.1 hb).1
  have frt : reviewed.frt = s.frt := by simp [reviewed]
  have kept : busAt reviewed k = some b := by
    rw [busAt, frt]
    exact hb
  have set_eq : updBus k (fun b => { b with
      nextLeg := next.map (fun n => n.leg.row.legNo), nextDay := nextDayOf s next, floor := floor
      dischargeFloor := (next.map (fun _ => min 65535 (floor + s.tsm.settings.v2gMargin))).getD 0, verdict := v }) reviewed =
      written := by
    rw [updBus_eq_set kept, frt]
  unfold writeReadiness
  rw [hb]
  dsimp only
  rw [set_eq]

/-! ### The largest floor (R89) -/

/-- A leg with the largest floor of a list, by R89's count. -/
def hasLargest (s : State) (ls : List Leg) (l : Leg) : Bool := ls.all (fun m => decide (legFloor s m.row ≤ legFloor s l.row))

theorem hasLargest_iff {s : State} {ls : List Leg} {l : Leg} :
    hasLargest s ls l = true ↔ ∀ m ∈ ls, legFloor s m.row ≤ legFloor s l.row := by
  simp [hasLargest]

theorem largestFloor_cons (s : State) (l : Leg) (ls : List Leg) : ∃ m, largestFloor s (l :: ls) = some m := by
  unfold largestFloor
  split
  · exact ⟨l, rfl⟩
  · split
    · exact ⟨l, rfl⟩
    · exact ⟨_, rfl⟩

/-- The leg of R89 is the first whose floor no other exceeds. -/
theorem largestFloor_eq (s : State) (ls : List Leg) : largestFloor s ls = ls.find? (hasLargest s ls) := by
  induction ls with
  | nil => rfl
  | cons l ls ih =>
    cases hm : largestFloor s ls with
    | none =>
      cases ls with
      | nil =>
        have own : hasLargest s [l] l = true := hasLargest_iff.2 fun m h => by rw [List.mem_singleton.1 h]
        rw [List.find?_cons_of_pos own]
        rfl
      | cons l' ls' =>
        obtain ⟨m, hs⟩ := largestFloor_cons s l' ls'
        exact nomatch hs.symm.trans hm
    | some m =>
      have found : ls.find? (hasLargest s ls) = some m := ih.symm.trans hm
      have top := hasLargest_iff.1 (List.find?_some found)
      have member := List.mem_of_find?_eq_some found
      have step : largestFloor s (l :: ls) = if legFloor s m.row ≤ legFloor s l.row then some l else some m := by
        rw [largestFloor, hm]
      rw [step]
      split
      · next h =>
        have own : hasLargest s (l :: ls) l = true := hasLargest_iff.2 fun x hx => by
          rcases List.mem_cons.1 hx with rfl | hx
          · exact Nat.le_refl _
          · exact Nat.le_trans (top x hx) h
        rw [List.find?_cons_of_pos own]
      · next h =>
        have below : legFloor s l.row < legFloor s m.row := Nat.not_le.1 h
        have other : ¬ hasLargest s (l :: ls) l = true := fun ho => h (hasLargest_iff.1 ho m (List.mem_cons_of_mem l member))
        have same : ∀ x ∈ ls, hasLargest s (l :: ls) x = hasLargest s ls x := fun x _ => by
          rw [Bool.eq_iff_iff, hasLargest_iff, hasLargest_iff]
          refine ⟨fun hx y hy => hx y (List.mem_cons_of_mem l hy), fun hx y hy => ?_⟩
          rcases List.mem_cons.1 hy with rfl | hy
          · exact Nat.le_trans (Nat.le_of_lt below) (hx m member)
          · exact hx y hy
        rw [List.find?_cons_of_neg other, ← found]
        exact (List.find?_congr same).symm

/-- The next leg while the clock is NOT_SET (R89): the first of the bus's legs with the largest floor. -/
theorem findNextLeg_unset {s : State} (h : s.rdu.clock.set = false) (k : Nat) : findNextLeg s k =
    (s.rdu.legs.find? (fun l => decide (legSlot s l = some k) && s.rdu.legs.all (fun m =>
      decide (legSlot s m ≠ some k) || decide (legFloor s m.row ≤ legFloor s l.row)))).map (fun l => ⟨l, 120, false⟩) := by
  unfold findNextLeg
  rw [if_neg (ne_of_eq_of_ne h Bool.false_ne_true), largestFloor_eq, List.find?_filter]
  refine congrArg (Option.map _) (List.find?_congr fun l _ => ?_)
  rw [Bool.eq_iff_iff]
  simp [hasLargest]

theorem findNextLeg_isSome {s : State} {k : Nat} {l : Leg} (h : s.rdu.clock.set = false) (hl : l ∈ s.rdu.legs)
    (hs : legSlot s l = some k) : ∃ n, findNextLeg s k = some n := by
  have member : l ∈ s.rdu.legs.filter (fun l => legSlot s l == some k) := List.mem_filter.2 ⟨hl, by rw [hs]; exact beq_self_eq_true _⟩
  unfold findNextLeg
  rw [if_neg (ne_of_eq_of_ne h Bool.false_ne_true)]
  generalize s.rdu.legs.filter (fun l => legSlot s l == some k) = own at member
  cases own with
  | nil => exact nomatch member
  | cons a ls =>
    obtain ⟨m, hm⟩ := largestFloor_cons s a ls
    exact ⟨_, by rw [hm]; rfl⟩

/-! ### A READINESS (R97) -/

theorem queueReadiness_eq {s : State} {k : Nat} {b : Bus} (hb : busAt s k = some b) :
    queueReadiness k s = queueOut ⟨102, .readiness (readinessOf s k b)⟩ s := by
  unfold queueReadiness
  rw [hb]
  rfl

end Sys2Proof.Machine
end

section
/-! The writes of a pass completion in their order (06_the_allocation_pass.md R109, R126, R130) (O55). -/

namespace Sys2Proof.Machine

/-! ### Grants, tiers and the ring (R109 steps 1 and 2, R130) -/

/-- A post's record after the grants of a completion. -/
def grantedPost (n : Snapshot) (r : AllocResult) (s : State) (p : Nat) (q : Post) : Post :=
  let flag := n.takes p && decide (0 < n.draw p)
  if writable s p then { q with grant := pairValue r.grants p 0, prevGrant := pairValue r.grants p 0, precond := flag }
  else { q with grant := 0, precond := flag }

/-- A bus with the tier of its post. -/
def Bus.tiered (tierOf : Nat → Tier) (b : Bus) : Bus :=
  { b with tier := match b.post with
    | none => .idle
    | some p => tierOf p }

/-- The ring and the turn count after a completion (R130). -/
def turnedRing (n : Snapshot) (r : AllocResult) (new : Nat → Tier) (s : State) : List Nat × Nat :=
  let ring := ringAfter (fun p => s.ale.tiers.getD (p - 4) .idle) new r.topUp r.store s.ale.ring
  if r.cut then
    if s.tsm.settings.turn + 1 ≤ s.ale.turn + 1 then (turnRing (stillServed n r s) ring, 0) else (ring, s.ale.turn + 1)
  else (ring, 0)

/-- The state with the grants, the tiers and the ring of a completion: what RDU, STP and RSU then take over. -/
def allotted (n : Snapshot) (s : State) : State :=
  let r := allocate n
  let new := newTier r s
  { s with
    frt := { s.frt with
      posts := s.frt.posts.mapIdx (fun i q => grantedPost n r s (i + 4) q), buses := s.frt.buses.map (Bus.tiered new) }
    ale := { s.ale with
      tiers := postNos.map new, ring := (turnedRing n r new s).1, turn := (turnedRing n r new s).2 } }

/-- The shortfall that a pass has found for the dispatch of its snapshot (R152). -/
def foundBy (n : Snapshot) : Option (Nat × ShortCause) :=
  n.dispatch.bind (fun d => (allocate n).shortfall.map (fun cause => (d.id, cause)))

theorem completeWrites_eq (n : Snapshot) (s : State) :
    completeWrites n s = writeOverLimit (allocate n) (completeReserve (factsOf n) (foundBy n)
      (completeStorage (factsOf n) (completeReadiness (allotted n s)))) := by
  let r := allocate n
  have rings : writeRing (fun p => s.ale.tiers.getD (p - 4) .idle) (newTier r s) n r (writeTiers (newTier r s) (writeGrants n r s)) =
      allotted n s := by
    unfold writeRing allotted turnedRing
    dsimp only
    by_cases hc : r.cut = true
    · rw [if_pos hc, if_pos hc]
      by_cases ht : s.tsm.settings.turn + 1 ≤ s.ale.turn + 1
      · have ht' : (writeTiers (newTier r s) (writeGrants n r s)).tsm.settings.turn + 1 ≤
            (writeTiers (newTier r s) (writeGrants n r s)).ale.turn + 1 := ht
        rw [if_pos ht, if_pos ht']
        rfl
      · have ht' : ¬ (writeTiers (newTier r s) (writeGrants n r s)).tsm.settings.turn + 1 ≤
            (writeTiers (newTier r s) (writeGrants n r s)).ale.turn + 1 := ht
        rw [if_neg ht, if_neg ht']
        rfl
    · rw [if_neg hc, if_neg hc]
      rfl
  unfold completeWrites foundBy
  dsimp only
  rw [rings]
  cases n.dispatch <;> cases (allocate n).shortfall <;> rfl

/-! ### The over-limit marker (R126) -/

theorem writeOverLimit_frame (r : AllocResult) (s : State) :
    unsent (writeOverLimit r s) = unsent { s with ale := { s.ale with overLimit := r.overLimit.isSome } } := by
  unfold writeOverLimit
  cases h : r.overLimit with
  | none => rfl
  | some x =>
    dsimp only
    by_cases hm : s.ale.overLimit = true
    · have stands : ({ s.ale with overLimit := true } : Ale) = s.ale := by rw [← hm]
      rw [if_pos hm, Option.isSome_some, stands]
    · rw [if_neg hm]
      exact unsent_notice _ _

theorem writeOverLimit_told (r : AllocResult) (s : State) :
    let told := match r.overLimit with
      | none => s
      | some (f, p) => if s.ale.overLimit then s else notice (.overLimit f p) s
    (writeOverLimit r s).sli = told.sli ∧ (writeOverLimit r s).tsm = told.tsm := by
  unfold writeOverLimit
  cases h : r.overLimit with
  | none => exact ⟨rfl, rfl⟩
  | some x =>
    dsimp only
    split
    · exact ⟨rfl, rfl⟩
    · exact notice_same _ rfl rfl rfl

/-- A completion of the running pass (R108, R109). -/
theorem passCompleted_runs {n : Snapshot} {s : State} (hr : s.ale.pass = .running) (hn : s.ale.snap = some n) :
    passCompleted s = boundary (endPass (completeWrites n s)) := by
  unfold passCompleted
  rw [hn]
  exact if_pos hr

/-! ### The records after a completion -/

theorem Bus.eq_of_bare {b c : Bus} (h : b.bare = c.bare) : b = { c with
    nextLeg := b.nextLeg, nextDay := b.nextDay, floor := b.floor, dischargeFloor := b.dischargeFloor, verdict := b.verdict } := by
  cases b
  cases c
  simpa [Bus.bare] using h

theorem Bus.bare_of_unfloored {b c : Bus} (h : b.unfloored = c.unfloored) : b.bare = c.bare :=
  (congrArg Bus.bare h :)

theorem fleetMeasured_congr {s t : State} (h1 : t.frt.posts.map Post.report = s.frt.posts.map Post.report)
    (h2 : t.ylc = s.ylc) : fleetMeasured t = fleetMeasured s := by
  have read (u : State) (p : Nat) : measuredOf (postAt u p) =
      (((u.frt.posts.map Post.report).getD (p - 4) none).map Report.measured).getD 0 := by
    unfold measuredOf postAt
    rw [List.getD_eq_getElem?_getD, List.getD_eq_getElem?_getD, List.getElem?_map]
    cases u.frt.posts[p - 4]? <;> rfl
  have cabs : cabAt t = cabAt s := funext fun c => cabAt_of_ylc h2 c
  simp only [fleetMeasured, read, h1, cabs]

theorem grantedPost_report (n : Snapshot) (r : AllocResult) (s : State) (p : Nat) (q : Post) :
    (grantedPost n r s p q).report = q.report := by
  unfold grantedPost
  dsimp only
  split <;> rfl

theorem reports_allotted (n : Snapshot) (s : State) :
    (allotted n s).frt.posts.map Post.report = s.frt.posts.map Post.report := by
  refine List.ext_getElem? fun i => ?_
  simp only [allotted, List.getElem?_map, List.getElem?_mapIdx]
  cases s.frt.posts[i]? with
  | none => rfl
  | some q => exact congrArg some (grantedPost_report n _ s _ q)

theorem postAt_allotted {n : Snapshot} {s : State} {p : Nat} (hlen : s.frt.posts.length = 64) (h4 : 4 ≤ p) (h67 : p ≤ 67) :
    (allotted n s).frt.posts.getD (p - 4) Post.initial = grantedPost n (allocate n) s p (postAt s p) := by
  have place : p - 4 < s.frt.posts.length := by omega
  have number : p - 4 + 4 = p := by omega
  simp only [allotted]
  rw [List.getD_eq_getElem?_getD, List.getElem?_mapIdx, List.getElem?_eq_getElem place, postAt, List.getD_eq_getElem _ _ place,
    number]
  rfl

/-- The state that a pass completion leaves before its boundary. -/
def completed (n : Snapshot) (s : State) : State := endPass (completeWrites n s)

/-- The state that RDU's part of a pass completion leaves. -/
def reviewed (n : Snapshot) (s : State) : State := completeReadiness (allotted n s)

/-- The state that RSU's part of a pass completion leaves. -/
def reserved (n : Snapshot) (s : State) : State :=
  completeReserve (factsOf n) (foundBy n) (completeStorage (factsOf n) (reviewed n s))

section
variable (n : Snapshot) (s : State)

theorem reserved_closed : Closed (factsOf n) (foundBy n) (reviewed n s) (reserved n s) := completion_closed _ _ _

theorem reviewed_keeps :
    let w := reviewed n s
    w.frt.posts = (allotted n s).frt.posts ∧ w.frt.plugQ = s.frt.plugQ ∧ w.frt.tagMap = s.frt.tagMap ∧ w.ylc = s.ylc ∧
      w.sbu = s.sbu ∧ w.ale = (allotted n s).ale ∧ w.rsu = s.rsu ∧ w.stp = s.stp ∧ w.rdu = { s.rdu with legs := w.rdu.legs } ∧
      w.tsm = { s.tsm with outOverflow := w.tsm.outOverflow } ∧ w.freeCount = s.freeCount :=
  (completeReadiness_leaves (allotted n s)).2

theorem completed_frame :
    let u := completed n s
    let c := reserved n s
    u.ylc = c.ylc ∧ u.frt = c.frt ∧ u.sbu = c.sbu ∧ u.rdu = c.rdu ∧
      u.ale = { c.ale with pass := .idle, snap := none, overLimit := (allocate n).overLimit.isSome } ∧ u.rsu = c.rsu ∧
      u.stp = c.stp ∧ u.freeCount = c.freeCount := by
  have frame := unsent_frame (writeOverLimit_frame (allocate n) (reserved n s))
  rw [show writeOverLimit (allocate n) (reserved n s) = completeWrites n s from (completeWrites_eq n s).symm] at frame
  obtain ⟨ylc, frt, sbu, rdu, ale, rsu, stp, free⟩ := frame
  refine ⟨ylc, frt, sbu, rdu, ?_, rsu, stp, free⟩
  exact (congrArg (fun a : Ale => { a with pass := .idle, snap := none }) ale :)

theorem completed_settings : (completed n s).tsm.settings = (reserved n s).tsm.settings ∧
    (completed n s).tsm.op = (reserved n s).tsm.op := by
  unfold completed
  rw [completeWrites_eq]
  unfold writeOverLimit
  cases (allocate n).overLimit with
  | none => exact ⟨rfl, rfl⟩
  | some x =>
    dsimp only
    split
    · exact ⟨rfl, rfl⟩
    · constructor <;> simp [endPass, reserved, reviewed]

/-- What a completion has written reads the same before and after the over-limit marker. -/
theorem completed_reads (f : PassFacts) :
    let u := completed n s
    let c := reserved n s
    (∀ k, busAt u k = busAt c k) ∧ (∀ k b, parkedClass u k b = parkedClass c k b) ∧ viewOf u f = viewOf c f ∧
      upCapability u f = upCapability c f ∧ downCapability u f = downCapability c f ∧
      (∀ k dir, commitmentIn u k dir = commitmentIn c k dir ∧ sideOf u k dir = sideOf c k dir) := by
  obtain ⟨ylc, frt, sbu, rdu, ale, rsu, stp, -⟩ := completed_frame n s
  obtain ⟨settings, op⟩ := completed_settings n s
  have tiers : (completed n s).ale.tiers = (reserved n s).ale.tiers := (congrArg Ale.tiers ale :)
  have clock : (completed n s).rdu.clock = (reserved n s).rdu.clock := by rw [rdu]
  have table : (completed n s).stp.table = (reserved n s).stp.table := by rw [stp]
  refine ⟨fun k => by rw [busAt, frt]; rfl, fun k b => parkedClass_unfloored (by rw [frt]) rdu (by rw [stp]) k rfl,
    viewOf_same f frt ylc tiers table settings clock, upCapability_same f frt ylc tiers settings clock,
    downCapability_same f frt ylc sbu settings op table,
    fun k dir => sideOf_congr (by rw [rsu]) (by rw [rsu]) (by rw [rsu]) k dir⟩

end

/-- A bus keeps through a completion all but its tier and its readiness fields. -/
theorem completed_bus {n : Snapshot} {s : State} {k : Nat} {b : Bus} (hb : busAt s k = some b) :
    ∃ b', busAt (completed n s) k = some b' ∧ b'.bare = (b.tiered (newTier (allocate n) s)).bare := by
  have closed := reserved_closed n s
  have bare : (completed n s).frt.buses.map Bus.bare = (allotted n s).frt.buses.map Bus.bare := by
    have merge (l : List Bus) : l.map Bus.bare = (l.map Bus.unfloored).map Bus.bare := by
      rw [List.map_map]
      rfl
    rw [(completed_frame n s).2.1, merge, closed.bare, ← merge]
    exact (completeReadiness_leaves (allotted n s)).1
  have at_k := congrArg (fun l : List Bus => l[k]?) bare
  have hk : s.frt.buses[k]? = some b := hb
  simp only [List.getElem?_map, allotted, hk, Option.map_some] at at_k
  obtain ⟨b', hb', eq⟩ := Option.map_eq_some_iff.1 at_k
  exact ⟨b', hb', eq⟩

theorem turnedRing_eq (n : Snapshot) (s : State) :
    let r := allocate n
    let new := newTier r s
    let stay := s.ale.ring.filter (fun p => s.ale.tiers.getD (p - 4) .idle = new p)
    let joining := r.topUp.filter (fun p => new p = .topUp) ++ r.store.filter (fun p => new p = .store)
    let ring := stay ++ joining.filter (fun p => p ∉ stay)
    let moved := r.served.filter (fun p => p ∉ n.ring ∨ p ∈ s.ale.ring)
    let turned := r.cut = true ∧ s.tsm.settings.turn + 1 ≤ s.ale.turn + 1
    (turnedRing n r new s).1 =
        (if turned then ring.filter (fun p => p ∉ moved) ++ ring.filter (fun p => p ∈ moved) else ring) ∧
      (turnedRing n r new s).2 = if r.cut = true ∧ ¬ turned then s.ale.turn + 1 else 0 := by
  intro r new stay joining ring moved turned
  have rings : ringAfter (fun p => s.ale.tiers.getD (p - 4) .idle) new r.topUp r.store s.ale.ring = ring := by
    refine congrArg (stay ++ ·) (List.filter_congr fun p _ => ?_)
    simp [stay, new]
  have moves : stillServed n r s = moved := List.filter_congr fun p _ => by simp
  have turns : turnRing moved ring = ring.filter (fun p => p ∉ moved) ++ ring.filter (fun p => p ∈ moved) := by
    unfold turnRing
    refine congrArg₂ (· ++ ·) (List.filter_congr fun p _ => ?_) (List.filter_congr fun p _ => ?_) <;> simp
  have eq : turnedRing n r new s = if r.cut then
      if s.tsm.settings.turn + 1 ≤ s.ale.turn + 1 then (turnRing moved ring, 0) else (ring, s.ale.turn + 1)
      else (ring, 0) := by rw [← moves, ← rings]; rfl
  rw [eq]
  by_cases hc : r.cut = true
  · by_cases ht : s.tsm.settings.turn + 1 ≤ s.ale.turn + 1
    · rw [if_pos hc, if_pos ht, if_pos ⟨hc, ht⟩, if_neg fun h => h.2 ⟨hc, ht⟩]
      exact ⟨turns, rfl⟩
    · rw [if_pos hc, if_neg ht, if_neg fun h => ht h.2, if_pos ⟨hc, fun h => ht h.2⟩]
      exact ⟨rfl, rfl⟩
  · rw [if_neg hc, if_neg fun h => hc h.1, if_neg fun h => hc h.1]
    exact ⟨rfl, rfl⟩

theorem crossingMsg_congr {s t : State} (h1 : t.rsu = s.rsu) (h2 : t.rdu = s.rdu) : crossingMsg t = crossingMsg s := by
  have commits (slot : Nat) (dir : Direction) : commitmentIn t slot dir = commitmentIn s slot dir :=
    (sideOf_congr (by rw [h1]) (by rw [h1]) (by rw [h1]) slot dir).1
  unfold crossingMsg
  rw [h1, h2, commits, commits]

theorem clock_toldAtEnd (found : Option (Nat × ShortCause)) (w u : State) : (toldAtEnd found w u).rdu = w.rdu := by
  have sent (m : OutMsg) (s : State) : (queueOut m s).rdu = s.rdu := (unsent_frame (unsent_queueOut m s)).2.2.2.1
  have short (s : State) : (tellShortfall found w.rsu.active s).rdu = s.rdu :=
    (unsent_frame (unsent_tellShortfall found w.rsu.active s)).2.2.2.1
  unfold toldAtEnd
  dsimp only
  split
  · rw [short]
    split
    · exact sent _ w
    · rfl
  · rw [sent, short]
    split
    · exact sent _ w
    · rfl

/-- The telegrams of a completion. -/
theorem completed_told (n : Snapshot) (s : State) :
    let u := completed n s
    let crossed := toldAtEnd (foundBy n) (reviewed n s) u
    let told := match (allocate n).overLimit with
      | none => crossed
      | some (f, p) => if s.ale.overLimit then crossed else notice (.overLimit f p) crossed
    u.sli = told.sli ∧ u.tsm = told.tsm := by
  obtain ⟨-, -, -, rdu, -, rsu, stp, -⟩ := completed_frame n s
  have closed := reserved_closed n s
  obtain ⟨-, -, crdu, cale, -⟩ := closed.others
  have same : toldAtEnd (foundBy n) (reviewed n s) (completed n s) = toldAtEnd (foundBy n) (reviewed n s) (reserved n s) := by
    unfold toldAtEnd
    rw [stp, rsu, crossingMsg_congr rsu rdu]
  have marker : (reserved n s).ale.overLimit = s.ale.overLimit := by
    rw [cale]
    simp [reviewed, allotted]
  have clock : (reserved n s).rdu.clock = (toldAtEnd (foundBy n) (reviewed n s) (reserved n s)).rdu.clock := by
    rw [clock_toldAtEnd, crdu]
  obtain ⟨csli, ctsm⟩ := closed.told
  have mark := writeOverLimit_told (allocate n) (reserved n s)
  dsimp only
  rw [same]
  unfold completed
  rw [completeWrites_eq]
  rw [marker] at mark
  refine ⟨mark.1.trans ?_, mark.2.trans ?_⟩
  · cases (allocate n).overLimit with
    | none => exact csli
    | some x =>
      dsimp only
      split
      · exact csli
      · exact (notice_same _ csli ctsm clock).1
  · cases (allocate n).overLimit with
    | none => exact ctsm
    | some x =>
      dsimp only
      split
      · exact ctsm
      · exact (notice_same _ csli ctsm clock).2

theorem foundBy_hit (n : Snapshot) (d : Dispatch) : decide ((foundBy n).map Prod.fst = some d.id) =
    (decide (n.dispatch.map SnapDispatch.id = some d.id) && (allocate n).shortfall.isSome) := by
  unfold foundBy
  cases n.dispatch with
  | none => simp
  | some x => cases (allocate n).shortfall <;> simp

/-- The posts after a completion. -/
theorem postAt_completed {n : Snapshot} {s : State} {p : Nat} (hlen : s.frt.posts.length = 64) (h4 : 4 ≤ p) (h67 : p ≤ 67) :
    postAt (completed n s) p = grantedPost n (allocate n) s p (postAt s p) := by
  rw [← postAt_allotted hlen h4 h67, postAt, (completed_frame n s).2.1, (reserved_closed n s).frt.1,
    (reviewed_keeps n s).1]

/-- The discharge floor of a bus that has been classified (R161). -/
theorem floored_eq (s : State) (k : Nat) (b : Bus) : floored s k b = if parkedClass s k b = .notParked then b
    else { b with dischargeFloor := if (recordedLeg s.rdu.legs b).isSome then max (storageAt s k).floor b.dischargeFloor
      else (storageAt s k).floor } := by
  unfold floored parkedFloor
  cases recordedLeg s.rdu.legs b <;> rfl

/-! ### The capabilities (R133, R134) -/

theorem capabilityBound_eq {s : State} {f : PassFacts} {p : Nat} (h : eligible s f p = true) : capabilityBound s p =
    match (postAt s p).bus.bind (busAt s) with
    | none => 0
    | some b => min (deliverOf (postAt s p)) (min (postAt s p).rating
        (((b.heldOr0 - b.dischargeFloor) * 60 / slotLeft s : Nat) : Int)) := by
  unfold eligible at h
  rw [Bool.and_eq_true, Bool.and_eq_true, eligibleBarTemp_iff] at h
  obtain ⟨⟨-, -, -, -, ⟨k, b, hk, hb, -⟩, -⟩, -⟩ := h
  have bus : (postAt s p).bus.bind (busAt s) = some b := by rw [hk, Option.bind_some, hb]
  have surplus : surplusAt s p = b.heldOr0 - b.dischargeFloor := by
    unfold surplusAt
    rw [bus]
  unfold capabilityBound
  rw [surplus, bus]
  exact min_assoc _ _ _

theorem upCapability_eq {s : State} {f : PassFacts} (h : f.safe = false) : upCapability s f = min 32767
    (((f.taken.filter (fun p => s.ale.tiers.getD (p - 4) .idle ≠ .urgent)).map (fun p =>
        max 0 ((postAt s p).grant - f.draws.getD (p - 4) 0))).sum +
      ((postNos.filter (eligible s f)).map (fun p => match (postAt s p).bus.bind (busAt s) with
        | none => 0
        | some b => min (deliverOf (postAt s p)) (min (postAt s p).rating
            (((b.heldOr0 - b.dischargeFloor) * 60 / slotLeft s : Nat) : Int)))).sum) := by
  unfold upCapability
  rw [if_neg (ne_of_eq_of_ne h Bool.false_ne_true), List.map_congr_left fun p hp => capabilityBound_eq (List.mem_filter.1 hp).2]
  rfl

theorem hasRoom_eq (s : State) (p : Nat) : hasRoom s p = match (postAt s p).bus.bind (busAt s) with
    | none => false
    | some b => (postAt s p).state = .plugged && decide (b.heldOr0 <
        absorptionCeiling b (storageAt s ((postAt s p).bus.getD 0))) := by
  unfold hasRoom pluggedBus
  by_cases hs : (postAt s p).state = .plugged
  · cases hk : (postAt s p).bus with
    | none => simp [hs]
    | some k => cases hb : busAt s k <;> simp [hs, hb]
  · cases (postAt s p).bus.bind (busAt s) <;> simp [hs]

theorem downCapability_eq {s : State} {f : PassFacts} (h : f.safe = false) : downCapability s f =
    max 0 (min 32767 (min (fSite s - (s.frt.posts.map Post.grant).sum)
      ((f.taken.filter (fun p => match (postAt s p).bus.bind (busAt s) with
        | none => false
        | some b => (postAt s p).state = .plugged && decide (b.heldOr0 <
            absorptionCeiling b (storageAt s ((postAt s p).bus.getD 0))))).map (fun p =>
        max 0 (min (acceptOf (postAt s p)) (postAt s p).rating - (postAt s p).grant))).sum)) := by
  unfold downCapability absorptionRoom
  rw [if_neg (ne_of_eq_of_ne h Bool.false_ne_true), funext (hasRoom_eq s)]
  rfl

/-- Settles O55. -/
theorem passCompletionWrites : Obligations.PassCompletionWrites := by
  refine ⟨?_, ?_, ?_, ?_⟩
  · intro n s hp hr hn hsz r f served new stay joining ring moved turned delivered found
    obtain ⟨hposts, -, -⟩ := hsz
    have new_eq : newTier r s = new := by
      funext p
      unfold newTier
      simp only [new, served_iff]
    obtain ⟨wposts, wqueue, wtags, wylc, wsbu, wale, wrsu, wstp, wrdu, wtsm, wfree⟩ := reviewed_keeps n s
    have closed := reserved_closed n s
    obtain ⟨cposts, cqueue, ctags⟩ := closed.frt
    obtain ⟨cylc, csbu, crdu, cale, cfree⟩ := closed.others
    obtain ⟨uylc, ufrt, usbu, urdu, uale, ursu, ustp, ufree⟩ := completed_frame n s
    obtain ⟨ubus, ucls, uview, uup, udown, usides⟩ := completed_reads n s f
    have clock : (reviewed n s).rdu.clock = s.rdu.clock := (congrArg Rdu.clock wrdu :)
    have slot : (reserved n s).rsu.slot = s.rsu.slot := (congrArg Rsu.slot closed.rsu :).trans (congrArg Rsu.slot wrsu :)
    have up : (completed n s).rsu.upSide = sideAfter (reserved n s) .up s.rsu.upSide := by
      rw [ursu, closed.rsu, wrsu]
    have down : (completed n s).rsu.downSide = sideAfter (reserved n s) .down s.rsu.downSide := by
      rw [ursu, closed.rsu, wrsu]
    have buses (b : Bus) : b.tiered (newTier r s) = { b with tier := match b.post with
        | none => .idle
        | some p => new p } := by
      rw [new_eq]
      rfl
    refine ⟨allotted n s, reviewed n s, completed n s, ?_, ?_, rfl, urdu.trans crdu, fun k b hb => ?_, fun p h4 h67 => ?_, fun k b hb => ?_, ?_, ?_,
      ⟨sideAfter (reserved n s) .up s.rsu.upSide, sideAfter (reserved n s) .down s.rsu.downSide, ?_⟩, fun h => ?_, fun k hset hslot => ?_, ?_, ?_, ?_, ?_, ?_, ?_, ?_, ?_⟩
    · exact (live_on passCompleted s hp).trans
        (congrArg (fun x => Host.Outcome.next (finish x)) (passCompleted_runs hr hn))
    · rw [ufrt, cposts, wposts]
      refine congrArg (fun l : List Bus => { allotted n s with frt := { (allotted n s).frt with buses := l } }) (List.map_congr_left fun b _ => ?_)
      exact buses b
    · intro low
      rw [ubus, closed.buses k b hb, floored_eq]
      rfl
    · intro q g flag takes
      have may : writable s p = true ↔ takes := by
        unfold writable inQuiesce
        rw [Bool.and_eq_true, Bool.not_eq_true', ← Bool.not_eq_true, List.contains_iff_mem, served_iff]
      rw [postAt_completed hposts h4 h67]
      exact ⟨fun h => if_pos (may.2 h), fun h => if_neg fun h' => h (may.1 h')⟩
    · obtain ⟨b', hb', bare⟩ := completed_bus (n := n) hb
      rw [buses] at bare
      exact ⟨b', hb', Bus.eq_of_bare bare⟩
    · obtain ⟨rings, turns⟩ := turnedRing_eq n s
      rw [show newTier (allocate n) s = new from new_eq] at rings turns
      rw [uale, cale, wale]
      dsimp only [allotted]
      rw [show newTier (allocate n) s = new from new_eq, rings, turns]
      rfl
    · rw [ustp]
      dsimp only
      simp only [ubus, ucls, uview]
      refine closed.stp.trans ?_
      rw [wstp] <;> rfl
    · rw [ursu]
      refine closed.rsu.trans ?_
      have active : s.rsu.active.map (Dispatch.counted (fleetMeasured s) s.tsm.settings.passPre (foundBy n)) =
          s.rsu.active.map (fun d => { d with
            delivered := delivered d, shortfall := d.shortfall || found d, noticed := d.noticed || found d }) := by
        refine congrArg (fun g => s.rsu.active.map g) (funext fun d => ?_)
        unfold Dispatch.counted
        rw [foundBy_hit]
        rfl
      have measured : fleetMeasured (reviewed n s) = fleetMeasured s :=
        fleetMeasured_congr ((congrArg (List.map Post.report) wposts).trans (reports_allotted n s)) wylc
      have settings : (reviewed n s).tsm.settings = s.tsm.settings := (congrArg Tsm.settings wtsm :)
      rw [wrsu, measured, settings, active, uup, udown]
    · have out : ¬ ((reserved n s).rdu.clock.set = true ∧ (reserved n s).rsu.slot.isSome = true) := by
        rw [crdu, clock, slot]
        rintro ⟨hset, hslot⟩
        rcases h with h | h
        · exact ne_false_of_eq_true hset h
        · rw [h] at hslot
          exact Bool.false_ne_true hslot
      exact ⟨up.trans (if_neg out), down.trans (if_neg out)⟩
    · have opened : (reserved n s).rdu.clock.set = true ∧ (reserved n s).rsu.slot.isSome = true := by
        rw [crdu, clock, slot, hslot]
        exact ⟨hset, rfl⟩
      have number : (reserved n s).rsu.slot.getD 0 = k := by rw [slot, hslot]; rfl
      rw [up, down, (usides k .up).2, (usides k .down).2]
      unfold sideAfter
      rw [if_pos opened, if_pos opened, number]
      exact ⟨rfl, rfl⟩
    · intro stored short crossed told
      have short_eq : short = tellShortfall (foundBy n) s.rsu.active stored := by
        dsimp only [short, foundBy, tellShortfall, r]
        cases n.dispatch with
        | none => rfl
        | some x => cases (allocate n).shortfall <;> cases s.rsu.active <;> rfl
      have msg : crossed = toldAtEnd (foundBy n) (reviewed n s) (completed n s) := by
        have minute : (completed n s).rdu.clock.minute = s.rdu.clock.minute := by rw [urdu, crdu, clock]
        have named : (completed n s).rsu.slot = s.rsu.slot := (congrArg Rsu.slot ursu).trans slot
        dsimp only [crossed]
        unfold toldAtEnd crossingMsg
        rw [minute, named, short_eq, wrsu, wstp]
        rfl
      refine ⟨clock, wtsm, ?_⟩
      have ends := completed_told n s
      dsimp only at ends
      rw [← msg] at ends
      exact ends
    · exact (urdu.trans crdu) ▸ wrdu
    · rw [urdu, crdu]
      exact bareLegs_completeReadiness (allotted n s)
    · exact (congrArg Frt.plugQ ufrt).trans (cqueue.trans wqueue)
    · exact (congrArg Frt.tagMap ufrt).trans (ctags.trans wtags)
    · exact uylc.trans (cylc.trans wylc)
    · exact usbu.trans (csbu.trans wsbu)
    · exact ufree.trans (cfree.trans wfree)
  · intro n
    refine ⟨?_, rfl⟩
    have iff : (budget n - n.pPre < 0 ∧ n.active .up = false) ↔ budget n < n.pPre ∧ n.dispatch.map SnapDispatch.dir ≠ some .up :=
      and_congr sub_neg decide_eq_false_iff_not
    simp only [allocate, iff]
  · intro s f left surplus give free
    exact ⟨fun h => ⟨if_pos h, if_pos h⟩, fun h => ⟨upCapability_eq h, downCapability_eq h⟩⟩
  · intro s clock minute tomorrow ambient need isOpen marked
    refine ⟨rfl, fun l => ?_, fun k b hb => ?_, fun hset k => ?_, fun k b hb => ?_⟩
    · intro number runsTomorrow fleetNo why
      have opens : openToday s l = true ↔ isOpen l := openToday_iff s l
      have runs : withinTomorrow s l = true ↔ runsTomorrow := withinTomorrow_iff s l
      let m : Leg := { l with substitute := if openToday s l then l.substitute else none }
      have looked (h : isOpen l ∨ runsTomorrow) : reportedLeg s l = some m :=
        reportedLeg_some (h.imp opens.2 runs.2)
      have substitute : m.substitute = if isOpen l then l.substitute else none := by
        by_cases ho : isOpen l
        · exact (if_pos (opens.2 ho)).trans (if_pos ho).symm
        · exact (if_neg fun h => ho (opens.1 h)).trans (if_neg ho).symm
      have effective : m.effective = fleetNo := by
        unfold Leg.effective
        rw [substitute] <;> rfl
      have reason : unassignedReason s m = why := by
        dsimp only [why]
        cases hf : fleetNo with
        | none => exact unassignedReason_none (effective.trans hf)
        | some f => exact unassignedReason_some (effective.trans hf)
      refine ⟨fun h h' => ?_, fun h => ⟨fun hn => ?_, fun r hr hl => ?_, fun r hr hl => ?_⟩⟩
      · exact reviewLeg_out (reportedLeg_none (fun ho => h (opens.1 ho)) (fun hr => h' (runs.1 hr)))
      · exact reviewLeg_assigned (looked h) (reason.trans hn)
      · exact reviewLeg_marked (looked h) (reason.trans hr) hl
      · have eq := reviewLeg_unmarked (looked h) (reason.trans hr) hl
        rw [effective] at eq
        exact eq
    · intro next floor verdict reviewed written
      have day : nextDayOf s next = (match next with
          | none => none
          | some n => if n.tomorrow then some tomorrow else none) := by
        unfold nextDayOf
        cases next <;> rfl
      have floor_eq : (next.map (fun n => min (legFloor s n.leg.row) b.capacity)).getD 0 = floor := by
        dsimp only [floor]
        cases next <;> rfl
      have reviews : reviewInfeasible b next s = reviewed := by
        dsimp only [reviewed]
        unfold reviewInfeasible
        cases next with
        | none => rfl
        | some n =>
          dsimp only
          by_cases hc : need n.leg.row ≤ b.capacity
          · exact (if_neg (Nat.not_lt.2 hc)).trans (if_pos hc).symm
          · exact (if_pos (Nat.not_le.1 hc)).trans (if_neg hc).symm
      have draw : (next.map (fun _ => min 65535 (floor + s.tsm.settings.v2gMargin))).getD 0 =
          if next.isSome then min 65535 (floor + s.tsm.settings.v2gMargin) else 0 := by
        cases next <;> rfl
      have eq := writeReadiness_eq hb
      dsimp only at eq
      rw [show findNextLeg s k = next from rfl, floor_eq, draw, day, reviews] at eq
      exact eq
    · intro largest
      have eq := findNextLeg_unset hset k
      have found : findNextLeg s k = (s.rdu.legs.find? largest).map (fun l => ⟨l, 120, false⟩) := eq
      refine ⟨fun h => ?_, fun l hl hs => ?_, fun x hx => ?_⟩
      · rw [found, List.find?_eq_none.2 (fun l hl ho => h l hl (of_decide_eq_true (Bool.and_eq_true_iff.1 ho).1))]
        rfl
      · obtain ⟨m, hm⟩ := findNextLeg_isSome hset hl hs
        rw [hm]
        rfl
      · rw [found] at hx
        obtain ⟨l, hl, rfl⟩ := Option.map_eq_some_iff.1 hx
        exact ⟨rfl, rfl, hl⟩
    · intro leg isTomorrow mins
      rw [queueReadiness_eq hb]
      have minutes (l : Leg) : nextMinutes s b l = mins l := by
        dsimp only [mins]
        unfold nextMinutes legMinutes
        by_cases ht : nextIsTomorrow s b = true
        · exact (if_pos ht).trans (if_pos ht).symm
        · refine (if_neg ht).trans (Eq.trans ?_ (if_neg ht).symm)
          cases s.rdu.clock.set <;> rfl
      unfold readinessOf
      simp only [minutes]
      rfl

end Sys2Proof.Machine
end

section
/-! A trigger (06_the_allocation_pass.md R103, R106, R110): the drain, the snapshot, and the whole of a safe pass. -/

namespace Sys2Proof.Machine

/-! ### The drain leaves the bus table its length (R14) -/

/-- The number of occupied bus slots. -/
def busCount (s : State) : Nat := s.frt.buses.length

section
variable (s : State)

@[simp] theorem busCount_updBus (k : Nat) (f : Bus → Bus) : busCount (updBus k f s) = busCount s := by
  simp [busCount, updBus, modFrt]

@[simp] theorem busCount_updPost (p : Nat) (f : Post → Post) : busCount (updPost p f s) = busCount s := by
  simp [busCount]

@[simp] theorem busCount_setPostState (p : Nat) (st : PostState) : busCount (setPostState p st s) = busCount s := by
  simp [busCount]

@[simp] theorem busCount_notice (n : Notice) : busCount (notice n s) = busCount s := by
  simp [busCount]

@[simp] theorem busCount_unlocate (p : Nat) (next : BusState) : busCount (unlocate p next s) = busCount s := by
  unfold unlocate
  split
  · rfl
  · simp [clearBusField]

@[simp] theorem busCount_takeHeld (k p : Nat) : busCount (takeHeld k p s) = busCount s := by
  unfold takeHeld
  split
  · rfl
  · simp

@[simp] theorem busCount_locate (k p : Nat) : busCount (locate k p s) = busCount s := by
  simp [locate]

@[simp] theorem busCount_resolveConflict (k q p : Nat) : busCount (resolveConflict k q p s) = busCount s := by
  unfold resolveConflict
  dsimp only
  split <;> simp [clearBusField]

@[simp] theorem busCount_plugPost (p : Nat) : busCount (plugPost p s) = busCount s := by
  unfold plugPost
  dsimp only
  split
  · simp
  · split <;> simp

@[simp] theorem busCount_plugMapped (k p : Nat) : busCount (plugMapped k p s) = busCount s := by
  unfold plugMapped
  split
  · simp
  · dsimp only
    split <;> simp

@[simp] theorem busCount_plugUnmapped (p : Nat) : busCount (plugUnmapped p s) = busCount s := by
  unfold plugUnmapped
  dsimp only
  split <;> simp

@[simp] theorem busCount_judgeUnplug (k : Nat) : busCount (judgeUnplug k s) = busCount s := by
  unfold judgeUnplug
  split
  · split
    · dsimp only
      split
      · simp
      · split <;> simp [busCount, updBus, modFrt]
    · rfl
  · rfl

@[simp] theorem busCount_unplugBus (p : Nat) : busCount (unplugBus p s) = busCount s := by
  unfold unplugBus
  split
  · rfl
  · dsimp only
    split <;> simp

@[simp] theorem busCount_unplugEvent (p : Nat) : busCount (unplugEvent p s) = busCount s := by
  unfold unplugEvent
  split <;> simp

@[simp] theorem busCount_processEvent (e : PlugEvent) : busCount (processEvent e s) = busCount s := by
  unfold processEvent faultEvent faultClearEvent settle
  dsimp only
  rw [busCount_updPost]
  (repeat' split) <;> simp

theorem busCount_drain : busCount (drain s) = busCount s :=
  foldl_keeps busCount _ (fun s e => busCount_processEvent s e) _ _

end

theorem plugQ_drain (s : State) : (drain s).frt.plugQ = [] :=
  foldl_keeps (fun s => s.frt.plugQ) _ (fun s e => by simp) _ (modFrt (fun t => { t with plugQ := [] }) s)

/-! ### The safe pass (R110) -/

/-- The state that a trigger in SAFE hands to RDU: drained, with every grant 0.0 and every tier IDLE. -/
def safeAllotted (s : State) : State :=
  let d := drainForPass { s with ale := { s.ale with pending := false } }
  { d with
    frt := { d.frt with
      posts := d.frt.posts.map (fun q => { q with grant := 0, prevGrant := 0, precond := false })
      buses := d.frt.buses.map (fun b => { b with tier := .idle }) }
    ale := { pass := .idle, pending := false, timer := s.ale.timer, snap := s.ale.snap
             tiers := List.replicate 64 .idle, ring := [], turn := 0, overLimit := false } }

/-- The state that RDU's part of a safe pass leaves. -/
def safeReviewed (s : State) : State := completeReadiness (safeAllotted s)

theorem safePass_eq {s : State} (hi : s.ale.pass = .idle) : safePass { s with ale := { s.ale with pending := false } } =
    completeReserve (safeFacts (safeReviewed s)) none (completeStorage (safeFacts (safeReviewed s)) (safeReviewed s)) := by
  let d := drainForPass { s with ale := { s.ale with pending := false } }
  have tiers (t : State) : writeTiers (fun _ => .idle) t = { t with
      frt := { t.frt with buses := t.frt.buses.map (fun b => { b with tier := .idle }) }
      ale := { t.ale with tiers := List.replicate 64 .idle } } := by
    have same : (fun b : Bus => { b with tier := match b.post with
        | none => Tier.idle
        | some _ => Tier.idle }) = fun b => { b with tier := .idle } :=
      funext fun b => by cases b.post <;> rfl
    exact congrArg (fun g => ({ t with
      frt := { t.frt with buses := t.frt.buses.map g }, ale := { t.ale with tiers := List.replicate 64 .idle } } : State)) same
  have ale : d.ale.pass = .idle ∧ d.ale.pending = false ∧ d.ale.timer = s.ale.timer ∧ d.ale.snap = s.ale.snap := by
    simp [d, hi]
  obtain ⟨hpass, hpending, htimer, hsnap⟩ := ale
  have made : modAle (fun a => { a with ring := [], turn := 0, overLimit := false })
      (writeTiers (fun _ => .idle) (mapPosts (fun _ q => { q with grant := 0, prevGrant := 0, precond := false }) d)) =
      safeAllotted s := by
    have blank : ({ d.ale with tiers := List.replicate 64 .idle, ring := [], turn := 0, overLimit := false } : Ale) =
        { pass := .idle, pending := false, timer := s.ale.timer, snap := s.ale.snap
          tiers := List.replicate 64 .idle, ring := [], turn := 0, overLimit := false } := by
      dsimp only
      rw [hpass, hpending, htimer, hsnap]
    rw [tiers, mapPosts_const]
    exact congrArg (fun a : Ale => { safeAllotted s with ale := a }) blank
  unfold safePass
  dsimp only
  rw [made]
  rfl

theorem trigger_safe {s : State} (hop : s.tsm.op = .safe) (hi : s.ale.pass = .idle) (hw : s.tsm.waiting = []) :
    trigger s = safePass { s with ale := { s.ale with pending := false } } := by
  have running : s.tsm.op ≠ .starting := by rw [hop]; exact OpState.noConfusion
  unfold trigger
  rw [wantPass_asked running]
  exact (runTriggers_unwaiting (s := { s with ale := { s.ale with pending := true } }) hw).trans
    ((if_pos ⟨hi, rfl⟩).trans (if_pos hop))

/-- What RDU's part of a safe pass leaves. -/
theorem safeReviewed_keeps (s : State) :
    let w := safeReviewed s
    let v := safeAllotted s
    w.frt.posts = v.frt.posts ∧ w.frt.plugQ = [] ∧ w.frt.tagMap = s.frt.tagMap ∧ busCount w = busCount s ∧ w.ylc = v.ylc ∧
      w.sbu = s.sbu ∧ w.ale = v.ale ∧ w.rsu = s.rsu ∧ w.stp = s.stp ∧ w.rdu.clock = s.rdu.clock ∧
      w.tsm.settings = s.tsm.settings ∧ w.freeCount = s.freeCount := by
  obtain ⟨bare, posts, queue, tags, ylc, sbu, ale, rsu, stp, rdu, tsm, free⟩ := completeReadiness_leaves (safeAllotted s)
  have count : busCount (completeReadiness (safeAllotted s)) = busCount (safeAllotted s) := by
    simpa [busCount] using congrArg List.length bare
  have settings : (completeReadiness (safeAllotted s)).tsm.settings = (safeAllotted s).tsm.settings :=
    (congrArg Tsm.settings tsm :)
  have clock : (completeReadiness (safeAllotted s)).rdu.clock = (safeAllotted s).rdu.clock := (congrArg Rdu.clock rdu :)
  have drained : busCount (safeAllotted s) = busCount s := by
    refine Eq.trans ?_ (busCount_drain { s with ale := { s.ale with pending := false } })
    exact List.length_map _
  refine ⟨posts, queue.trans ?_, tags.trans ?_, count.trans drained, ylc, sbu.trans ?_, ale, rsu.trans ?_, stp.trans ?_,
    clock.trans ?_, settings.trans ?_, free.trans ?_⟩
  · exact plugQ_drain _
  all_goals simp [safeAllotted]

/-- A safe pass tests the posts that are PLUGGED or GUEST once it has drained. -/
theorem safeFacts_reviewed (s : State) :
    let d := drainForPass { s with ale := { s.ale with pending := false } }
    safeFacts (safeReviewed s) =
      ⟨postNos.filter (fun p => (postAt d p).state.served), postNos.map (preDraw (safeReviewed s)), true⟩ := by
  intro d
  have states (p : Nat) : (postAt (safeReviewed s) p).state = (postAt d p).state := by
    unfold postAt
    rw [(safeReviewed_keeps s).1]
    show ((d.frt.posts.map _).getD (p - 4) Post.initial).state = _
    rw [List.getD_eq_getElem?_getD, List.getD_eq_getElem?_getD, List.getElem?_map]
    cases d.frt.posts[p - 4]? <;> rfl
  unfold safeFacts
  simp only [states]
  rfl

end Sys2Proof.Machine
end

section
/-! What one plug event does (01_fleet_records.md R14 to R19), kind by kind. -/

namespace Sys2Proof.Machine

/-! ### The record of a post written -/

/-- The state with the record of post p. -/
def putPost (p : Nat) (r : Post) (s : State) : State :=
  { s with frt := { s.frt with posts := s.frt.posts.set (p - 4) r } }

/-- A number of a post, within the post table. -/
def HasPost (p : Nat) (s : State) : Prop := 4 ≤ p ∧ p - 4 < s.frt.posts.length

section
variable {p : Nat} {s : State} (h : HasPost p s)
include h

theorem updPost_put (f : Post → Post) : updPost p f s = putPost p (f (postAt s p)) s := by
  rw [updPost_eq_set h.1 h.2]
  rfl

theorem postAt_put (r : Post) : postAt (putPost p r s) p = r := by
  unfold postAt putPost
  dsimp only
  rw [List.getD_eq_getElem?_getD, List.getElem?_set_self h.2]
  rfl

theorem putPost_same : putPost p (postAt s p) s = s := by
  have own : postAt s p = s.frt.posts[p - 4]'h.2 := List.getD_eq_getElem _ _ h.2
  unfold putPost
  rw [own, List.set_getElem_self]

theorem hasPost_put (r : Post) : HasPost p (putPost p r s) :=
  ⟨h.1, by rw [putPost, List.length_set]; exact h.2⟩

end

theorem putPost_putPost (p : Nat) (r r' : Post) (s : State) : putPost p r' (putPost p r s) = putPost p r' s := by
  unfold putPost
  dsimp only
  rw [List.set_set]

theorem hasPost_congr {p : Nat} {s t : State} (h : t.frt.posts = s.frt.posts) : HasPost p t ↔ HasPost p s := by
  unfold HasPost
  rw [h]

theorem postAt_congr {p : Nat} {s t : State} (h : t.frt.posts = s.frt.posts) : postAt t p = postAt s p := by
  unfold postAt
  rw [h]

/-! ### A post's state after an event (R10, R14) -/

/-- The mismatch count of an event's post becomes 0 (R14). -/
def Post.heard (q : Post) : Post := { q with mismatch := 0 }

/-- The state with a post that has entered another state (R10, R130). -/
def entering (p : Nat) (st : PostState) (s : State) : State :=
  let t := putPost p ((postAt s p).enter st) s
  if (postAt s p).state.served = true ∧ st.served = false then leaveRing p t else t

theorem setPostState_entering {p : Nat} {st : PostState} {s : State} (h : HasPost p s) (hne : (postAt s p).state ≠ st) :
    setPostState p st s = entering p st s := by
  unfold entering
  dsimp only
  rw [← updPost_put h (fun q => q.enter st)]
  by_cases hs : (postAt s p).state.served = true ∧ st.served = false
  · rw [if_pos hs, setPostState_leaves hne hs.1 hs.2]
  · rw [if_neg hs, setPostState_enters hne hs]

/-- A post that enters a state has its mismatch count at 0 already. -/
theorem heard_entering {p : Nat} {st : PostState} {s : State} (h : HasPost p s) :
    updPost p Post.heard (entering p st s) = entering p st s := by
  have heard : ((postAt s p).enter st).heard = (postAt s p).enter st := rfl
  have stays : updPost p Post.heard (putPost p ((postAt s p).enter st) s) = putPost p ((postAt s p).enter st) s := by
    rw [updPost_put (hasPost_put h _), postAt_put h, heard, putPost_putPost]
  unfold entering
  dsimp only
  split
  · have same : updPost p Post.heard (leaveRing p (putPost p ((postAt s p).enter st) s)) =
        leaveRing p (updPost p Post.heard (putPost p ((postAt s p).enter st) s)) := by
      unfold updPost
      split <;> rfl
    rw [same, stays]
  · exact stays

/-! ### A post's bus let go (R11) -/

/-- The record of a post without its bus. -/
def Post.cleared (q : Post) : Post := { q with bus := none, precond := if q.bus.isSome then false else q.precond }

theorem Post.cleared_without {q : Post} (h : q.bus = none) : q.cleared = q := by
  cases q
  cases h
  rfl

/-- The bus at a post, with its slot. -/
def busHere (s : State) (p : Nat) : Option (Nat × Bus) := (postAt s p).bus.bind (fun k => (busAt s k).map (fun b => (k, b)))

/-- The state in which a post has let its bus go into the yard. -/
def freedAt (p : Nat) (s : State) : State :=
  match busHere s p with
  | none => s
  | some (k, b) => putPost p (postAt s p).cleared { s with frt := { s.frt with
      buses := s.frt.buses.set k { b with post := none, state := b.state.orWithdrawn .yard } } }

section
variable {p : Nat} {s : State} (hp : 4 ≤ p ∧ p ≤ 67) (hlen : s.frt.posts.length = 64) (hpair : Paired s)
include hp hlen

theorem hasPost_of_number : HasPost p s := ⟨hp.1, by omega⟩

include hpair

theorem unlocate_eq : unlocate p .yard s = freedAt p s := by
  unfold unlocate freedAt busHere
  cases hk : (postAt s p).bus with
  | none => rfl
  | some k =>
    obtain ⟨b, hb, -⟩ := hpair.2 p hp _ hk
    have own := hasPost_of_number hp hlen
    have clears : clearBusField p s = putPost p (postAt s p).cleared s := by
      unfold clearBusField
      rw [updPost_put own]
      unfold Post.cleared
      rw [hk]
      rfl
    have kept : busAt (putPost p (postAt s p).cleared s) k = some b := hb
    simp only [Option.bind_some, hb, Option.map_some]
    rw [clears, updBus_eq_set kept]
    rfl

theorem postAt_freed : postAt (freedAt p s) p = (postAt s p).cleared := by
  unfold freedAt busHere
  cases hk : (postAt s p).bus with
  | none =>
    exact (Post.cleared_without hk).symm
  | some k =>
    obtain ⟨b, hb, -⟩ := hpair.2 p hp _ hk
    simp only [Option.bind_some, hb, Option.map_some]
    exact postAt_put (s := { s with frt := { s.frt with buses := _ } }) (hasPost_of_number hp hlen) _

end

/-! ### The events of a post -/

/-- The post's number of an event. -/
def PlugEvent.post (e : PlugEvent) : Nat := e.cabinet * 4 + e.position

theorem PlugEvent.post_range {e : PlugEvent} (h : e.ofPost) : 4 ≤ e.post ∧ e.post ≤ 67 := by
  obtain ⟨⟨h1, h2⟩, h3⟩ := h
  unfold PlugEvent.post
  omega

theorem processEvent_eq (e : PlugEvent) (s : State) : processEvent e s = updPost e.post Post.heard (match e.kind with
    | .plugged =>
      match taggedBus s e.tag with
      | some k => plugMapped k e.post s
      | none => plugUnmapped e.post s
    | .unplugged => unplugEvent e.post s
    | .fault => faultEvent e.post s
    | .faultClear => faultClearEvent e.post s) := rfl

/-- The state that FAULT_CLEAR settles a post in (R12, R19). -/
theorem settledState_unfaulted (s : State) (p : Nat) : settledState s p false ≠ .faulted := by
  unfold settledState
  dsimp only
  split
  · exact PostState.noConfusion
  split
  · next h => exact absurd h.1 Bool.false_ne_true
  split
  · exact PostState.noConfusion
  split <;> exact PostState.noConfusion

/-- The state in which a post has let its bus go, and the bus's unplug has been judged (R18, R94). -/
def judgedAt (p : Nat) (s : State) : State :=
  match busHere s p with
  | none => s
  | some (k, b) => if b.state = .withdrawn then freedAt p s else judgeUnplug k (freedAt p s)

theorem posts_judged (p : Nat) (s : State) : (judgedAt p s).frt.posts = (freedAt p s).frt.posts := by
  unfold judgedAt
  split
  · next h =>
    unfold freedAt
    rw [h]
  · split
    · rfl
    · simp

section
variable {p : Nat} {s : State} (hp : 4 ≤ p ∧ p ≤ 67) (hlen : s.frt.posts.length = 64)
include hp hlen

theorem heard_stays : updPost p Post.heard s = putPost p (postAt s p).heard s := updPost_put (hasPost_of_number hp hlen) _

theorem heard_enters {st : PostState} (h : (postAt s p).state ≠ st) :
    updPost p Post.heard (setPostState p st s) = entering p st s := by
  have own := hasPost_of_number hp hlen
  rw [setPostState_entering own h, heard_entering own]

/-- FAULT (R19). -/
theorem heard_fault : updPost p Post.heard (faultEvent p s) =
    if (postAt s p).state.holding then putPost p (postAt s p).heard s else entering p .faulted s := by
  unfold faultEvent
  split
  · exact heard_stays hp hlen
  · next h =>
    refine heard_enters hp hlen fun hs => h ?_
    rw [hs]
    rfl

/-- FAULT_CLEAR (R19). -/
theorem heard_faultClear : updPost p Post.heard (faultClearEvent p s) =
    if (postAt s p).state = .faulted then entering p (settledState s p false) s else putPost p (postAt s p).heard s := by
  unfold faultClearEvent settle
  split
  · next h => exact heard_enters hp hlen (by rw [h]; exact (settledState_unfaulted s p).symm)
  · exact heard_stays hp hlen

section
variable (hpair : Paired s)
include hpair

theorem posts_freed : (freedAt p s).frt.posts.length = 64 := by
  rw [← unlocate_eq hp hlen hpair]
  have still : (unlocate p .yard s).frt.posts.length = s.frt.posts.length :=
    congrArg (fun x => x.2.2.2.1) (still_unlocate p .yard s)
  rw [still, hlen]

/-- PLUGGED with an unmapped tag (R17). -/
theorem heard_unmapped : updPost p Post.heard (plugUnmapped p s) =
    if (postAt s p).state = .empty ∨ (postAt s p).state = .held ∨ (postAt s p).state = .plugged then entering p .guest (freedAt p s)
    else putPost p (postAt (freedAt p s) p).heard (freedAt p s) := by
  have length := posts_freed hp hlen hpair
  have state : (postAt (freedAt p s) p).state = (postAt s p).state := by
    rw [postAt_freed hp hlen hpair]
    rfl
  unfold plugUnmapped
  dsimp only
  rw [unlocate_eq hp hlen hpair, state]
  split
  · next h =>
    refine heard_enters hp length ?_
    rw [state]
    rcases h with h | h | h <;> rw [h] <;> exact PostState.noConfusion
  · exact heard_stays hp length

theorem unplugBus_eq : unplugBus p s = judgedAt p s := by
  unfold unplugBus judgedAt busHere
  cases hk : (postAt s p).bus with
  | none => rfl
  | some k =>
    obtain ⟨b, hb, -⟩ := hpair.2 p hp _ hk
    simp only [Option.bind_some, hb, Option.map_some, Option.some.injEq]
    rw [unlocate_eq hp hlen hpair]

theorem postAt_judged : postAt (judgedAt p s) p = (postAt s p).cleared :=
  (postAt_congr (posts_judged p s)).trans (postAt_freed hp hlen hpair)

/-- UNPLUGGED (R18): a PLUGGED post becomes EMPTY with its bus judged. -/
theorem heard_unplugged (h : (postAt s p).state = .plugged) :
    updPost p Post.heard (unplugEvent p s) = entering p .empty (judgedAt p s) := by
  have eq : unplugEvent p s = setPostState p .empty (judgedAt p s) := by
    unfold unplugEvent
    rw [h, ← unplugBus_eq hp hlen hpair]
  have state : (postAt (judgedAt p s) p).state = .plugged := by
    rw [postAt_judged hp hlen hpair]
    exact h
  rw [eq]
  refine heard_enters hp ?_ (by rw [state]; exact PostState.noConfusion)
  rw [posts_judged p s, posts_freed hp hlen hpair]

/-- UNPLUGGED at a post in a holding state: its bus is judged, the state stays (R18). -/
theorem heard_unplugged_holding (h : (postAt s p).state = .unknown ∨ (postAt s p).state = .faulted ∨
    (postAt s p).state = .disabled ∨ (postAt s p).state = .offline) :
    updPost p Post.heard (unplugEvent p s) = putPost p (postAt s p).cleared.heard (judgedAt p s) := by
  have eq : unplugEvent p s = judgedAt p s := by
    rw [← unplugBus_eq hp hlen hpair]
    unfold unplugEvent
    rcases h with h | h | h | h <;> rw [h]
  have length : (judgedAt p s).frt.posts.length = 64 := by
    rw [posts_judged p s, posts_freed hp hlen hpair]
  rw [eq, heard_stays hp length, postAt_judged hp hlen hpair]

end

/-- UNPLUGGED at a GUEST or HELD post (R18). -/
theorem heard_unplugged_guest (h : (postAt s p).state = .guest ∨ (postAt s p).state = .held) :
    updPost p Post.heard (unplugEvent p s) = entering p .empty s := by
  have eq : unplugEvent p s = setPostState p .empty s := by
    unfold unplugEvent
    rcases h with h | h <;> rw [h]
  rw [eq]
  refine heard_enters hp hlen ?_
  rcases h with h | h <;> rw [h] <;> exact PostState.noConfusion

/-- UNPLUGGED at an EMPTY post changes nothing but its mismatch count (R18). -/
theorem heard_unplugged_empty (h : (postAt s p).state = .empty) :
    updPost p Post.heard (unplugEvent p s) = putPost p (postAt s p).heard s := by
  have eq : unplugEvent p s = s := by
    unfold unplugEvent
    rw [h]
  rw [eq]
  exact heard_stays hp hlen

end

/-! ### PLUGGED with a mapped tag (R15, R16) -/

/-- A bus with the value held that a post's report gives it, if it gives one (R4). -/
def Bus.taking (report : Option Report) (b : Bus) : Bus :=
  { b with held := match report.bind Report.held with
    | none => b.held
    | some h => some ⟨min h b.capacity, 0, 0⟩ }

/-- The state with the record of the bus in slot k. -/
def putBus (k : Nat) (b : Bus) (s : State) : State := { s with frt := { s.frt with buses := s.frt.buses.set k b } }

section
variable {k : Nat} {s : State} {b : Bus} (hb : busAt s k = some b)
include hb

theorem busAt_putBus (c : Bus) : busAt (putBus k c s) k = some c := by
  have inside : k < s.frt.buses.length := (List.getElem?_eq_some_iff.1 hb).1
  exact List.getElem?_set_self inside

theorem putBus_same : putBus k b s = s := by
  have inside : k < s.frt.buses.length := (List.getElem?_eq_some_iff.1 hb).1
  have own : b = s.frt.buses[k] := (List.getElem?_eq_some_iff.1 hb).2.symm
  unfold putBus
  rw [own, List.set_getElem_self]

theorem takeHeld_eq (p : Nat) : takeHeld k p s = putBus k (b.taking (postAt s p).report) s := by
  unfold takeHeld Bus.taking
  cases (postAt s p).report.bind Report.held with
  | none => exact (putBus_same hb).symm
  | some x => exact updBus_eq_set hb _

end

theorem busAt_putBus_other {k j : Nat} (h : j ≠ k) (c : Bus) (s : State) : busAt (putBus k c s) j = busAt s j :=
  List.getElem?_set_ne h.symm

theorem putBus_putBus (k : Nat) (b c : Bus) (s : State) : putBus k c (putBus k b s) = putBus k c s := by
  unfold putBus
  dsimp only
  rw [List.set_set]

theorem postAt_put_other {p x : Nat} (hx : 4 ≤ x) (hne : x ≠ p) (hp : 4 ≤ p) (r : Post) (s : State) :
    postAt (putPost p r s) x = postAt s x := by
  have place : p - 4 ≠ x - 4 := by omega
  unfold postAt putPost
  dsimp only
  rw [List.getD_eq_getElem?_getD, List.getElem?_set_ne place, ← List.getD_eq_getElem?_getD]

/-- The record of a post at which a mapped bus has been located (R15 step 5). -/
def Post.plugged (q : Post) : Post :=
  if q.state = .empty ∨ q.state = .guest ∨ q.state = .held then q.enter .plugged
  else if q.state = .plugged then { q with prevGrant := 0 } else q

theorem plugPost_eq {p : Nat} {s : State} (h : HasPost p s) : plugPost p s = putPost p (postAt s p).plugged s := by
  unfold plugPost Post.plugged
  dsimp only
  split
  · next hs =>
    have ne : (postAt s p).state ≠ .plugged := by
      rcases hs with hs | hs | hs <;> rw [hs] <;> exact PostState.noConfusion
    rw [setPostState_enters ne (fun hb => Bool.noConfusion hb.2)]
    exact updPost_put h _
  · split
    · exact updPost_put h _
    · exact (putPost_same h).symm

/-- A bus located at a post (R15 step 4). -/
def Bus.located (p : Nat) (report : Option Report) (b : Bus) : Bus :=
  { b with post := some p, state := b.state.orWithdrawn .plugged }.taking report

theorem locate_eq {k p : Nat} {s : State} {b : Bus} (h : HasPost p s) (hb : busAt s k = some b) :
    locate k p s = putBus k (b.located p (postAt s p).report) (putPost p { postAt s p with bus := some k } s) := by
  let placed : Post := { postAt s p with bus := some k }
  have kept : busAt (putPost p placed s) k = some b := hb
  have report : (postAt (putPost p placed s) p).report = (postAt s p).report := by rw [postAt_put h]
  unfold locate
  rw [updPost_put h, updBus_eq_set kept]
  refine (takeHeld_eq (busAt_putBus kept _) p).trans ?_
  rw [putBus_putBus]
  exact congrArg (fun r => putBus k (b.located p r) (putPost p placed s)) report

/-- The record of a post whose bus turns up at another post (R16). -/
def Post.deserted (q : Post) : Post := { q with bus := none, precond := false }

/-- A location conflict (R16): what it leaves, part by part. -/
theorem resolveConflict_parts {k o p : Nat} {u : State} {b : Bus} (hb : busAt u k = some b) (ho : HasPost o u) :
    let w := (postAt u o).deserted
    let t := resolveConflict k o p u
    let told := notice (.locationConflict b.fleetNo o p) u
    (busAt t k = some { b with post := none } ∧ ∀ j, j ≠ k → busAt t j = busAt u j) ∧
    (postAt t o = (if w.state = .plugged then w.enter .held else w) ∧ ∀ x, 4 ≤ x → x ≠ o → postAt t x = postAt u x) ∧
    t.ale = (if w.state = .plugged then leaveRing o u else u).ale ∧ t.sli = told.sli ∧ t.tsm = told.tsm ∧
    (t.frt.buses.length = u.frt.buses.length ∧ t.frt.posts.length = u.frt.posts.length ∧ t.frt.tagMap = u.frt.tagMap ∧
      t.frt.plugQ = u.frt.plugQ) ∧
    t.ylc = u.ylc ∧ t.sbu = u.sbu ∧ t.rdu = u.rdu ∧ t.rsu = u.rsu ∧ t.stp = u.stp ∧ t.freeCount = u.freeCount := by
  intro w t told
  let x := putBus k { b with post := none } (putPost o w u)
  let y := if w.state = .plugged then entering o .held x else x
  have post_x : postAt x o = w := postAt_put ho w
  have own_x : HasPost o x := hasPost_put ho w
  have kept : busAt (putPost o w u) k = some b := hb
  have eq : t = notice (.locationConflict b.fleetNo o p) y := by
    have clears : updBus k (fun b => { b with post := none }) (clearBusField o u) = x := by
      unfold clearBusField
      rw [updPost_put ho]
      exact updBus_eq_set kept _
    have held : (if (postAt u o).state = .plugged then setPostState o .held x else x) = y := by
      by_cases hs : (postAt u o).state = .plugged
      · have ne : (postAt x o).state ≠ .held := by
          rw [post_x, show w.state = .plugged from hs]
          exact PostState.noConfusion
        rw [if_pos hs, setPostState_entering own_x ne]
        exact (if_pos hs).symm
      · rw [if_neg hs]
        exact (if_neg hs).symm
    dsimp only [t]
    unfold resolveConflict
    dsimp only
    rw [clears, held, hb]
    rfl
  obtain ⟨nylc, nfrt, nsbu, nrdu, nale, nrsu, nstp, nfree⟩ := unsent_frame (unsent_notice (.locationConflict b.fleetNo o p) y)
  rw [← eq] at nylc nfrt nsbu nrdu nale nrsu nstp nfree
  have reads (r : Post) (z : State) (hz : z.frt = (putBus k { b with post := none } (putPost o r u)).frt) :
      (busAt z k = some { b with post := none } ∧ ∀ j, j ≠ k → busAt z j = busAt u j) ∧
      (postAt z o = r ∧ ∀ x, 4 ≤ x → x ≠ o → postAt z x = postAt u x) ∧
      (z.frt.buses.length = u.frt.buses.length ∧ z.frt.posts.length = u.frt.posts.length ∧ z.frt.tagMap = u.frt.tagMap ∧
        z.frt.plugQ = u.frt.plugQ) := by
    have bus (j : Nat) : busAt z j = busAt (putBus k { b with post := none } (putPost o r u)) j := by
      rw [busAt, hz]
      rfl
    have post (j : Nat) : postAt z j = postAt (putPost o r u) j := postAt_congr (by rw [hz]; rfl)
    refine ⟨⟨(bus k).trans (busAt_putBus (s := putPost o r u) hb _), fun j hj => (bus j).trans (busAt_putBus_other hj _ _)⟩,
      ⟨(post o).trans (postAt_put ho r), fun j hj hne => (post j).trans (postAt_put_other hj hne ho.1 r u)⟩, ?_⟩
    rw [hz]
    exact ⟨List.length_set, List.length_set, rfl, rfl⟩
  by_cases hs : w.state = .plugged
  · have entered : y = leaveRing o (putBus k { b with post := none } (putPost o (w.enter .held) u)) := by
      dsimp only [y]
      rw [if_pos hs]
      unfold entering
      rw [post_x, hs]
      dsimp only
      rw [if_pos ⟨rfl, rfl⟩]
      refine congrArg (leaveRing o) ?_
      exact congrArg (putBus k { b with post := none }) (putPost_putPost o w (w.enter .held) u)
    obtain ⟨buses, posts, sizes⟩ := reads (w.enter .held) t (nfrt.trans (by rw [entered]; rfl))
    have sends := notice_same (.locationConflict b.fleetNo o p) (s := y) (t := u) (by rw [entered]; rfl) (by rw [entered]; rfl)
      (by rw [entered]; rfl)
    rw [if_pos hs, if_pos hs]
    refine ⟨buses, posts, nale.trans (by rw [entered]; rfl), ?_, ?_, sizes, nylc.trans (by rw [entered]; rfl),
      nsbu.trans (by rw [entered]; rfl), nrdu.trans (by rw [entered]; rfl), nrsu.trans (by rw [entered]; rfl),
      nstp.trans (by rw [entered]; rfl), nfree.trans (by rw [entered]; rfl)⟩
    · rw [eq]
      exact sends.1
    · rw [eq]
      exact sends.2
  · have stays : y = putBus k { b with post := none } (putPost o w u) := if_neg hs
    obtain ⟨buses, posts, sizes⟩ := reads w t (nfrt.trans (by rw [stays]))
    have sends := notice_same (.locationConflict b.fleetNo o p) (s := y) (t := u) (by rw [stays]; rfl) (by rw [stays]; rfl)
      (by rw [stays]; rfl)
    rw [if_neg hs, if_neg hs]
    refine ⟨buses, posts, nale.trans (by rw [stays]; rfl), ?_, ?_, sizes, nylc.trans (by rw [stays]; rfl),
      nsbu.trans (by rw [stays]; rfl), nrdu.trans (by rw [stays]; rfl), nrsu.trans (by rw [stays]; rfl),
      nstp.trans (by rw [stays]; rfl), nfree.trans (by rw [stays]; rfl)⟩
    · rw [eq]
      exact sends.1
    · rw [eq]
      exact sends.2

/-- A bus that turns up at a post, taken from wherever it stood (R15 step 3, R16). -/
def takenFrom (p k : Nat) (b : Bus) (s : State) : State :=
  match b.post with
  | none => freedAt p s
  | some o => resolveConflict k o p (freedAt p s)

section
variable {p : Nat} {s : State} (hp : 4 ≤ p ∧ p ≤ 67) (hlen : s.frt.posts.length = 64)
include hp hlen

/-- PLUGGED with the bus at its own post (R15): the bus takes the held value. -/
theorem heard_mapped_own {k : Nat} {b : Bus} (hk : (postAt s p).bus = some k) (hb : busAt s k = some b) :
    updPost p Post.heard (plugMapped k p s) = putPost p (postAt s p).heard (putBus k (b.taking (postAt s p).report) s) := by
  have eq : plugMapped k p s = putBus k (b.taking (postAt s p).report) s := (if_pos hk).trans (takeHeld_eq hb p)
  rw [eq]
  exact heard_stays (s := putBus k (b.taking (postAt s p).report) s) hp hlen

section
variable (hpair : Paired s)
include hpair

/-- What a post that lets its bus go leaves. -/
theorem freedAt_parts :
    (∀ j, (postAt s p).bus ≠ some j → busAt (freedAt p s) j = busAt s j) ∧
    (∀ j d, (postAt s p).bus = some j → busAt s j = some d →
      busAt (freedAt p s) j = some { d with post := none, state := d.state.orWithdrawn .yard }) ∧
    (∀ x, 4 ≤ x → x ≠ p → postAt (freedAt p s) x = postAt s x) ∧
    (freedAt p s).frt.buses.length = s.frt.buses.length ∧
    freedAt p s = { s with frt := { s.frt with
      buses := (freedAt p s).frt.buses, posts := (freedAt p s).frt.posts } } := by
  have own := hasPost_of_number hp hlen
  cases hk : (postAt s p).bus with
  | none =>
    have eq : freedAt p s = s := by
      unfold freedAt busHere
      rw [hk]
      rfl
    rw [eq]
    exact ⟨fun _ _ => rfl, fun _ _ h _ => (Option.some_ne_none _ h.symm).elim, fun _ _ _ => rfl, rfl, rfl⟩
  | some k =>
    obtain ⟨b, hb, -⟩ := hpair.2 p hp _ hk
    have eq : freedAt p s = putPost p (postAt s p).cleared (putBus k { b with post := none, state := b.state.orWithdrawn .yard } s) := by
      unfold freedAt busHere
      rw [hk]
      simp only [Option.bind_some, hb, Option.map_some]
      rfl
    rw [eq]
    refine ⟨fun j hj => ?_, fun j d hj hd => ?_, fun x hx hne => ?_, ?_, rfl⟩
    · exact busAt_putBus_other (fun he => hj (congrArg some he.symm)) _ s
    · obtain rfl := Option.some.inj hj
      obtain rfl := Option.some.inj (hb.symm.trans hd)
      exact busAt_putBus hb _
    · exact postAt_put_other hx hne hp.1 _ _
    · exact List.length_set

section
variable {k : Nat} {b : Bus} (hk : (postAt s p).bus ≠ some k) (hb : busAt s k = some b)
include hk hb

omit hp hlen in
/-- The post that a bus turns up away from is another post. -/
theorem conflict_elsewhere {o : Nat} (ho : b.post = some o) : (4 ≤ o ∧ o ≤ 67) ∧ o ≠ p := by
  obtain ⟨range, own⟩ := hpair.1 k b hb o ho
  refine ⟨range, fun he => hk ?_⟩
  rw [← he]
  exact own

/-- What taking the bus from wherever it stood leaves. -/
theorem takenFrom_parts :
    let t := takenFrom p k b s
    (busAt t k = some { b with post := none } ∧ ∀ j, j ≠ k → busAt t j = busAt (freedAt p s) j) ∧
    postAt t p = (postAt s p).cleared ∧ t.frt.buses.length = s.frt.buses.length ∧ t.frt.posts.length = 64 ∧
    t.frt.tagMap = s.frt.tagMap ∧ t.frt.plugQ = s.frt.plugQ ∧
    t.ylc = s.ylc ∧ t.sbu = s.sbu ∧ t.rdu = s.rdu ∧ t.rsu = s.rsu ∧ t.stp = s.stp ∧ t.freeCount = s.freeCount := by
  obtain ⟨others, -, -, count, frame⟩ := freedAt_parts hp hlen hpair
  have length := posts_freed hp hlen hpair
  have kept : busAt (freedAt p s) k = some b := (others k hk).trans hb
  have own := postAt_freed hp hlen hpair
  have blocks : (freedAt p s).frt.tagMap = s.frt.tagMap ∧ (freedAt p s).frt.plugQ = s.frt.plugQ ∧
      (freedAt p s).ylc = s.ylc ∧ (freedAt p s).sbu = s.sbu ∧ (freedAt p s).rdu = s.rdu ∧ (freedAt p s).rsu = s.rsu ∧
      (freedAt p s).stp = s.stp ∧ (freedAt p s).freeCount = s.freeCount := by
    rw [frame]
    exact ⟨rfl, rfl, rfl, rfl, rfl, rfl, rfl, rfl⟩
  obtain ⟨ftags, fqueue, fylc, fsbu, frdu, frsu, fstp, ffree⟩ := blocks
  cases hpost : b.post with
  | none =>
    have eq : takenFrom p k b s = freedAt p s := by
      unfold takenFrom
      rw [hpost]
    have same : ({ b with post := none } : Bus) = b := by rw [← hpost]
    rw [eq, same]
    exact ⟨⟨kept, fun _ _ => rfl⟩, own, count, length, ftags, fqueue, fylc, fsbu, frdu, frsu, fstp, ffree⟩
  | some o =>
    obtain ⟨range, ne⟩ := conflict_elsewhere hpair hk hb hpost
    have eq : takenFrom p k b s = resolveConflict k o p (freedAt p s) := by
      unfold takenFrom
      rw [hpost]
    obtain ⟨buses, ⟨-, posts⟩, -, -, -, ⟨blen, plen, tags, queue⟩, ylc, sbu, rdu, rsu, stp, free⟩ :=
      resolveConflict_parts (p := p) kept (hasPost_of_number range length)
    rw [eq]
    exact ⟨buses, (posts p hp.1 ne.symm).trans own, blen.trans count, plen.trans length, tags.trans ftags,
      queue.trans fqueue, ylc.trans fylc, sbu.trans fsbu, rdu.trans frdu, rsu.trans frsu, stp.trans fstp, free.trans ffree⟩

/-- PLUGGED with the bus at another post or at none (R15, R16). -/
theorem heard_mapped : updPost p Post.heard (plugMapped k p s) =
    putPost p ({ (postAt s p).cleared with bus := some k }.plugged.heard)
      (putBus k (b.located p (postAt s p).report) (takenFrom p k b s)) := by
  obtain ⟨⟨taken, -⟩, post, -, length, -⟩ := takenFrom_parts hp hlen hpair hk hb
  have freed : busAt (freedAt p s) k = some b := ((freedAt_parts hp hlen hpair).1 k hk).trans hb
  have eq : plugMapped k p s = plugPost p (locate k p (takenFrom p k b s)) := by
    unfold plugMapped takenFrom
    rw [if_neg hk]
    dsimp only
    rw [unlocate_eq hp hlen hpair, freed, Option.bind_some] <;> cases b.post <;> rfl
  have own := hasPost_of_number hp length
  let placed : Post := { (postAt s p).cleared with bus := some k }
  have located : locate k p (takenFrom p k b s) =
      putBus k (b.located p (postAt s p).report) (putPost p placed (takenFrom p k b s)) := by
    rw [locate_eq own taken, post]
    rfl
  have own' : HasPost p (putBus k (b.located p (postAt s p).report) (putPost p placed (takenFrom p k b s))) := hasPost_put own _
  have post' : postAt (putBus k (b.located p (postAt s p).report) (putPost p placed (takenFrom p k b s))) p = placed :=
    postAt_put own placed
  rw [eq, located, plugPost_eq own', post', updPost_put (hasPost_put own' _), postAt_put own', putPost_putPost]
  exact putPost_putPost p placed _ (putBus k (b.located p (postAt s p).report) (takenFrom p k b s))

end

end

end

end Sys2Proof.Machine
end

section
/-! Triggers, passes in SAFE, the snapshot and the plug events (O54). -/

namespace Sys2Proof.Machine

/-! ### The whole of a safe pass (R110) -/

/-- What STP's and RSU's part of a safe pass leaves. -/
theorem trigger_safe_closed {s : State} (hop : s.tsm.op = .safe) (hi : s.ale.pass = .idle) (hw : s.tsm.waiting = []) :
    Closed (safeFacts (safeReviewed s)) none (safeReviewed s) (trigger s) := by
  rw [trigger_safe hop hi hw, safePass_eq hi]
  exact completion_closed _ _ _

theorem capability_safe {f : PassFacts} (h : f.safe = true) (s : State) : upCapability s f = 0 ∧ downCapability s f = 0 :=
  ⟨if_pos h, if_pos h⟩

/-- The records after a trigger in SAFE: no grant, no tier, no ring, no capability. -/
theorem trigger_safe_records {s : State} (hop : s.tsm.op = .safe) (hi : s.ale.pass = .idle) (hw : s.tsm.waiting = []) :
    (trigger s).ale = (safeAllotted s).ale ∧ (trigger s).frt.posts = (safeAllotted s).frt.posts ∧
      (trigger s).rsu.upCap = 0 ∧ (trigger s).rsu.downCap = 0 := by
  have closed := trigger_safe_closed hop hi hw
  obtain ⟨posts, -, -, -, -, -, ale, -⟩ := safeReviewed_keeps s
  obtain ⟨-, -, -, cale, -⟩ := closed.others
  obtain ⟨up, down⟩ := capability_safe (f := safeFacts (safeReviewed s)) rfl (trigger s)
  exact ⟨cale.trans ale, closed.frt.1.trans posts, (congrArg Rsu.upCap closed.rsu :).trans up,
    (congrArg Rsu.downCap closed.rsu :).trans down⟩

/-- RSU's block after a trigger in SAFE (R110). -/
theorem trigger_safe_rsu {s : State} (hop : s.tsm.op = .safe) (hi : s.ale.pass = .idle) (hw : s.tsm.waiting = []) :
    (trigger s).rsu = { s.rsu with
      upCap := 0, downCap := 0
      upSide := sideAfter (trigger s) .up s.rsu.upSide, downSide := sideAfter (trigger s) .down s.rsu.downSide
      active := s.rsu.active.map (Dispatch.accrued (fleetMeasured (safeAllotted s)) s.tsm.settings.passPre) } := by
  obtain ⟨posts, -, -, -, ylc, -, -, rsu, -, -, settings, -⟩ := safeReviewed_keeps s
  obtain ⟨up, down⟩ := capability_safe (f := safeFacts (safeReviewed s)) rfl (trigger s)
  have missed (m : Int) (pre : Nat) : Dispatch.counted m pre none = Dispatch.accrued m pre :=
    funext fun d => counted_missed fun h => Option.some_ne_none _ h.symm
  rw [(trigger_safe_closed hop hi hw).rsu, up, down, rsu, settings, missed, fleetMeasured_same posts ylc]

/-! ### The snapshot (R106) -/

theorem takeSnapshot_eq (s : State) : takeSnapshot s =
    { posts := s.frt.posts, quiesced := (List.range' 4 64).filter (fun p => decide (p % 4 ∈ (cabAt s (p / 4)).pool.quiesce))
      bidir := (List.range' 1 16).filter (fun c => (cabAt s c).bidir), buses := s.frt.buses, legs := s.rdu.legs
      clockSet := s.rdu.clock.set, minute := s.rdu.clock.minute, preDraw := (List.range' 4 64).map (preDraw s)
      limit := limitInForce s, fSite := fSite s, fLo := fLo s, pPre := pPre s, cls := s.sbu.tariff.cls
      measured := fleetMeasured s
      dispatch := s.rsu.active.map (fun d => ⟨d.id, d.dir, d.power, d.baseline, (d.remaining + 9) / 10⟩)
      season := s.stp.season, storage := s.stp.table, settings := s.tsm.settings, ring := s.ale.ring, turn := s.ale.turn } := by
  have quiesced : postNos.filter (inQuiesce s) =
      (List.range' 4 64).filter (fun p => decide (p % 4 ∈ (cabAt s (p / 4)).pool.quiesce)) := by
    refine List.filter_congr fun p _ => ?_
    rw [Bool.eq_iff_iff, decide_eq_true_iff]
    exact List.contains_iff_mem
  have stationed : stations = List.range' 1 16 := rfl
  unfold takeSnapshot
  rw [quiesced, stationed]
  rfl

theorem preDraw_unlisted {s : State} {p n : Nat} {b : Bus} (hb : (postAt s p).bus.bind (busAt s) = some b)
    (hn : b.nextLeg = some n) (hl : findLeg s.rdu.legs n = none) : preDraw s p = 0 := by
  unfold preDraw
  rw [hb]
  dsimp only
  rw [hn, Option.bind_some, hl]

/-! ### One event (R14) -/

section
variable {e : PlugEvent} {s : State}

theorem processEvent_mapped {k : Nat} (h : e.kind = .plugged) (ht : taggedBus s e.tag = some k) :
    processEvent e s = updPost e.post Post.heard (plugMapped k e.post s) := by
  rw [processEvent_eq, h]
  dsimp only
  rw [ht]

theorem processEvent_unmapped (h : e.kind = .plugged) (ht : taggedBus s e.tag = none) :
    processEvent e s = updPost e.post Post.heard (plugUnmapped e.post s) := by
  rw [processEvent_eq, h]
  dsimp only
  rw [ht]

theorem processEvent_unplugged (h : e.kind = .unplugged) :
    processEvent e s = updPost e.post Post.heard (unplugEvent e.post s) := by
  rw [processEvent_eq, h]

theorem processEvent_fault (h : e.kind = .fault) : processEvent e s = updPost e.post Post.heard (faultEvent e.post s) := by
  rw [processEvent_eq, h]

theorem processEvent_faultClear (h : e.kind = .faultClear) :
    processEvent e s = updPost e.post Post.heard (faultClearEvent e.post s) := by
  rw [processEvent_eq, h]

end

/-- Settling without the fault test (R12, R19). -/
theorem settledState_untested (s : State) (p : Nat) : settledState s p false =
    if isFed s p = false then .disabled
    else if (postAt s p).bus.isSome then .plugged
    else if ((postAt s p).report.map Report.occupied).getD false then .guest else .empty := by
  unfold settledState
  simp

theorem holding_iff (x : PostState) :
    x.holding = true ↔ x = .unknown ∨ x = .faulted ∨ x = .disabled ∨ x = .offline := by
  cases x <;> simp [PostState.holding]

/-- Settles O54. -/
theorem triggersStartPasses : Obligations.TriggersStartPasses := by
  refine ⟨?_, ?_, fun s => ⟨takeSnapshot_eq s, fun p b n => preDraw_unlisted⟩, fun s => ⟨rfl, rfl⟩, ?_⟩
  · intro s hop asked drained
    refine ⟨trigger_running hop, fun hi hs => ⟨trigger_idle hop hi hs, plugQ_drain _, rfl⟩, fun hi hs hw => ?_⟩
    obtain ⟨ale, posts, up, down⟩ := trigger_safe_records hs hi hw
    rw [ale, posts]
    refine ⟨rfl, rfl, rfl, fun r hr => List.eq_of_mem_replicate hr, fun q hq => ?_, up, down⟩
    obtain ⟨q', -, rfl⟩ := List.mem_map.1 hq
    exact ⟨rfl, rfl, rfl⟩
  · intro s hs hi hw drained served v w u delivered
    have closed := trigger_safe_closed hs hi hw
    obtain ⟨ale, posts, up, down⟩ := trigger_safe_records hs hi hw
    obtain ⟨wposts, wqueue, wtags, wcount, wylc, wsbu, wale, wrsu, wstp, wclock, wsettings, wfree⟩ := safeReviewed_keeps s
    obtain ⟨cposts, cqueue, ctags⟩ := closed.frt
    obtain ⟨cylc, csbu, crdu, cale, cfree⟩ := closed.others
    have facts : safeFacts (safeReviewed s) =
        ⟨(List.range' 4 64).filter served, (List.range' 4 64).map (preDraw w), true⟩ := by
      refine (safeFacts_reviewed s).trans ?_
      have same : (fun p => (postAt drained p).state.served) = served := by
        funext p
        dsimp only [served]
        cases (postAt drained p).state <;> rfl
      rw [same]
      rfl
    have slot : u.rsu.slot = s.rsu.slot := (congrArg Rsu.slot closed.rsu :).trans (congrArg Rsu.slot wrsu :)
    have clock : u.rdu.clock = s.rdu.clock := (congrArg Rdu.clock crdu).trans wclock
    have side (d : Direction) (old : Option Side) : sideAfter u d old =
        if s.rdu.clock.set = true ∧ s.rsu.slot.isSome = true then some (sideOf u (s.rsu.slot.getD 0) d) else old := by
      unfold sideAfter
      rw [slot, clock]
    refine ⟨ale, cylc.trans wylc, ?_, csbu.trans wsbu, crdu, cfree.trans wfree, posts, cqueue.trans wqueue, ctags.trans wtags,
      closed.count.trans wcount, fun k b hb => ?_, ?_, ?_, ?_⟩
    · exact congrArg Ylc.refusal (cylc.trans wylc)
    · intro low
      refine (closed.buses k b hb).trans ?_
      rw [floored_eq]
      rfl
    · refine closed.stp.trans ?_
      rw [facts, wstp] <;> rfl
    · intro opened sideIn
      refine (trigger_safe_rsu hs hi hw).trans ?_
      rw [show sideAfter (trigger s) .up _ = _ from side .up _, show sideAfter (trigger s) .down _ = _ from side .down _]
      rfl
    · intro stored told
      have msg : crossingMsg u = ⟨103, .capability
          { slot := s.rsu.slot.getD 0, left := 30 - s.rdu.clock.minute % 30, upCap := 0, downCap := 0
            upCommit := commitmentIn u (s.rsu.slot.getD 0) .up, downCommit := commitmentIn u (s.rsu.slot.getD 0) .down
            active := u.rsu.active.map (fun d => ⟨d.id, d.dir, d.power⟩)
            armed := u.rsu.armed.map (fun d => ⟨d.id, d.dir, d.power⟩) }⟩ := by
        unfold crossingMsg
        rw [slot, clock, show u.rsu.upCap = 0 from up, show u.rsu.downCap = 0 from down]
        rfl
      have same : toldAtEnd none w u = told := by
        unfold toldAtEnd
        dsimp only [told, stored]
        rw [msg, show w.stp = s.stp from wstp, show w.rsu = s.rsu from wrsu]
        rfl
      rw [← same]
      exact closed.told
  · intro e s he ⟨hlen, _, _⟩ hpair _ p q t settledAs served enters put left cleared changed stays freed holding tagged taken
    have hp : 4 ≤ p ∧ p ≤ 67 := PlugEvent.post_range he
    have enter_eq (st : PostState) (r : Post) : r.enter st = enters st r := by cases st <;> rfl
    have freed_eq : freedAt p s = freed := by
      unfold freedAt
      dsimp only [freed]
      cases hb : busHere s p with
      | none =>
        have hb' : q.bus.bind (fun k => (busAt s k).map (fun b => (k, b))) = none := hb
        rw [hb']
      | some x =>
        have hb' : q.bus.bind (fun k => (busAt s k).map (fun b => (k, b))) = some x := hb
        rw [hb'] <;> rfl
    have changed_eq (st : PostState) (r : Post) (u : State) (hr : postAt u p = r) (hs : r.state = q.state) :
        entering p st u = changed st r u := by
      have iff : ((postAt u p).state.served = true ∧ st.served = false) ↔ (served q.state ∧ ¬ served st) := by
        rw [hr, hs, served_iff, ← Bool.not_eq_true, served_iff]
      unfold entering
      dsimp only [changed]
      rw [hr, enter_eq]
      by_cases h : served q.state ∧ ¬ served st
      · exact (if_pos (hr ▸ iff.2 h)).trans (if_pos h).symm
      · exact (if_neg fun h' => h (iff.1 (hr ▸ h'))).trans (if_neg h).symm
    refine ⟨fun k b hkind htag hb hk => ?_, fun k b hkind htag hb hk => ?_, fun hkind htag => ?_, fun hkind => ?_,
      fun hkind => ?_, fun hkind => ?_⟩
    · exact (processEvent_mapped hkind htag).trans (heard_mapped_own hp hlen hk hb)
    · intro r
      have eq : t = putPost p r.plugged.heard (putBus k (b.located p q.report) (takenFrom p k b s)) :=
        (processEvent_mapped hkind htag).trans (heard_mapped hp hlen hpair hk hb)
      obtain ⟨⟨bus, buses⟩, post, count, length, tags, queue, ylc, sbu, rdu, rsu, stp, free⟩ :=
        takenFrom_parts hp hlen hpair hk hb
      obtain ⟨fothers, fown, fposts, fcount, frame⟩ := freedAt_parts hp hlen hpair
      have placed : HasPost p (putBus k (b.located p q.report) (takenFrom p k b s)) := hasPost_of_number hp length
      have freed_bus : busAt (freedAt p s) k = some b := (fothers k hk).trans hb
      have bus_t (j : Nat) : busAt t j = busAt (putBus k (b.located p q.report) (takenFrom p k b s)) j := by rw [eq]; rfl
      have post_t (x : Nat) (hx : 4 ≤ x) (hne : x ≠ p) : postAt t x = postAt (takenFrom p k b s) x := by
        rw [eq]
        exact postAt_put_other hx hne hp.1 _ _
      have frame_sli : (freedAt p s).sli = s.sli ∧ (freedAt p s).tsm = s.tsm ∧ (freedAt p s).rdu.clock = s.rdu.clock ∧
          (freedAt p s).ale = s.ale := by
        rw [frame]
        exact ⟨rfl, rfl, rfl, rfl⟩
      obtain ⟨fsli, ftsm, fclock, fale⟩ := frame_sli
      refine ⟨?_, ?_, fun j d hj hd => ?_, fun j hj hne => ?_, ?_, fun o ho => ?_, fun ho => ?_, fun x h4 h67 hx hxo => ?_,
        ?_, ?_, ?_, ?_, ?_, ?_, ?_, ?_⟩
      · rw [eq, postAt_put placed]
        unfold Post.plugged
        have same : r.state = q.state := rfl
        rw [same]
        by_cases h : q.state = .empty ∨ q.state = .guest ∨ q.state = .held
        · rw [if_pos h, if_pos h, ← enter_eq]
          rfl
        · rw [if_neg h, if_neg h]
          by_cases hs : q.state = .plugged
          · rw [if_pos hs, if_pos hs]
            rfl
          · rw [if_neg hs, if_neg hs]
            rfl
      · rw [bus_t]
        exact busAt_putBus bus _
      · have ne : j ≠ k := fun he => hk (he ▸ hj)
        rw [bus_t, busAt_putBus_other ne, buses j ne]
        exact fown j d hj hd
      · rw [bus_t, busAt_putBus_other hj, buses j hj]
        exact fothers j hne
      · rw [eq]
        exact List.length_set.trans count
      · intro w
        obtain ⟨range, ne⟩ := conflict_elsewhere hpair hk hb ho
        have from_o : takenFrom p k b s = resolveConflict k o p (freedAt p s) := by
          unfold takenFrom
          rw [ho]
        obtain ⟨-, ⟨own, -⟩, ale, sli, tsm, -⟩ :=
          resolveConflict_parts (p := p) freed_bus (hasPost_of_number range (posts_freed hp hlen hpair))
        obtain ⟨tsli, ttsm⟩ := notice_same (.locationConflict b.fleetNo o p) fsli ftsm fclock
        have w_eq : (postAt (freedAt p s) o).deserted = w := congrArg Post.deserted (fposts o range.1 ne)
        rw [w_eq, ← from_o] at own ale
        rw [← from_o] at sli tsm
        refine ⟨?_, ?_, ?_, ?_⟩
        · rw [post_t o range.1 ne, own, enter_eq]
        · rw [eq]
          refine ale.trans ?_
          split
          · exact congrArg (fun a : Ale => (leaveRing o { s with ale := a }).ale) fale
          · exact fale
        · rw [eq]
          exact sli.trans tsli
        · rw [eq]
          exact tsm.trans ttsm
      · have from_none : takenFrom p k b s = freedAt p s := by
          unfold takenFrom
          rw [ho]
        rw [eq, from_none]
        exact ⟨fale, fsli, ftsm⟩
      · rw [post_t x h4 hx, ← fposts x h4 hx]
        cases ho : b.post with
        | none =>
          unfold takenFrom
          rw [ho]
        | some o =>
          obtain ⟨range, -⟩ := conflict_elsewhere hpair hk hb ho
          have apart : x ≠ o := fun he => hxo (he ▸ ho)
          unfold takenFrom
          rw [ho]
          exact (resolveConflict_parts (p := p) freed_bus (hasPost_of_number range (posts_freed hp hlen hpair))).2.1.2 x h4 apart
      · rw [eq]
        exact tags
      · rw [eq]
        exact queue
      · rw [eq]
        exact ylc
      · rw [eq]
        exact sbu
      · rw [eq]
        exact rdu
      · rw [eq]
        exact rsu
      · rw [eq]
        exact stp
      · rw [eq]
        exact free
    · have own : postAt freed p = cleared := by
        rw [← freed_eq]
        exact postAt_freed hp hlen hpair
      refine ((processEvent_unmapped hkind htag).trans (heard_unmapped hp hlen hpair)).trans ?_
      rw [show freedAt e.post s = freed from freed_eq]
      by_cases h : q.state = .empty ∨ q.state = .held ∨ q.state = .plugged
      · exact (if_pos h).trans ((changed_eq .guest cleared freed own rfl).trans (if_pos h).symm)
      · exact (if_neg h).trans (Eq.trans (congrArg (fun r => putPost p (Post.heard r) freed) own) (if_neg h).symm)
    · intro judged
      have judged_eq : judgedAt p s = judged := by
        unfold judgedAt
        dsimp only [judged]
        rw [freed_eq]
        cases hb : busHere s p with
        | none =>
          have hb' : q.bus.bind (fun k => (busAt s k).map (fun b => (k, b))) = none := hb
          rw [hb']
        | some x =>
          have hb' : q.bus.bind (fun k => (busAt s k).map (fun b => (k, b))) = some x := hb
          rw [hb']
      have own : postAt judged p = cleared := by
        rw [← judged_eq]
        exact postAt_judged hp hlen hpair
      have unplugs := processEvent_unplugged (s := s) hkind
      refine ⟨fun h => ?_, fun h => ?_, fun h => ?_, fun h => ?_⟩
      · refine (unplugs.trans (heard_unplugged hp hlen hpair h)).trans ?_
        rw [show judgedAt e.post s = judged from judged_eq]
        exact changed_eq .empty cleared judged own rfl
      · exact (unplugs.trans (heard_unplugged_guest hp hlen h)).trans (changed_eq .empty q s rfl rfl)
      · exact unplugs.trans (heard_unplugged_empty hp hlen h)
      · refine (unplugs.trans (heard_unplugged_holding hp hlen hpair h)).trans ?_
        rw [show judgedAt e.post s = judged from judged_eq]
        rfl
    · refine ((processEvent_fault hkind).trans (heard_fault hp hlen)).trans ?_
      have iff : (postAt s e.post).state.holding = true ↔ holding := holding_iff _
      by_cases h : holding
      · exact (if_pos (iff.2 h)).trans (if_pos h).symm
      · exact (if_neg fun h' => h (iff.1 h')).trans ((changed_eq .faulted q s rfl rfl).trans (if_neg h).symm)
    · intro fed st
      have settles : settledState s e.post false = st := by
        have feeders : feedsInForce (cabAt s (p / 4)).pool.inForce (p % 4) = fed := by
          dsimp only [fed]
          cases (cabAt s (p / 4)).pool.inForce <;> rfl
        have feeding : isFed s e.post = !fed.isEmpty := by
          rw [← feeders]
          rfl
        rw [settledState_untested, feeding]
        dsimp only [st]
        cases fed.isEmpty <;> rfl
      refine ((processEvent_faultClear hkind).trans (heard_faultClear hp hlen)).trans ?_
      rw [settles]
      by_cases h : q.state = .faulted
      · exact (if_pos h).trans ((changed_eq st q s rfl rfl).trans (if_pos h).symm)
      · exact (if_neg h).trans (if_neg h).symm

end Sys2Proof.Machine
end


section
/-! What sharing a budget gives (R119, R121, R122): the stable order of a sort, the amounts of one post, and that serving
in order and the water-fill give each wish at most itself and the budget at most once. -/

namespace Sys2Proof.Machine

/-! ### A stable sort -/

section
variable {α : Type} {key : α → Int}

theorem insertOn_perm (a : α) (l : List α) : (insertOn key a l).Perm (a :: l) := by
  induction l with
  | nil => exact .refl _
  | cons b l ih =>
    rw [insertOn]
    split
    · exact .refl _
    · exact (ih.cons b).trans (.swap a b l)

theorem sortOn_perm (l : List α) : (sortOn key l).Perm l := by
  induction l with
  | nil => exact .refl _
  | cons a l ih => exact (insertOn_perm a _).trans (ih.cons a)

@[simp] theorem mem_sortOn {a : α} {l : List α} : a ∈ sortOn key l ↔ a ∈ l := (sortOn_perm l).mem_iff

/-- Ascending by the key, elements of one key as `R` has them. -/
def Ascends (key : α → Int) (R : α → α → Prop) (a b : α) : Prop := key a < key b ∨ key a = key b ∧ R a b

theorem insertOn_ascends {R : α → α → Prop} {a : α} {l : List α} (hl : l.Pairwise (Ascends key R)) (ha : ∀ b ∈ l, R a b) :
    (insertOn key a l).Pairwise (Ascends key R) := by
  induction l with
  | nil => exact List.pairwise_singleton _ _
  | cons b l ih =>
    obtain ⟨hb, hl'⟩ := List.pairwise_cons.1 hl
    rw [insertOn]
    split
    case isTrue hle =>
      refine List.pairwise_cons.2 ⟨fun x hx => ?_, hl⟩
      have hbx : key b ≤ key x := by
        rcases List.mem_cons.1 hx with rfl | hx
        · exact le_rfl
        · exact (hb x hx).elim le_of_lt fun h => h.1.le
      rcases (hle.trans hbx).lt_or_eq with h | h
      · exact .inl h
      · exact .inr ⟨h, ha x hx⟩
    case isFalse hlt =>
      refine List.pairwise_cons.2 ⟨fun x hx => ?_, ih hl' fun x hx => ha x (.tail _ hx)⟩
      rcases List.mem_cons.1 ((insertOn_perm a l).mem_iff.1 hx) with rfl | hx
      · exact .inl (not_le.1 hlt)
      · exact hb x hx

/-- Sorting keeps the order that the list had before among equal keys. -/
theorem sortOn_ascends {R : α → α → Prop} {l : List α} (h : l.Pairwise R) : (sortOn key l).Pairwise (Ascends key R) := by
  induction l with
  | nil => exact .nil
  | cons a l ih =>
    obtain ⟨ha, hl⟩ := List.pairwise_cons.1 h
    exact insertOn_ascends (ih hl) fun b hb => ha b (mem_sortOn.1 hb)

end

/-! ### The amount of one post -/

/-- The sum of the amounts of a list. -/
def amounts (l : List (Nat × Int)) : Int := (l.map Prod.snd).sum

@[simp] theorem amounts_nil : amounts [] = 0 := rfl

@[simp] theorem amounts_cons (q : Nat × Int) (l : List (Nat × Int)) : amounts (q :: l) = q.2 + amounts l := by
  rw [amounts, List.map_cons, List.sum_cons, amounts]

@[simp] theorem amounts_append (l m : List (Nat × Int)) : amounts (l ++ m) = amounts l + amounts m := by
  rw [amounts, List.map_append, List.sum_append, amounts, amounts]

@[simp] theorem givenTo_nil (p : Nat) : givenTo [] p = 0 := rfl

theorem givenTo_cons (q : Nat × Int) (l : List (Nat × Int)) (p : Nat) :
    givenTo (q :: l) p = (if q.1 = p then q.2 else 0) + givenTo l p := by
  by_cases h : q.1 = p <;> simp [givenTo, h]

@[simp] theorem givenTo_append (l m : List (Nat × Int)) (p : Nat) :
    givenTo (l ++ m) p = givenTo l p + givenTo m p := by
  rw [givenTo, List.filter_append, List.map_append, List.sum_append, givenTo, givenTo]

theorem givenTo_nonneg {l : List (Nat × Int)} (h : ∀ q ∈ l, 0 ≤ q.2) (p : Nat) : 0 ≤ givenTo l p := by
  refine List.sum_nonneg fun x hx => ?_
  obtain ⟨q, hq, rfl⟩ := List.mem_map.1 hx
  exact h q (List.mem_filter.1 hq).1

theorem givenTo_le_amounts {l : List (Nat × Int)} (h : ∀ q ∈ l, 0 ≤ q.2) (p : Nat) : givenTo l p ≤ amounts l := by
  induction l with
  | nil => exact le_rfl
  | cons q l ih =>
    have hq : 0 ≤ q.2 := h q (.head _)
    have hl := ih fun q hq => h q (.tail _ hq)
    rw [givenTo_cons, amounts_cons]
    split <;> omega

theorem givenTo_of_not_mem {l : List (Nat × Int)} {p : Nat} (h : p ∉ l.map Prod.fst) : givenTo l p = 0 := by
  have none : l.filter (fun q => q.1 = p) = [] :=
    List.filter_eq_nil_iff.2 fun q hq => by simpa using fun e : q.1 = p => h (e ▸ List.mem_map_of_mem hq)
  rw [givenTo, none]
  rfl

/-- The wishes of a list of posts. -/
def wishes (l : List Nat) (w : Nat → Int) : List (Nat × Int) := l.map (fun p => (p, w p))

@[simp] theorem wishes_posts (l : List Nat) (w : Nat → Int) : (wishes l w).map Prod.fst = l := by
  simp [wishes, Function.comp_def]

@[simp] theorem amounts_wishes (l : List Nat) (w : Nat → Int) : amounts (wishes l w) = (l.map w).sum := by
  simp [amounts, wishes, Function.comp_def]

theorem mem_wishes {l : List Nat} {w : Nat → Int} {q : Nat × Int} : q ∈ wishes l w ↔ q.1 ∈ l ∧ w q.1 = q.2 := by
  simp only [wishes, List.mem_map, Prod.ext_iff]
  constructor
  · rintro ⟨p, hp, rfl, e⟩
    exact ⟨hp, e⟩
  · exact fun ⟨hp, e⟩ => ⟨q.1, hp, rfl, e⟩

theorem givenTo_wishes {l : List Nat} (hl : l.Nodup) (w : Nat → Int) (p : Nat) :
    givenTo (wishes l w) p = if p ∈ l then w p else 0 := by
  induction l with
  | nil => rfl
  | cons a l ih =>
    obtain ⟨ha, hl'⟩ := List.nodup_cons.1 hl
    rw [wishes, List.map_cons, givenTo_cons, ← wishes, ih hl']
    by_cases h : a = p
    · subst h
      simp [ha]
    · simp [h, Ne.symm h]

/-- The amounts of the posts of a list add up to what the list gives. -/
theorem sum_givenTo {ps : List Nat} (hps : ps.Nodup) {l : List (Nat × Int)} (h : ∀ q ∈ l, q.1 ∈ ps) :
    (ps.map (givenTo l)).sum = amounts l := by
  induction l with
  | nil => exact List.sum_eq_zero fun x hx => (List.mem_map.1 hx).elim fun _ h => h.2.symm
  | cons q l ih =>
    have own : (ps.map (fun p => if q.1 = p then q.2 else 0)).sum = q.2 := by
      rw [List.sum_map_eq_nsmul_single q.1 _ fun p hp _ => if_neg (Ne.symm hp),
        List.count_eq_one_of_mem hps (h q (.head _)), if_pos rfl, one_nsmul]
    rw [List.map_congr_left fun p _ => givenTo_cons q l p, List.sum_map_add, own, ih fun q hq => h q (.tail _ hq),
      amounts_cons]

/-! ### A budget shared among wishes -/

/-- `g` shares the budget `r` among the wishes `m`: to their posts alone, to each at most its wish, each unit once. -/
structure Shared (m : List (Nat × Int)) (r : Int) (g : Given) : Prop where
  posts  : ∀ q ∈ g.1, q.1 ∈ m.map Prod.fst
  nonneg : ∀ q ∈ g.1, 0 ≤ q.2
  within : ∀ p, givenTo g.1 p ≤ givenTo m p
  spent  : amounts g.1 + g.2 = r
  left   : 0 ≤ g.2

theorem shared_nothing {m : List (Nat × Int)} {r : Int} (hm : ∀ q ∈ m, 0 ≤ q.2) (hr : 0 ≤ r) : Shared m r ([], r) :=
  ⟨fun _ h => (List.not_mem_nil h).elim, fun _ h => (List.not_mem_nil h).elim, givenTo_nonneg hm, zero_add r, hr⟩

/-- What is left of a budget is shared next. -/
theorem Shared.and {m m' M : List (Nat × Int)} {r : Int} {g g' : Given} (h : Shared m r g) (h' : Shared m' g.2 g')
    (posts : ∀ q ∈ g.1 ++ g'.1, q.1 ∈ M.map Prod.fst)
    (within : ∀ p, givenTo g.1 p + givenTo g'.1 p ≤ givenTo M p) : Shared M r (g.1 ++ g'.1, g'.2) where
  posts := posts
  nonneg q hq := (List.mem_append.1 hq).elim (h.nonneg q) (h'.nonneg q)
  within p := (givenTo_append g.1 g'.1 p).trans_le (within p)
  spent := by rw [amounts_append, add_assoc, h'.spent, h.spent]
  left := h'.left

theorem Shared.append {m m' : List (Nat × Int)} {r : Int} {g g' : Given} (h : Shared m r g) (h' : Shared m' g.2 g') :
    Shared (m ++ m') r (g.1 ++ g'.1, g'.2) := by
  refine h.and h' (fun q hq => ?_) fun p => ?_
  · rw [List.map_append]
    exact List.mem_append.2 ((List.mem_append.1 hq).imp (h.posts q) (h'.posts q))
  · rw [givenTo_append]
    exact add_le_add (h.within p) (h'.within p)

theorem Shared.mono {m M : List (Nat × Int)} {r : Int} {g : Given} (h : Shared m r g)
    (posts : ∀ p ∈ m.map Prod.fst, p ∈ M.map Prod.fst) (within : ∀ p, givenTo m p ≤ givenTo M p) : Shared M r g :=
  { h with posts := fun q hq => posts _ (h.posts q hq), within := fun p => (h.within p).trans (within p) }

/-- Wishes for what a first sharing left open: the two together stay within the first wishes. -/
theorem Shared.topUp {m : List (Nat × Int)} {l : List Nat} {w : Nat → Int} {r : Int} {g g' : Given} (h : Shared m r g)
    (hl : l.Nodup) (hw : ∀ p ∈ l, p ∈ m.map Prod.fst ∧ givenTo m p = w p)
    (h' : Shared (wishes l (fun p => w p - givenTo g.1 p)) g.2 g') : Shared m r (g.1 ++ g'.1, g'.2) := by
  refine h.and h' (fun q hq => ?_) fun p => ?_
  · refine (List.mem_append.1 hq).elim (h.posts q) fun hq => ?_
    have own := h'.posts q hq
    rw [wishes_posts] at own
    exact (hw q.1 own).1
  · have own := h'.within p
    have before := h.within p
    rw [givenTo_wishes hl] at own
    by_cases hp : p ∈ l
    · rw [if_pos hp] at own
      have := (hw p hp).2
      omega
    · rw [if_neg hp] at own
      omega

/-! ### Serving in order -/

theorem serve_shared {l : List (Nat × Int)} {r : Int} (hl : ∀ q ∈ l, 0 ≤ q.2) (hr : 0 ≤ r) : Shared l r (serve l r) := by
  induction l generalizing r with
  | nil => exact shared_nothing hl hr
  | cons q l ih =>
    have hq : 0 ≤ q.2 := hl q (.head _)
    have rest := ih (r := r - min q.2 r) (fun q hq => hl q (.tail _ hq)) (by omega)
    refine ⟨fun x hx => ?_, fun x hx => ?_, fun p => ?_, ?_, rest.left⟩
    · rcases List.mem_cons.1 hx with rfl | hx
      · exact .head _
      · exact .tail _ (rest.posts x hx)
    · rcases List.mem_cons.1 hx with rfl | hx
      · exact le_min hq hr
      · exact rest.nonneg x hx
    · rw [serve_cons, givenTo_cons, givenTo_cons]
      have := rest.within p
      split <;> omega
    · have := rest.spent
      rw [serve_cons, amounts_cons]
      omega

/-- What serving leaves of a budget. -/
theorem serve_left {l : List (Nat × Int)} {r : Int} (hl : ∀ q ∈ l, 0 ≤ q.2) (hr : 0 ≤ r) :
    (serve l r).2 = max 0 (r - amounts l) := by
  induction l generalizing r with
  | nil => simp [hr]
  | cons q l ih =>
    have hq : 0 ≤ q.2 := hl q (.head _)
    have rest : 0 ≤ amounts l := List.sum_nonneg fun x hx => by
      obtain ⟨y, hy, rfl⟩ := List.mem_map.1 hx
      exact hl y (.tail _ hy)
    rw [serve_cons, ih (fun q hq => hl q (.tail _ hq)) (by omega), amounts_cons]
    omega

/-- A budget that covers the wishes gives each of them. -/
theorem serve_all {l : List (Nat × Int)} {r : Int} (hl : ∀ q ∈ l, 0 ≤ q.2) (hr : amounts l ≤ r) : (serve l r).1 = l := by
  induction l generalizing r with
  | nil => rfl
  | cons q l ih =>
    have rest : 0 ≤ amounts l := List.sum_nonneg fun x hx => by
      obtain ⟨y, hy, rfl⟩ := List.mem_map.1 hx
      exact hl y (.tail _ hy)
    rw [amounts_cons] at hr
    rw [serve_cons, min_eq_left (by omega), ih (fun q hq => hl q (.tail _ hq)) (by omega)]

/-- Where a later post is given anything, an earlier one is given its wish. -/
theorem serve_earlier_first {R : Nat → Nat → Prop} (asymm : ∀ p q, R p q → ¬ R q p) {l : List Nat} {w : Nat → Int} {r : Int}
    (hl : l.Pairwise R) (hw : ∀ p ∈ l, 0 ≤ w p) (hr : 0 ≤ r) {p q : Nat} (hp : p ∈ l) (hq : q ∈ l) (hpq : R p q)
    (hgiven : 0 < givenTo (serve (wishes l w) r).1 q) : givenTo (serve (wishes l w) r).1 p = w p := by
  induction l generalizing r with
  | nil => exact (List.not_mem_nil hp).elim
  | cons a l ih =>
    obtain ⟨ha, hl'⟩ := List.pairwise_cons.1 hl
    have wa : 0 ≤ w a := hw a (.head _)
    have rest : Shared (wishes l w) (r - min (w a) r) (serve (wishes l w) (r - min (w a) r)) :=
      serve_shared (fun x hx => by
        obtain ⟨hx, e⟩ := mem_wishes.1 hx
        exact e ▸ hw _ (.tail _ hx)) (by omega)
    have fresh : a ∉ l := fun h => asymm a a (ha a h) (ha a h)
    have none : givenTo (serve (wishes l w) (r - min (w a) r)).1 a = 0 := givenTo_of_not_mem fun h => by
      obtain ⟨x, hx, e⟩ := List.mem_map.1 h
      have := rest.posts x hx
      rw [wishes_posts, e] at this
      exact fresh this
    have at_cons (x : Nat) : givenTo (serve (wishes (a :: l) w) r).1 x =
        (if a = x then min (w a) r else 0) + givenTo (serve (wishes l w) (r - min (w a) r)).1 x := givenTo_cons _ _ _
    rw [at_cons] at hgiven ⊢
    rcases List.mem_cons.1 hp with rfl | hp'
    · have hqa : p ≠ q := fun e => by subst e; exact asymm p p hpq hpq
      rw [if_neg hqa] at hgiven
      rw [if_pos rfl, none]
      have given := givenTo_le_amounts rest.nonneg q
      have spent := rest.spent
      have nonneg := rest.left
      omega
    · have hpa : a ≠ p := fun e => fresh (e ▸ hp')
      rcases List.mem_cons.1 hq with rfl | hq'
      · exact absurd (ha p hp') (asymm p q hpq)
      · have hqa : a ≠ q := fun e => fresh (e ▸ hq')
        rw [if_neg hqa, zero_add] at hgiven
        rw [if_neg hpa, zero_add]
        exact ih hl' (fun x hx => hw x (.tail _ hx)) (by omega) hp' hq' hgiven

/-! ### The water-fill (R122) -/

/-- Every wish given. -/
theorem shared_all {m : List (Nat × Int)} {r : Int} (hm : ∀ q ∈ m, 0 ≤ q.2) (hr : amounts m ≤ r) :
    Shared m r (m, r - amounts m) :=
  ⟨fun _ => List.mem_map_of_mem, hm, fun _ => le_rfl, add_sub_cancel _ _, sub_nonneg.2 hr⟩

/-- A like amount for every member. -/
def alike (m : List (Nat × Int)) (s : Int) : List (Nat × Int) := m.map (fun q => (q.1, s))

@[simp] theorem alike_posts (m : List (Nat × Int)) (s : Int) : (alike m s).map Prod.fst = m.map Prod.fst := by
  simp [alike, Function.comp_def]

theorem alike_nonneg (m : List (Nat × Int)) {s : Int} (hs : 0 ≤ s) : ∀ q ∈ alike m s, 0 ≤ q.2 := by
  intro q hq
  obtain ⟨x, -, rfl⟩ := List.mem_map.1 hq
  exact hs

theorem amounts_alike (m : List (Nat × Int)) (s : Int) : amounts (alike m s) = s * m.length := by
  rw [amounts, alike, List.map_map, show (Prod.snd ∘ fun q : Nat × Int => (q.1, s)) = fun _ => s from rfl, List.map_const',
    List.sum_replicate, nsmul_eq_mul, mul_comm]

theorem givenTo_alike_add {m : List (Nat × Int)} {s u : Int} (hm : ∀ q ∈ m, s + u ≤ q.2) (p : Nat) :
    givenTo (alike m s) p + givenTo (alike m u) p ≤ givenTo m p := by
  induction m with
  | nil => exact le_rfl
  | cons q m ih =>
    have hq := hm q (.head _)
    have := ih fun q hq => hm q (.tail _ hq)
    rw [alike, alike, List.map_cons, List.map_cons, ← alike, ← alike, givenTo_cons, givenTo_cons, givenTo_cons]
    dsimp only
    split <;> omega

theorem units_shared (m : List (Nat × Int)) {r : Int} (hr : 0 ≤ r) : Shared (alike m 1) r (units m r) :=
  serve_shared (alike_nonneg m zero_le_one) hr

/-- The members of a list by a test and its negation. -/
theorem givenTo_filter_add (m : List (Nat × Int)) (t : Nat × Int → Bool) (p : Nat) :
    givenTo (m.filter t) p + givenTo (m.filter (fun q => !t q)) p = givenTo m p := by
  induction m with
  | nil => rfl
  | cons q m ih =>
    rw [givenTo_cons, ← ih]
    cases h : t q <;> simp [h, givenTo_cons] <;> omega

theorem amounts_le_of_le {m : List (Nat × Int)} {s : Int} (hm : ∀ q ∈ m, q.2 ≤ s) : amounts m ≤ s * m.length := by
  induction m with
  | nil => simp
  | cons q m ih =>
    have hq := hm q (.head _)
    have := ih fun q hq => hm q (.tail _ hq)
    rw [amounts_cons, List.length_cons, Nat.cast_succ, mul_add, mul_one]
    omega

theorem waterFill_shared (n : Nat) {m : List (Nat × Int)} {r : Int} (hm : ∀ q ∈ m, 0 < q.2) (hr : 0 ≤ r) :
    Shared m r (waterFill n m r) := by
  induction n generalizing m r with
  | zero => exact shared_nothing (fun q hq => (hm q hq).le) hr
  | succ n ih =>
    rw [waterFill]
    split
    case isTrue => exact shared_nothing (fun q hq => (hm q hq).le) hr
    split
    case isTrue =>
      refine (units_shared m hr).mono (fun p hp => by rwa [alike_posts] at hp) fun p => ?_
      have ones := givenTo_alike_add (s := 0) (u := 1) (fun q hq => by have := hm q hq; omega) p
      have nonneg := givenTo_nonneg (alike_nonneg m le_rfl) p
      omega
    case isFalse hempty hmany =>
      have some_member : (0 : Int) < m.length := by
        rw [List.isEmpty_iff, not_or] at hempty
        exact_mod_cast List.length_pos_iff.2 hempty.1
      let s := r / m.length
      have share_nonneg : 0 ≤ s := Int.ediv_nonneg hr some_member.le
      have share_le : s * m.length ≤ r := Int.ediv_mul_le r some_member.ne'
      dsimp only
      split
      case isTrue hnone =>
        have each : ∀ q ∈ m, s + 1 ≤ q.2 := fun q hq => by
          have := List.filter_eq_nil_iff.1 (List.isEmpty_iff.1 hnone) q hq
          simpa using this
        have like : Shared (alike m s) r (alike m s, r - s * m.length) := by
          have := shared_all (alike_nonneg m share_nonneg) ((amounts_alike m s).trans_le share_le)
          rwa [amounts_alike] at this
        refine (like.append (units_shared m (sub_nonneg.2 share_le))).mono (fun p hp => ?_) fun p => ?_
        · rwa [List.map_append, alike_posts, alike_posts, List.mem_append, or_self] at hp
        · rw [givenTo_append]
          exact givenTo_alike_add each p
      case isFalse =>
        let small := m.filter (fun q => q.2 ≤ s)
        have small_le : amounts small ≤ r := by
          have le := amounts_le_of_le (m := small) (s := s) fun q hq => by simpa using (List.mem_filter.1 hq).2
          have fewer : s * small.length ≤ s * m.length :=
            Int.mul_le_mul_of_nonneg_left (by exact_mod_cast List.length_filter_le _ m) share_nonneg
          omega
        have first : Shared small r (small, r - amounts small) :=
          shared_all (fun q hq => (hm q (List.mem_filter.1 hq).1).le) small_le
        have rest := ih (m := m.filter (fun q => ¬ q.2 ≤ s)) (r := r - amounts small)
          (fun q hq => hm q (List.mem_filter.1 hq).1) (sub_nonneg.2 small_le)
        refine (first.append rest).mono (fun p hp => ?_) fun p => ?_
        · rw [List.map_append, List.mem_append] at hp
          rcases hp with hp | hp
          · exact (List.filter_sublist.map _).subset hp
          · exact (List.filter_sublist.map _).subset hp
        · rw [givenTo_append, ← givenTo_filter_add m (fun q => q.2 ≤ s) p]
          simp only [decide_not, small, le_refl]

/-- Members without headroom stand aside: the wishes of the others. -/
theorem fill_shared {m : List (Nat × Int)} {r : Int} (hm : ∀ q ∈ m, 0 ≤ q.2) (hr : 0 ≤ r) : Shared m r (fill m r) := by
  refine (waterFill_shared _ (fun q hq => by simpa using (List.mem_filter.1 hq).2) hr).mono
    (fun p hp => (List.filter_sublist.map _).subset hp) fun p => ?_
  rw [← givenTo_filter_add m (fun q => 0 < q.2) p]
  exact le_add_of_nonneg_right (givenTo_nonneg (fun q hq => hm q (List.mem_filter.1 hq).1) p)

theorem fill_nil (r : Int) : fill [] r = ([], r) := waterFill_empty _ _ _ (.inl rfl)

theorem fill_positive (m : List (Nat × Int)) (r : Int) : fill (m.filter (fun q => 0 < q.2)) r = fill m r := by
  simp only [fill, List.filter_filter, Bool.and_self]

section
variable {m : List (Nat × Int)} {r : Int} (hm : ∀ q ∈ m, 0 < q.2)
include hm

theorem fill_nothing (h : m = [] ∨ r ≤ 0) : fill m r = ([], r) :=
  (fill_eq _ m r hm (Nat.lt_succ_self _)).trans (waterFill_empty _ m r h)

/-- A round of the water-fill over at least one member with a budget. -/
theorem fill_round (hne : m ≠ []) (hr : 0 < r) :
    fill m r = if r < m.length then units m r
      else if (m.filter (fun q => q.2 ≤ r / m.length)).isEmpty then
        (alike m (r / m.length) ++ (units m (r - r / m.length * m.length)).1, (units m (r - r / m.length * m.length)).2)
      else
        (m.filter (fun q => q.2 ≤ r / m.length) ++
          (waterFill (m.length + 1) (m.filter (fun q => ¬ q.2 ≤ r / m.length))
            (r - amounts (m.filter (fun q => q.2 ≤ r / m.length)))).1,
          (waterFill (m.length + 1) (m.filter (fun q => ¬ q.2 ≤ r / m.length))
            (r - amounts (m.filter (fun q => q.2 ≤ r / m.length)))).2) := by
  rw [fill_eq (m.length + 1 + 1) m r hm (Nat.lt_succ_of_lt (Nat.lt_succ_self _)), waterFill,
    if_neg (by simpa using ⟨hne, hr⟩)]
  rfl

theorem fill_units (hne : m ≠ []) (hr : 0 < r) (hfew : r < m.length) : fill m r = units m r :=
  (fill_round hm hne hr).trans (if_pos hfew)

theorem fill_small (hne : m ≠ []) (hmany : (m.length : Int) ≤ r) (hsmall : m.filter (fun q => q.2 ≤ r / m.length) ≠ []) :
    fill m r = (m.filter (fun q => q.2 ≤ r / m.length) ++
      (fill (m.filter (fun q => r / m.length < q.2)) (r - amounts (m.filter (fun q => q.2 ≤ r / m.length)))).1,
      (fill (m.filter (fun q => r / m.length < q.2)) (r - amounts (m.filter (fun q => q.2 ≤ r / m.length)))).2) := by
  have hr : 0 < r := lt_of_lt_of_le (by exact_mod_cast List.length_pos_iff.2 hne) hmany
  have large : m.filter (fun q => ¬ q.2 ≤ r / m.length) = m.filter (fun q => r / m.length < q.2) := by
    simp only [not_le]
  have rest := fill_eq (m.length + 1) (m.filter (fun q => r / m.length < q.2))
    (r - amounts (m.filter (fun q => q.2 ≤ r / m.length))) (fun q hq => hm q (List.mem_filter.1 hq).1)
    (Nat.lt_succ_of_le (List.length_filter_le _ m))
  rw [fill_round hm hne hr, if_neg (not_lt.2 hmany), if_neg (by simpa using hsmall), large, rest]

theorem fill_like (hne : m ≠ []) (hmany : (m.length : Int) ≤ r) (hlarge : m.filter (fun q => q.2 ≤ r / m.length) = []) :
    fill m r = (alike m (r / m.length) ++ (units m (r - r / m.length * m.length)).1,
      (units m (r - r / m.length * m.length)).2) := by
  have hr : 0 < r := lt_of_lt_of_le (by exact_mod_cast List.length_pos_iff.2 hne) hmany
  rw [fill_round hm hne hr, if_neg (not_lt.2 hmany), if_pos (by rw [hlarge]; rfl)]

end

end Sys2Proof.Machine
end


section
/-! The claims of a pass and their orders (R112 to R119): each field of a post's claim as a term of the snapshot, and the
members of each tier as a list of posts. -/

namespace Sys2Proof.Machine

/-! ### The terms of a taken post -/

/-- The posts taken (R112). -/
def Snapshot.taken (n : Snapshot) : List Nat := postNos.filter n.takes

/-- The bus recorded at a post. -/
def Snapshot.busOf (n : Snapshot) (p : Nat) : Option Bus := (n.post p).bus.bind (fun k => n.buses[k]?)

/-- The smallest of a list, at most 32767. -/
def least (l : List Int) : Int := l.foldl min 32767

/-- The charge bound (R113). -/
def Snapshot.up (n : Snapshot) (p : Nat) : Int :=
  least ([acceptOf (n.post p), (n.post p).rating, max (n.post p).prevGrant 0 + n.settings.rampStep] ++
    (n.post p).requestCap.toList ++ match n.busOf p with
      | none => [n.settings.guestCap]
      | some b => if (n.post p).state = .guest ∨ b.state = .withdrawn then [n.settings.guestCap] else [])

/-- The precondition share (R112). -/
def Snapshot.share (n : Snapshot) (p : Nat) : Int := match n.busOf p with
  | none => 0
  | some _ => min (n.draw p) (n.up p)

/-- The headroom (R113). -/
def Snapshot.head (n : Snapshot) (p : Nat) : Int := n.up p - n.share p

/-- The minutes to departure (R114). -/
def Snapshot.mins (n : Snapshot) (p : Nat) : Nat := match (n.busOf p).bind (fun b => b.nextLeg.bind (findLeg n.legs)) with
  | none => 0
  | some l =>
    if n.clockSet = false then 120
    else if l.outcome = .pending ∧ n.minute < l.row.departure + n.settings.grace then l.row.departure - n.minute
    else 1440 - n.minute + l.row.departure

/-- The held percent (R119). -/
def Snapshot.percent (n : Snapshot) (p : Nat) : Nat := match n.busOf p with
  | none => 0
  | some b => b.heldOr0 * 100 / b.capacity

/-- The need of BELOW_FLOOR (R121). -/
def Snapshot.need (n : Snapshot) (p : Nat) : Int := match n.busOf p with
  | none => 0
  | some b => min (n.head p)
    (max n.settings.pMin (((b.floor - b.heldOr0) * 60 + max 1 (n.mins p) - 1) / max 1 (n.mins p) : Nat))

/-- The energy above the discharge floor (R119). -/
def Snapshot.surplus (n : Snapshot) (p : Nat) : Int := match n.busOf p with
  | none => 0
  | some b => b.heldOr0 - b.dischargeFloor

/-- The tier of a post after the pass. -/
def Snapshot.tier (n : Snapshot) (p : Nat) : Tier := pairValue (allocate n).tiers p .idle

/-- The battery temperature test (R118, R165). -/
def Snapshot.warm (n : Snapshot) (p : Nat) : Bool := match (n.post p).report.bind Report.temp with
  | none => false
  | some t => decide (n.settings.minTemp ≤ t)

/-- What a post can give to an UP dispatch (R118). -/
def Snapshot.give (n : Snapshot) (p : Nat) : Int := match n.busOf p, n.dispatch with
  | some b, some d =>
    if d.dir = .up ∧ (n.post p).state = .plugged ∧ b.state ≠ .withdrawn ∧ b.v2g = true ∧ p / 4 ∈ n.bidir ∧ n.warm p = true ∧
        n.draw p = 0 ∧ n.tier p ≠ .urgent ∧ n.tier p ≠ .belowFloor ∧ b.dischargeFloor < b.heldOr0 then
      least [deliverOf (n.post p), (n.post p).rating, max (-(n.post p).prevGrant) 0 + n.settings.rampStep,
        (((b.heldOr0 - b.dischargeFloor) * 60 / max 1 ((d.remaining + 59) / 60) : Nat) : Int)]
    else 0
  | _, _ => 0

/-- The storage entry of a post's bus (R160). -/
def Snapshot.entry (n : Snapshot) (p : Nat) : StorageEntry :=
  n.storage.getD ((n.post p).bus.getD 256) ⟨.notParked, 0, 0, 0, 0⟩

/-- Does a post absorb a DOWN dispatch (R124)? -/
def Snapshot.absorbs (n : Snapshot) (p : Nat) : Prop := (n.post p).state = .plugged ∧ ∃ b, n.busOf p = some b ∧
  b.heldOr0 < if b.state = .withdrawn ∨ (n.entry p).cls = .notParked then b.capacity else (n.entry p).ceiling

/-! ### The claim of a post -/

section
variable {n : Snapshot} {p : Nat}

theorem claimOf_of_none (h : n.busOf p = none) : claimOf n p = guestClaim n p := by
  rw [Snapshot.busOf] at h
  rw [claimOf]
  cases hb : (n.post p).bus with
  | none => rfl
  | some k =>
    rw [hb, Option.bind_some] at h
    simp only [h]

theorem claimOf_of_some {b : Bus} (h : n.busOf p = some b) :
    ∃ k, (n.post p).bus = some k ∧ n.buses[k]? = some b ∧ claimOf n p = busClaim n p k b := by
  obtain ⟨k, hk, hb⟩ := Option.bind_eq_some_iff.1 h
  exact ⟨k, hk, hb, by simp only [claimOf, hk, hb]⟩

@[simp] theorem claimOf_post : (claimOf n p).post = p := by
  cases h : n.busOf p with
  | none => rw [claimOf_of_none h, guestClaim]
  | some b =>
    obtain ⟨k, -, -, e⟩ := claimOf_of_some h
    rw [e, busClaim]

theorem claimOf_mins : (claimOf n p).mins = n.mins p := by
  cases h : n.busOf p with
  | none => simp [claimOf_of_none h, guestClaim, Snapshot.mins, h]
  | some b =>
    obtain ⟨k, -, -, e⟩ := claimOf_of_some h
    simp only [e, busClaim, Snapshot.mins, h, Option.bind_some, recordedLeg]
    cases b.nextLeg.bind (findLeg n.legs) with
    | none => rfl
    | some l => cases hc : n.clockSet <;> simp [legMinutes, Leg.close] <;> rfl

theorem claimOf_pct : (claimOf n p).pct = n.percent p := by
  cases h : n.busOf p with
  | none => simp only [claimOf_of_none h, guestClaim, Snapshot.percent, h]
  | some b =>
    obtain ⟨k, -, -, e⟩ := claimOf_of_some h
    simp only [e, busClaim, Snapshot.percent, h, heldPercent]

theorem claimOf_surplus : (claimOf n p).surplus = n.surplus p := by
  cases h : n.busOf p with
  | none => simp only [claimOf_of_none h, guestClaim, Snapshot.surplus, h]
  | some b =>
    obtain ⟨k, -, -, e⟩ := claimOf_of_some h
    simp only [e, busClaim, Snapshot.surplus, h]

theorem claimOf_absorbs : (claimOf n p).absorbs = true ↔ n.absorbs p := by
  rw [Snapshot.absorbs]
  cases h : n.busOf p with
  | none => simp [claimOf_of_none h, guestClaim]
  | some b =>
    obtain ⟨k, hk, -, e⟩ := claimOf_of_some h
    have entry : n.entry p = n.storage.getD k StorageEntry.none := by rw [Snapshot.entry, hk]; rfl
    simp [e, busClaim, absorptionCeiling, entry]

/-- A post with a bus claims as a guest only in GUEST. -/
theorem claimOf_guest (h : (n.post p).state = .guest ∨ n.busOf p ≠ none) :
    (claimOf n p).guest = true ↔ (n.post p).state = .guest := by
  cases hb : n.busOf p with
  | none => simp [claimOf_of_none hb, guestClaim, h.resolve_right (not_not.2 hb)]
  | some b =>
    obtain ⟨k, -, -, e⟩ := claimOf_of_some hb
    simp [e, busClaim]

theorem claimOf_guest_of_store (h : (claimOf n p).tier = .store) :
    (claimOf n p).guest = true ↔ (n.post p).state = .guest := by
  refine claimOf_guest ?_
  by_cases hg : (n.post p).state = .guest
  · exact .inl hg
  · refine .inr fun hb => ?_
    rw [claimOf_of_none hb, guestClaim] at h
    simp [hg] at h

/-! ### The bounds -/

theorem chargeBound_eq {g : Settings} {q : Post} {capped : Bool} (h : acceptOf q ≤ 32767) :
    chargeBound g q capped = least ([acceptOf q, q.rating, max q.prevGrant 0 + g.rampStep] ++ q.requestCap.toList ++
      if capped then [g.guestCap] else []) := by
  cases hc : q.requestCap <;> cases capped <;> simp [chargeBound, minOf, least, hc] <;> omega

/-- A claim's share and headroom are the post's. -/
theorem claimOf_share_head (h : acceptOf (n.post p) ≤ 32767) :
    (claimOf n p).share = n.share p ∧ (claimOf n p).head = n.head p := by
  cases hb : n.busOf p with
  | none => simp [claimOf_of_none hb, guestClaim, Snapshot.share, Snapshot.head, Snapshot.up, hb, chargeBound_eq h]
  | some b =>
    obtain ⟨k, -, -, e⟩ := claimOf_of_some hb
    simp [e, busClaim, Snapshot.share, Snapshot.head, Snapshot.up, hb, chargeBound_eq h]

theorem claimOf_need (h : acceptOf (n.post p) ≤ 32767) : (claimOf n p).need = n.need p := by
  have head := (claimOf_share_head h).2
  have mins := claimOf_mins (n := n) (p := p)
  cases hb : n.busOf p with
  | none => simp only [claimOf_of_none hb, guestClaim, Snapshot.need, hb]
  | some b =>
    obtain ⟨k, -, -, e⟩ := claimOf_of_some hb
    rw [e] at head mins ⊢
    rw [Snapshot.need, hb, ← head, ← mins]
    rfl

end

/-- What the settings and the reports of a snapshot hold, of each taken post (R7, R9, R69). -/
structure Snapshot.Sound (n : Snapshot) : Prop where
  ramp  : 0 ≤ n.settings.rampStep
  guest : 0 ≤ n.settings.guestCap
  posts : ∀ p, n.takes p = true → 0 ≤ n.draw p ∧ 0 ≤ acceptOf (n.post p) ∧ 0 ≤ (n.post p).rating ∧
    ∀ c, (n.post p).requestCap = some c → 0 ≤ c

section
variable {n : Snapshot} (hn : n.Sound) {p : Nat} (hp : n.takes p = true)
include hn hp

theorem chargeBound_nonneg (capped : Bool) : 0 ≤ chargeBound n.settings (n.post p) capped := by
  obtain ⟨-, accept, rating, cap⟩ := hn.posts p hp
  have ramp := hn.ramp
  have guest := hn.guest
  cases hc : (n.post p).requestCap with
  | none => cases capped <;> simp [chargeBound, minOf, hc] <;> omega
  | some c =>
    have := cap c hc
    cases capped <;> simp [chargeBound, minOf, hc] <;> omega

/-- The share stays within the draw; the headroom and the need are not negative. -/
theorem claim_bounds : 0 ≤ (claimOf n p).share ∧ (claimOf n p).share ≤ n.draw p ∧ 0 ≤ (claimOf n p).head ∧
    0 ≤ (claimOf n p).need ∧ (claimOf n p).need ≤ (claimOf n p).head := by
  have draw := (hn.posts p hp).1
  cases hb : n.busOf p with
  | none =>
    rw [claimOf_of_none hb]
    have up := chargeBound_nonneg hn hp true
    exact ⟨le_rfl, draw, up, le_rfl, up⟩
  | some b =>
    obtain ⟨k, -, -, e⟩ := claimOf_of_some hb
    have up := chargeBound_nonneg hn hp ((n.post p).state = .guest || b.state = .withdrawn)
    rw [e]
    simp only [busClaim]
    omega

end

/-! ### The claims as posts -/

theorem mem_taken_iff {n : Snapshot} {p : Nat} : p ∈ n.taken ↔ (4 ≤ p ∧ p ≤ 67) ∧ n.takes p = true := by
  rw [Snapshot.taken, List.mem_filter, postNos, List.mem_range'_1]
  exact and_congr_left' (by omega)

theorem taken_ascends (n : Snapshot) : n.taken.Pairwise (· < ·) := (List.pairwise_lt_range').filter _

theorem taken_nodup (n : Snapshot) : n.taken.Nodup := (taken_ascends n).imp ne_of_lt

theorem claims_eq (n : Snapshot) : claims n = n.taken.map (claimOf n) := rfl

theorem mem_claims_iff {n : Snapshot} {c : Claim} : c ∈ claims n ↔ c.post ∈ n.taken ∧ c = claimOf n c.post := by
  rw [claims_eq, List.mem_map]
  constructor
  · rintro ⟨p, hp, rfl⟩
    rw [claimOf_post]
    exact ⟨hp, rfl⟩
  · exact fun ⟨hp, e⟩ => ⟨c.post, hp, e.symm⟩

theorem claims_ascend (n : Snapshot) : (claims n).Pairwise (fun a b => a.post < b.post) := by
  rw [claims_eq, List.pairwise_map]
  simpa only [claimOf_post] using taken_ascends n

/-- A list of claims that ascends by a key of the claim: its posts ascend by the post's term for the key. -/
theorem posts_ascend {n : Snapshot} {key : Claim → Int} {l : List Claim} {R : Nat → Nat → Prop} (hl : ∀ c ∈ l, c ∈ claims n)
    (h : l.Pairwise (fun a b => a.post < b.post))
    (hR : ∀ p ∈ n.taken, ∀ q ∈ n.taken, Ascends (fun p => key (claimOf n p)) (· < ·) p q → R p q) :
    ((sortOn key l).map Claim.post).Pairwise R := by
  rw [List.pairwise_map]
  refine (sortOn_ascends (key := key) h).imp_of_mem fun {a b} ha hb hab => ?_
  obtain ⟨pa, ea⟩ := mem_claims_iff.1 (hl a (mem_sortOn.1 ha))
  obtain ⟨pb, eb⟩ := mem_claims_iff.1 (hl b (mem_sortOn.1 hb))
  refine hR _ pa _ pb ?_
  simp only [Ascends, ← ea, ← eb]
  exact hab

/-- The posts of the claims that pass a test. -/
theorem mem_posts_filter {n : Snapshot} {t : Claim → Bool} {p : Nat} :
    p ∈ ((claims n).filter t).map Claim.post ↔ p ∈ n.taken ∧ t (claimOf n p) = true := by
  simp only [List.mem_map, List.mem_filter, mem_claims_iff]
  constructor
  · rintro ⟨c, ⟨⟨hp, e⟩, ht⟩, rfl⟩
    exact ⟨hp, e ▸ ht⟩
  · exact fun ⟨hp, ht⟩ => ⟨claimOf n p, ⟨⟨by rwa [claimOf_post], by rw [claimOf_post]⟩, ht⟩, claimOf_post⟩

/-- Wishes of claims are wishes of their posts. -/
theorem wishes_of_claims {n : Snapshot} {l : List Claim} (hl : ∀ c ∈ l, c ∈ claims n) {f : Claim → Int} {w : Nat → Int}
    (hw : ∀ p ∈ n.taken, f (claimOf n p) = w p) : l.map (fun c => (c.post, f c)) = wishes (l.map Claim.post) w := by
  rw [wishes, List.map_map]
  refine List.map_congr_left fun c hc => ?_
  obtain ⟨hp, e⟩ := mem_claims_iff.1 (hl c hc)
  have := hw c.post hp
  rw [← e] at this
  rw [Function.comp_apply, this]

end Sys2Proof.Machine
end


section
/-! The charge allocation in posts (R119 to R125): the members of each tier, the six passes over them, and that they share
the budget among the headrooms. -/

namespace Sys2Proof.Machine

/-! ### The members of the tiers -/

/-- The posts that a tier's passes serve, in their order. -/
def tierPosts (n : Snapshot) (t : Tier) : List Nat := (servedTier n (claims n) t).map Claim.post

/-- The posts that absorb a DOWN dispatch, in their order. -/
def absorbers (n : Snapshot) : List Nat :=
  if n.active .down then (byPercent ((claims n).filter Claim.absorbs)).map Claim.post else []

/-- Fewer minutes first, then the lower post number. -/
def Snapshot.sooner (n : Snapshot) (a b : Nat) : Prop := n.mins a < n.mins b ∨ n.mins a = n.mins b ∧ a < b

/-- The lower held percent first, then the lower post number. -/
def Snapshot.emptier (n : Snapshot) (a b : Nat) : Prop := n.percent a < n.percent b ∨ n.percent a = n.percent b ∧ a < b

/-- Every bus before every GUEST. -/
def Snapshot.storeOrder (n : Snapshot) (a b : Nat) : Prop :=
  let guest (p : Nat) : Prop := (n.post p).state = .guest
  ¬ guest a ∧ guest b ∨ guest a ∧ guest b ∧ a < b ∨ ¬ guest a ∧ ¬ guest b ∧ n.emptier a b

section
variable {n : Snapshot}

theorem mem_filter_claims {t : Claim → Bool} : ∀ c ∈ (claims n).filter t, c ∈ claims n := fun _ h => (List.mem_filter.1 h).1

theorem filter_claims_ascend (t : Claim → Bool) : ((claims n).filter t).Pairwise (fun a b => a.post < b.post) :=
  (claims_ascend n).filter t

theorem byMinutes_ascends (t : Claim → Bool) :
    ((byMinutes ((claims n).filter t)).map Claim.post).Pairwise n.sooner := by
  refine posts_ascend mem_filter_claims (filter_claims_ascend t) fun p _ q _ h => ?_
  simp only [Ascends, claimOf_mins] at h
  exact_mod_cast h

theorem bySurplus_ascends (t : Claim → Bool) :
    ((bySurplus ((claims n).filter t)).map Claim.post).Pairwise
      (fun p q => n.surplus q < n.surplus p ∨ n.surplus q = n.surplus p ∧ p < q) := by
  refine posts_ascend mem_filter_claims (filter_claims_ascend t) fun p _ q _ h => ?_
  simp only [Ascends, claimOf_surplus] at h
  omega

theorem mem_byPercent {l : List Claim} {c : Claim} : c ∈ byPercent l ↔ c ∈ l := by
  rw [byPercent, List.mem_append, mem_sortOn, List.mem_filter, List.mem_filter, ← and_or_left]
  cases c.guest <;> simp

/-- By percent, with the guests as the snapshot has them. -/
theorem byPercent_ascends {t : Claim → Bool}
    (guests : ∀ p ∈ n.taken, t (claimOf n p) = true → ((claimOf n p).guest = true ↔ (n.post p).state = .guest)) :
    ((byPercent ((claims n).filter t)).map Claim.post).Pairwise n.storeOrder := by
  have guest_of {c : Claim} (hc : c ∈ (claims n).filter t) : c.guest = true ↔ (n.post c.post).state = .guest := by
    obtain ⟨hc, ht⟩ := List.mem_filter.1 hc
    obtain ⟨hp, e⟩ := mem_claims_iff.1 hc
    have := guests c.post hp (e ▸ ht)
    rwa [← e] at this
  have bus_of {c : Claim} (hc : c ∈ ((claims n).filter t).filter (fun c => !c.guest)) : (n.post c.post).state ≠ .guest := by
    obtain ⟨hc, hg⟩ := List.mem_filter.1 hc
    exact fun h => by simp [(guest_of hc).2 h] at hg
  have is_guest {c : Claim} (hc : c ∈ ((claims n).filter t).filter Claim.guest) : (n.post c.post).state = .guest := by
    obtain ⟨hc, hg⟩ := List.mem_filter.1 hc
    exact (guest_of hc).1 hg
  rw [byPercent, List.map_append, List.pairwise_append]
  refine ⟨?buses, ?guests, ?between⟩
  case buses =>
    rw [List.pairwise_map]
    have sorted := sortOn_ascends (key := fun c : Claim => (c.pct : Int)) ((filter_claims_ascend (n := n) t).filter (fun c => !c.guest))
    refine sorted.imp_of_mem fun {a b} ha hb hab => .inr (.inr ⟨bus_of (mem_sortOn.1 ha), bus_of (mem_sortOn.1 hb), ?_⟩)
    have ea := (mem_claims_iff.1 (mem_filter_claims a (List.mem_filter.1 (mem_sortOn.1 ha)).1)).2
    have eb := (mem_claims_iff.1 (mem_filter_claims b (List.mem_filter.1 (mem_sortOn.1 hb)).1)).2
    rw [Snapshot.emptier, ← claimOf_pct, ← claimOf_pct, ← ea, ← eb]
    rw [Ascends] at hab
    exact_mod_cast hab
  case guests =>
    rw [List.pairwise_map]
    exact ((filter_claims_ascend t).filter Claim.guest).imp_of_mem fun {a b} ha hb hab =>
      .inr (.inl ⟨is_guest ha, is_guest hb, hab⟩)
  case between =>
    intro p hp q hq
    obtain ⟨a, ha, rfl⟩ := List.mem_map.1 hp
    obtain ⟨b, hb, rfl⟩ := List.mem_map.1 hq
    exact .inl ⟨bus_of (mem_sortOn.1 ha), is_guest hb⟩

/-- The members of a tier are those of its order. -/
theorem mem_tierOrder {t : Tier} {l : List Claim} {c : Claim} : c ∈ tierOrder t l ↔ c ∈ l ∧ c.tier = t := by
  rw [tierOrder]
  split
  · simp [mem_byPercent]
  · simp [byMinutes]

theorem tierOrder_sooner {t : Tier} (ht : t ≠ .store) : ((tierOrder t (claims n)).map Claim.post).Pairwise n.sooner := by
  rw [tierOrder, if_neg ht]
  exact byMinutes_ascends _

theorem tierOrder_store : ((tierOrder .store (claims n)).map Claim.post).Pairwise n.storeOrder := by
  rw [tierOrder, if_pos rfl]
  exact byPercent_ascends fun p _ ht => claimOf_guest_of_store (of_decide_eq_true ht)

theorem mem_tierOrder_posts {t : Tier} {p : Nat} :
    p ∈ (tierOrder t (claims n)).map Claim.post ↔ p ∈ n.taken ∧ (claimOf n p).tier = t := by
  simp only [List.mem_map, mem_tierOrder, mem_claims_iff]
  constructor
  · rintro ⟨c, ⟨⟨hp, e⟩, ht⟩, rfl⟩
    exact ⟨hp, e ▸ ht⟩
  · exact fun ⟨hp, ht⟩ => ⟨claimOf n p, ⟨⟨by rwa [claimOf_post], by rw [claimOf_post]⟩, ht⟩, claimOf_post⟩

theorem mem_servedTier {t : Tier} : ∀ c ∈ servedTier n (claims n) t, c ∈ claims n := fun c hc => by
  rw [servedTier] at hc
  split at hc
  · exact (List.not_mem_nil hc).elim
  · exact (mem_tierOrder.1 hc).1

theorem tierPosts_eq (t : Tier) :
    tierPosts n t = if suppressed n t then [] else (tierOrder t (claims n)).map Claim.post := by
  rw [tierPosts, servedTier]
  split <;> rfl

theorem mem_tierPosts {t : Tier} {p : Nat} :
    p ∈ tierPosts n t ↔ p ∈ n.taken ∧ (claimOf n p).tier = t ∧ suppressed n t = false := by
  rw [tierPosts_eq]
  cases h : suppressed n t
  · simp only [Bool.false_eq_true, if_false, mem_tierOrder_posts, and_true]
  · simp

theorem tierPosts_sooner {t : Tier} (ht : t ≠ .store) : (tierPosts n t).Pairwise n.sooner := by
  rw [tierPosts_eq]
  split
  · exact .nil
  · exact tierOrder_sooner ht

theorem tierPosts_store : (tierPosts n .store).Pairwise n.storeOrder := by
  rw [tierPosts_eq]
  split
  · exact .nil
  · exact tierOrder_store

theorem tierPosts_nodup (t : Tier) : (tierPosts n t).Nodup := by
  by_cases ht : t = .store
  · subst ht
    refine tierPosts_store.imp fun {a b} h e => ?_
    subst e
    simp [Snapshot.storeOrder, Snapshot.emptier] at h
  · refine (tierPosts_sooner ht).imp fun {a b} h e => ?_
    subst e
    simp [Snapshot.sooner] at h

/-- A tier suppresses as its tariff class says (R120). -/
theorem suppressed_eq_false_iff {t : Tier} (ht : t ≠ .idle) : suppressed n t = false ↔
    n.dispatch.map SnapDispatch.dir = some .down ∨ n.cls = .offpeak ∨ n.cls = .shoulder ∨ t = .urgent ∨
      n.cls = .peak ∧ t = .belowFloor := by
  by_cases hd : n.dispatch.map SnapDispatch.dir = some .down
  · simp [suppressed, Snapshot.active, hd]
  · cases hc : n.cls <;> cases t <;> simp [suppressed, Snapshot.active, hd, hc] at ht ⊢

theorem mem_absorbers {p : Nat} : p ∈ absorbers n ↔
    p ∈ n.taken ∧ n.dispatch.map SnapDispatch.dir = some .down ∧ n.absorbs p := by
  rw [absorbers, Snapshot.active]
  by_cases hd : n.dispatch.map SnapDispatch.dir = some .down
  · rw [decide_eq_true hd, if_pos rfl, List.mem_map]
    simp only [mem_byPercent]
    rw [← List.mem_map, mem_posts_filter, claimOf_absorbs, and_iff_right hd]
  · simp [hd]

theorem absorbers_emptier : (absorbers n).Pairwise n.emptier := by
  rw [absorbers]
  split
  · have plugged {p : Nat} (h : n.absorbs p) : (n.post p).state ≠ .guest := fun e => by simp [h.1] at e
    have order := byPercent_ascends (n := n) (t := Claim.absorbs) fun p _ ht => by
      obtain ⟨-, b, hb, -⟩ := claimOf_absorbs.1 ht
      exact claimOf_guest (.inr (by rw [hb]; exact Option.some_ne_none b))
    refine order.imp_of_mem fun {a b} ha hb hab => ?_
    have absorbs_of {p : Nat} (hp : p ∈ (byPercent ((claims n).filter Claim.absorbs)).map Claim.post) : n.absorbs p := by
      obtain ⟨c, hc, rfl⟩ := List.mem_map.1 hp
      exact claimOf_absorbs.1 (mem_posts_filter.1 (List.mem_map_of_mem (mem_byPercent.1 hc))).2
    rcases hab with ⟨-, h⟩ | ⟨-, h, -⟩ | ⟨-, -, h⟩
    · exact absurd h (plugged (absorbs_of hb))
    · exact absurd h (plugged (absorbs_of hb))
    · exact h
  · exact .nil

theorem absorbers_nodup : (absorbers n).Nodup := by
  refine absorbers_emptier.imp fun {a b} h e => ?_
  subst e
  simp [Snapshot.emptier] at h

end

end Sys2Proof.Machine
end


section
/-! The six passes of the charge allocation over posts (R121 to R125), and that they share the budget among the headrooms. -/

namespace Sys2Proof.Machine

/-! ### A pass with a rotation cut (R123) -/

/-- A TOP_UP or STORE pass over the posts of a tier: the posts served under a cut, and what is given. -/
def turnOf (n : Snapshot) (head : Nat → Int) (l : List Nat) (r : Int) : List Nat × Given :=
  let set := l.filter (fun p => 0 < head p)
  if set = [] then ([], ([], r))
  else if r / set.length < n.settings.pMin then
    let kept := (n.ring.filter (fun p => decide (p ∈ set)) ++ set.filter (fun p => decide (p ∉ n.ring))).take
      (r / n.settings.pMin).toNat
    (kept, fill ((set.filter (fun p => decide (p ∈ kept))).map (fun p => (p, head p))) r)
  else ([], fill (set.map (fun p => (p, head p))) r)

/-- Is the set of a pass cut? -/
def IsCut (n : Snapshot) (head : Nat → Int) (l : List Nat) (r : Int) : Prop :=
  (∃ p ∈ l, 0 < head p) ∧ r / ((l.filter (fun p => 0 < head p)).length : Int) < n.settings.pMin

section
variable {n : Snapshot} {head : Nat → Int}

theorem wishes_filter (l : List Nat) (t : Nat × Int → Bool) :
    (wishes l head).filter t = wishes (l.filter (fun p => t (p, head p))) head := by
  rw [wishes, List.filter_map]
  rfl

theorem wishes_eq_nil_iff {l : List Nat} : wishes l head = [] ↔ l = [] := List.map_eq_nil_iff

theorem wishes_length (l : List Nat) : (wishes l head).length = l.length := List.length_map _

/-- The rotation of a tier's claims is the turn of its posts. -/
theorem rotateFill_turn {order : List Claim} (ho : ∀ c ∈ order, c ∈ claims n)
    (hh : ∀ p ∈ n.taken, (claimOf n p).head = head p) (r : Int) :
    ((rotateFill n order r).served, (rotateFill n order r).given, (rotateFill n order r).left) =
        turnOf n head (order.map Claim.post) r ∧
      ((rotateFill n order r).cut = true ↔ IsCut n head (order.map Claim.post) r) := by
  have set_eq : (order.map (fun c => (c.post, c.head))).filter (fun q => 0 < q.2) =
      wishes ((order.map Claim.post).filter (fun p => 0 < head p)) head := by
    rw [wishes_of_claims ho hh, wishes_filter]
  have some_head : (∃ p ∈ order.map Claim.post, 0 < head p) ↔ (order.map Claim.post).filter (fun p => 0 < head p) ≠ [] := by
    simp [List.filter_eq_nil_iff]
  rw [IsCut, some_head, rotateFill, turnOf, set_eq]
  generalize (order.map Claim.post).filter (fun p => 0 < head p) = set
  simp only [List.isEmpty_iff, wishes_eq_nil_iff, wishes_length, wishes_posts]
  by_cases hempty : set = []
  · simp [hempty]
  by_cases hcut : r / set.length < n.settings.pMin
  · have contains : set.contains = fun p => decide (p ∈ set) := funext fun _ => List.contains_eq_mem _ _
    simp [hempty, hcut, ringOrder, contains, wishes, List.filter_map, Function.comp_def]
  · simp [hempty, hcut, wishes]

theorem turnOf_shared {l : List Nat} (hl : ∀ p ∈ l, 0 ≤ head p) (nodup : l.Nodup) {r : Int} (hr : 0 ≤ r) :
    Shared (wishes l head) r (turnOf n head l r).2 := by
  have wish_nonneg {m : List Nat} (hm : ∀ p ∈ m, p ∈ l) : ∀ q ∈ wishes m head, 0 ≤ q.2 := fun q hq => by
    obtain ⟨hp, e⟩ := mem_wishes.1 hq
    exact e ▸ hl _ (hm _ hp)
  have part {m : List Nat} (hm : m.Sublist l) : Shared (wishes l head) r (fill (wishes m head) r) := by
    refine (fill_shared (wish_nonneg fun p hp => hm.subset hp) hr).mono (fun p hp => ?_) fun p => ?_
    · rw [wishes_posts] at hp ⊢
      exact hm.subset hp
    · rw [givenTo_wishes (nodup.sublist hm), givenTo_wishes nodup]
      by_cases hp : p ∈ m
      · rw [if_pos hp, if_pos (hm.subset hp)]
      · rw [if_neg hp]
        split
        case isTrue h => exact hl p h
        case isFalse => exact le_rfl
  rw [turnOf]
  dsimp only
  split
  · exact shared_nothing (wish_nonneg fun _ => id) hr
  split
  · exact part (List.filter_sublist.trans List.filter_sublist)
  · exact part List.filter_sublist

end

/-! ### The six passes (R121) -/

/-- What the six passes share: the members of each in their order, their headroom and need, and the budget. -/
structure Sharing where
  urgent : List Nat
  below : List Nat
  topUp : List Nat
  store : List Nat
  absorbing : List Nat
  head : Nat → Int
  need : Nat → Int
  budget : Int

namespace Sharing

def one (x : Sharing) : Given := serve (wishes x.urgent x.head) x.budget

def two (x : Sharing) : Given := serve (wishes x.below x.need) x.one.2

def three (x : Sharing) : Given := fill (wishes x.below (fun p => x.head p - givenTo x.two.1 p)) x.two.2

def four (n : Snapshot) (x : Sharing) : List Nat × Given := turnOf n x.head x.topUp x.three.2

def five (n : Snapshot) (x : Sharing) : List Nat × Given := turnOf n x.head x.store (x.four n).2.2

/-- What the passes before the absorption give. -/
def before (n : Snapshot) (x : Sharing) : List (Nat × Int) :=
  x.one.1 ++ x.two.1 ++ x.three.1 ++ (x.four n).2.1 ++ (x.five n).2.1

def six (n : Snapshot) (x : Sharing) : Given :=
  fill (wishes x.absorbing (fun p => x.head p - givenTo (x.before n) p)) (x.five n).2.2

/-- The members stand in the tiers of a snapshot's taken posts, and no need passes the headroom. -/
structure Fits (x : Sharing) (taken : List Nat) : Prop where
  budget    : 0 ≤ x.budget
  head      : ∀ p ∈ taken, 0 ≤ x.head p
  need      : ∀ p ∈ taken, 0 ≤ x.need p ∧ x.need p ≤ x.head p
  members   : (x.urgent ++ (x.below ++ (x.topUp ++ x.store))).Nodup
  posts     : ∀ p ∈ x.urgent ++ (x.below ++ (x.topUp ++ x.store)), p ∈ taken
  absorbing : x.absorbing.Nodup ∧ ∀ p ∈ x.absorbing, p ∈ taken
  nodup     : taken.Nodup

section
variable {x : Sharing} {taken : List Nat} (hx : x.Fits taken)
include hx

/-- The BELOW_FLOOR passes together stay within the headrooms. -/
theorem below_shared (hone : 0 ≤ x.one.2) : Shared (wishes x.below x.head) x.one.2 (x.two.1 ++ x.three.1, x.three.2) := by
  have below_taken (p : Nat) (hp : p ∈ x.below) : p ∈ taken :=
    hx.posts p (List.mem_append_right _ (List.mem_append_left _ hp))
  have nodup : x.below.Nodup := (hx.members.of_append_right).of_append_left
  have two : Shared (wishes x.below x.need) x.one.2 x.two := serve_shared (fun q hq => by
    obtain ⟨hp, e⟩ := mem_wishes.1 hq
    exact e ▸ (hx.need _ (below_taken _ hp)).1) hone
  have need_le (p : Nat) : givenTo (wishes x.below x.need) p ≤ givenTo (wishes x.below x.head) p := by
    rw [givenTo_wishes nodup, givenTo_wishes nodup]
    split
    case isTrue hp => exact (hx.need p (below_taken p hp)).2
    case isFalse => exact le_rfl
  have two' : Shared (wishes x.below x.head) x.one.2 x.two :=
    two.mono (fun p hp => by rwa [wishes_posts] at hp ⊢) need_le
  have own (p : Nat) (hp : p ∈ x.below) : givenTo (wishes x.below x.head) p = x.head p := by
    rw [givenTo_wishes nodup, if_pos hp]
  refine two'.topUp nodup (fun p hp => ⟨by rwa [wishes_posts], own p hp⟩) (fill_shared (fun q hq => ?_) two.left)
  obtain ⟨hp, e⟩ := mem_wishes.1 hq
  rw [← e, sub_nonneg, ← own _ hp]
  exact two'.within _

/-- The five passes before the absorption share the budget among the headrooms. -/
theorem before_shared (n : Snapshot) : Shared (wishes taken x.head) x.budget (x.before n, (x.five n).2.2) := by
  have head (l : List Nat) (hl : ∀ p ∈ l, p ∈ taken) (p : Nat) (hp : p ∈ l) : 0 ≤ x.head p := hx.head p (hl p hp)
  have one : Shared (wishes x.urgent x.head) x.budget x.one := serve_shared (fun q hq => by
    obtain ⟨hp, e⟩ := mem_wishes.1 hq
    exact e ▸ hx.head _ (hx.posts _ (List.mem_append_left _ hp))) hx.budget
  have below := below_shared hx one.left
  have last_nodup := hx.members.of_append_right.of_append_right
  have last_taken (p : Nat) (hp : p ∈ x.topUp ++ x.store) : p ∈ taken :=
    hx.posts p (List.mem_append_right _ (List.mem_append_right _ hp))
  have four : Shared (wishes x.topUp x.head) x.three.2 (x.four n).2 :=
    turnOf_shared (fun p hp => hx.head p (last_taken p (List.mem_append_left _ hp))) last_nodup.of_append_left below.left
  have five : Shared (wishes x.store x.head) (x.four n).2.2 (x.five n).2 :=
    turnOf_shared (fun p hp => hx.head p (last_taken p (List.mem_append_right _ hp))) last_nodup.of_append_right four.left
  have all := one.append (below.append (four.append five))
  have wishes_eq : wishes x.urgent x.head ++ (wishes x.below x.head ++ (wishes x.topUp x.head ++ wishes x.store x.head)) =
      wishes (x.urgent ++ (x.below ++ (x.topUp ++ x.store))) x.head := by simp [wishes]
  have before_eq : x.one.1 ++ (x.two.1 ++ x.three.1 ++ ((x.four n).2.1 ++ (x.five n).2.1)) = x.before n := by
    simp [before]
  rw [wishes_eq, before_eq] at all
  refine all.mono (fun p hp => ?_) fun p => ?_
  · rw [wishes_posts] at hp ⊢
    exact hx.posts p hp
  · rw [givenTo_wishes hx.members, givenTo_wishes hx.nodup]
    by_cases hp : p ∈ x.urgent ++ (x.below ++ (x.topUp ++ x.store))
    · rw [if_pos hp, if_pos (hx.posts p hp)]
    · rw [if_neg hp]
      split
      case isTrue h => exact hx.head p h
      case isFalse => exact le_rfl

/-- The six passes share the budget among the headrooms. -/
theorem all_shared (n : Snapshot) : Shared (wishes taken x.head) x.budget (x.before n ++ (x.six n).1, (x.six n).2) := by
  have five := before_shared hx n
  obtain ⟨nodup, absorbs_taken⟩ := hx.absorbing
  have own (p : Nat) (hp : p ∈ x.absorbing) : givenTo (wishes taken x.head) p = x.head p := by
    rw [givenTo_wishes hx.nodup, if_pos (absorbs_taken p hp)]
  refine five.topUp nodup (fun p hp => ⟨by rw [wishes_posts]; exact absorbs_taken p hp, own p hp⟩)
    (fill_shared (fun q hq => ?_) five.left)
  obtain ⟨hp, e⟩ := mem_wishes.1 hq
  rw [← e, sub_nonneg, ← own _ hp]
  exact five.within _

end

end Sharing

/-! ### The charge allocation of a snapshot -/

/-- What a snapshot's passes share. -/
def sharingOf (n : Snapshot) (head need : Nat → Int) : Sharing where
  urgent := tierPosts n .urgent
  below := tierPosts n .belowFloor
  topUp := tierPosts n .topUp
  store := tierPosts n .store
  absorbing := absorbers n
  head := head
  need := need
  budget := budget n - n.pPre

section
variable {n : Snapshot} {head need : Nat → Int}

/-- The claims' passes are the posts' passes. -/
theorem chargeAllocation_eq (hh : ∀ p ∈ n.taken, (claimOf n p).head = head p)
    (hneed : ∀ p ∈ n.taken, (claimOf n p).need = need p) :
    let x := sharingOf n head need
    let r := chargeAllocation n (claims n) (budget n - n.pPre)
    r.given = x.before n ++ (x.six n).1 ∧ r.left = (x.six n).2 ∧ r.served = (x.four n).1 ++ (x.five n).1 ∧
      (r.cut = true ↔ IsCut n head x.topUp x.three.2 ∨ IsCut n head x.store (x.four n).2.2) := by
  intro x r
  have one : serve ((servedTier n (claims n) .urgent).map (fun c => (c.post, c.head))) (budget n - n.pPre) = x.one := by
    rw [wishes_of_claims mem_servedTier hh]
    rfl
  have two : serve ((servedTier n (claims n) .belowFloor).map (fun c => (c.post, c.need))) x.one.2 = x.two := by
    rw [wishes_of_claims mem_servedTier hneed]
    rfl
  have three : fill ((servedTier n (claims n) .belowFloor).map (fun c => (c.post, c.head - givenTo x.two.1 c.post))) x.two.2 =
      x.three := by
    rw [wishes_of_claims (f := fun c => c.head - givenTo x.two.1 c.post) (w := fun p => head p - givenTo x.two.1 p)
      mem_servedTier fun p hp => by rw [hh p hp, claimOf_post]]
    rfl
  obtain ⟨four, cut4⟩ := rotateFill_turn (n := n) (order := servedTier n (claims n) .topUp) mem_servedTier hh x.three.2
  rw [show turnOf n head ((servedTier n (claims n) .topUp).map Claim.post) x.three.2 = x.four n from rfl] at four
  obtain ⟨five, cut5⟩ := rotateFill_turn (n := n) (order := servedTier n (claims n) .store) mem_servedTier hh (x.four n).2.2
  rw [show turnOf n head ((servedTier n (claims n) .store).map Claim.post) (x.four n).2.2 = x.five n from rfl] at five
  have four_left : (rotateFill n (servedTier n (claims n) .topUp) x.three.2).left = (x.four n).2.2 :=
    congrArg (fun g => g.2.2) four
  have six : (if n.active .down then
      fill ((byPercent ((claims n).filter Claim.absorbs)).map (fun c => (c.post, c.head - givenTo (x.before n) c.post)))
        (x.five n).2.2
      else ([], (x.five n).2.2)) = x.six n := by
    have absorbing : x.absorbing = absorbers n := rfl
    rw [Sharing.six, absorbing, absorbers]
    split
    · rw [wishes_of_claims (f := fun c => c.head - givenTo (x.before n) c.post)
        (w := fun p => head p - givenTo (x.before n) p)
        (fun c hc => mem_filter_claims c (mem_byPercent.1 hc)) fun p hp => by rw [hh p hp, claimOf_post]]
      rfl
    · exact (fill_nil _).symm
  have given4 : (rotateFill n (servedTier n (claims n) .topUp) x.three.2).given = (x.four n).2.1 :=
    congrArg (fun g => g.2.1) four
  have served4 : (rotateFill n (servedTier n (claims n) .topUp) x.three.2).served = (x.four n).1 := congrArg Prod.fst four
  have given5 : (rotateFill n (servedTier n (claims n) .store) (x.four n).2.2).given = (x.five n).2.1 :=
    congrArg (fun g => g.2.1) five
  have served5 : (rotateFill n (servedTier n (claims n) .store) (x.four n).2.2).served = (x.five n).1 :=
    congrArg Prod.fst five
  have left5 : (rotateFill n (servedTier n (claims n) .store) (x.four n).2.2).left = (x.five n).2.2 :=
    congrArg (fun g => g.2.2) five
  have before : x.one.1 ++ x.two.1 ++ x.three.1 ++ (x.four n).2.1 ++ (x.five n).2.1 = x.before n := rfl
  have all : r = ⟨x.before n ++ (x.six n).1, (x.six n).2,
      (rotateFill n (servedTier n (claims n) .topUp) x.three.2).cut ||
        (rotateFill n (servedTier n (claims n) .store) (x.four n).2.2).cut, (x.four n).1 ++ (x.five n).1⟩ := by
    simp only [r, chargeAllocation, one, two, three, four_left, given4, served4, given5, served5, left5, before, six]
  rw [all]
  refine ⟨rfl, rfl, rfl, ?_⟩
  rw [Bool.or_eq_true, cut4, cut5]
  rfl

/-- The members of a snapshot's passes are taken posts, each in one tier. -/
theorem sharingOf_fits (ha : n.pPre ≤ budget n) (hhead : ∀ p ∈ n.taken, 0 ≤ head p)
    (hneed : ∀ p ∈ n.taken, 0 ≤ need p ∧ need p ≤ head p) : (sharingOf n head need).Fits n.taken where
  budget := sub_nonneg.2 ha
  head := hhead
  need := hneed
  members := by
    have apart {t u : Tier} (htu : t ≠ u) ⦃p : Nat⦄ (hp : p ∈ tierPosts n t) (hq : p ∈ tierPosts n u) : False := by
      obtain ⟨-, ht, -⟩ := mem_tierPosts.1 hp
      obtain ⟨-, hu, -⟩ := mem_tierPosts.1 hq
      exact htu (ht.symm.trans hu)
    simp only [sharingOf, List.nodup_append', tierPosts_nodup, true_and, List.disjoint_append_right]
    exact ⟨⟨apart (by decide), apart (by decide), apart (by decide)⟩, apart (by decide), apart (by decide), apart (by decide)⟩
  posts p hp := by
    simp only [sharingOf, List.mem_append, mem_tierPosts] at hp
    rcases hp with ⟨h, -⟩ | ⟨h, -⟩ | ⟨h, -⟩ | ⟨h, -⟩ <;> exact h
  absorbing := ⟨absorbers_nodup, fun _ hp => (mem_absorbers.1 hp).1⟩
  nodup := taken_nodup n

end

end Sys2Proof.Machine
end


section
/-! The grants of a pass (O56): what each taken post is granted with a budget that covers the precondition total and with one
that does not, what the grants add up to, the tier of each post, and the shortfall (R111 to R129). -/

namespace Sys2Proof.Machine

/-! ### What a pass hands to its completion -/

theorem pairValue_map {α : Type} {l : List Nat} {f : Nat → α} {p : Nat} (d : α) (hp : p ∈ l) :
    pairValue (l.map (fun p => (p, f p))) p d = f p := by
  have found : (l.map (fun p => (p, f p))).find? (fun q => q.1 = p) = some (p, f p) := by
    induction l with
    | nil => exact (List.not_mem_nil hp).elim
    | cons a l ih =>
      rw [List.map_cons]
      by_cases h : a = p
      · subst h
        exact List.find?_cons_of_pos (by simp)
      · rw [List.find?_cons_of_neg (by simpa using h)]
        exact ih ((List.mem_cons.1 hp).resolve_left (Ne.symm h))
  rw [pairValue, found]
  rfl

/-- The charge part of a pass (R121). -/
def chargeOf (n : Snapshot) : ChargeResult :=
  if n.pPre ≤ budget n then chargeAllocation n (claims n) (budget n - n.pPre) else ⟨[], 0, false, []⟩

/-- The discharge part of a pass (R127). -/
def exportOf (n : Snapshot) : Given :=
  if budget n < n.pPre ∧ n.active .up = true then dischargeAllocation (claims n) (n.pPre - budget n) else ([], 0)

/-- The grant of a post after a pass. -/
def Snapshot.grant (n : Snapshot) (p : Nat) : Int := pairValue (allocate n).grants p 0

section
variable {n : Snapshot}

/-- The result of a pass in its two parts. -/
theorem allocate_parts (n : Snapshot) :
    (allocate n).grants = (claims n).map (fun c => (c.post,
      sat16 (c.share + minRun n.settings (givenTo (chargeOf n).given c.post) - givenTo (exportOf n).1 c.post))) ∧
    (allocate n).cut = (chargeOf n).cut ∧ (allocate n).served = (chargeOf n).served ∧
    (allocate n).shortfall = shortfallOf n (budget n) (budget n - n.pPre) (exportOf n).2 (chargeOf n).left := by
  simp only [allocate, chargeOf, exportOf, sub_nonneg, sub_neg, neg_sub, and_self]

theorem tiers_eq (n : Snapshot) : (allocate n).tiers = n.taken.map (fun p => (p, (claimOf n p).tier)) := by
  rw [allocate, claims_eq]
  simp [Function.comp_def]

theorem tier_eq {p : Nat} (hp : p ∈ n.taken) : n.tier p = (claimOf n p).tier := by
  rw [Snapshot.tier, tiers_eq, pairValue_map _ hp]

theorem grant_eq {p : Nat} (hp : p ∈ n.taken) : n.grant p = sat16 ((claimOf n p).share +
    minRun n.settings (givenTo (chargeOf n).given p) - givenTo (exportOf n).1 p) := by
  rw [Snapshot.grant, (allocate_parts n).1, claims_eq, List.map_map]
  simp only [Function.comp_def, claimOf_post]
  exact pairValue_map 0 hp

theorem grants_eq (n : Snapshot) : (allocate n).grants = n.taken.map (fun p => (p, n.grant p)) := by
  rw [(allocate_parts n).1, claims_eq, List.map_map]
  refine List.map_congr_left fun p hp => ?_
  rw [Function.comp_apply, claimOf_post, grant_eq hp]

theorem grants_posts (n : Snapshot) : (allocate n).grants.map Prod.fst = n.taken := by
  rw [grants_eq]
  exact wishes_posts n.taken n.grant

theorem tiers_posts (n : Snapshot) : (allocate n).tiers.map Prod.fst = n.taken := by
  rw [tiers_eq, List.map_map]
  exact List.map_id' n.taken

theorem grants_sum (n : Snapshot) : ((allocate n).grants.map Prod.snd).sum = (n.taken.map n.grant).sum := by
  rw [grants_eq]
  exact amounts_wishes n.taken n.grant

/-! ### A budget that covers the precondition total -/

theorem minRun_bounds (g : Settings) {a : Int} (ha : 0 ≤ a) : 0 ≤ minRun g a ∧ minRun g a ≤ a := by
  rw [minRun]
  split <;> omega

/-- With a budget that covers the precondition total the whole pass shares what the total leaves. -/
theorem chargeOf_shared (hn : n.Sound) (ha : n.pPre ≤ budget n) :
    Shared (wishes n.taken (fun p => (claimOf n p).head)) (budget n - n.pPre) ((chargeOf n).given, (chargeOf n).left) := by
  have bounds {p : Nat} (hp : p ∈ n.taken) := claim_bounds hn (mem_taken_iff.1 hp).2
  obtain ⟨given, left, -, -⟩ := chargeAllocation_eq (n := n) (fun _ _ => rfl) (fun _ _ => rfl)
  rw [chargeOf, if_pos ha, given, left]
  refine Sharing.all_shared (sharingOf_fits ha (fun p hp => ?_) fun p hp => ?_) n
  · obtain ⟨-, -, head, -, -⟩ := bounds hp
    exact head
  · obtain ⟨-, -, -, need, le⟩ := bounds hp
    exact ⟨need, le⟩

/-- What a post is granted beside its share, with a budget that covers the precondition total. -/
theorem given_bounds (hn : n.Sound) (ha : n.pPre ≤ budget n) {p : Nat} (hp : p ∈ n.taken) :
    0 ≤ givenTo (chargeOf n).given p ∧ givenTo (chargeOf n).given p ≤ (claimOf n p).head := by
  have shared := chargeOf_shared hn ha
  have within := shared.within p
  rw [givenTo_wishes (taken_nodup n), if_pos hp] at within
  exact ⟨givenTo_nonneg shared.nonneg p, within⟩

theorem exportOf_covered (ha : n.pPre ≤ budget n) : exportOf n = ([], 0) := if_neg fun h => not_le.2 h.1 ha

theorem grant_covered (ha : n.pPre ≤ budget n) {p : Nat} (hp : p ∈ n.taken) :
    n.grant p = sat16 ((claimOf n p).share + minRun n.settings (givenTo (chargeOf n).given p)) := by
  rw [grant_eq hp, exportOf_covered ha, givenTo_nil, sub_zero]

/-- With a budget that covers the precondition total the grants keep to it. -/
theorem grants_within (hn : n.Sound) (hdraw : (n.taken.map n.draw).sum ≤ n.pPre) (ha : n.pPre ≤ budget n) :
    (n.taken.map n.grant).sum ≤ budget n := by
  have shared := chargeOf_shared hn ha
  have each : ∀ p ∈ n.taken, n.grant p ≤ n.draw p + givenTo (chargeOf n).given p := fun p hp => by
    obtain ⟨share, draw, -, -, -⟩ := claim_bounds hn (mem_taken_iff.1 hp).2
    have run := minRun_bounds n.settings (given_bounds hn ha hp).1
    rw [grant_covered ha hp, sat16]
    omega
  have total : (n.taken.map (givenTo (chargeOf n).given)).sum = amounts (chargeOf n).given :=
    sum_givenTo (taken_nodup n) fun q hq => by simpa using shared.posts q hq
  have sums := List.sum_le_sum each
  rw [List.sum_map_add, total] at sums
  have spent := shared.spent
  have left := shared.left
  dsimp only at spent left
  omega

theorem grant_nonneg (hn : n.Sound) (ha : n.pPre ≤ budget n) {p : Nat} (hp : p ∈ n.taken) : 0 ≤ n.grant p := by
  obtain ⟨share, -⟩ := claim_bounds hn (mem_taken_iff.1 hp).2
  have run := minRun_bounds n.settings (given_bounds hn ha hp).1
  rw [grant_covered ha hp, sat16]
  omega

end

/-! ### The bounds of a post -/

theorem foldl_min_le (x : Int) (l : List Int) : l.foldl min x ≤ x ∧ ∀ y ∈ l, l.foldl min x ≤ y := by
  have le := (minOf_is_smallest x l).2
  exact ⟨le x (.head _), fun y hy => le y (.tail _ hy)⟩

/-- What the reports of the taken posts hold beside (R9). -/
structure Snapshot.Reported (n : Snapshot) : Prop extends n.Sound where
  accept  : ∀ p, n.takes p = true → acceptOf (n.post p) ≤ 32767
  deliver : ∀ p, n.takes p = true → 0 ≤ deliverOf (n.post p) ∧ deliverOf (n.post p) ≤ 32767

section
variable {n : Snapshot} (hn : n.Sound) (haccept : ∀ p, n.takes p = true → acceptOf (n.post p) ≤ 32767)
  {p : Nat} (hp : p ∈ n.taken)
include hn haccept hp

/-- The share of a post stays below its charge bound. -/
theorem share_bounds : 0 ≤ n.share p ∧ n.share p ≤ n.draw p ∧ n.share p ≤ n.up p ∧ n.up p ≤ 32767 := by
  have takes := (mem_taken_iff.1 hp).2
  obtain ⟨share_eq, head_eq⟩ := claimOf_share_head (haccept p takes)
  obtain ⟨share, draw, head, -⟩ := claim_bounds hn takes
  rw [share_eq] at share draw
  rw [head_eq, Snapshot.head] at head
  exact ⟨share, draw, by omega, (foldl_min_le _ _).1⟩

/-- The grant with a budget that covers the precondition total. -/
theorem grant_share_add (ha : n.pPre ≤ budget n) :
    n.grant p = n.share p + minRun n.settings (givenTo (chargeOf n).given p) ∧ n.grant p ≤ n.up p := by
  have takes := (mem_taken_iff.1 hp).2
  obtain ⟨share_eq, head_eq⟩ := claimOf_share_head (haccept p takes)
  obtain ⟨given, le_head⟩ := given_bounds hn ha hp
  obtain ⟨share, -, -, le_max⟩ := share_bounds hn haccept hp
  have run := minRun_bounds n.settings given
  rw [head_eq, Snapshot.head] at le_head
  rw [grant_covered ha hp, share_eq, sat16]
  omega

end

/-! ### A budget below the precondition total -/

theorem dischargeBound_eq {g : Settings} {q : Post} {b : Bus} {remaining : Nat} (h : deliverOf q ≤ 32767) :
    dischargeBound g q b remaining = least [deliverOf q, q.rating, max (-q.prevGrant) 0 + g.rampStep,
      (((b.heldOr0 - b.dischargeFloor) * 60 / max 1 ((remaining + 59) / 60) : Nat) : Int)] := by
  simp only [dischargeBound, minOf, least, List.foldl_cons, List.foldl_nil, ceilDiv, min_eq_right h]
  rfl

section
variable {n : Snapshot}

theorem give_of_not_up (h : n.dispatch.map SnapDispatch.dir ≠ some .up) (p : Nat) : n.give p = 0 := by
  rw [Snapshot.give]
  cases hb : n.busOf p with
  | none => rfl
  | some b =>
    cases hd : n.dispatch with
    | none => rfl
    | some d => exact if_neg fun ⟨hup, _⟩ => h (by rw [hd, Option.map_some, hup])

/-- A claim's part of an UP dispatch is the post's. -/
theorem claimOf_give (hn : n.Reported) {p : Nat} (hp : p ∈ n.taken) : (claimOf n p).give = n.give p := by
  have tier := tier_eq hp
  have deliver := (hn.deliver p (mem_taken_iff.1 hp).2).2
  rw [Snapshot.give]
  cases hb : n.busOf p with
  | none => rw [claimOf_of_none hb, guestClaim]
  | some b =>
    obtain ⟨k, -, -, e⟩ := claimOf_of_some hb
    rw [e] at tier ⊢
    cases hd : n.dispatch with
    | none => simp [busClaim, Snapshot.active, hd]
    | some d =>
      have warm : n.warm p = warmEnough n.settings (n.post p) := by
        cases ht : (n.post p).report.bind Report.temp <;> simp only [Snapshot.warm, warmEnough, ht]
      have remaining : (n.dispatch.map SnapDispatch.remaining).getD 0 = d.remaining := by rw [hd]; rfl
      refine if_congr ?_ ((congrArg (dischargeBound n.settings (n.post p) b) remaining).trans (dischargeBound_eq deliver)) rfl
      rw [warm, tier]
      simp only [busClaim, dischargeBarTemp, Snapshot.active, hd, Option.map_some, Option.some.injEq, Bool.and_eq_true,
        Bool.not_eq_true', Bool.or_eq_false_iff, decide_eq_true_eq, decide_eq_false_iff_not, List.contains_iff_mem, ne_eq]
      tauto

theorem least_nonneg {l : List Int} (h : ∀ x ∈ l, 0 ≤ x) : 0 ≤ least l := by
  rcases List.mem_cons.1 (minOf_is_smallest 32767 l).1 with e | hx
  · exact (show (0 : Int) ≤ 32767 by decide).trans_eq e.symm
  · exact h _ hx

theorem give_bounds (hn : n.Reported) {p : Nat} (hp : p ∈ n.taken) : 0 ≤ n.give p ∧ n.give p ≤ 32767 := by
  have takes := (mem_taken_iff.1 hp).2
  obtain ⟨-, -, rating, -⟩ := hn.posts p takes
  obtain ⟨deliver, -⟩ := hn.deliver p takes
  have ramp := hn.ramp
  rw [Snapshot.give]
  split
  · split
    · refine ⟨least_nonneg fun x hx => ?_, (foldl_min_le _ _).1⟩
      simp only [List.mem_cons, List.not_mem_nil, or_false] at hx
      rcases hx with rfl | rfl | rfl | rfl
      · exact deliver
      · exact rating
      · omega
      · exact Int.natCast_nonneg _
    · decide
  · decide

/-- The posts that an UP dispatch draws from, in their order (R127). -/
def givers (n : Snapshot) : List Nat := (bySurplus ((claims n).filter (fun c => 0 < c.give))).map Claim.post

theorem mem_givers (hn : n.Reported) {p : Nat} : p ∈ givers n ↔ p ∈ n.taken ∧ 0 < n.give p := by
  have order : p ∈ givers n ↔ p ∈ ((claims n).filter (fun c => 0 < c.give)).map Claim.post :=
    ((sortOn_perm _).map Claim.post).mem_iff
  rw [order, mem_posts_filter, decide_eq_true_eq]
  exact and_congr_right fun hp => by rw [claimOf_give hn hp]

theorem givers_ascend (n : Snapshot) :
    (givers n).Pairwise (fun p q => n.surplus q < n.surplus p ∨ n.surplus q = n.surplus p ∧ p < q) := bySurplus_ascends _

theorem givers_nodup (n : Snapshot) : (givers n).Nodup := by
  refine (givers_ascend n).imp fun {a b} h e => ?_
  subst e
  simp at h

theorem givers_nonneg (hn : n.Reported) : ∀ q ∈ wishes (givers n) n.give, 0 ≤ q.2 := fun q hq => by
  obtain ⟨hp, e⟩ := mem_wishes.1 hq
  exact e ▸ ((mem_givers hn).1 hp).2.le

/-- The posts that give nothing stand aside. -/
theorem givers_wish (hn : n.Reported) {p : Nat} (hp : p ∈ n.taken) : givenTo (wishes (givers n) n.give) p = n.give p := by
  rw [givenTo_wishes (givers_nodup n)]
  split
  case isTrue => rfl
  case isFalse h =>
    have nonneg := (give_bounds hn hp).1
    have not_pos : ¬ 0 < n.give p := fun pos => h ((mem_givers hn).2 ⟨hp, pos⟩)
    omega

theorem givers_sum (hn : n.Reported) : ((givers n).map n.give).sum = (n.taken.map n.give).sum := by
  rw [← amounts_wishes, ← sum_givenTo (taken_nodup n) fun q hq => ((mem_givers hn).1 (mem_wishes.1 hq).1).1,
    List.map_congr_left fun p hp => givers_wish hn hp]

theorem chargeOf_short (ha : budget n < n.pPre) : chargeOf n = ⟨[], 0, false, []⟩ := if_neg (not_le.2 ha)

theorem exportOf_not_up (h : n.dispatch.map SnapDispatch.dir ≠ some .up) : exportOf n = ([], 0) :=
  if_neg fun ⟨_, hup⟩ => h (of_decide_eq_true hup)

section
variable (hn : n.Reported) (ha : budget n < n.pPre) (hup : n.dispatch.map SnapDispatch.dir = some .up)
include hn ha hup

theorem exportOf_up : exportOf n = serve (wishes (givers n) n.give) (n.pPre - budget n) := by
  have posts := wishes_of_claims (l := bySurplus ((claims n).filter (fun c => 0 < c.give)))
    (fun c hc => mem_filter_claims c (mem_sortOn.1 hc)) fun p hp => claimOf_give hn hp
  rw [exportOf, if_pos ⟨ha, decide_eq_true hup⟩, dischargeAllocation, posts]
  rfl

theorem exportOf_shared : Shared (wishes (givers n) n.give) (n.pPre - budget n) (exportOf n) := by
  rw [exportOf_up hn ha hup]
  exact serve_shared (givers_nonneg hn) (by omega)

theorem exportOf_left : (exportOf n).2 = max 0 (n.pPre - budget n - (n.taken.map n.give).sum) := by
  rw [exportOf_up hn ha hup, serve_left (givers_nonneg hn) (by omega), amounts_wishes, givers_sum hn]

theorem exportOf_sum : (n.taken.map (givenTo (exportOf n).1)).sum = min (n.pPre - budget n) (n.taken.map n.give).sum := by
  have shared := exportOf_shared hn ha hup
  have spent := shared.spent
  rw [exportOf_left hn ha hup] at spent
  rw [sum_givenTo (taken_nodup n) fun q hq => ((mem_givers hn).1 (by simpa using shared.posts q hq)).1]
  omega

end

/-- What a post gives is at most its discharge bound. -/
theorem exported_bounds (hn : n.Reported) (ha : budget n < n.pPre) {p : Nat} (hp : p ∈ n.taken) :
    0 ≤ givenTo (exportOf n).1 p ∧ givenTo (exportOf n).1 p ≤ n.give p := by
  by_cases hup : n.dispatch.map SnapDispatch.dir = some .up
  · have shared := exportOf_shared hn ha hup
    refine ⟨givenTo_nonneg shared.nonneg p, (shared.within p).trans ?_⟩
    rw [givenTo_wishes (givers_nodup n)]
    split
    · exact le_rfl
    · exact (give_bounds hn hp).1
  · rw [exportOf_not_up hup, give_of_not_up hup]
    exact ⟨le_rfl, le_rfl⟩

/-- The grant with a budget below the precondition total. -/
theorem grant_short (hn : n.Reported) (ha : budget n < n.pPre) {p : Nat} (hp : p ∈ n.taken) :
    n.grant p = n.share p - givenTo (exportOf n).1 p := by
  have takes := (mem_taken_iff.1 hp).2
  obtain ⟨given, le_give⟩ := exported_bounds hn ha hp
  obtain ⟨-, le_max⟩ := give_bounds hn hp
  obtain ⟨share, -, le_up, up_le⟩ := share_bounds hn.toSound hn.accept hp
  have none : minRun n.settings (givenTo (chargeOf n).given p) = 0 := by
    rw [chargeOf_short ha, givenTo_nil]
    exact if_neg fun h => absurd h.1 (by decide)
  rw [grant_eq hp, none, (claimOf_share_head (hn.accept p takes)).1, sat16]
  omega

/-- Every grant lies between minus the discharge bound and the charge bound. -/
theorem grant_bounds (hn : n.Reported) {p : Nat} (hp : p ∈ n.taken) : -(n.give p) ≤ n.grant p ∧ n.grant p ≤ n.up p := by
  rcases le_or_gt n.pPre (budget n) with ha | ha
  · have give := (give_bounds hn hp).1
    have grant := grant_nonneg hn.toSound ha hp
    exact ⟨by omega, (grant_share_add hn.toSound hn.accept hp ha).2⟩
  · obtain ⟨given, le_give⟩ := exported_bounds hn ha hp
    obtain ⟨share, -, le_up, -⟩ := share_bounds hn.toSound hn.accept hp
    have grant := grant_short hn ha hp
    omega

/-- The grants keep to the budget or stand at the lowest value the pass permits. -/
theorem grants_within_or_lowest (hn : n.Reported) (hdraw : (n.taken.map n.draw).sum ≤ n.pPre) :
    (n.taken.map n.grant).sum ≤ budget n ∨ ∀ p ∈ n.taken, n.grant p = n.share p - n.give p := by
  rcases le_or_gt n.pPre (budget n) with ha | ha
  · exact .inl (grants_within hn.toSound hdraw ha)
  by_cases hup : n.dispatch.map SnapDispatch.dir = some .up
  · rcases le_or_gt (n.taken.map n.give).sum (n.pPre - budget n) with hgive | hgive
    · refine .inr fun p hp => ?_
      rw [grant_short hn ha hp, exportOf_up hn ha hup,
        serve_all (givers_nonneg hn) (by rw [amounts_wishes, givers_sum hn]; exact hgive), givers_wish hn hp]
    · refine .inl ?_
      have grants : (n.taken.map n.grant).sum + (n.taken.map (givenTo (exportOf n).1)).sum = (n.taken.map n.share).sum := by
        rw [← List.sum_map_add]
        exact congrArg List.sum (List.map_congr_left fun p hp => by rw [grant_short hn ha hp, sub_add_cancel])
      have shares : (n.taken.map n.share).sum ≤ (n.taken.map n.draw).sum := List.sum_le_sum fun p hp => by
        obtain ⟨-, le_draw, -⟩ := share_bounds hn.toSound hn.accept hp
        exact le_draw
      rw [exportOf_sum hn ha hup, min_eq_left hgive.le] at grants
      omega
  · refine .inr fun p hp => ?_
    rw [grant_short hn ha hp, exportOf_not_up hup, give_of_not_up hup, givenTo_nil]

/-- The export is drawn in full from the posts before one that gives (R127). -/
theorem export_in_order (hn : n.Reported) (ha : budget n < n.pPre) (hup : n.dispatch.map SnapDispatch.dir = some .up)
    {p r : Nat} (hp : p ∈ n.taken) (hr : r ∈ n.taken) (hgive : 0 < n.give p)
    (hpr : n.surplus r < n.surplus p ∨ n.surplus r = n.surplus p ∧ p < r) (hgrant : n.grant r < n.share r) :
    n.grant p = n.share p - n.give p := by
  rw [grant_short hn ha hr, exportOf_up hn ha hup] at hgrant
  have given : 0 < givenTo (serve (wishes (givers n) n.give) (n.pPre - budget n)).1 r := by omega
  have giver : 0 < n.give r := by
    have le := (exported_bounds hn ha hr).2
    rw [exportOf_up hn ha hup] at le
    omega
  rw [grant_short hn ha hp, exportOf_up hn ha hup, serve_earlier_first (fun a b hab hba => by omega) (givers_ascend n)
    (fun a ha => ((mem_givers hn).1 ha).2.le) (by omega) ((mem_givers hn).2 ⟨hp, hgive⟩) ((mem_givers hn).2 ⟨hr, giver⟩)
    hpr given]

end

end Sys2Proof.Machine
end


section
/-! The tiers of the taken posts (R114 to R116), the shortfall (R128), and the grants of a pass (O56). -/

namespace Sys2Proof.Machine

/-! ### The tier of a taken post (R115, R116) -/

section
variable {n : Snapshot} {p : Nat}

theorem mins_of_leg {k : Nat} {b : Bus} {l : Leg} (hk : (n.post p).bus = some k) (hb : n.buses[k]? = some b)
    (hl : b.nextLeg.bind (findLeg n.legs) = some l) : n.mins p =
      if n.clockSet = false then 120
      else if l.outcome = .pending ∧ n.minute < l.row.departure + n.settings.grace then l.row.departure - n.minute
      else 1440 - n.minute + l.row.departure := by
  simp only [Snapshot.mins, Snapshot.busOf, hk, hb, hl, Option.bind_some]

theorem claimOf_tier_guest (h : (n.post p).state = .guest) : (claimOf n p).tier = .store := by
  cases hb : n.busOf p with
  | none => rw [claimOf_of_none hb]; exact if_pos h
  | some b =>
    obtain ⟨k, -, -, e⟩ := claimOf_of_some hb
    rw [e]
    exact if_pos h

theorem claimOf_tier_bus {k : Nat} {b : Bus} (hs : (n.post p).state = .plugged) (hk : (n.post p).bus = some k)
    (hb : n.buses[k]? = some b) : (claimOf n p).tier =
      busTier n (n.post p) b (n.storage.getD k StorageEntry.none) (recordedLeg n.legs b) (n.mins p) := by
  have bus : n.busOf p = some b := by rw [Snapshot.busOf, hk, Option.bind_some, hb]
  obtain ⟨j, hj, -, e⟩ := claimOf_of_some bus
  obtain rfl : k = j := Option.some.inj (hk.symm.trans hj)
  rw [← claimOf_mins, e]
  exact if_neg (by rw [hs]; decide)

end

section
variable {n : Snapshot} {q : Post} {b : Bus} {e : StorageEntry} {next : Option Leg} {mins : Nat}

theorem busTier_withdrawn (hw : b.state = .withdrawn) :
    (b.heldOr0 < e.hi → busTier n q b e next mins = .store) ∧ (e.hi ≤ b.heldOr0 → busTier n q b e next mins = .idle) := by
  rw [busTier.eq_def, if_pos hw]
  exact ⟨fun h => if_pos h, fun h => if_neg (not_lt.2 h)⟩

theorem busTier_parked (hw : b.state ≠ .withdrawn) (hc : e.cls ≠ .notParked) :
    let wide := n.cls = .offpeak ∨ n.dispatch.map SnapDispatch.dir = some .down
    (b.heldOr0 < e.lo → busTier n q b e next mins = .store) ∧
    (e.lo ≤ b.heldOr0 → wide → b.heldOr0 < e.hi → busTier n q b e next mins = .store) ∧
    (e.lo ≤ b.heldOr0 → ¬ wide ∨ e.hi ≤ b.heldOr0 → busTier n q b e next mins = .idle) := by
  intro wide
  have down : n.active .down = true ↔ n.dispatch.map SnapDispatch.dir = some .down := decide_eq_true_iff
  simp only [busTier, if_neg hw, if_pos hc, storageTier, down]
  refine ⟨fun h => if_pos h, fun h hwide hlt => ?_, fun h hno => ?_⟩
  · rw [if_neg (not_lt.2 h)]
    exact if_pos ⟨hwide, hlt⟩
  · rw [if_neg (not_lt.2 h)]
    exact if_neg fun ⟨hwide, hlt⟩ => hno.elim (· hwide) (not_le.2 hlt)

theorem busTier_next {l : Leg} (hw : b.state ≠ .withdrawn) (hc : e.cls = .notParked) :
    let short : Nat := b.floor - b.heldOr0
    let raw : Nat := (short * 60 + max 1 mins - 1) / max 1 mins
    let pressed := mins ≤ 60 ∨ 8 * min (acceptOf q) q.rating ≤ (raw * 10 : Nat) ∨ q.boost = true
    let target : Nat := max b.floor (b.target.getD n.settings.chargeTarget * b.capacity / 100)
    (0 < short → pressed → busTier n q b e (some l) mins = .urgent) ∧
    (0 < short → ¬ pressed → busTier n q b e (some l) mins = .belowFloor) ∧
    (short = 0 → b.heldOr0 < target → busTier n q b e (some l) mins = .topUp) ∧
    (short = 0 → target ≤ b.heldOr0 → busTier n q b e (some l) mins = .idle) := by
  intro short raw pressed target
  have tier : busTier n q b e (some l) mins =
      if 0 < short then (if pressed then .urgent else .belowFloor) else if b.heldOr0 < target then .topUp else .idle := by
    rw [busTier, if_neg hw, if_neg (not_not.2 hc)]
    rfl
  rw [tier]
  refine ⟨fun h hp => ?_, fun h hp => ?_, fun h hlt => ?_, fun h hle => ?_⟩
  · rw [if_pos h, if_pos hp]
  · rw [if_pos h, if_neg hp]
  · rw [if_neg h.not_gt, if_pos hlt]
  · rw [if_neg h.not_gt, if_neg (not_lt.2 hle)]

end

/-! ### The shortfall (R128) -/

section
variable {n : Snapshot} {d : SnapDispatch} (hd : n.dispatch = some d) (f a exportLeft budgetLeft : Int)
include hd

theorem shortfallOf_up (hdir : d.dir = .up) : shortfallOf n f a exportLeft budgetLeft =
    if d.baseline - d.power < n.fLo ∧ d.baseline - d.power < f then some .exportFloor
    else if a < 0 ∧ 0 < exportLeft then some .dischargeExhausted else none := by
  simp only [shortfallOf, hd, hdir, dispatchTarget]

theorem shortfallOf_down (hdir : d.dir = .down) : shortfallOf n f a exportLeft budgetLeft =
    if n.fSite < d.baseline + d.power then some .siteBudget
    else if 0 ≤ a ∧ 0 < budgetLeft then some .absorptionExhausted else none := by
  simp only [shortfallOf, hd, hdir, dispatchTarget]

end

/-! ### The obligation -/

/-- The snapshot of O56's hypotheses. -/
theorem reported_of {n : Snapshot} (hramp : 0 ≤ n.settings.rampStep) (hguest : 0 ≤ n.settings.guestCap)
    (h : ∀ p, n.takes p = true → 0 ≤ n.draw p ∧ 0 ≤ acceptOf (n.post p) ∧ acceptOf (n.post p) ≤ 32767 ∧
      0 ≤ deliverOf (n.post p) ∧ deliverOf (n.post p) ≤ 32767 ∧ 0 ≤ (n.post p).rating ∧
      (∀ c, (n.post p).requestCap = some c → 0 ≤ c)) : n.Reported where
  ramp := hramp
  guest := hguest
  posts p hp := by
    obtain ⟨draw, accept, -, -, -, rating, cap⟩ := h p hp
    exact ⟨draw, accept, rating, cap⟩
  accept p hp := by
    obtain ⟨-, -, accept, -⟩ := h p hp
    exact accept
  deliver p hp := by
    obtain ⟨-, -, -, deliver, le, -⟩ := h p hp
    exact ⟨deliver, le⟩

/-- The shortfall of a pass whose budget is below the precondition total, or whose dispatch is UP (R128). -/
theorem shortfall_cases {n : Snapshot} (hn : n.Reported) :
    (n.dispatch = none → (allocate n).shortfall = none) ∧
    (∀ d, n.dispatch = some d → d.dir = .up →
      let raised := d.baseline - d.power < n.fLo ∧ d.baseline - d.power < budget n
      let lacking := budget n < n.pPre ∧ (n.taken.map n.give).sum < n.pPre - budget n
      (raised → (allocate n).shortfall = some .exportFloor) ∧
      (¬ raised → lacking → (allocate n).shortfall = some .dischargeExhausted) ∧
      (¬ raised → ¬ lacking → (allocate n).shortfall = none)) ∧
    (∀ d, n.dispatch = some d → d.dir = .down → budget n < n.pPre →
      (allocate n).shortfall = if n.fSite < d.baseline + d.power then some .siteBudget else none) := by
  obtain ⟨-, -, -, shortfall⟩ := allocate_parts n
  rw [shortfall]
  refine ⟨fun hd => by rw [shortfallOf, hd], ?_, fun d hd hdir ha => ?_⟩
  · intro d hd hdir raised lacking
    have left : budget n - n.pPre < 0 ∧ 0 < (exportOf n).2 ↔ lacking := by
      rw [sub_neg]
      refine and_congr_right fun ha => ?_
      rw [exportOf_left hn ha (by rw [hd, Option.map_some, hdir])]
      omega
    rw [shortfallOf_up hd _ _ _ _ hdir]
    refine ⟨fun h => if_pos h, fun h hl => ?_, fun h hl => ?_⟩
    · rw [if_neg h, if_pos (left.2 hl)]
    · rw [if_neg h, if_neg (mt left.1 hl)]
  · rw [shortfallOf_down hd _ _ _ _ hdir, if_neg (c := 0 ≤ budget n - n.pPre ∧ _) fun h => by omega]

/-- The charge passes of a snapshot whose budget covers the precondition total (R119 to R125). -/
theorem charge_passes {n : Snapshot} (hn : n.Sound) (haccept : ∀ p, n.takes p = true → acceptOf (n.post p) ≤ 32767)
    (ha : n.pPre ≤ budget n) :
    let x := sharingOf n n.head n.need
    (∀ d, n.dispatch = some d → d.dir = .down →
      (n.fSite < d.baseline + d.power → (allocate n).shortfall = some .siteBudget) ∧
      (d.baseline + d.power ≤ n.fSite →
        (allocate n).shortfall = if 0 < (x.six n).2 then some .absorptionExhausted else none)) ∧
    ((allocate n).cut = true ↔ IsCut n n.head x.topUp x.three.2 ∨ IsCut n n.head x.store (x.four n).2.2) ∧
    (allocate n).served = (x.four n).1 ++ (x.five n).1 ∧
    ∀ p ∈ n.taken, n.grant p = n.share p + minRun n.settings (givenTo (x.before n ++ (x.six n).1) p) := by
  intro x
  have covered {p : Nat} (hp : p ∈ n.taken) := haccept p (mem_taken_iff.1 hp).2
  obtain ⟨given, left, served, cut⟩ := chargeAllocation_eq (n := n) (head := n.head) (need := n.need)
    (fun p hp => (claimOf_share_head (covered hp)).2) fun p hp => claimOf_need (covered hp)
  have charge : chargeOf n = chargeAllocation n (claims n) (budget n - n.pPre) := if_pos ha
  rw [← charge] at given left served cut
  obtain ⟨-, cut_eq, served_eq, shortfall⟩ := allocate_parts n
  rw [cut_eq, served_eq, shortfall, ← given, ← left]
  refine ⟨fun d hd hdir => ?_, cut, served, fun p hp => (grant_share_add hn haccept hp ha).1⟩
  rw [shortfallOf_down hd _ _ _ _ hdir]
  refine ⟨fun h => if_pos h, fun h => ?_⟩
  rw [if_neg (not_lt.2 h)]
  exact if_congr (and_iff_right (sub_nonneg.2 ha)) rfl rfl

/-- Settles O56: a budget that covers the precondition total is shared among the headrooms (`chargeOf_shared`), one that does
not is met from the discharge bounds (`exportOf_shared`); orders, tiers and steps by the lemmas of their rules. -/
theorem grantsKeepTheBudgetOrTheLowest : Obligations.GrantsKeepTheBudgetOrTheLowest := by
  refine ⟨?covers, ?grants, ?tiers, ?charge, fun _ _ _ _ => ⟨rfl, rfl⟩, ?fill, ?budget, ?members⟩
  case covers =>
    intro n ha hdraw hramp hguest hposts
    have hn : n.Sound := ⟨hramp, hguest, hposts⟩
    rw [grants_sum]
    refine ⟨grants_within hn hdraw ha, fun g hg => ?_⟩
    rw [grants_eq] at hg
    obtain ⟨p, hp, rfl⟩ := List.mem_map.1 hg
    exact grant_nonneg hn ha hp
  case grants =>
    intro n hdraw hramp hguest hposts taken grant tier busOf least' up share surplus warm give
    have hn : n.Reported := reported_of hramp hguest hposts
    obtain ⟨none, raised, down⟩ := shortfall_cases hn
    obtain ⟨-, cut, served, -⟩ := allocate_parts n
    have within := grants_within_or_lowest hn hdraw
    rw [← grants_sum] at within
    refine ⟨grants_posts n, tiers_posts n, fun p hp => grant_bounds hn hp, within, fun ha hup p hp => ?_, fun ha => ?_, none,
      raised, down, fun ha hup => ⟨?_, fun p hp => ?_, fun p hp r hr => export_in_order hn ha hup hp hr⟩⟩
    · exact (grant_short hn ha hp).trans (by rw [exportOf_not_up hup, givenTo_nil, sub_zero]; rfl)
    · rw [cut, served, chargeOf_short ha]
      exact ⟨rfl, rfl⟩
    · exact (congrArg List.sum (List.map_congr_left fun p hp => (congrArg (n.share p - ·) (grant_short hn ha hp)).trans
        (sub_sub_cancel _ _))).trans (exportOf_sum hn ha hup)
    · exact (grant_short hn ha hp).trans_le (sub_le_self _ (exported_bounds hn ha hp).1)
  case tiers =>
    intro n p hlo hhi takes q isTier
    have tier {t : Tier} (h : (claimOf n p).tier = t) : isTier t := (tier_eq (mem_taken_iff.2 ⟨⟨hlo, hhi⟩, takes⟩)).trans h
    refine ⟨fun hg => tier (claimOf_tier_guest hg), ?_⟩
    intro k b hs hk hb e wide
    have claim := claimOf_tier_bus hs hk hb
    refine ⟨fun hw => ?_, fun hw hc => ?_, fun hw hc => ⟨fun hl => ?_, ?_⟩⟩
    · obtain ⟨store, idle⟩ := busTier_withdrawn (n := n) (q := q) (e := e) (next := recordedLeg n.legs b) (mins := n.mins p) hw
      exact ⟨fun h => tier (claim.trans (store h)), fun h => tier (claim.trans (idle h))⟩
    · obtain ⟨low, below, above⟩ := busTier_parked (q := q) (next := recordedLeg n.legs b) (mins := n.mins p) hw hc
      exact ⟨fun h => tier (claim.trans (low h)), fun h hwide hlt => tier (claim.trans (below h hwide hlt)),
        fun h hno => tier (claim.trans (above h hno))⟩
    · refine tier (claim.trans ?_)
      rw [recordedLeg, hl, busTier, if_neg hw]
      exact if_neg (not_not.2 hc)
    · intro l hl mins short raw pressed target
      have mins_eq : n.mins p = mins := mins_of_leg hk hb hl
      rw [recordedLeg, hl, mins_eq] at claim
      obtain ⟨urgent, below, top, idle⟩ := busTier_next (n := n) (q := q) (mins := mins) (l := l) hw hc
      exact ⟨fun h hp => tier (claim.trans (urgent h hp)), fun h hp => tier (claim.trans (below h hp)),
        fun h hlt => tier (claim.trans (top h hlt)), fun h hle => tier (claim.trans (idle h hle))⟩
  case charge =>
    intro n ha hramp hguest hposts taken tier busOf entry least' up share head mins percent need absorbs down served sooner
      emptier guest turn isCut
    have hn : n.Sound := ⟨hramp, hguest, fun p hp => by
      obtain ⟨draw, accept, -, rating, cap⟩ := hposts p hp
      exact ⟨draw, accept, rating, cap⟩⟩
    have members {t : Tier} (ht : t ≠ .idle) (p : Nat) : p ∈ tierPosts n t ↔ p ∈ taken ∧ tier p = t ∧ served t := by
      rw [mem_tierPosts, suppressed_eq_false_iff ht]
      exact and_congr_right fun hp => by rw [show tier p = (claimOf n p).tier from tier_eq hp]
    refine ⟨tierPosts n .urgent, tierPosts n .belowFloor, tierPosts n .topUp, tierPosts n .store, absorbers n,
      tierPosts_sooner (by decide), fun p => ?_, tierPosts_sooner (by decide), members (by decide),
      tierPosts_sooner (by decide), members (by decide), tierPosts_store, members (by decide), absorbers_emptier,
      fun p => mem_absorbers, ?_⟩
    · rw [members (by decide)]
      exact and_congr_right fun _ => and_iff_left (.inr (.inr (.inr (.inl rfl))))
    · exact charge_passes hn (fun p hp => by
        obtain ⟨-, -, accept, -⟩ := hposts p hp
        exact accept) ha
  case fill =>
    intro m r
    refine ⟨(fill_positive m r).symm, ?_⟩
    intro hm share small rest last
    exact ⟨fill_nothing hm, fill_units hm, fill_small hm, fill_like hm⟩
  case budget =>
    intro n asked
    refine ⟨?_, fun p => ⟨rfl, ?_, rfl⟩⟩
    · rw [budget]
      cases hd : n.dispatch with
      | none => simp only [asked, hd]
      | some d => cases hdir : d.dir <;> simp [asked, hd, hdir, dispatchTarget]
    · simp [Snapshot.takes]
  case members =>
    intro n taken tier busOf mins percent guest
    have members (t : Tier) (p : Nat) : p ∈ (tierOrder t (claims n)).map Claim.post ↔ p ∈ taken ∧ tier p = t := by
      rw [mem_tierOrder_posts]
      exact and_congr_right fun hp => by rw [show tier p = (claimOf n p).tier from tier_eq hp]
    exact ⟨tierOrder_sooner (by decide), members .topUp, tierOrder_store, members .store⟩

end Sys2Proof.Machine
end


section
/-! The occupancy comparison of a report (R20, R21, R38). -/

namespace Sys2Proof.Machine

theorem disagrees_iff (st : PostState) (occupied : Bool) : disagrees st occupied = true ↔
    (st = .empty ∧ occupied = true) ∨ ((st = .plugged ∨ st = .guest ∨ st = .held) ∧ occupied = false) := by
  cases st <;> simp [disagrees]

theorem refuseEvent_marked {s : State} (h : s.ylc.refusal = true) : refuseEvent s = s := if_pos h

theorem refuseEvent_first {s : State} (h : s.ylc.refusal = false) : refuseEvent s = notice .plugQueueFull { s with
    ylc := { s.ylc with refusal := true }, tsm := { s.tsm with plugFull := true } } := if_neg (by rw [h]; decide)

/-- The queue speaks of post p. -/
def queued (s : State) (p : Nat) : Bool := s.frt.plugQ.any (fun e => postNo e.cabinet e.position = p)

theorem queued_iff (s : State) (p : Nat) : queued s p = true ↔ ∃ e ∈ s.frt.plugQ, e.cabinet * 4 + e.position = p := by
  simp only [queued, List.any_eq_true, decide_eq_true_eq]
  rfl

section
variable {p : Nat} {before : PostState} {occupied spoken : Bool} {s : State}

theorem compare_skips (h : before.holding = true ∨ (postAt s p).state ≠ before) :
    compareOccupancy p before occupied spoken s = s := if_pos h

section
variable (hb : before.holding = false) (hs : (postAt s p).state = before)
include hb hs

theorem compare_unskipped : ¬ (before.holding = true ∨ (postAt s p).state ≠ before) := by
  rw [hb, hs]
  simp

theorem compare_agrees (hp : HasPost p s) (hd : ¬ disagrees before occupied = true) :
    compareOccupancy p before occupied spoken s = putPost p { postAt s p with mismatch := 0 } s := by
  rw [compareOccupancy, if_neg (compare_unskipped hb hs), if_neg hd, updPost_put hp]

variable (hd : disagrees before occupied = true)
include hd

theorem compare_known (hk : spoken = true ∨ queued s p = true) : compareOccupancy p before occupied spoken s = s := by
  rw [compareOccupancy, if_neg (compare_unskipped hb hs), if_pos hd]
  exact if_pos hk

variable (hk : ¬ (spoken = true ∨ queued s p = true))
include hk

theorem compare_counts (hp : HasPost p s) (hm : (postAt s p).mismatch < 2) : compareOccupancy p before occupied spoken s =
    putPost p { postAt s p with mismatch := (postAt s p).mismatch + 1 } s := by
  rw [compareOccupancy, if_neg (compare_unskipped hb hs), if_pos hd]
  exact (if_neg hk).trans ((if_neg (not_le.2 hm)).trans (updPost_put hp _))

theorem compare_repairs (hm : 2 ≤ (postAt s p).mismatch) :
    compareOccupancy p before occupied spoken s = repairOccupancy p s := by
  rw [compareOccupancy, if_neg (compare_unskipped hb hs), if_pos hd]
  exact (if_neg hk).trans (if_pos hm)

end

/-! ### The third disagreeing report (R21) -/

section
variable (hp : HasPost p s)
include hp

theorem repair_empty (h : (postAt s p).state = .empty) :
    repairOccupancy p s = putPost p { postAt s p with state := .guest, mismatch := 0 } s := by
  rw [repairOccupancy, h]
  exact (setPostState_entering hp (by rw [h]; decide)).trans (if_neg (by rw [h]; decide))

theorem repair_held (h : (postAt s p).state = .held) : repairOccupancy p s = putPost p { postAt s p with
    state := .empty, grant := 0, prevGrant := 0, requestCap := none, boost := false, mismatch := 0 } s := by
  rw [repairOccupancy, h]
  exact (setPostState_entering hp (by rw [h]; decide)).trans (if_neg (by rw [h]; decide))

theorem repair_joins (h : (postAt s p).state = .plugged ∨ (postAt s p).state = .guest) (hroom : s.frt.plugQ.length < 32) :
    repairOccupancy p s =
      joinPlug ⟨p / 4, p % 4, .unplugged, [], none⟩ (putPost p { postAt s p with mismatch := 0 } s) := by
  have room : ¬ plugFull s = true := by rw [plugFull, decide_eq_true_eq]; exact not_le.2 hroom
  rcases h with h | h <;> rw [repairOccupancy, h] <;> exact (if_neg room).trans (by rw [updPost_put hp])

theorem repair_refuses (h : (postAt s p).state = .plugged ∨ (postAt s p).state = .guest) (hfull : 32 ≤ s.frt.plugQ.length) :
    repairOccupancy p s = refuseEvent (putPost p { postAt s p with mismatch := 3 } s) := by
  have full : plugFull s = true := decide_eq_true hfull
  rcases h with h | h <;> rw [repairOccupancy, h] <;> exact (if_pos full).trans (by rw [updPost_put hp])

end

/-- What a comparison does, case by case. -/
theorem compareOccupancy_cases (hp : HasPost p s) :
    let q := postAt s p
    let set (r : Post) : State := putPost p r s
    let holding := before = .unknown ∨ before = .faulted ∨ before = .disabled ∨ before = .offline
    let disagree := (before = .empty ∧ occupied = true) ∨
      ((before = .plugged ∨ before = .guest ∨ before = .held) ∧ occupied = false)
    let known := spoken = true ∨ ∃ e ∈ s.frt.plugQ, e.cabinet * 4 + e.position = p
    let result (t : State) := compareOccupancy p before occupied spoken s = t
    (holding ∨ q.state ≠ before → result s) ∧
    (¬ holding → q.state = before →
      (¬ disagree → result (set { q with mismatch := 0 })) ∧
      (disagree → known → result s) ∧
      (disagree → ¬ known → q.mismatch < 2 → result (set { q with mismatch := q.mismatch + 1 })) ∧
      (disagree → ¬ known → 2 ≤ q.mismatch →
        (before = .empty → result (set { q with state := .guest, mismatch := 0 })) ∧
        (before = .held → result (set { q with
          state := .empty, grant := 0, prevGrant := 0, requestCap := none, boost := false, mismatch := 0 })) ∧
        (before = .plugged ∨ before = .guest → s.frt.plugQ.length < 32 →
          let t := set { q with mismatch := 0 }
          result { t with frt := { t.frt with plugQ := s.frt.plugQ ++ [⟨p / 4, p % 4, .unplugged, [], none⟩] } }) ∧
        (before = .plugged ∨ before = .guest → 32 ≤ s.frt.plugQ.length →
          result (refuseEvent (set { q with mismatch := 3 }))))) := by
  intro q set holding disagree known result
  have known_iff : spoken = true ∨ queued s p = true ↔ known := or_congr_right (queued_iff s p)
  have disagree_iff : disagrees before occupied = true ↔ disagree := disagrees_iff before occupied
  refine ⟨fun h => compare_skips (h.imp_left (holding_iff before).2), fun hh hs => ?_⟩
  have hb : before.holding = false := Bool.eq_false_iff.2 (mt (holding_iff before).1 hh)
  refine ⟨fun hd => compare_agrees hb hs hp (mt disagree_iff.1 hd),
    fun hd hk => compare_known hb hs (disagree_iff.2 hd) (known_iff.2 hk),
    fun hd hk hm => compare_counts hb hs (disagree_iff.2 hd) (mt known_iff.1 hk) hp hm, fun hd hk hm => ?_⟩
  have repairs := compare_repairs hb hs (disagree_iff.2 hd) (mt known_iff.1 hk) hm
  refine ⟨fun h => repairs.trans (repair_empty hp (hs.trans h)), fun h => repairs.trans (repair_held hp (hs.trans h)),
    fun h hroom => repairs.trans (repair_joins hp (h.imp hs.trans hs.trans) hroom),
    fun h hfull => repairs.trans (repair_refuses hp (h.imp hs.trans hs.trans) hfull)⟩

end

end Sys2Proof.Machine
end


section
/-! What a reported mode changes of the post and cabinet tables (R32 step 3, R49, R51 to R59). -/

namespace Sys2Proof.Machine

/-! ### The sequencer's rules -/

/-- A post's record but for its grants. -/
def Post.ungranted (q : Post) : Post := { q with grant := 0, prevGrant := 0 }

/-- Of cabinet c's record the sequencer alone differs, with its mode in force; of its posts the grants; nothing of any other. -/
structure Sequences (c : Nat) (s t : State) : Prop where
  own   : ∃ x : Sequencer, x.inForce = (cabAt s c).pool.inForce ∧ cabAt t c = { cabAt s c with pool := x }
  cabs  : ∀ d, d ≠ c → cabAt t d = cabAt s d
  posts : ∀ p, (postAt t p).ungranted = (postAt s p).ungranted
  other : ∀ p, 4 ≤ p → p / 4 ≠ c → postAt t p = postAt s p
  sizes : t.ylc.cabinets.length = s.ylc.cabinets.length ∧ t.frt.posts.length = s.frt.posts.length

theorem Sequences.refl (c : Nat) (s : State) : Sequences c s s :=
  ⟨⟨_, rfl, rfl⟩, fun _ _ => rfl, fun _ => rfl, fun _ _ _ => rfl, rfl, rfl⟩

theorem Sequences.trans {c : Nat} {s t u : State} (h : Sequences c s t) (h' : Sequences c t u) : Sequences c s u where
  own := by
    obtain ⟨x, inForce, own⟩ := h.own
    obtain ⟨y, inForce', own'⟩ := h'.own
    rw [own] at inForce' own'
    exact ⟨y, inForce'.trans inForce, own'⟩
  cabs d hd := (h'.cabs d hd).trans (h.cabs d hd)
  posts p := (h'.posts p).trans (h.posts p)
  other p hp hc := (h'.other p hp hc).trans (h.other p hp hc)
  sizes := ⟨h'.sizes.1.trans h.sizes.1, h'.sizes.2.trans h.sizes.2⟩

theorem sequences_of_tables {c : Nat} {s t : State} (cabs : t.ylc.cabinets = s.ylc.cabinets) (posts : t.frt.posts = s.frt.posts) :
    Sequences c s t where
  own := ⟨(cabAt s c).pool, rfl, by rw [cabAt, cabs]; rfl⟩
  cabs d _ := by rw [cabAt, cabs]; rfl
  posts p := by rw [postAt_congr posts]
  other p _ _ := postAt_congr posts
  sizes := ⟨by rw [cabs], by rw [posts]⟩

theorem updPost_ungranted (p x : Nat) (s : State) :
    (postAt (updPost p (fun q => { q with grant := 0, prevGrant := 0 }) s) x).ungranted = (postAt s x).ungranted := by
  by_cases hp : p < 4
  · rw [updPost, if_pos hp]
  · rw [updPost_eq_mapIdx (not_lt.1 hp), postAt, postAt, List.getD_eq_getElem?_getD, List.getD_eq_getElem?_getD]
    dsimp only
    rw [List.getElem?_mapIdx]
    cases s.frt.posts[x - 4]? with
    | none => rfl
    | some q =>
      simp only [Option.map_some, Option.getD_some]
      split <;> rfl

theorem sequences_zeroGrants {c : Nat} {l : List Nat} (hl : ∀ i ∈ l, i < 4) (s : State) :
    Sequences c s (zeroGrants c l s) := by
  induction l generalizing s with
  | nil => exact .refl c s
  | cons i l ih =>
    have hi := hl i (.head _)
    have one : Sequences c s (updPost (postNo c i) (fun q => { q with grant := 0, prevGrant := 0 }) s) := by
      refine ⟨⟨_, rfl, ?_⟩, fun d _ => ?_, fun p => updPost_ungranted _ p s, fun p hp hc => ?_, ?_, posts_length_updPost _ _ _⟩
      · simp [cabAt]
      · simp [cabAt]
      · exact postAt_updPost_other hp (by unfold postNo; omega)
      · simp
    exact one.trans (ih (fun j hj => hl j (.tail _ hj)) _)

section
variable {c : Nat} (hc : IsStation c)
include hc

theorem sequences_updPool {f : Sequencer → Sequencer} (hf : ∀ q, (f q).inForce = q.inForce) {s : State}
    (hlen : s.ylc.cabinets.length = 16) : Sequences c s (updPool c f s) where
  own := ⟨f (cabAt s c).pool, hf _, cabAt_updCab_same hc hlen⟩
  cabs _ hd := cabAt_updCab_other hd
  posts p := by rw [postAt_congr (s := s) (by simp)]
  other p _ _ := postAt_congr (by simp)
  sizes := ⟨cabinets_length_updCab _ _ _, by simp⟩

omit hc in
theorem sequences_notice (n : Notice) (s : State) : Sequences c s (notice n s) :=
  sequences_of_tables (by simp) (by simp)

section
variable {s : State} (hlen : s.ylc.cabinets.length = 16)
include hlen

theorem sequences_zero_updPool {f : Sequencer → Sequencer} (hf : ∀ q, (f q).inForce = q.inForce) {l : List Nat}
    (hl : ∀ i ∈ l, i < 4) : Sequences c s (zeroGrants c l (updPool c f s)) :=
  (sequences_updPool hc hf hlen).trans (sequences_zeroGrants hl _)

theorem sequences_compareMode (w : Option Mode) : Sequences c s (compareMode c w s) := by
  unfold compareMode
  split
  · split
    · exact .refl c s
    · exact sequences_zero_updPool hc hlen (fun _ => by rfl) quiesceSet_positions
  · exact .refl c s

theorem sequences_reformSet (m : Mode) : Sequences c s (reformSet c m s) :=
  sequences_zero_updPool hc hlen (fun _ => by rfl) fun i hi => quiesceSet_positions i (List.mem_filter.1 hi).1

theorem sequences_joinSet (m : Mode) : Sequences c s (joinSet c m s) :=
  sequences_zero_updPool hc hlen (fun _ => by rfl) fun i hi => quiesceSet_positions i (List.mem_filter.1 hi).1

theorem sequences_takePending : Sequences c s (takePending c s) := by
  have pooled := sequences_updPool hc (f := fun q => { q with state := .done, target := none, pending := none })
    (fun _ => rfl) hlen
  unfold takePending
  dsimp only
  split
  · exact pooled.trans (sequences_compareMode hc (pooled.sizes.1.trans hlen) _)
  · exact pooled

theorem sequences_endDone : Sequences c s (endDone c s) := by
  unfold endDone
  split
  · exact .refl c s
  · next m _ =>
    have told := (sequences_updPool hc (f := fun q => { q with quiesce := [], quiet := [] }) (fun _ => rfl) hlen).trans
      (sequences_notice (.poolingDone c m (cabAt s c).pool.attempts) _)
    exact told.trans (sequences_takePending hc (told.sizes.1.trans hlen))

/-- What a change of the sequencer leaves after a report of the mode. -/
theorem sequences_afterReport (m : Mode) (moved : Bool) : Sequences c s (afterReport c m moved s) := by
  unfold afterReport
  split
  · exact sequences_compareMode hc hlen _
  · split
    · split
      · exact sequences_endDone hc hlen
      · exact sequences_reformSet hc hlen _
    · exact .refl c s
  · split
    · exact sequences_endDone hc hlen
    · split
      · exact sequences_joinSet hc hlen _
      · exact .refl c s
  · exact .refl c s

end

end

/-- Without a target no pooling notice is queued. -/
theorem afterReport_told {c : Nat} {m : Mode} {moved : Bool} {s : State} (h : (cabAt s c).pool.target = none) :
    (afterReport c m moved s).sli = s.sli ∧ (afterReport c m moved s).tsm = s.tsm := by
  unfold afterReport
  rw [h]
  cases (cabAt s c).pool.state <;> simp

/-! ### The posts that follow a reported mode (R49) -/

/-- What neither a mode in force nor a settling changes of a post. -/
def Post.lasting (q : Post) : Option Nat × Option Report × Int := (q.bus, q.report, q.sentGrant)

theorem lasting_enter (q : Post) (st : PostState) : (q.enter st).lasting = q.lasting := rfl

theorem lasting_entered (q : Post) (st : PostState) : (q.entered st).lasting = q.lasting := by
  unfold Post.entered
  split <;> rfl

theorem lasting_refed (q : Post) (rating : Int) (fed : Bool) : (q.refed rating fed).lasting = q.lasting := by
  unfold Post.refed
  dsimp only
  split
  · rfl
  · split
    · exact lasting_entered _ _
    · split
      · exact lasting_entered _ _
      · rfl

theorem lasting_of_ungranted {q r : Post} (h : q.ungranted = r.ungranted) : q.lasting = r.lasting := by
  have := congrArg Post.lasting h
  exact this

theorem refed_waits {q : Post} {rating : Int} {fed : Bool} (h : q.state = .unknown ∨ q.state = .offline) :
    (q.refed rating fed).state = q.state := by rw [(refed_cases q rating fed).1 h]

section
variable {c : Nat} {m : Mode} {s : State} (hc : IsStation c) (hlen : s.ylc.cabinets.length = 16)
include hc hlen

/-- The cabinets with the posts following a reported mode. -/
theorem acceptedPosts_cabs : (acceptedPosts c m s).ylc.cabinets.length = 16 ∧
    cabAt (acceptedPosts c m s) c =
      { cabAt s c with reported := some m, pool := { (cabAt s c).pool with inForce := some m } } ∧
    ∀ d, d ≠ c → cabAt (acceptedPosts c m s) d = cabAt s d := by
  obtain ⟨ylc, -⟩ := offPlaces_frame (acceptedPosts_frame (m := m) (s := s) hc)
  have mode : acceptedMode c m s = updCab c (fun r => { r with reported := some m, pool := { r.pool with inForce := some m } }) s :=
    (updCab_eq_set (f := fun r => { r with reported := some m, pool := { r.pool with inForce := some m } }) hc hlen).symm
  refine ⟨?_, (cabAt_of_ylc ylc c).trans (cabAt_acceptedMode hc hlen), fun d hd => ?_⟩
  · rw [ylc, mode, cabinets_length_updCab, hlen]
  · rw [cabAt_of_ylc ylc, mode, cabAt_updCab_other hd]

omit hlen in
/-- The posts that follow a reported mode. -/
theorem acceptedPosts_posts (hposts : s.frt.posts.length = 64) :
    (∀ p, 4 ≤ p → p / 4 ≠ c → postAt (acceptedPosts c m s) p = postAt s p) ∧
    (∀ p, 4 ≤ p → p / 4 = c → (postAt (acceptedPosts c m s) p).lasting = (postAt s p).lasting ∧
      ((postAt s p).state = .unknown ∨ (postAt s p).state = .offline →
        (postAt (acceptedPosts c m s) p).state = (postAt s p).state)) ∧
    ((cabAt s c).pool.inForce = some m → ∀ p, postAt (acceptedPosts c m s) p = postAt s p) := by
  by_cases h : (cabAt s c).pool.inForce = some m
  · have eq : acceptedPosts c m s = acceptedMode c m s := if_pos h
    have same (p : Nat) : postAt (acceptedPosts c m s) p = postAt s p := by rw [eq]; rfl
    exact ⟨fun p _ _ => same p, fun p _ _ => ⟨by rw [same], fun _ => by rw [same]⟩, fun _ => same⟩
  · have moved := acceptedPosts_moved hc h
    refine ⟨fun p hp hne => ?_, fun p hp hpc => ?_, fun he => absurd he h⟩
    · exact moved.others p hp (mt mem_postsOf_iff.1 hne)
    · have room : p - 4 < (acceptedMode c m s).frt.posts.length := by
        rw [show (acceptedMode c m s).frt.posts.length = 64 from hposts]
        have := hc.2
        omega
      rw [moved.posts p (mem_postsOf_iff.2 hpc) room]
      refine ⟨lasting_refed _ _ _, fun hst => ?_⟩
      exact refed_waits hst

end

/-- The cabinet and its posts after a mode is reported. -/
structure ModeTaken (c : Nat) (code : Byte) (s t : State) : Prop where
  known   : ∀ x, modeOfCode code = some x → (cabAt t c).reported = some x ∧ (cabAt t c).pool.inForce = some x
  unknown : modeOfCode code = none → t = s
  own     : cabAt t c = { cabAt s c with reported := (cabAt t c).reported, pool := (cabAt t c).pool }
  cabs    : ∀ d, IsStation d → d ≠ c → cabAt t d = cabAt s d
  other   : ∀ p, 4 ≤ p → p / 4 ≠ c → postAt t p = postAt s p
  posts   : ∀ p, 4 ≤ p → p / 4 = c → (postAt t p).lasting = (postAt s p).lasting
  held    : ∀ p, 4 ≤ p → p / 4 = c → (postAt s p).state = .unknown ∨ (postAt s p).state = .offline →
    (postAt t p).state = (postAt s p).state
  stands  : ∀ p, modeOfCode code = none ∨ modeOfCode code = (cabAt s c).pool.inForce →
    (postAt t p).state = (postAt s p).state ∧ (postAt t p).mismatch = (postAt s p).mismatch
  told    : (cabAt s c).pool.target = none → t.sli = s.sli ∧ t.tsm = s.tsm

theorem reportMode_taken {c : Nat} (code : Byte) {s : State} (hc : IsStation c) (hlen : s.ylc.cabinets.length = 16)
    (hposts : s.frt.posts.length = 64) : ModeTaken c code s (reportMode c code s) := by
  cases hm : modeOfCode code with
  | none =>
    rw [reportMode_unknown hm]
    exact ⟨fun x hx => (Option.some_ne_none x (hx.symm.trans hm)).elim, fun _ => rfl, rfl, fun _ _ _ => rfl, fun _ _ _ => rfl,
      fun _ _ _ => rfl, fun _ _ _ _ => rfl, fun _ _ => ⟨rfl, rfl⟩, fun _ => ⟨rfl, rfl⟩⟩
  | some m =>
    have held : setModeInForce c (some m) (updCab c (fun r => { r with reported := some m }) s) = acceptedPosts c m s :=
      setModeInForce_accepted hc hlen
    obtain ⟨length, own, cabs⟩ := acceptedPosts_cabs (m := m) hc hlen
    obtain ⟨other, posts, stays⟩ := acceptedPosts_posts (m := m) hc hposts
    obtain ⟨-, -, -, -, sli, -, -, -, -, tsm, -⟩ := offPlaces_frame (acceptedPosts_frame (m := m) (s := s) hc)
    rw [reportMode_known hm, held]
    generalize decide ((cabAt s c).pool.inForce ≠ some m) = moved
    have after := sequences_afterReport hc length m moved
    obtain ⟨x, inForce, own'⟩ := after.own
    rw [own] at inForce own'
    have state_of {p : Nat} : (postAt (afterReport c m moved (acceptedPosts c m s)) p).state =
        (postAt (acceptedPosts c m s) p).state := (congrArg Post.state (after.posts p) :)
    refine ⟨fun y hy => ?_, fun h => (Option.some_ne_none m (hm.symm.trans h)).elim, ?own, fun d _ hd => (after.cabs d hd).trans (cabs d hd),
      fun p hp hne => (after.other p hp hne).trans (other p hp hne),
      fun p hp hpc => (lasting_of_ungranted (after.posts p)).trans (posts p hp hpc).1,
      fun p hp hpc hst => state_of.trans ((posts p hp hpc).2 hst), fun p hmode => ?_, fun htarget => ?_⟩
    case own => rw [own']
    · obtain rfl : m = y := Option.some.inj (hm.symm.trans hy)
      rw [own']
      exact ⟨rfl, inForce⟩
    · have same := stays ((hmode.resolve_left (by rw [hm]; exact Option.some_ne_none m)).symm.trans hm) p
      have eq := after.posts p
      rw [same] at eq
      exact ⟨(congrArg Post.state eq :), (congrArg Post.mismatch eq :)⟩
    · obtain ⟨sli', tsm'⟩ := afterReport_told (c := c) (m := m) (moved := moved) (s := acceptedPosts c m s)
        (by rw [own]; exact htarget)
      exact ⟨sli'.trans sli, tsm'.trans tsm⟩

end Sys2Proof.Machine
end


section
/-! A cabinet's restart, and the link state after a STATUS (R23, R32, R39). -/

namespace Sys2Proof.Machine

/-! ### Buses unlocated as YARD (R11) -/

/-- A bus that has been unlocated as YARD. -/
def Bus.freed (b : Bus) : Bus := { b with post := none, state := b.state.orWithdrawn .yard }

theorem Bus.freed_freed (b : Bus) : b.freed.freed = b.freed := by
  cases h : b.state <;> simp [Bus.freed, BusState.orWithdrawn, h]

theorem Bus.freed_state (b : Bus) : b.freed = { b with post := none, state := if b.state = .withdrawn then .withdrawn else .yard } :=
  rfl

theorem busAt_updBus (k j : Nat) (f : Bus → Bus) (s : State) :
    busAt (updBus k f s) j = if k = j then (busAt s j).map f else busAt s j := by
  have eq : busAt (updBus k f s) j = (fun b => if k = j then f b else b) <$> busAt s j := List.getElem?_modify ..
  rw [eq]
  split
  · rfl
  · exact Option.map_id'

section
variable {p : Nat} {s : State}

theorem unlocate_posts (hp : HasPost p s) :
    (∀ x, 4 ≤ x → x ≠ p → postAt (unlocate p .yard s) x = postAt s x) ∧
    (postAt (unlocate p .yard s) p).bus = none ∧ (postAt (unlocate p .yard s) p).state = (postAt s p).state := by
  cases h : (postAt s p).bus with
  | none =>
    have eq : unlocate p .yard s = s := by rw [unlocate, h]
    rw [eq]
    exact ⟨fun _ _ _ => rfl, h, rfl⟩
  | some k =>
    have eq : unlocate p .yard s = updBus k Bus.freed (clearBusField p s) := by
      rw [unlocate, h]
      rfl
    have posts (x : Nat) : postAt (updBus k Bus.freed (clearBusField p s)) x = postAt (clearBusField p s) x := rfl
    rw [eq, posts, clearBusField, postAt_updPost_same hp.1 hp.2]
    exact ⟨fun x hx hne => postAt_updPost_other hx hne, rfl, rfl⟩

theorem unlocate_buses (k : Nat) : busAt (unlocate p .yard s) k =
    if (postAt s p).bus = some k then (busAt s k).map Bus.freed else busAt s k := by
  cases h : (postAt s p).bus with
  | none => rw [unlocate, h, if_neg (Option.some_ne_none k).symm]
  | some j =>
    have buses : busAt (clearBusField p s) k = busAt s k := by simp [busAt, clearBusField]
    rw [unlocate, h]
    refine (busAt_updBus j k Bus.freed _).trans ?_
    simp only [buses, Option.some.injEq]

theorem posts_length_unlocate : (unlocate p .yard s).frt.posts.length = s.frt.posts.length :=
  congrArg (fun x => x.2.2.2.1) (show still (unlocate p .yard s) = still s by simp)

end

/-- The buses of some posts unlocated. -/
structure Unlocated (l : List Nat) (s t : State) : Prop where
  other : ∀ x, 4 ≤ x → x ∉ l → postAt t x = postAt s x
  posts : ∀ x ∈ l, (postAt t x).bus = none ∧ (postAt t x).state = (postAt s x).state
  buses : ∀ k, busAt t k = if ∃ x ∈ l, (postAt s x).bus = some k then (busAt s k).map Bus.freed else busAt s k
  size  : t.frt.posts.length = s.frt.posts.length

theorem unlocated_foldl {l : List Nat} (hl : l.Nodup) (s : State) (h : ∀ p ∈ l, HasPost p s) :
    Unlocated l s (l.foldl (fun s p => unlocate p .yard s) s) := by
  induction l generalizing s with
  | nil => exact ⟨fun _ _ _ => rfl, fun _ hx => (List.not_mem_nil hx).elim, fun k => by simp, rfl⟩
  | cons a l ih =>
    obtain ⟨ha, hl'⟩ := List.nodup_cons.1 hl
    have hpa := h a (.head _)
    obtain ⟨other, bus, state⟩ := unlocate_posts hpa
    have rest := ih hl' (unlocate a .yard s) fun p hp => by
      rw [HasPost, posts_length_unlocate]
      exact h p (.tail _ hp)
    have same {x : Nat} (hx : x ∈ l) : postAt (unlocate a .yard s) x = postAt s x :=
      other x (h x (.tail _ hx)).1 fun e => ha (e ▸ hx)
    rw [List.foldl_cons]
    refine ⟨fun x hx hn => ?_, fun x hx => ?_, fun k => ?_, rest.size.trans posts_length_unlocate⟩
    · rw [List.mem_cons, not_or] at hn
      exact (rest.other x hx hn.2).trans (other x hx hn.1)
    · rcases List.mem_cons.1 hx with rfl | hx
      · rw [rest.other x hpa.1 ha]
        exact ⟨bus, state⟩
      · rw [← same hx]
        exact rest.posts x hx
    · have later : (∃ x ∈ l, (postAt (unlocate a .yard s) x).bus = some k) ↔ ∃ x ∈ l, (postAt s x).bus = some k :=
        exists_congr fun x => and_congr_right fun hx => by rw [same hx]
      rw [rest.buses k, unlocate_buses]
      simp only [later, List.exists_mem_cons_iff]
      by_cases h1 : (postAt s a).bus = some k <;> by_cases h2 : ∃ x ∈ l, (postAt s x).bus = some k <;>
        simp [h1, h2, Bus.freed_freed, Function.comp_def]

/-! ### The restart (R39) -/

/-- What a restart leaves of cabinet c, its posts and their buses. -/
structure Restarted (c : Nat) (s t : State) : Prop where
  own   : cabAt t c = { cabAt s c with lastSeq := none, restartAck := true, pool := { (cabAt s c).pool with
    state := .done, target := none, pending := none, attempts := 0, quiesce := [], quiet := [], cause := none } }
  cabs  : ∀ d, d ≠ c → cabAt t d = cabAt s d
  other : ∀ p, 4 ≤ p → p / 4 ≠ c → postAt t p = postAt s p
  posts : ∀ p, p / 4 = c → (postAt t p).state = .unknown ∧ (postAt t p).bus = none
  queue : t.frt.plugQ = s.frt.plugQ.filter (fun e => e.cabinet ≠ c)
  buses : ∀ k, busAt t k = if ∃ p ∈ postsOf c, (postAt s p).bus = some k then (busAt s k).map Bus.freed else busAt s k
  told  : t.sli = (notice (.cabinetRestarted c) s).sli ∧ t.tsm = (notice (.cabinetRestarted c) s).tsm

theorem hasPost_of_station {c p : Nat} {s : State} (hc : IsStation c) (hposts : s.frt.posts.length = 64) (hp : p / 4 = c) :
    HasPost p s := by
  have h1 := hc.1
  have h2 := hc.2
  exact ⟨by omega, by omega⟩

theorem cabinetRestart_parts {c : Nat} {s : State} (hc : IsStation c) (hlen : s.ylc.cabinets.length = 16)
    (hposts : s.frt.posts.length = 64) : Restarted c s (cabinetRestart c s) := by
  let first := removeEvents c (updCab c (fun r => { r with lastSeq := none }) s)
  let entered := enterAll c .unknown first
  let freed := unlocateAll c entered
  let paused := restartPool c freed
  let told := notice (.cabinetRestarted c) paused
  have eq : cabinetRestart c s = updCab c (fun r => { r with restartAck := true }) told := rfl
  have enters : Entered (postsOf c) .unknown first entered := enterAll_entered hc rfl first
  have posts_first (p : Nat) : postAt first p = postAt s p := postAt_congr (by simp [first])
  have size_first : first.frt.posts.length = 64 := by simp [first, hposts]
  have size_entered : entered.frt.posts.length = 64 := enters.size.trans size_first
  have frees : Unlocated (postsOf c) entered freed := unlocated_foldl (postsOf_nodup c) entered fun p hp =>
    hasPost_of_station hc size_entered (mem_postsOf_iff.1 hp)
  have ylc : freed.ylc = (updCab c (fun r => { r with lastSeq := none }) s).ylc := by simp [freed, entered, first]
  have frt : (updCab c (fun r => { r with restartAck := true }) told).frt = freed.frt := by simp [told, paused]
  have posts (p : Nat) : postAt (updCab c (fun r => { r with restartAck := true }) told) p = postAt freed p :=
    postAt_congr (by rw [frt])
  have length : freed.ylc.cabinets.length = 16 := by rw [ylc, cabinets_length_updCab, hlen]
  have told_ylc : told.ylc = paused.ylc := by simp [told]
  have length_told : told.ylc.cabinets.length = 16 := by
    rw [told_ylc, show paused = updPool c _ freed from rfl, updPool, cabinets_length_updCab,
      length]
  have own_freed : cabAt freed c = { cabAt s c with lastSeq := none } :=
    (cabAt_of_ylc ylc c).trans (cabAt_updCab_same hc hlen)
  have own_told : cabAt told c = { cabAt freed c with pool := { (cabAt freed c).pool with
      state := .done, target := none, pending := none, attempts := 0, quiesce := [], quiet := [], cause := none } } :=
    (cabAt_of_ylc told_ylc c).trans (cabAt_updCab_same hc length)
  have bus_entered (p : Nat) (hp : p ∈ postsOf c) : (postAt entered p).bus = (postAt s p).bus := by
    have room := (hasPost_of_station hc size_first (mem_postsOf_iff.1 hp)).2
    rw [enters.posts p hp room, ← posts_first p]
    exact congrArg Prod.fst (lasting_entered (postAt first p) .unknown)
  rw [eq]
  refine ⟨?own, fun d hd => ?cabs, fun p hp hne => ?other, fun p hpc => ?posts, ?queue, fun k => ?buses, ?told⟩
  case own =>
    rw [cabAt_updCab_same hc length_told, own_told, own_freed]
  case cabs =>
    rw [cabAt_updCab_other hd, cabAt_of_ylc told_ylc,
      show paused = updPool c _ freed from rfl, updPool, cabAt_updCab_other hd, cabAt_of_ylc ylc, cabAt_updCab_other hd]
  case other =>
    have away : p ∉ postsOf c := mt mem_postsOf_iff.1 hne
    rw [posts, frees.other p hp away, enters.others p hp away, posts_first]
  case posts =>
    have here : p ∈ postsOf c := mem_postsOf_iff.2 hpc
    obtain ⟨bus, state⟩ := frees.posts p here
    rw [posts]
    refine ⟨state.trans ?_, bus⟩
    rw [enters.posts p here (hasPost_of_station hc size_first hpc).2]
    unfold Post.entered
    split
    · assumption
    · rfl
  case queue =>
    rw [frt]
    simp only [freed, entered, first, keeps_unlocateAll, keeps_enterAll]
    simp [removeEvents]
  case buses =>
    have start : busAt entered k = busAt s k := by simp [busAt, entered, first]
    have here : (∃ p ∈ postsOf c, (postAt entered p).bus = some k) ↔ ∃ p ∈ postsOf c, (postAt s p).bus = some k :=
      exists_congr fun p => and_congr_right fun hp => by rw [bus_entered p hp]
    rw [show busAt (updCab c (fun r => { r with restartAck := true }) told) k = busAt freed k by rw [busAt, frt]; rfl,
      frees.buses k, start]
    simp only [here]
  case told =>
    have same := notice_same (.cabinetRestarted c) (s := paused) (t := s) (by simp [paused, freed, entered, first])
      (by simp [paused, freed, entered, first]) (by simp [paused, freed, entered, first])
    simpa [told] using same

/-! ### Steps 1 and 2 of a STATUS (R32) -/

/-- A new restart of the cabinet: flagged, and not acknowledged before. -/
abbrev Fresh (c : Nat) (restarted : Bool) (s : State) : Prop := restarted = true ∧ (cabAt s c).restartAck = false

theorem updCab_same {c : Nat} {s : State} {f : Cabinet → Cabinet} (hc : IsStation c) (hlen : s.ylc.cabinets.length = 16)
    (h : f (cabAt s c) = cabAt s c) : updCab c f s = s := by
  have place : c - 1 < s.ylc.cabinets.length := by have := hc.1; have := hc.2; omega
  have same : s.ylc.cabinets.set (c - 1) (cabAt s c) = s.ylc.cabinets := by
    rw [cabAt_station hc, List.getD_eq_getElem _ _ place, List.set_getElem_self]
  rw [updCab_eq_set hc hlen, h, same]

theorem statusRestart_known {c : Nat} {restarted : Bool} {s : State} (hc : IsStation c) (hlen : s.ylc.cabinets.length = 16)
    (h : ¬ Fresh c restarted s) : statusRestart c restarted s = updCab c (fun r => { r with restartAck := restarted }) s := by
  cases restarted with
  | false => exact if_neg (by decide)
  | true =>
    have ack : (cabAt s c).restartAck = true := Bool.of_not_eq_false fun e => h ⟨rfl, e⟩
    rw [updCab_same hc hlen (congrArg (fun b => { cabAt s c with restartAck := b }) ack.symm)]
    exact (if_pos rfl).trans (if_pos ack)

theorem statusRestart_fresh {c : Nat} {restarted : Bool} {s : State} (h : Fresh c restarted s) :
    statusRestart c restarted s = cabinetRestart c s := by
  rw [statusRestart, if_pos h.1, if_neg (by rw [h.2]; decide)]

theorem postAt_sent {c : Nat} (hc : IsStation c) (grants : List Int) {s : State} (hposts : s.frt.posts.length = 64) {p : Nat}
    (hp : 4 ≤ p) :
    postAt (positions.foldl (fun s i => updPost (postNo c i) (fun q => { q with sentGrant := grants.getD i 0 }) s) s) p =
      if p / 4 = c then { postAt s p with sentGrant := grants.getD (p % 4) 0 } else postAt s p := by
  let f (x : Nat) (q : Post) : Post := { q with sentGrant := grants.getD (x % 4) 0 }
  have fold : positions.foldl (fun s i => updPost (postNo c i) (fun q => { q with sentGrant := grants.getD i 0 }) s) s =
      (postsOf c).foldl (fun s x => updPost x (f x) s) s := by
    rw [postsOf, List.foldl_map]
    refine List.foldl_ext _ _ _ fun u i hi => ?_
    have here : postNo c i % 4 = i := by
      simp only [positions, List.mem_cons, List.not_mem_nil, or_false] at hi
      unfold postNo
      omega
    simp only [f, here]
  rw [fold]
  by_cases h : p / 4 = c
  · rw [postAt_foldl_updPost f (postsOf_nodup c) s hp (hasPost_of_station hc hposts h).2, if_pos (mem_postsOf_iff.2 h), if_pos h]
  · rw [postAt_foldl_updPost_other f s hp (mt mem_postsOf_iff.1 h), if_neg h]

/-- A cabinet and its posts after the link state of a STATUS. -/
theorem statusLink_parts {c : Nat} {s : State} (hc : IsStation c) (hlen : s.ylc.cabinets.length = 16)
    (hposts : s.frt.posts.length = 64) (grants : List Int) :
    let t := statusLink c grants s
    let told := if (cabAt s c).link = .offline then notice .cabinetOnline s else s
    cabAt t c = { cabAt s c with misses := 0, age := 0, link := .online } ∧
    (∀ d, d ≠ c → cabAt t d = cabAt s d) ∧
    (∀ p, 4 ≤ p → postAt t p = if p / 4 = c then { postAt s p with sentGrant := grants.getD (p % 4) 0 } else postAt s p) ∧
    t.sli = told.sli ∧ t.tsm = told.tsm := by
  intro t told
  let online := updCab c (fun r => { r with misses := 0, age := 0, link := .online }) s
  let sent := positions.foldl (fun s i => updPost (postNo c i) (fun q => { q with sentGrant := grants.getD i 0 }) s) online
  have eq : t = if (cabAt s c).link = .offline then notice .cabinetOnline sent else sent := rfl
  have ylc : t.ylc = online.ylc := by rw [eq]; split <;> simp [sent]
  have frt : t.frt = sent.frt := by rw [eq]; split <;> simp
  refine ⟨(cabAt_of_ylc ylc c).trans (cabAt_updCab_same hc hlen), fun d hd => (cabAt_of_ylc ylc d).trans (cabAt_updCab_other hd),
    fun p hp => ?_, ?_⟩
  · have posts : postAt online p = postAt s p := postAt_congr (by simp [online])
    rw [postAt_congr (show t.frt.posts = sent.frt.posts by rw [frt]), ← posts]
    exact postAt_sent hc grants (by simp [online, hposts]) hp
  · rw [eq, show told = if (cabAt s c).link = .offline then notice .cabinetOnline s else s from rfl]
    split
    · exact notice_same .cabinetOnline (by simp [sent, online]) (by simp [sent, online]) (by simp [sent, online])
    · exact ⟨by simp [sent, online], by simp [sent, online]⟩

/-- A cabinet, its posts and their buses after steps 1 and 2 of a STATUS. -/
structure Began (c : Nat) (restarted : Bool) (grants : List Int) (s t : State) : Prop where
  own   : cabAt t c = { cabAt s c with
    misses := 0, age := 0, link := .online, restartAck := restarted
    lastSeq := if Fresh c restarted s then none else (cabAt s c).lastSeq
    pool := if Fresh c restarted s then { (cabAt s c).pool with
      state := .done, target := none, pending := none, attempts := 0, quiesce := [], quiet := [], cause := none }
      else (cabAt s c).pool }
  cabs  : ∀ d, d ≠ c → cabAt t d = cabAt s d
  other : ∀ p, 4 ≤ p → p / 4 ≠ c → postAt t p = postAt s p
  sent  : ∀ p, p / 4 = c → (postAt t p).sentGrant = grants.getD (p % 4) 0
  bus   : ∀ p, p / 4 = c → (postAt t p).bus = if Fresh c restarted s then none else (postAt s p).bus
  state : ∀ p, p / 4 = c → (Fresh c restarted s → (postAt t p).state = .unknown) ∧
    (¬ Fresh c restarted s → (postAt t p).state = (postAt s p).state ∧ (postAt t p).mismatch = (postAt s p).mismatch)
  queue : t.frt.plugQ = if Fresh c restarted s then s.frt.plugQ.filter (fun e => e.cabinet ≠ c) else s.frt.plugQ
  buses : ∀ k, busAt t k = if Fresh c restarted s ∧ ∃ p ∈ postsOf c, (postAt s p).bus = some k
    then (busAt s k).map Bus.freed else busAt s k
  told  :
    let restarted := if Fresh c restarted s then notice (.cabinetRestarted c) s else s
    let told := if (cabAt s c).link = .offline then notice .cabinetOnline restarted else restarted
    t.sli = told.sli ∧ t.tsm = told.tsm

theorem began {c : Nat} {s : State} (hc : IsStation c) (hlen : s.ylc.cabinets.length = 16) (hposts : s.frt.posts.length = 64)
    (restarted : Bool) (grants : List Int) : Began c restarted grants s (statusLink c grants (statusRestart c restarted s)) := by
  have still_restart : still (statusRestart c restarted s) = still s := still_statusRestart c restarted s
  have length : (statusRestart c restarted s).ylc.cabinets.length = 16 := (congrArg (fun x => x.2.2.2.2) still_restart).trans hlen
  have size : (statusRestart c restarted s).frt.posts.length = 64 := (congrArg (fun x => x.2.2.2.1) still_restart).trans hposts
  have clock : (statusRestart c restarted s).rdu.clock = s.rdu.clock := by simp
  obtain ⟨own, cabs, posts, told⟩ := statusLink_parts hc length size grants
  have four {p : Nat} (h : p / 4 = c) : 4 ≤ p := by have := hc.1; omega
  have here {p : Nat} (h : p / 4 = c) := (posts p (four h)).trans (if_pos h)
  have buses (k : Nat) : busAt (statusLink c grants (statusRestart c restarted s)) k = busAt (statusRestart c restarted s) k := by
    simp [busAt]
  have queue : (statusLink c grants (statusRestart c restarted s)).frt.plugQ = (statusRestart c restarted s).frt.plugQ := by simp
  by_cases hf : Fresh c restarted s
  · have restart : Restarted c s (statusRestart c restarted s) := by
      rw [statusRestart_fresh hf]
      exact cabinetRestart_parts hc hlen hposts
    refine ⟨?_, fun d hd => (cabs d hd).trans (restart.cabs d hd), fun p hp hne => ?_, fun p hpc => by rw [here hpc],
      fun p hpc => ?_, fun p hpc => ⟨fun _ => ?_, fun h => absurd hf h⟩, ?_, fun k => ?_, ?_⟩
    · rw [own, restart.own, if_pos hf, if_pos hf, hf.1]
    · rw [posts p hp, if_neg hne, restart.other p hp hne]
    · rw [here hpc, if_pos hf]
      exact (restart.posts p hpc).2
    · rw [here hpc]
      exact (restart.posts p hpc).1
    · rw [queue, restart.queue, if_pos hf]
    · rw [buses, restart.buses]
      exact if_congr (and_iff_right hf).symm rfl rfl
    · have link : (cabAt (statusRestart c restarted s) c).link = (cabAt s c).link := by rw [restart.own]
      rw [link] at told
      intro first last
      obtain ⟨sli, tsm⟩ := told
      have first_eq : first = notice (.cabinetRestarted c) s := if_pos hf
      rw [sli, tsm, show last = if (cabAt s c).link = .offline then notice .cabinetOnline first else first from rfl, first_eq]
      split
      · exact notice_same .cabinetOnline restart.told.1 restart.told.2 (by simp)
      · exact restart.told
  · have eq := statusRestart_known hc hlen hf
    have own_first : cabAt (statusRestart c restarted s) c = { cabAt s c with restartAck := restarted } := by
      rw [eq, cabAt_updCab_same hc hlen]
    have post_first (p : Nat) : postAt (statusRestart c restarted s) p = postAt s p := by
      rw [eq]
      exact postAt_congr (by simp)
    refine ⟨?_, fun d hd => ?_, fun p hp hne => ?_, fun p hpc => by rw [here hpc], fun p hpc => ?_,
      fun p hpc => ⟨fun h => absurd h hf, fun _ => ?_⟩, ?_, fun k => ?_, ?_⟩
    · rw [own, own_first, if_neg hf, if_neg hf]
    · rw [cabs d hd, eq, cabAt_updCab_other hd]
    · rw [posts p hp, if_neg hne, post_first]
    · rw [here hpc, if_neg hf, post_first]
    · rw [here hpc, post_first]
      exact ⟨rfl, rfl⟩
    · rw [queue, if_neg hf, eq]
      simp
    · rw [buses, if_neg fun h => hf h.1, eq]
      simp [busAt]
    · have link : (cabAt (statusRestart c restarted s) c).link = (cabAt s c).link := by rw [own_first]
      rw [link] at told
      intro first last
      obtain ⟨sli, tsm⟩ := told
      have first_eq : first = s := if_neg hf
      rw [sli, tsm, show last = if (cabAt s c).link = .offline then notice .cabinetOnline first else first from rfl, first_eq]
      split
      · exact notice_same .cabinetOnline (by rw [eq]; simp) (by rw [eq]; simp) (by rw [eq]; simp)
      · rw [eq]
        simp

end Sys2Proof.Machine
end


section
/-! The reports of a STATUS (R32 step 4): what one report changes, and what the four change together. -/

namespace Sys2Proof.Machine

/-! ### One comparison -/

/-- The tables after the comparison at post p. -/
structure Compared (p : Nat) (s t : State) : Prop where
  posts : ∃ r : Post, r.lasting = (postAt s p).lasting ∧ r.rating = (postAt s p).rating ∧
    t.frt.posts = (putPost p r s).frt.posts
  queue : t.frt.plugQ = s.frt.plugQ ∨ t.frt.plugQ = s.frt.plugQ ++ [⟨p / 4, p % 4, .unplugged, [], none⟩]
  told  : s.frt.plugQ.length < 32 → t.sli = s.sli ∧ t.tsm = s.tsm

section
variable {p : Nat} {s : State} (hp : HasPost p s)
include hp

theorem compared_same : Compared p s s :=
  ⟨⟨postAt s p, rfl, rfl, by rw [putPost_same hp]⟩, .inl rfl, fun _ => ⟨rfl, rfl⟩⟩

omit hp in
theorem compared_put {r : Post} (hr : r.lasting = (postAt s p).lasting) (hrating : r.rating = (postAt s p).rating) :
    Compared p s (putPost p r s) := ⟨⟨r, hr, hrating, rfl⟩, .inl rfl, fun _ => ⟨rfl, rfl⟩⟩

theorem compared_repair : Compared p s (repairOccupancy p s) := by
  have enters {st : PostState} (h : (postAt s p).state ≠ st) : Compared p s (setPostState p st s) := by
    rw [setPostState_entering hp h, entering]
    split <;> exact ⟨⟨(postAt s p).enter st, rfl, rfl, rfl⟩, .inl rfl, fun _ => ⟨rfl, rfl⟩⟩
  have called : (postAt s p).state = .plugged ∨ (postAt s p).state = .guest → Compared p s (repairOccupancy p s) := fun h => by
    rcases lt_or_ge s.frt.plugQ.length 32 with hroom | hfull
    · rw [repair_joins hp h hroom]
      exact ⟨⟨{ postAt s p with mismatch := 0 }, rfl, rfl, rfl⟩, .inr rfl, fun _ => ⟨rfl, rfl⟩⟩
    · rw [repair_refuses hp h hfull]
      exact ⟨⟨{ postAt s p with mismatch := 3 }, rfl, rfl, by simp⟩, .inl (by simp; rfl), fun h => absurd hfull (not_le.2 h)⟩
  cases h : (postAt s p).state with
  | empty =>
    rw [repairOccupancy, h]
    exact enters (by rw [h]; decide)
  | held =>
    rw [repairOccupancy, h]
    exact enters (by rw [h]; decide)
  | plugged => exact called (.inl h)
  | guest => exact called (.inr h)
  | unknown | faulted | disabled | offline =>
    rw [repairOccupancy, h]
    exact compared_same hp

theorem compared (before : PostState) (occupied spoken : Bool) : Compared p s (compareOccupancy p before occupied spoken s) := by
  unfold compareOccupancy
  split
  · exact compared_same hp
  split
  · split
    · exact compared_same hp
    split
    · exact compared_repair hp
    · rw [updPost_put hp]
      exact compared_put rfl rfl
  · rw [updPost_put hp]
    exact compared_put rfl rfl

end

/-! ### The reports of some positions -/

/-- The post tables after the reports of the positions `l` of cabinet c. -/
structure Reported (c : Nat) (l : List Nat) (s t : State) : Prop where
  cabs  : t.ylc.cabinets = s.ylc.cabinets
  size  : t.frt.posts.length = s.frt.posts.length
  other : ∀ x, 4 ≤ x → (∀ j ∈ l, x ≠ postNo c j) → postAt t x = postAt s x
  bus   : ∀ x, 4 ≤ x → (postAt t x).bus = (postAt s x).bus
  queue : ∃ extra : List PlugEvent, t.frt.plugQ = s.frt.plugQ ++ extra ∧ extra.length ≤ l.length ∧
    ∀ e ∈ extra, e.cabinet = c ∧ e.position ∈ l
  buses : ∀ k, (∀ j ∈ l, (postAt s (postNo c j)).bus ≠ some k) → busAt t k = busAt s k
  caps  : ∀ k, (busAt t k).map Bus.capacity = (busAt s k).map Bus.capacity
  told  : s.frt.plugQ.length + l.length ≤ 32 → t.sli = s.sli ∧ t.tsm = s.tsm

theorem Reported.nil (c : Nat) (s : State) : Reported c [] s s :=
  ⟨rfl, rfl, fun _ _ _ => rfl, fun _ _ => rfl, ⟨[], by simp, le_rfl, fun _ h => (List.not_mem_nil h).elim⟩, fun _ _ => rfl,
    fun _ => rfl, fun _ => ⟨rfl, rfl⟩⟩

theorem Reported.append {c : Nat} {l l' : List Nat} {s t u : State} (hl : ∀ j ∈ l', 4 ≤ postNo c j) (h : Reported c l s t)
    (h' : Reported c l' t u) : Reported c (l ++ l') s u where
  cabs := h'.cabs.trans h.cabs
  size := h'.size.trans h.size
  other x hx hn := (h'.other x hx fun j hj => hn j (List.mem_append_right _ hj)).trans
    (h.other x hx fun j hj => hn j (List.mem_append_left _ hj))
  bus x hx := (h'.bus x hx).trans (h.bus x hx)
  queue := by
    obtain ⟨extra, queue, few, from_l⟩ := h.queue
    obtain ⟨extra', queue', few', from_l'⟩ := h'.queue
    refine ⟨extra ++ extra', by rw [queue', queue, List.append_assoc], ?_, fun e he => ?_⟩
    · rw [List.length_append, List.length_append]
      omega
    · rcases List.mem_append.1 he with he | he
      · exact ⟨(from_l e he).1, List.mem_append_left _ (from_l e he).2⟩
      · exact ⟨(from_l' e he).1, List.mem_append_right _ (from_l' e he).2⟩
  buses k hk := (h'.buses k fun j hj => by
    rw [h.bus _ (hl j hj)]
    exact hk j (List.mem_append_right _ hj)).trans (h.buses k fun j hj => hk j (List.mem_append_left _ hj))
  caps k := (h'.caps k).trans (h.caps k)
  told hlen := by
    obtain ⟨extra, queue, few, -⟩ := h.queue
    rw [List.length_append] at hlen
    obtain ⟨sli, tsm⟩ := h.told (by omega)
    obtain ⟨sli', tsm'⟩ := h'.told (by rw [queue, List.length_append]; omega)
    exact ⟨sli'.trans sli, tsm'.trans tsm⟩

/-! ### One report -/

section
variable {c i : Nat} {m : StatusMsg} {before : List PostState} {r : RawReport} {s : State}

/-- The state with a position's report written. -/
def reportWritten (c i : Nat) (r : RawReport) (s : State) : State :=
  putPost (postNo c i) { postAt s (postNo c i) with report := some (clampReport s c i r) } s

/-- The comparison of a position's report. -/
def reportCompared (c i : Nat) (m : StatusMsg) (before : List PostState) (r : RawReport) (s : State) : State :=
  compareOccupancy (postNo c i) (before.getD i .unknown) r.occupied (speaksOf m i) (reportWritten c i r s)

section
variable (hr : m.reports[i]? = some r) (hp : HasPost (postNo c i) s)
include hr hp

theorem statusReport_unlocated (hb : (postAt s (postNo c i)).bus = none) :
    statusReport c m before i s = reportCompared c i m before r s := by
  have written : updPost (postNo c i) (fun q => { q with report := some (clampReport s c i r) }) s = reportWritten c i r s :=
    updPost_put hp _
  rw [statusReport, hr]
  dsimp only
  rw [hb, written]
  rfl

theorem statusReport_located {k : Nat} (hb : (postAt s (postNo c i)).bus = some k) :
    statusReport c m before i s = takeHeld k (postNo c i) (reportCompared c i m before r s) := by
  have written : updPost (postNo c i) (fun q => { q with report := some (clampReport s c i r) }) s = reportWritten c i r s :=
    updPost_put hp _
  rw [statusReport, hr]
  dsimp only
  rw [hb, written]
  rfl

omit hr in
theorem compared_report : Compared (postNo c i) (reportWritten c i r s) (reportCompared c i m before r s) :=
  compared (hasPost_put hp _) _ _ _

/-- A report leaves its post the record of the comparison. -/
theorem posts_statusReport : (statusReport c m before i s).frt.posts = (reportCompared c i m before r s).frt.posts := by
  cases hb : (postAt s (postNo c i)).bus with
  | none => rw [statusReport_unlocated hr hp hb]
  | some k =>
    rw [statusReport_located hr hp hb]
    simp

theorem postAt_statusReport : ∃ q : Post,
    q.lasting = ((postAt s (postNo c i)).bus, some (clampReport s c i r), (postAt s (postNo c i)).sentGrant) ∧
    q.rating = (postAt s (postNo c i)).rating ∧
    (statusReport c m before i s).frt.posts = (putPost (postNo c i) q s).frt.posts := by
  obtain ⟨q, lasting, rating, posts⟩ := (compared_report (m := m) (before := before) (r := r) hp).posts
  have written : postAt (reportWritten c i r s) (postNo c i) =
      { postAt s (postNo c i) with report := some (clampReport s c i r) } := postAt_put hp _
  rw [written] at lasting rating
  refine ⟨q, lasting, rating, ?_⟩
  rw [posts_statusReport hr hp, posts, reportWritten, putPost_putPost]

theorem reported_one (hi : i < 4) : Reported c [i] s (statusReport c m before i s) := by
  obtain ⟨q, lasting, -, posts⟩ := postAt_statusReport (m := m) (before := before) hr hp
  have compares := compared_report (m := m) (before := before) (r := r) hp
  have buses_compared (k : Nat) : busAt (reportCompared c i m before r s) k = busAt s k := by
    simp [busAt, reportCompared, reportWritten, putPost]
  have queue_eq : (statusReport c m before i s).frt.plugQ = (reportCompared c i m before r s).frt.plugQ := by
    cases hb : (postAt s (postNo c i)).bus with
    | none => rw [statusReport_unlocated hr hp hb]
    | some k => rw [statusReport_located hr hp hb]; simp
  have told_eq : (statusReport c m before i s).sli = (reportCompared c i m before r s).sli ∧
      (statusReport c m before i s).tsm = (reportCompared c i m before r s).tsm := by
    cases hb : (postAt s (postNo c i)).bus with
    | none => rw [statusReport_unlocated hr hp hb]; exact ⟨rfl, rfl⟩
    | some k => rw [statusReport_located hr hp hb]; simp
  have other (x : Nat) (hx : 4 ≤ x) (hne : x ≠ postNo c i) : postAt (statusReport c m before i s) x = postAt s x :=
    (postAt_congr posts).trans (postAt_put_other hx hne hp.1 q s)
  have own : postAt (statusReport c m before i s) (postNo c i) = q := (postAt_congr posts).trans (postAt_put hp q)
  have place : postNo c i / 4 = c ∧ postNo c i % 4 = i := by unfold postNo; omega
  refine ⟨by simp, ?_, fun x hx hn => other x hx (hn i (.head _)), fun x hx => ?_, ?_, fun k hk => ?_, fun k => ?_, fun hlen => ?_⟩
  · rw [posts, putPost]
    exact List.length_set
  · by_cases hxi : x = postNo c i
    · rw [hxi, own]
      exact (congrArg Prod.fst lasting :)
    · rw [other x hx hxi]
  · rw [queue_eq]
    rcases compares.queue with h | h
    · exact ⟨[], by rw [h, List.append_nil]; rfl, by simp, fun _ h => (List.not_mem_nil h).elim⟩
    · refine ⟨_, h, by simp, fun e he => ?_⟩
      rw [List.mem_singleton.1 he]
      exact ⟨place.1, List.mem_singleton.2 place.2⟩
  · cases hb : (postAt s (postNo c i)).bus with
    | none => rw [statusReport_unlocated hr hp hb, buses_compared]
    | some j =>
      have hne : j ≠ k := fun e => hk i (.head _) (by rw [hb, e])
      rw [statusReport_located hr hp hb]
      unfold takeHeld
      split
      · exact buses_compared k
      · exact (busAt_updBus j k _ _).trans ((if_neg hne).trans (buses_compared k))
  · cases hb : (postAt s (postNo c i)).bus with
    | none => rw [statusReport_unlocated hr hp hb, buses_compared]
    | some j =>
      rw [statusReport_located hr hp hb]
      unfold takeHeld
      split
      · rw [buses_compared]
      · rw [busAt_updBus, buses_compared]
        split
        · rw [Option.map_map]
          rfl
        · rfl
  · rw [told_eq.1, told_eq.2]
    exact compares.told (by rw [List.length_singleton] at hlen; exact Nat.lt_of_succ_le hlen)

end

/-- The reports of some positions of a station. -/
theorem reported_foldl (hc : IsStation c) {l : List Nat} (hl : ∀ j ∈ l, j < 4 ∧ ∃ r, m.reports[j]? = some r)
    (hposts : s.frt.posts.length = 64) : Reported c l s (l.foldl (fun s i => statusReport c m before i s) s) := by
  induction l generalizing s with
  | nil => exact .nil c s
  | cons a l ih =>
    obtain ⟨ha, r, hr⟩ := hl a (.head _)
    have place (j : Nat) (hj : j < 4) : postNo c j / 4 = c := by unfold postNo; omega
    have one := reported_one (before := before) hr (hasPost_of_station hc hposts (place a ha)) ha
    have rest := ih (s := statusReport c m before a s) (fun j hj => hl j (.tail _ hj)) (one.size.trans hposts)
    exact Reported.append (l := [a]) (fun j hj => (hasPost_of_station hc hposts (place j (hl j (.tail _ hj)).1)).1) one rest

end

end Sys2Proof.Machine
end


section
/-! What the four reports of a STATUS do to each post and its bus, and the settling after them (R12, R20, R21, R32). -/

namespace Sys2Proof.Machine

/-! ### One report among the four -/

theorem postAt_refuseEvent (s : State) (p : Nat) : postAt (refuseEvent s) p = postAt s p := postAt_congr (by simp)

/-- The positions before and after one. -/
theorem positions_split {i : Nat} (hi : i < 4) : ∃ l l' : List Nat, positions = l ++ i :: l' ∧ i ∉ l ∧ i ∉ l' ∧ l.length ≤ 3 ∧
    (∀ j ∈ l, j < 4) ∧ (∀ j ∈ l', j < 4) := by
  have hd : i = 0 ∨ i = 1 ∨ i = 2 ∨ i = 3 := by omega
  rcases hd with rfl | rfl | rfl | rfl
  · exact ⟨[], [1, 2, 3], by decide⟩
  · exact ⟨[0], [2, 3], by decide⟩
  · exact ⟨[0, 1], [3], by decide⟩
  · exact ⟨[0, 1, 2], [], by decide⟩

theorem clampReport_eq (s : State) (c i : Nat) (r : RawReport) : clampReport s c i r =
    { occupied := r.occupied, measured := r.measured
      held := r.held.map (fun h => (((postAt s (postNo c i)).bus.bind (busAt s)).map Bus.capacity).elim h (min h))
      accept := clampInt 0 (postAt s (postNo c i)).rating r.accept
      deliver := if (cabAt s c).bidir then clampInt 0 (postAt s (postNo c i)).rating r.deliver else 0
      temp := r.temp.map (clampInt (-50) 60), fault := r.fault } := by
  rw [clampReport]
  cases (postAt s (postNo c i)).bus.bind (busAt s) <;> rfl

theorem clampReport_congr {c i : Nat} {r : RawReport} {s t : State} (hpost : postAt t (postNo c i) = postAt s (postNo c i))
    (hcabs : t.ylc.cabinets = s.ylc.cabinets) (hcaps : ∀ k, (busAt t k).map Bus.capacity = (busAt s k).map Bus.capacity) :
    clampReport t c i r = clampReport s c i r := by
  have cab : cabAt t c = cabAt s c := by rw [cabAt, hcabs]; rfl
  rw [clampReport_eq, clampReport_eq, hpost, cab, Option.map_bind, Option.map_bind,
    show Option.map Bus.capacity ∘ busAt t = Option.map Bus.capacity ∘ busAt s from funext hcaps]

section
variable {c i : Nat} {m : StatusMsg} {before : List PostState} {r : RawReport} {s : State} (hc : IsStation c) (hi : i < 4)
  (hr : m.reports[i]? = some r) (hall : ∀ j, j < 4 → ∃ r, m.reports[j]? = some r) (hposts : s.frt.posts.length = 64)
include hc hi hr hall hposts

/-- The state in which a position's report is taken, and the states around it. -/
theorem report_among (before : List PostState) : ∃ w : State,
    (∃ l, Reported c l s w ∧ i ∉ l ∧ l.length ≤ 3) ∧ postAt w (postNo c i) = postAt s (postNo c i) ∧ HasPost (postNo c i) w ∧
    (∀ k, (∀ j, j < 4 → j ≠ i → (postAt s (postNo c j)).bus ≠ some k) → busAt w k = busAt s k) ∧
    clampReport w c i r = clampReport s c i r ∧
    (let t := positions.foldl (fun s i => statusReport c m before i s) s
     postAt t (postNo c i) = postAt (statusReport c m before i w) (postNo c i) ∧
     (∀ k, (∀ j, j < 4 → j ≠ i → (postAt s (postNo c j)).bus ≠ some k) →
        busAt t k = busAt (statusReport c m before i w) k) ∧
     ∃ extra, t.frt.plugQ = (statusReport c m before i w).frt.plugQ ++ extra) := by
  obtain ⟨l, l', split, hl, hl', few, lt, lt'⟩ := positions_split hi
  have place (j : Nat) (hj : j < 4) : postNo c j / 4 = c := by unfold postNo; omega
  have inj {j : Nat} (h : postNo c i = postNo c j) : i = j := by unfold postNo at h; omega
  have four (j : Nat) (hj : j < 4) : 4 ≤ postNo c j := (hasPost_of_station hc hposts (place j hj)).1
  have first : Reported c l s (l.foldl (fun s i => statusReport c m before i s) s) :=
    reported_foldl hc (fun j hj => ⟨lt j hj, hall j (lt j hj)⟩) hposts
  generalize hw : l.foldl (fun s i => statusReport c m before i s) s = w at first
  have fold : positions.foldl (fun s i => statusReport c m before i s) s =
      l'.foldl (fun s i => statusReport c m before i s) (statusReport c m before i w) := by
    rw [split, List.foldl_append, hw, List.foldl_cons]
  have size : w.frt.posts.length = 64 := first.size.trans hposts
  have hp : HasPost (postNo c i) w := hasPost_of_station hc size (place i hi)
  have one := reported_one (before := before) hr hp hi
  have last : Reported c l' (statusReport c m before i w) (l'.foldl (fun s i => statusReport c m before i s) (statusReport c m before i w)) :=
    reported_foldl hc (fun j hj => ⟨lt' j hj, hall j (lt' j hj)⟩) (one.size.trans size)
  have post_w : postAt w (postNo c i) = postAt s (postNo c i) := first.other _ (four i hi) fun j hj e => hl (inj e ▸ hj)
  refine ⟨w, ⟨l, first, hl, few⟩, post_w, hp, fun k hk => ?_, clampReport_congr post_w first.cabs first.caps, ?_⟩
  · exact first.buses k fun j hj => hk j (lt j hj) fun e => hl (e ▸ hj)
  · rw [fold]
    refine ⟨last.other _ (four i hi) fun j hj e => hl' (inj e ▸ hj), fun k hk => last.buses k fun j hj => ?_, ?_⟩
    · rw [one.bus _ (four j (lt' j hj)), first.bus _ (four j (lt' j hj))]
      exact hk j (lt' j hj) fun e => hl' (e ▸ hj)
    · obtain ⟨extra, queue, -⟩ := last.queue
      exact ⟨extra, queue⟩

/-- The record of a post after the reports, but for its state and mismatch count. -/
theorem report_record (before : List PostState) :
    let z := postAt (positions.foldl (fun s i => statusReport c m before i s) s) (postNo c i)
    let q := postAt s (postNo c i)
    z.lasting = (q.bus, some (clampReport s c i r), q.sentGrant) ∧ z.rating = q.rating := by
  intro z q
  obtain ⟨w, -, post_w, hp, -, clamp, post, -⟩ := report_among hc hi hr hall hposts before
  obtain ⟨x, lasting, rating, posts⟩ := postAt_statusReport (m := m) (before := before) hr hp
  have own : z = x := post.trans ((postAt_congr posts).trans (postAt_put hp x))
  rw [own, lasting, rating, post_w, clamp]
  exact ⟨rfl, rfl⟩

/-- The bus of a reported post that stands at no other post of the cabinet takes the reported energy (R4). -/
theorem report_bus (before : List PostState) {k : Nat} {b : Bus} (hk : (postAt s (postNo c i)).bus = some k) (hb : busAt s k = some b)
    (alone : ∀ j, j < 4 → j ≠ i → (postAt s (postNo c j)).bus ≠ some k) :
    busAt (positions.foldl (fun s i => statusReport c m before i s) s) k = some (b.taking (some (clampReport s c i r))) := by
  obtain ⟨w, -, post_w, hp, bus_w, clamp, -, bus, -⟩ := report_among hc hi hr hall hposts before
  have bus_compared : busAt (reportCompared c i m before r w) k = some b := by
    rw [← hb, ← bus_w k alone]
    simp [busAt, reportCompared, reportWritten, putPost]
  have report : (postAt (reportCompared c i m before r w) (postNo c i)).report = some (clampReport s c i r) := by
    obtain ⟨x, lasting, -, posts⟩ := (compared_report (m := m) (before := before) (r := r) hp).posts
    rw [show postAt (reportCompared c i m before r w) (postNo c i) = x from
      (postAt_congr posts).trans (postAt_put (hasPost_put hp _) x), ← clamp]
    refine (congrArg (fun y => y.2.1) lasting).trans ?_
    rw [show postAt (reportWritten c i r w) (postNo c i) = _ from postAt_put hp _]
    rfl
  rw [bus k alone, statusReport_located hr hp (post_w ▸ hk), takeHeld_eq bus_compared, report]
  exact busAt_putBus bus_compared _

/-- The state and the mismatch count of a post after the reports (R20, R21). -/
theorem report_state (before : List PostState) :
    let stood := before.getD i .unknown
    let q := postAt s (postNo c i)
    let t := positions.foldl (fun s i => statusReport c m before i s) s
    let z := postAt t (postNo c i)
    let disagree := (stood = .empty ∧ r.occupied = true) ∨
      ((stood = .plugged ∨ stood = .guest ∨ stood = .held) ∧ r.occupied = false)
    let known := speaksOf m i = true ∨ ∃ e ∈ s.frt.plugQ, e.cabinet * 4 + e.position = c * 4 + i
    (stood.holding = true ∨ q.state ≠ stood → z.state = q.state ∧ z.mismatch = q.mismatch) ∧
    (stood.holding = false → q.state = stood →
      (¬ disagree → z.state = q.state ∧ z.mismatch = 0) ∧
      (disagree → known → z.state = q.state ∧ z.mismatch = q.mismatch) ∧
      (disagree → ¬ known → q.mismatch < 2 → z.state = q.state ∧ z.mismatch = q.mismatch + 1) ∧
      (disagree → ¬ known → 2 ≤ q.mismatch →
        (stood = .empty → z.state = .guest ∧ z.mismatch = 0) ∧ (stood = .held → z.state = .empty ∧ z.mismatch = 0) ∧
        (stood = .plugged ∨ stood = .guest → s.frt.plugQ.length ≤ 28 →
          z.state = q.state ∧ z.mismatch = 0 ∧ ⟨c, i, .unplugged, [], none⟩ ∈ t.frt.plugQ) ∧
        (stood = .plugged ∨ stood = .guest → 32 ≤ s.frt.plugQ.length → z.state = q.state ∧ z.mismatch = 3))) := by
  intro stood q t z disagree known
  obtain ⟨w, ⟨l, first, hl, few⟩, post_w, hp, -, -, post, -, later⟩ := report_among hc hi hr hall hposts before
  obtain ⟨extra, queue, room, own⟩ := first.queue
  have hp' : HasPost (postNo c i) (reportWritten c i r w) := hasPost_put hp _
  have written : postAt (reportWritten c i r w) (postNo c i) = { q with report := some (clampReport w c i r) } := by
    rw [reportWritten, postAt_put hp, post_w]
  have state_w : (postAt (reportWritten c i r w) (postNo c i)).state = q.state := by rw [written]
  have mismatch_w : (postAt (reportWritten c i r w) (postNo c i)).mismatch = q.mismatch := by rw [written]
  have z_eq : z = postAt (reportCompared c i m before r w) (postNo c i) := post.trans (postAt_congr (posts_statusReport hr hp))
  have queue_w : (reportWritten c i r w).frt.plugQ = s.frt.plugQ ++ extra := queue
  have queued_eq : queued (reportWritten c i r w) (postNo c i) = true ↔
      ∃ e ∈ s.frt.plugQ, e.cabinet * 4 + e.position = c * 4 + i := by
    rw [queued_iff, queue_w]
    constructor
    · rintro ⟨e, he, hep⟩
      rcases List.mem_append.1 he with he | he
      · exact ⟨e, he, hep⟩
      · obtain ⟨hcab, hpos⟩ := own e he
        have : e.position = i := by unfold postNo at hep; omega
        exact absurd (this ▸ hpos) hl
    · exact fun ⟨e, he, hep⟩ => ⟨e, List.mem_append_left _ he, hep⟩
  have known_iff : speaksOf m i = true ∨ queued (reportWritten c i r w) (postNo c i) = true ↔ known := or_congr_right queued_eq
  have disagree_iff : disagrees stood r.occupied = true ↔ disagree := disagrees_iff stood r.occupied
  have put (x : Post) : postAt (putPost (postNo c i) x (reportWritten c i r w)) (postNo c i) = x := postAt_put hp' x
  refine ⟨fun h => ?_, fun hh hs => ?_⟩
  · rw [z_eq, reportCompared, compare_skips (h.imp_right (by rw [state_w]; exact id))]
    exact ⟨state_w, mismatch_w⟩
  have hs' := state_w.trans hs
  refine ⟨fun hd => ?_, fun hd hk => ?_, fun hd hk hm => ?_, fun hd hk hm => ?_⟩
  · rw [z_eq, reportCompared, compare_agrees hh hs' hp' (mt disagree_iff.1 hd), put]
    exact ⟨state_w, rfl⟩
  · rw [z_eq, reportCompared, compare_known hh hs' (disagree_iff.2 hd) (known_iff.2 hk)]
    exact ⟨state_w, mismatch_w⟩
  · rw [z_eq, reportCompared, compare_counts hh hs' (disagree_iff.2 hd) (mt known_iff.1 hk) hp' (by rw [mismatch_w]; exact hm), put,
      mismatch_w]
    exact ⟨state_w, rfl⟩
  have repairs : reportCompared c i m before r w = repairOccupancy (postNo c i) (reportWritten c i r w) :=
    compare_repairs hh hs' (disagree_iff.2 hd) (mt known_iff.1 hk) (by rw [mismatch_w]; exact hm)
  refine ⟨fun h => ?_, fun h => ?_, fun h hroom => ?_, fun h hfull => ?_⟩
  · rw [z_eq, repairs, repair_empty hp' (hs'.trans h), put]
    exact ⟨rfl, rfl⟩
  · rw [z_eq, repairs, repair_held hp' (hs'.trans h), put]
    exact ⟨rfl, rfl⟩
  · have place : postNo c i / 4 = c ∧ postNo c i % 4 = i := by unfold postNo; omega
    have joins := repair_joins hp' (h.imp hs'.trans hs'.trans) (by rw [queue_w, List.length_append]; omega)
    have queue_t : (statusReport c m before i w).frt.plugQ = (reportCompared c i m before r w).frt.plugQ := by
      cases hb : (postAt w (postNo c i)).bus with
      | none => rw [statusReport_unlocated hr hp hb]
      | some k => rw [statusReport_located hr hp hb]; simp
    obtain ⟨more, later⟩ := later
    rw [place.1, place.2] at joins
    refine and_assoc.1 ⟨?_, ?_⟩
    · rw [z_eq, repairs, joins, show postAt (joinPlug _ (putPost (postNo c i) _ (reportWritten c i r w))) (postNo c i) = _ from put _]
      exact ⟨state_w, rfl⟩
    · rw [show t.frt.plugQ = _ from later, queue_t, repairs, joins]
      exact List.mem_append_left _ (List.mem_append_right _ (List.mem_singleton.2 rfl))
  · have full := repair_refuses hp' (h.imp hs'.trans hs'.trans)
      (by rw [queue_w, List.length_append]; exact hfull.trans (Nat.le_add_right _ _))
    rw [z_eq, repairs, full, postAt_refuseEvent, put]
    exact ⟨state_w, rfl⟩

end

/-! ### Settling (R12, R32 step 5) -/

/-- A post's record after step 5. -/
def settledAt (s : State) (p : Nat) : Post :=
  if (postAt s p).state = .unknown ∨ (postAt s p).state = .offline then (postAt s p).entered (settledState s p true)
  else postAt s p

theorem settled_reads {s t : State} (p : Nat) (h : offPlaces t = offPlaces s) (hq : postAt t p = postAt s p) :
    settledAt t p = settledAt s p := by
  have ylc := (offPlaces_frame h).1
  simp only [settledAt, settledState, isFed, hq, cabAt_of_ylc ylc]

theorem statusSettle_moved {c i : Nat} (hp : 4 ≤ postNo c i) (s : State) :
    Moved [postNo c i] (settledAt s) (fun _ => false) s (statusSettle c i s) := by
  by_cases h : (postAt s (postNo c i)).state = .unknown ∨ (postAt s (postNo c i)).state = .offline
  · have eq : statusSettle c i s = settle (postNo c i) true s := if_pos h
    rw [eq]
    refine (moved_setPostState _ hp s).congr_one (fun _ => (if_pos h).symm) ?_
    rcases h with h | h <;> rw [h] <;> rfl
  · have eq : statusSettle c i s = s := if_neg h
    rw [eq]
    exact moved_one rfl rfl (fun _ => (if_neg h).symm) (fun _ _ _ => rfl) (if_neg Bool.false_ne_true).symm hp

theorem statusSettle_all {c : Nat} (hc : IsStation c) (s : State) :
    Moved (postsOf c) (settledAt s) (fun _ => false) s (positions.foldl (fun s i => statusSettle c i s) s) := by
  have place (i : Nat) (hi : i < 4) : (c * 4 + i) / 4 = c ∧ (c * 4 + i) % 4 = i := by omega
  have folds : positions.foldl (fun s i => statusSettle c i s) s =
      (postsOf c).foldl (fun s p => statusSettle (p / 4) (p % 4) s) s := by
    simp [postsOf, positions, postNo, place]
  rw [folds]
  refine moved_foldl (record := settledAt) (leaves := fun _ _ => false) (fun s p hp => ?_)
    (fun p h hq => ⟨settled_reads p h hq, rfl⟩) (postsOf_nodup c) (fun p hp => ?_) s
  · have number : postNo (p / 4) (p % 4) = p := by unfold postNo; omega
    have moved := statusSettle_moved (c := p / 4) (i := p % 4) (by rw [number]; exact hp) s
    rwa [number] at moved
  · have := mem_postsOf_iff.1 hp
    have := hc.1
    omega

end Sys2Proof.Machine
end


section
/-! A STATUS taken in its visit (R32): the cabinet, its posts and their buses after all its steps (O40). -/

namespace Sys2Proof.Machine

/-! ### The steps of a STATUS -/

/-- After the restart and the link state. -/
def begun (c : Nat) (m : StatusMsg) (grants : List Int) (s : State) : State :=
  statusLink c grants (statusRestart c m.restarted s)

/-- After the mode reported. -/
def moded (c : Nat) (m : StatusMsg) (grants : List Int) (s : State) : State := reportMode c m.mode (begun c m grants s)

/-- After the four reports. -/
def reportsTaken (c : Nat) (m : StatusMsg) (grants : List Int) (s : State) : State :=
  positions.foldl (fun t i => statusReport c m ((postsOf c).map (fun p => (postAt (begun c m grants s) p).state)) i t)
    (moded c m grants s)

/-- After the quiet marks. -/
def marked (c : Nat) (m : StatusMsg) (grants : List Int) (s : State) : State := markQuiet c (reportsTaken c m grants s)

theorem sizes_of_still {s t : State} (h : still t = still s) :
    t.ylc.cabinets.length = s.ylc.cabinets.length ∧ t.frt.posts.length = s.frt.posts.length :=
  ⟨congrArg (fun x => x.2.2.2.2) h, congrArg (fun x => x.2.2.2.1) h⟩

theorem rating_entered (q : Post) (st : PostState) : (q.entered st).rating = q.rating := by
  unfold Post.entered
  split <;> rfl

theorem settledAt_record (s : State) (p : Nat) :
    (settledAt s p).lasting = (postAt s p).lasting ∧ (settledAt s p).rating = (postAt s p).rating := by
  unfold settledAt
  split
  · exact ⟨lasting_entered _ _, rating_entered _ _⟩
  · exact ⟨rfl, rfl⟩

/-- The mode that a report gives, from the parsed message. -/
theorem parseStatus_reports {payload : List Byte} {m : StatusMsg} (h : parseStatus payload = some m) (i : Nat) (hi : i < 4) :
    ∃ r, m.reports[i]? = some r := by
  unfold parseStatus at h
  split at h
  · obtain rfl := Option.some.inj h
    have hlen : ((positions.map (parseReport payload)).length : Nat) = 4 := List.length_map _
    exact ⟨_, List.getElem?_eq_getElem (hlen ▸ hi)⟩
  · exact (Option.some_ne_none m h.symm).elim

section
variable {c : Nat} {m : StatusMsg} {grants : List Int} {s : State} (hc : IsStation c) (hlen : s.ylc.cabinets.length = 16)
  (hposts : s.frt.posts.length = 64) (hall : ∀ j, j < 4 → ∃ r, m.reports[j]? = some r)
include hc hlen hposts

theorem begun_began : Began c m.restarted grants s (begun c m grants s) := began hc hlen hposts _ _

omit hc in
theorem begun_sizes : (begun c m grants s).ylc.cabinets.length = 16 ∧ (begun c m grants s).frt.posts.length = 64 := by
  obtain ⟨cabs, posts⟩ := sizes_of_still (show still (begun c m grants s) = still s by simp [begun])
  exact ⟨cabs.trans hlen, posts.trans hposts⟩

omit hc in
theorem moded_sizes : (moded c m grants s).ylc.cabinets.length = 16 ∧ (moded c m grants s).frt.posts.length = 64 := by
  obtain ⟨cabs, posts⟩ := sizes_of_still (show still (moded c m grants s) = still s by simp [moded, begun])
  exact ⟨cabs.trans hlen, posts.trans hposts⟩

theorem moded_taken : ModeTaken c m.mode (begun c m grants s) (moded c m grants s) := by
  obtain ⟨cabs, posts⟩ := begun_sizes (c := c) (m := m) (grants := grants) hlen hposts
  exact reportMode_taken m.mode hc cabs posts

include hall

theorem reports_taken : Reported c positions (moded c m grants s) (reportsTaken c m grants s) :=
  reported_foldl hc (fun j hj => by
    have hj4 : j < 4 := by simp only [positions, List.mem_cons, List.not_mem_nil, or_false] at hj; omega
    exact ⟨hj4, hall j hj4⟩) (moded_sizes hlen hposts).2

omit hlen hposts hall in
theorem applied_settles : Moved (postsOf c) (settledAt (marked c m grants s)) (fun _ => false) (marked c m grants s)
    (applyReports c m grants s) := statusSettle_all hc _

/-! ### What each part is after the steps -/

omit hc hlen hposts hall in
theorem marked_tables : (marked c m grants s).frt = (reportsTaken c m grants s).frt ∧
    (marked c m grants s).sli = (reportsTaken c m grants s).sli ∧ (marked c m grants s).tsm = (reportsTaken c m grants s).tsm := by
  simp [marked]

omit hlen hposts hall in
theorem applied_tables : (applyReports c m grants s).ylc = (marked c m grants s).ylc ∧
    (applyReports c m grants s).frt.buses = (reportsTaken c m grants s).frt.buses ∧
    (applyReports c m grants s).frt.plugQ = (reportsTaken c m grants s).frt.plugQ ∧
    (applyReports c m grants s).sli = (reportsTaken c m grants s).sli ∧
    (applyReports c m grants s).tsm = (reportsTaken c m grants s).tsm := by
  obtain ⟨ylc, buses, -, queue, sli, -, -, -, -, tsm, -⟩ := offPlaces_frame (applied_settles (m := m) (grants := grants) (s := s) hc).frame
  obtain ⟨frt, sli', tsm'⟩ := marked_tables (c := c) (m := m) (grants := grants) (s := s)
  exact ⟨ylc, by rw [buses, frt], by rw [queue, frt], sli.trans sli', tsm.trans tsm'⟩

/-- A post of the cabinet, from its record after the reports. -/
theorem applied_own {i : Nat} (hi : i < 4) : postAt (applyReports c m grants s) (postNo c i) = settledAt (marked c m grants s) (postNo c i) ∧
    postAt (marked c m grants s) (postNo c i) = postAt (reportsTaken c m grants s) (postNo c i) := by
  have place : postNo c i / 4 = c := by unfold postNo; omega
  have frt := (marked_tables (c := c) (m := m) (grants := grants) (s := s)).1
  have size : (marked c m grants s).frt.posts.length = 64 := by
    rw [frt, (reports_taken hc hlen hposts hall).size]
    exact (moded_sizes hlen hposts).2
  exact ⟨(applied_settles hc).posts _ (mem_postsOf_iff.2 place) (hasPost_of_station hc size place).2, postAt_congr (by rw [frt])⟩

theorem applied_record {i : Nat} {r : RawReport} (hi : i < 4) (hr : m.reports[i]? = some r) :
    let z := postAt (applyReports c m grants s) (postNo c i)
    z.lasting = (if Fresh c m.restarted s then none else (postAt s (postNo c i)).bus,
      some (clampReport (moded c m grants s) c i r), grants.getD i 0) ∧
    z.rating = (postAt (moded c m grants s) (postNo c i)).rating := by
  intro z
  have place : postNo c i / 4 = c ∧ postNo c i % 4 = i := by unfold postNo; omega
  have four : 4 ≤ postNo c i := (hasPost_of_station hc hposts place.1).1
  obtain ⟨own, same⟩ := applied_own (grants := grants) hc hlen hposts hall hi
  obtain ⟨lasting, rating⟩ := settledAt_record (marked c m grants s) (postNo c i)
  obtain ⟨lasting', rating'⟩ := report_record hc hi hr hall (moded_sizes (c := c) (grants := grants) hlen hposts).2
    ((postsOf c).map (fun p => (postAt (begun c m grants s) p).state))
  have began := begun_began (m := m) (grants := grants) hc hlen hposts
  have kept := (moded_taken (m := m) (grants := grants) hc hlen hposts).posts (postNo c i) four place.1
  have bus : (postAt (moded c m grants s) (postNo c i)).bus = if Fresh c m.restarted s then none else (postAt s (postNo c i)).bus :=
    (congrArg Prod.fst kept :).trans (began.bus _ place.1)
  have sent : (postAt (moded c m grants s) (postNo c i)).sentGrant = grants.getD i 0 := by
    have := began.sent (postNo c i) place.1
    rw [place.2] at this
    exact (congrArg (fun x => x.2.2) kept :).trans this
  rw [← bus, ← sent]
  exact ⟨((congrArg Post.lasting own).trans lasting).trans ((congrArg Post.lasting same).trans lasting'),
    ((congrArg Post.rating own).trans rating).trans ((congrArg Post.rating same).trans rating')⟩

omit hall in
/-- The bus of a post when its report is taken. -/
theorem moded_bus {i : Nat} (hi : i < 4) : (postAt (moded c m grants s) (postNo c i)).bus =
    if Fresh c m.restarted s then none else (postAt s (postNo c i)).bus := by
  have place : postNo c i / 4 = c := by unfold postNo; omega
  have four : 4 ≤ postNo c i := (hasPost_of_station hc hposts place).1
  exact (congrArg Prod.fst ((moded_taken (m := m) (grants := grants) hc hlen hposts).posts (postNo c i) four place) :).trans
    ((begun_began hc hlen hposts).bus _ place)

omit hall in
theorem moded_buses (k : Nat) : busAt (moded c m grants s) k =
    if Fresh c m.restarted s ∧ ∃ p ∈ postsOf c, (postAt s p).bus = some k then (busAt s k).map Bus.freed else busAt s k := by
  rw [show busAt (moded c m grants s) k = busAt (begun c m grants s) k by simp [busAt, moded]]
  exact (begun_began hc hlen hposts).buses k

omit hall in
/-- The report as it is written, in terms of the states before and after the STATUS (R34, R35). -/
theorem clamp_applied {i : Nat} (hi : i < 4) (r : RawReport) {z : Post}
    (hbus : z.bus = if Fresh c m.restarted s then none else (postAt s (postNo c i)).bus)
    (hrating : z.rating = (postAt (moded c m grants s) (postNo c i)).rating) :
    clampReport (moded c m grants s) c i r =
      { occupied := r.occupied, measured := r.measured
        held := r.held.map (fun h => match z.bus.bind (busAt s) with
          | none => h
          | some b => min h b.capacity)
        accept := clampInt 0 z.rating r.accept
        deliver := if (cabAt s c).bidir then clampInt 0 z.rating r.deliver else 0
        temp := r.temp.map (clampInt (-50) 60), fault := r.fault } := by
  have bidir : (cabAt (moded c m grants s) c).bidir = (cabAt s c).bidir := by
    rw [(moded_taken hc hlen hposts).own, (begun_began hc hlen hposts).own]
  have bus : (postAt (moded c m grants s) (postNo c i)).bus = z.bus := (moded_bus hc hlen hposts hi).trans hbus.symm
  have caps (k : Nat) : (busAt (moded c m grants s) k).map Bus.capacity = (busAt s k).map Bus.capacity := by
    rw [moded_buses hc hlen hposts]
    split
    · rw [Option.map_map]
      rfl
    · rfl
  rw [clampReport_eq, bidir, bus, ← hrating, Option.map_bind,
    show Option.map Bus.capacity ∘ busAt (moded c m grants s) = Option.map Bus.capacity ∘ busAt s from funext caps,
    ← Option.map_bind]
  cases z.bus.bind (busAt s) <;> rfl

/-! ### Elsewhere -/

theorem applied_elsewhere : (∀ d, IsStation d → d ≠ c → cabAt (applyReports c m grants s) d = cabAt s d) ∧
    ∀ p, 4 ≤ p → p / 4 ≠ c → postAt (applyReports c m grants s) p = postAt s p := by
  have taken := moded_taken (m := m) (grants := grants) hc hlen hposts
  have began := begun_began (m := m) (grants := grants) hc hlen hposts
  have reports := reports_taken (grants := grants) hc hlen hposts hall
  have frt := (marked_tables (c := c) (m := m) (grants := grants) (s := s)).1
  refine ⟨fun d hd hne => ?_, fun p hp hne => ?_⟩
  · have mark : cabAt (marked c m grants s) d = cabAt (reportsTaken c m grants s) d := by
      unfold marked markQuiet
      dsimp only
      split
      · exact cabAt_updCab_other hne
      · rfl
    have same : cabAt (reportsTaken c m grants s) d = cabAt (moded c m grants s) d := by rw [cabAt, reports.cabs]; rfl
    rw [cabAt_of_ylc (applied_tables hc).1, mark, same, taken.cabs d hd hne, began.cabs d hne]
  · have away (j : Nat) (hj : j ∈ positions) : p ≠ postNo c j := by
      simp only [positions, List.mem_cons, List.not_mem_nil, or_false] at hj
      unfold postNo
      omega
    have mark : postAt (marked c m grants s) p = postAt (reportsTaken c m grants s) p := postAt_congr (congrArg Frt.posts frt)
    rw [(applied_settles hc).others p hp (mt mem_postsOf_iff.1 hne), mark, reports.other p hp away, taken.other p hp hne, began.other p hp hne]

/-! ### The cabinet and its sequencer -/

omit hlen hposts hall in
theorem marked_cab (h : (reportsTaken c m grants s).ylc.cabinets.length = 16) :
    let e := (cabAt (reportsTaken c m grants s) c).pool
    let quiet := e.quiesce.filter (fun i => e.quiet.contains i || isQuiet (reportsTaken c m grants s) (postNo c i))
    cabAt (marked c m grants s) c = if e.state.inFlight then { cabAt (reportsTaken c m grants s) c with pool := { e with
        quiet := quiet, state := if e.state = .quiesce ∧ quiet = e.quiesce then .sent else e.state } }
      else cabAt (reportsTaken c m grants s) c := by
  intro e quiet
  by_cases hf : e.state.inFlight = true
  · rw [if_pos hf]
    exact (congrArg (fun t => cabAt t c) (markQuiet_flying hc h hf)).trans (cabAt_pooled hc h rfl)
  · rw [if_neg hf]
    exact congrArg (fun t => cabAt t c) (show marked c m grants s = reportsTaken c m grants s from if_neg hf)

/-- The quiet marks of the reports of a STATUS (R52). -/
theorem quiet_applied {i : Nat} (hi : i < 4) : isQuiet (reportsTaken c m grants s) (postNo c i) =
    (decide (grants.getD i 0 = 0) && match m.reports[i]? with
      | none => false
      | some r => decide (-5 ≤ r.measured ∧ r.measured ≤ 5)) := by
  obtain ⟨r, hr⟩ := hall i hi
  have place : postNo c i / 4 = c ∧ postNo c i % 4 = i := by unfold postNo; omega
  have four : 4 ≤ postNo c i := (hasPost_of_station hc hposts place.1).1
  obtain ⟨lasting, -⟩ := report_record hc hi hr hall (moded_sizes (c := c) (grants := grants) hlen hposts).2
    ((postsOf c).map (fun p => (postAt (begun c m grants s) p).state))
  have kept := (moded_taken (m := m) (grants := grants) hc hlen hposts).posts (postNo c i) four place.1
  have sent : (postAt (reportsTaken c m grants s) (postNo c i)).sentGrant = grants.getD i 0 := by
    have first := (begun_began (m := m) (grants := grants) hc hlen hposts).sent (postNo c i) place.1
    rw [place.2] at first
    exact ((congrArg (fun x => x.2.2) lasting :).trans (congrArg (fun x => x.2.2) kept :)).trans first
  have measured : measuredOf (postAt (reportsTaken c m grants s) (postNo c i)) = r.measured := by
    rw [measuredOf, show (postAt (reportsTaken c m grants s) (postNo c i)).report = _ from (congrArg (fun x => x.2.1) lasting :)]
    rfl
  rw [isQuiet, sent, measured, hr]

theorem applied_cab :
    let e := (cabAt (moded c m grants s) c).pool
    let quiet := e.quiesce.filter (fun i => decide (i ∈ e.quiet) || (decide (grants.getD i 0 = 0) && match m.reports[i]? with
      | none => false
      | some r => decide (-5 ≤ r.measured ∧ r.measured ≤ 5)))
    (∃ x, x.inForce = e.inForce ∧ cabAt (applyReports c m grants s) c = { cabAt (moded c m grants s) c with pool := x }) ∧
    (e.state = .done ∨ e.state = .failed → (cabAt (applyReports c m grants s) c).pool = e) ∧
    (e.state = .quiesce → (∀ i ∈ e.quiesce, i < 4) → (cabAt (applyReports c m grants s) c).pool =
      { e with quiet := quiet, state := if quiet = e.quiesce then .sent else .quiesce }) ∧
    (e.state = .sent ∨ e.state = .await → (∀ i ∈ e.quiesce, i < 4) →
      (cabAt (applyReports c m grants s) c).pool = { e with quiet := quiet }) := by
  intro e quiet
  have reports := reports_taken (grants := grants) hc hlen hposts hall
  have same : cabAt (reportsTaken c m grants s) c = cabAt (moded c m grants s) c := by rw [cabAt, reports.cabs]; rfl
  have mark := marked_cab (m := m) (grants := grants) (s := s) hc (by rw [reports.cabs]; exact (moded_sizes hlen hposts).1)
  have marks (h : ∀ i ∈ e.quiesce, i < 4) :
      e.quiesce.filter (fun i => e.quiet.contains i || isQuiet (reportsTaken c m grants s) (postNo c i)) = quiet :=
    List.filter_congr fun i hi => by rw [quiet_applied hc hlen hposts hall (h i hi), List.contains_eq_mem]
  rw [same] at mark
  let marking := e.quiesce.filter (fun i => e.quiet.contains i || isQuiet (reportsTaken c m grants s) (postNo c i))
  have final := cabAt_of_ylc (applied_tables (m := m) (grants := grants) (s := s) hc).1 c
  have flying (hf : e.state.inFlight = true) : cabAt (applyReports c m grants s) c = { cabAt (moded c m grants s) c with
      pool := { e with
        quiet := marking, state := if e.state = .quiesce ∧ marking = e.quiesce then .sent else e.state } } :=
    final.trans (mark.trans (if_pos hf))
  have resting (hf : ¬ e.state.inFlight = true) : cabAt (applyReports c m grants s) c = cabAt (moded c m grants s) c :=
    final.trans (mark.trans (if_neg hf))
  refine ⟨?_, fun h => ?_, fun h hq => ?_, fun h hq => ?_⟩
  · by_cases hf : e.state.inFlight = true
    · exact ⟨_, by rfl, flying hf⟩
    · exact ⟨e, rfl, resting hf⟩
  · rw [resting (by rcases h with h | h <;> rw [h] <;> decide)]
  · rw [flying (by rw [h]; rfl), show marking = quiet from marks hq, h, if_congr (and_iff_right rfl) rfl rfl]
  · have hne : e.state ≠ .quiesce := by rcases h with h | h <;> rw [h] <;> decide
    rw [flying (by rcases h with h | h <;> rw [h] <;> rfl), show marking = quiet from marks hq, if_neg fun h => hne h.1]

/-! ### The buses -/

theorem applied_buses (k : Nat) :
    ((∀ i, i < 4 → (postAt s (postNo c i)).bus ≠ some k) → busAt (applyReports c m grants s) k = busAt s k) ∧
    (∀ i b, i < 4 → Fresh c m.restarted s → (postAt s (postNo c i)).bus = some k → busAt s k = some b →
      busAt (applyReports c m grants s) k = some b.freed) ∧
    ∀ i b r, i < 4 → ¬ Fresh c m.restarted s → m.reports[i]? = some r → (postAt s (postNo c i)).bus = some k → busAt s k = some b →
      (∀ j, j < 4 → j ≠ i → (postAt s (postNo c j)).bus ≠ some k) →
      busAt (applyReports c m grants s) k = some { b with held := match r.held with
        | none => b.held
        | some h => some ⟨min h b.capacity, 0, 0⟩ } := by
  have reports := reports_taken (grants := grants) hc hlen hposts hall
  have final : busAt (applyReports c m grants s) k = busAt (reportsTaken c m grants s) k := by
    rw [busAt, (applied_tables hc).2.1]
    rfl
  have start := moded_buses (m := m) (grants := grants) hc hlen hposts k
  have bus {i : Nat} (hi : i < 4) := moded_bus (m := m) (grants := grants) hc hlen hposts hi
  have lt {j : Nat} (hj : j ∈ positions) : j < 4 := by
    simp only [positions, List.mem_cons, List.not_mem_nil, or_false] at hj
    omega
  have at_post {i : Nat} (hi : i < 4) : postNo c i ∈ postsOf c := mem_postsOf_iff.2 (by unfold postNo; omega)
  have post_of {p : Nat} (hp : p ∈ postsOf c) : ∃ i, i < 4 ∧ p = postNo c i :=
    ⟨p % 4, by omega, by have := mem_postsOf_iff.1 hp; unfold postNo; omega⟩
  rw [final]
  refine ⟨fun hk => ?_, fun i b hi hf hk hb => ?_, fun i b r hi hf hr hk hb alone => ?_⟩
  · rw [reports.buses k fun j hj => ?_, start, if_neg]
    · rintro ⟨-, p, hp, hpk⟩
      obtain ⟨i, hi, rfl⟩ := post_of hp
      exact hk i hi hpk
    · rw [bus (lt hj)]
      split
      · exact (Option.some_ne_none k).symm
      · exact hk j (lt hj)
  · rw [reports.buses k fun j hj => ?_, start, if_pos ⟨hf, postNo c i, at_post hi, hk⟩, hb, Option.map_some]
    rw [bus (lt hj), if_pos hf]
    exact (Option.some_ne_none k).symm
  · have same {j : Nat} (hj : j < 4) : (postAt (moded c m grants s) (postNo c j)).bus = (postAt s (postNo c j)).bus :=
      (bus hj).trans (if_neg hf)
    have bus_k : busAt (moded c m grants s) k = some b := by rw [start, if_neg fun h => hf h.1, hb]
    refine (report_bus hc hi hr hall (moded_sizes hlen hposts).2 _ ((same hi).trans hk) bus_k fun j hj hne => ?_).trans ?_
    · rw [same hj]
      exact alone j hj hne
    · rw [clampReport_eq, same hi, hk, Option.bind_some, bus_k, Bus.taking]
      cases r.held with
      | none => rfl
      | some h => simp

end

end Sys2Proof.Machine
end


section
/-! The states of the posts after a STATUS, its telegrams, and a STATUS taken in its visit (O40). -/

namespace Sys2Proof.Machine

theorem state_entered (q : Post) (st : PostState) : (q.entered st).state = st := by
  unfold Post.entered
  split
  · assumption
  · rfl

theorem fields_of_lasting {q : Post} {k : Option Nat} {t : Option Report} {x : Int} (h : q.lasting = (k, t, x)) :
    q.bus = k ∧ q.report = t ∧ q.sentGrant = x :=
  ⟨congrArg Prod.fst h, congrArg (fun y => y.2.1) h, congrArg (fun y => y.2.2) h⟩

/-- A report of a holding state leaves the queue. -/
theorem queue_statusReport_holding {c i : Nat} {m : StatusMsg} {before : List PostState}
    (h : (before.getD i .unknown).holding = true) (s : State) : (statusReport c m before i s).frt.plugQ = s.frt.plugQ := by
  unfold statusReport
  split
  · rfl
  · dsimp only
    rw [compare_skips (.inl h)]
    split <;> simp

section
variable {c : Nat} {m : StatusMsg} {grants : List Int} {s : State} (hc : IsStation c) (hlen : s.ylc.cabinets.length = 16)
  (hposts : s.frt.posts.length = 64) (hall : ∀ j, j < 4 → ∃ r, m.reports[j]? = some r)

/-- The states that the posts held before the mode was reported. -/
def statesBegun (c : Nat) (m : StatusMsg) (grants : List Int) (s : State) : List PostState :=
  (postsOf c).map (fun p => (postAt (begun c m grants s) p).state)

theorem reportsTaken_eq : reportsTaken c m grants s =
    positions.foldl (fun t i => statusReport c m (statesBegun c m grants s) i t) (moded c m grants s) := rfl

theorem statesBegun_getD {i : Nat} (hi : i < 4) :
    (statesBegun c m grants s).getD i .unknown = (postAt (begun c m grants s) (postNo c i)).state := by
  have cases4 : i = 0 ∨ i = 1 ∨ i = 2 ∨ i = 3 := by omega
  rcases cases4 with rfl | rfl | rfl | rfl <;> rfl

include hc hlen hposts

theorem begun_state {i : Nat} (hi : i < 4) :
    (Fresh c m.restarted s → (postAt (begun c m grants s) (postNo c i)).state = .unknown) ∧
    (¬ Fresh c m.restarted s → (postAt (begun c m grants s) (postNo c i)).state = (postAt s (postNo c i)).state ∧
      (postAt (begun c m grants s) (postNo c i)).mismatch = (postAt s (postNo c i)).mismatch) :=
  (begun_began hc hlen hposts).state _ (by unfold postNo; omega)

theorem moded_queue : (moded c m grants s).frt.plugQ =
    if Fresh c m.restarted s then s.frt.plugQ.filter (fun e => e.cabinet ≠ c) else s.frt.plugQ := by
  rw [show (moded c m grants s).frt.plugQ = (begun c m grants s).frt.plugQ by simp [moded]]
  exact (begun_began hc hlen hposts).queue

/-- A restart empties the queue of the cabinet's entries, and the STATUS adds none (R23). -/
theorem applied_queue (h : Fresh c m.restarted s) :
    (applyReports c m grants s).frt.plugQ = s.frt.plugQ.filter (fun e => e.cabinet ≠ c) := by
  have holding (i : Nat) : ((statesBegun c m grants s).getD i .unknown).holding = true := by
    by_cases hi : i < 4
    · rw [statesBegun_getD hi, (begun_state hc hlen hposts hi).1 h]
      rfl
    · rw [List.getD_eq_default _ _ (by simpa [statesBegun, postsOf, positions] using hi)]
      rfl
  have reports : (reportsTaken c m grants s).frt.plugQ = (moded c m grants s).frt.plugQ :=
    foldl_keeps (fun t => t.frt.plugQ) _ (fun t i => queue_statusReport_holding (holding i) t) positions _
  obtain ⟨-, -, queue, -⟩ := applied_tables (m := m) (grants := grants) (s := s) hc
  rw [queue, reports, moded_queue hc hlen hposts, if_pos h]

include hall

/-- The telegrams of a STATUS while the queue has room for four entries and no pooling change ends (R23, R33). -/
theorem applied_told (hroom : s.frt.plugQ.length ≤ 28) (h : Fresh c m.restarted s ∨ (cabAt s c).pool.target = none) :
    let restarted := if Fresh c m.restarted s then notice (.cabinetRestarted c) s else s
    let told := if (cabAt s c).link = .offline then notice .cabinetOnline restarted else restarted
    (applyReports c m grants s).sli = told.sli ∧ (applyReports c m grants s).tsm = told.tsm := by
  have began := begun_began (m := m) (grants := grants) hc hlen hposts
  have target : (cabAt (begun c m grants s) c).pool.target = none := by
    rw [began.own]
    dsimp only
    split
    · rfl
    · next hf => exact h.resolve_left hf
  have queue : (moded c m grants s).frt.plugQ.length + positions.length ≤ 32 := by
    rw [moded_queue hc hlen hposts]
    have := List.length_filter_le (fun e : PlugEvent => decide (e.cabinet ≠ c)) s.frt.plugQ
    simp only [positions, List.length_cons, List.length_nil]
    split <;> omega
  obtain ⟨sli, tsm⟩ := (reports_taken (grants := grants) hc hlen hposts hall).told queue
  obtain ⟨sli', tsm'⟩ := (moded_taken (m := m) (grants := grants) hc hlen hposts).told target
  obtain ⟨-, -, -, sli'', tsm''⟩ := applied_tables (m := m) (grants := grants) (s := s) hc
  obtain ⟨told, told'⟩ := began.told
  exact ⟨(sli''.trans (sli.trans sli')).trans told, (tsm''.trans (tsm.trans tsm')).trans told'⟩

/-! ### The states of the posts -/

section
variable {i : Nat} {r : RawReport} (hi : i < 4) (hr : m.reports[i]? = some r)
include hi hr

/-- A post of unknown state is settled (R12). -/
theorem applied_settled (h : Fresh c m.restarted s ∨ (postAt s (postNo c i)).state = .unknown ∨
    (postAt s (postNo c i)).state = .offline) :
    let z := postAt (applyReports c m grants s) (postNo c i)
    z.state = if feedsInForce (cabAt (applyReports c m grants s) c).pool.inForce i = [] then .disabled
      else if 0 < r.fault then .faulted
      else if z.bus.isSome then .plugged
      else if r.occupied then .guest else .empty := by
  intro z
  have place : postNo c i / 4 = c ∧ postNo c i % 4 = i := by unfold postNo; omega
  have four : 4 ≤ postNo c i := (hasPost_of_station hc hposts place.1).1
  have start : (postAt (begun c m grants s) (postNo c i)).state = .unknown ∨
      (postAt (begun c m grants s) (postNo c i)).state = .offline := by
    obtain ⟨fresh, known⟩ := begun_state (m := m) (grants := grants) hc hlen hposts hi
    by_cases hf : Fresh c m.restarted s
    · exact .inl (fresh hf)
    · rw [(known hf).1]
      exact h.resolve_left hf
  have holding : ((statesBegun c m grants s).getD i .unknown).holding = true := by
    rw [statesBegun_getD hi]
    rcases start with h | h <;> rw [h] <;> rfl
  have mode := (moded_taken (m := m) (grants := grants) hc hlen hposts).held (postNo c i) four place.1 start
  obtain ⟨reports, -⟩ := report_state hc hi hr hall (moded_sizes (c := c) (m := m) (grants := grants) hlen hposts).2
    (statesBegun c m grants s)
  rw [← reportsTaken_eq] at reports
  obtain ⟨stays, -⟩ := reports (.inl holding)
  obtain ⟨own, same⟩ := applied_own (grants := grants) hc hlen hposts hall hi
  have waits : (postAt (marked c m grants s) (postNo c i)).state = .unknown ∨
      (postAt (marked c m grants s) (postNo c i)).state = .offline := by
    rw [same, stays, mode]
    exact start
  have settled : z = (postAt (marked c m grants s) (postNo c i)).entered (settledState (marked c m grants s) (postNo c i) true) :=
    own.trans (if_pos waits)
  have lasting : (postAt (marked c m grants s) (postNo c i)).lasting = z.lasting := by rw [settled, lasting_entered]
  have record := (applied_record (grants := grants) hc hlen hposts hall hi hr).1
  obtain ⟨bus_z, -, -⟩ := fields_of_lasting record
  obtain ⟨bus_marked, report, -⟩ := fields_of_lasting (lasting.trans record)
  have bus : (postAt (marked c m grants s) (postNo c i)).bus = z.bus := bus_marked.trans bus_z.symm
  have fed : isFed (marked c m grants s) (postNo c i) = false ↔
      feedsInForce (cabAt (applyReports c m grants s) c).pool.inForce i = [] := by
    rw [isFed, place.1, place.2, cabAt_of_ylc (applied_tables hc).1]
    simp
  rw [show z.state = settledState (marked c m grants s) (postNo c i) true by rw [settled, state_entered]]
  simp only [settledState, report, bus, fed, Option.map_some, Option.getD_some, true_and]
  rfl

/-- A post of another state follows its report alone, where the mode in force stands (R20, R21). -/
theorem applied_compared (hf : ¬ Fresh c m.restarted s)
    (hq : (postAt s (postNo c i)).state = .empty ∨ (postAt s (postNo c i)).state = .plugged ∨
      (postAt s (postNo c i)).state = .guest ∨ (postAt s (postNo c i)).state = .held)
    (hmode : modeOfCode m.mode = none ∨ modeOfCode m.mode = (cabAt s c).pool.inForce) :
    let q := postAt s (postNo c i)
    let z := postAt (applyReports c m grants s) (postNo c i)
    let disagree := (q.state = .empty ∧ r.occupied = true) ∨
      ((q.state = .plugged ∨ q.state = .guest ∨ q.state = .held) ∧ r.occupied = false)
    let known := (∃ e ∈ m.events, e.position.toNat = i) ∨ (∃ e ∈ s.frt.plugQ, e.cabinet * 4 + e.position = postNo c i)
    (¬ disagree → z.state = q.state ∧ z.mismatch = 0) ∧
    (disagree → known → z.state = q.state ∧ z.mismatch = q.mismatch) ∧
    (disagree → ¬ known → q.mismatch < 2 → z.state = q.state ∧ z.mismatch = q.mismatch + 1) ∧
    (disagree → ¬ known → 2 ≤ q.mismatch →
      (q.state = .empty → z.state = .guest ∧ z.mismatch = 0) ∧ (q.state = .held → z.state = .empty ∧ z.mismatch = 0) ∧
      (q.state = .plugged ∨ q.state = .guest → s.frt.plugQ.length ≤ 28 →
        z.state = q.state ∧ z.mismatch = 0 ∧ ⟨c, i, .unplugged, [], none⟩ ∈ (applyReports c m grants s).frt.plugQ) ∧
      (q.state = .plugged ∨ q.state = .guest → 32 ≤ s.frt.plugQ.length → z.state = q.state ∧ z.mismatch = 3)) := by
  intro q z disagree known
  obtain ⟨state, mismatch⟩ := (begun_state (m := m) (grants := grants) hc hlen hposts hi).2 hf
  have inForce : (cabAt (begun c m grants s) c).pool.inForce = (cabAt s c).pool.inForce := by
    rw [(begun_began hc hlen hposts).own]
    dsimp only
    rw [if_neg hf]
  obtain ⟨state', mismatch'⟩ := (moded_taken (m := m) (grants := grants) hc hlen hposts).stands (postNo c i)
    (by rw [inForce]; exact hmode)
  have stood : (statesBegun c m grants s).getD i .unknown = q.state := (statesBegun_getD hi).trans state
  have queue : (moded c m grants s).frt.plugQ = s.frt.plugQ := (moded_queue hc hlen hposts).trans (if_neg hf)
  have spoken : speaksOf m i = true ↔ ∃ e ∈ m.events, e.position.toNat = i := by simp [speaksOf]
  have active : q.state.holding = false := by rcases hq with h | h | h | h <;> rw [show q.state = _ from h] <;> rfl
  obtain ⟨-, reports⟩ := report_state hc hi hr hall (moded_sizes (c := c) (m := m) (grants := grants) hlen hposts).2
    (statesBegun c m grants s)
  rw [← reportsTaken_eq, stood, state'.trans state, mismatch'.trans mismatch, queue, spoken] at reports
  have cases := reports active rfl
  obtain ⟨own, same⟩ := applied_own (grants := grants) hc hlen hposts hall hi
  have stays {x : Nat} {st : PostState} (h : (postAt (reportsTaken c m grants s) (postNo c i)).state = st ∧
      (postAt (reportsTaken c m grants s) (postNo c i)).mismatch = x) (hst : st.holding = false) :
      z.state = st ∧ z.mismatch = x := by
    have settled : z = postAt (reportsTaken c m grants s) (postNo c i) := own.trans ((if_neg fun h' => by
      rw [same, h.1] at h'
      rcases h' with h' | h' <;> rw [h'] at hst <;> exact absurd hst (by decide)).trans same)
    rw [settled]
    exact h
  obtain ⟨agrees, knows, counts, repairs⟩ := cases
  refine ⟨fun hd => stays (agrees hd) active, fun hd hk => stays (knows hd hk) active,
    fun hd hk hm => stays (counts hd hk hm) active, fun hd hk hm => ?_⟩
  obtain ⟨empty, held, joins, full⟩ := repairs hd hk hm
  refine ⟨fun h => stays (empty h) rfl, fun h => stays (held h) rfl, fun h hroom => ?_, fun h hfull => stays (full h hfull) active⟩
  obtain ⟨st, mm, mem⟩ := joins h hroom
  obtain ⟨z_state, z_mismatch⟩ := stays ⟨st, mm⟩ active
  refine ⟨z_state, z_mismatch, ?_⟩
  rw [(applied_tables (m := m) (grants := grants) (s := s) hc).2.2.1]
  exact mem

end

end

/-! ### The events and the hand-off (R36, R178) -/

/-- The events of a STATUS move the last sequence of their cabinet alone. -/
theorem offerEvents_cab {c : Nat} (hc : IsStation c) (refused : Bool) (l : List RawEvent) {s : State}
    (hlen : s.ylc.cabinets.length = 16) :
    (∃ x, cabAt (offerEvents c refused l s).1 c = { cabAt s c with lastSeq := x }) ∧
    ∀ d, d ≠ c → cabAt (offerEvents c refused l s).1 d = cabAt s d := by
  have none_moved (t : State) (h : t.ylc.cabinets = s.ylc.cabinets) :
      (∃ x, cabAt t c = { cabAt s c with lastSeq := x }) ∧ ∀ d, d ≠ c → cabAt t d = cabAt s d := by
    have same (d : Nat) : cabAt t d = cabAt s d := by rw [cabAt, h]; rfl
    exact ⟨⟨(cabAt s c).lastSeq, same c⟩, fun d _ => same d⟩
  cases refused with
  | true =>
    rw [offerEvents_refused]
    exact none_moved s rfl
  | false =>
    induction l generalizing s with
    | nil => exact none_moved s rfl
    | cons e l ih =>
      have own_taken : cabAt (seqTaken c e s) c = { cabAt s c with lastSeq := some e.seq.toNat } := cabAt_updCab_same hc hlen
      have after (t : State) (h : t.ylc.cabinets = (seqTaken c e s).ylc.cabinets) :
          (∃ x, cabAt (offerEvents c false l t).1 c = { cabAt s c with lastSeq := x }) ∧
          ∀ d, d ≠ c → cabAt (offerEvents c false l t).1 d = cabAt s d := by
        have same (d : Nat) : cabAt t d = cabAt (seqTaken c e s) d := by rw [cabAt, h]; rfl
        have length : t.ylc.cabinets.length = 16 := by
          rw [h]
          exact (cabinets_length_updCab c _ s).trans hlen
        obtain ⟨⟨x, own⟩, cabs⟩ := ih length fun u hu => by
          have same_u (d : Nat) : cabAt u d = cabAt t d := by rw [cabAt, hu]; rfl
          exact ⟨⟨(cabAt t c).lastSeq, same_u c⟩, fun d _ => same_u d⟩
        refine ⟨⟨x, ?_⟩, fun d hd => ?_⟩
        · rw [own, same, own_taken]
        · rw [cabs d hd, same]
          exact cabAt_updCab_other hd
      cases hn : isNewEvent (cabAt s c).lastSeq e.seq with
      | false =>
        rw [offerEvents_duplicate hn]
        exact ih hlen none_moved
      | true =>
        cases hx : entryOf c e with
        | none =>
          rw [offerEvents_ignored hn hx]
          exact after _ rfl
        | some x =>
          rcases lt_or_ge s.frt.plugQ.length 32 with hroom | hfull
          · rw [offerEvents_accepted hn hx hroom]
            exact after _ rfl
          · rw [offerEvents_full hn hx hfull]
            exact none_moved _ (by simp)

/-- The reply to the EXCHANGE of a visit is taken. -/
theorem replyStatus_awaited {src : Byte} {payload : List Byte} {m : StatusMsg} {c waits : Nat} {grants : List Int} {s : State}
    (h : Awaits s c waits grants) (hsrc : src.toNat = c) (hm : parseStatus payload = some m) :
    replyStatus src payload s = takeStatus c m grants s := by
  rw [replyStatus, (awaited_some_iff s c waits grants).2 h, hm]
  exact if_pos hsrc

/-- The copy of a STATUS, by the passage table's row. -/
theorem statusHandOff_eq {src : Byte} {c : Nat} (hsrc : src.toNat = c) (m : StatusMsg) (grants : List Int) (js : List Judgement)
    (s : State) : statusHandOff c m grants js s = match passageAction s .site 0x80 src 100 with
      | .drop => s
      | _ => queueOut ⟨102, .statusFwd (statusCopy s c m grants js)⟩ s := by
  have station : BitVec.ofNat 8 c = src := by rw [← hsrc, BitVec.ofNat_toNat, BitVec.setWidth_eq]
  rw [statusHandOff, station]
  rfl

/-- Two notices over states that queue alike. -/
theorem notices_same (a b : Prop) [Decidable a] [Decidable b] (n n' : Notice) {s t : State} (h1 : s.sli = t.sli)
    (h2 : s.tsm = t.tsm) (h3 : s.rdu.clock = t.rdu.clock) :
    let first (s : State) := if a then notice n s else s
    let last (s : State) := if b then notice n' (first s) else first s
    (last s).sli = (last t).sli ∧ (last s).tsm = (last t).tsm := by
  intro first last
  have first_same : (first s).sli = (first t).sli ∧ (first s).tsm = (first t).tsm ∧ (first s).rdu.clock = (first t).rdu.clock := by
    simp only [first]
    split
    · obtain ⟨sli, tsm⟩ := notice_same n h1 h2 h3
      exact ⟨sli, tsm, by simpa using h3⟩
    · exact ⟨h1, h2, h3⟩
  obtain ⟨sli, tsm, clock⟩ := first_same
  simp only [last]
  split
  · exact notice_same n' sli tsm clock
  · exact ⟨sli, tsm⟩

/-- A STATUS up to its hand-off. -/
def handed (c : Nat) (m : StatusMsg) (grants : List Int) (s : State) : State :=
  statusHandOff c m grants (offerEvents c false m.events (applyReports c m grants s)).2
    (offerEvents c false m.events (applyReports c m grants s)).1

theorem handed_frame (c : Nat) (m : StatusMsg) (grants : List Int) (s : State) : let t := handed c m grants s
    t.sbu = s.sbu ∧ t.rdu = s.rdu ∧ t.rsu = s.rsu ∧ t.stp = s.stp ∧ t.tsm.store = s.tsm.store ∧ t.tsm.op = s.tsm.op ∧
      t.ylc.round = s.ylc.round ∧ t.ylc.fwdQ = s.ylc.fwdQ := by
  simp [handed]

section
variable {c : Nat} {m : StatusMsg} {grants : List Int} {s : State} (hc : IsStation c) (hlen : s.ylc.cabinets.length = 16)
  (hposts : s.frt.posts.length = 64) (hall : ∀ j, j < 4 → ∃ r, m.reports[j]? = some r)

theorem handed_tables (p k : Nat) : postAt (handed c m grants s) p = postAt (applyReports c m grants s) p ∧
    busAt (handed c m grants s) k = busAt (applyReports c m grants s) k :=
  ⟨postAt_congr (by simp [handed]), by simp [busAt, handed]⟩

include hc hlen hposts hall

/-- The cabinet's record after a STATUS has been taken. -/
theorem handed_record : ∃ last x, x.inForce = (cabAt (moded c m grants s) c).pool.inForce ∧
    (cabAt (applyReports c m grants s) c).pool = x ∧
    (cabAt (applyReports c m grants s) c).lastSeq = (if Fresh c m.restarted s then none else (cabAt s c).lastSeq) ∧
    cabAt (handed c m grants s) c = { cabAt s c with
      misses := 0, age := 0, link := .online, restartAck := m.restarted, lastSeq := last
      reported := (cabAt (moded c m grants s) c).reported, pool := x } := by
  have taken := moded_taken (m := m) (grants := grants) hc hlen hposts
  have began := begun_began (m := m) (grants := grants) hc hlen hposts
  obtain ⟨⟨x, inForce, own⟩, -⟩ := applied_cab (grants := grants) hc hlen hposts hall
  have length : (applyReports c m grants s).ylc.cabinets.length = 16 :=
    (sizes_of_still (show still (applyReports c m grants s) = still s by simp)).1.trans hlen
  obtain ⟨⟨last, events⟩, -⟩ := offerEvents_cab hc false m.events length
  have hands : cabAt (handed c m grants s) c = cabAt (offerEvents c false m.events (applyReports c m grants s)).1 c :=
    cabAt_of_ylc (by simp [handed]) c
  have whole : cabAt (applyReports c m grants s) c = { cabAt (begun c m grants s) c with
      reported := (cabAt (moded c m grants s) c).reported, pool := x } :=
    own.trans (congrArg (fun r : Cabinet => { r with pool := x }) taken.own)
  rw [began.own] at whole
  exact ⟨last, x, inForce, by rw [whole], by rw [whole], by rw [hands, events, whole]⟩

theorem handed_cab : let t := handed c m grants s
    (cabAt t c).link = .online ∧ (cabAt t c).misses = 0 ∧ (cabAt t c).age = 0 ∧ (cabAt t c).restartAck = m.restarted ∧
    (cabAt t c).configured = (cabAt s c).configured ∧ (cabAt t c).ratings = (cabAt s c).ratings ∧
    (cabAt t c).desired = (cabAt s c).desired ∧
    (∀ x, modeOfCode m.mode = some x → (cabAt t c).reported = some x ∧ (cabAt t c).pool.inForce = some x) ∧
    (modeOfCode m.mode = none → (cabAt t c).reported = (cabAt s c).reported ∧
      (cabAt t c).pool.inForce = (cabAt s c).pool.inForce) := by
  intro t
  have taken := moded_taken (m := m) (grants := grants) hc hlen hposts
  obtain ⟨last, x, inForce, -, -, own⟩ := handed_record (grants := grants) hc hlen hposts hall
  rw [show cabAt t c = _ from own]
  refine ⟨rfl, rfl, rfl, rfl, rfl, rfl, rfl, fun y hy => ?_, fun hy => ?_⟩
  · obtain ⟨reported, mode⟩ := taken.known y hy
    exact ⟨reported, inForce.trans mode⟩
  · have began := begun_began (m := m) (grants := grants) hc hlen hposts
    rw [taken.unknown hy, began.own] at inForce
    dsimp only at inForce ⊢
    rw [taken.unknown hy, began.own, inForce]
    refine ⟨rfl, ?_⟩
    split <;> rfl

theorem handed_elsewhere : SameElsewhere c s (handed c m grants s) := by
  obtain ⟨cabs, posts⟩ := applied_elsewhere (grants := grants) hc hlen hposts hall
  have length : (applyReports c m grants s).ylc.cabinets.length = 16 :=
    (sizes_of_still (show still (applyReports c m grants s) = still s by simp)).1.trans hlen
  refine ⟨fun d hd hne => ?_, fun p hp hne => (handed_tables p 0).1.trans (posts p hp hne)⟩
  exact ((cabAt_of_ylc (by simp [handed]) d).trans ((offerEvents_cab hc false m.events length).2 d hne)).trans (cabs d hd hne)

/-- The report of a position as it stands after the STATUS. -/
theorem handed_report {i : Nat} (hi : i < 4) : ∃ r t, m.reports[i]? = some r ∧
    (postAt (handed c m grants s) (postNo c i)).report = some t ∧
    (postAt (handed c m grants s) (postNo c i)).sentGrant = grants.getD i 0 ∧
    t.occupied = r.occupied ∧ t.measured = r.measured ∧
    t.held = r.held.map (fun h => match (postAt (handed c m grants s) (postNo c i)).bus.bind (busAt s) with
      | none => h
      | some b => min h b.capacity) ∧
    t.accept = clampInt 0 (postAt (handed c m grants s) (postNo c i)).rating r.accept ∧
    t.deliver = (if (cabAt s c).bidir then clampInt 0 (postAt (handed c m grants s) (postNo c i)).rating r.deliver else 0) ∧
    t.temp = r.temp.map (clampInt (-50) 60) ∧ t.fault = r.fault := by
  obtain ⟨r, hr⟩ := hall i hi
  obtain ⟨lasting, rating⟩ := applied_record (grants := grants) hc hlen hposts hall hi hr
  rw [← (handed_tables (postNo c i) 0).1] at lasting rating
  obtain ⟨bus, report, sent⟩ := fields_of_lasting lasting
  have clamp := clamp_applied hc hlen hposts hi r bus rating
  exact ⟨r, _, hr, report.trans (congrArg some clamp), sent, rfl, rfl, rfl, rfl, rfl, rfl, rfl⟩

omit hall in
/-- A restart resets the sequencer of a cabinet that reports no mode. -/
theorem moded_pool_fresh (hf : Fresh c m.restarted s) (hmode : modeOfCode m.mode = none) :
    (cabAt (moded c m grants s) c).pool = { (cabAt s c).pool with
      state := .done, target := none, pending := none, attempts := 0, quiesce := [], quiet := [], cause := none } := by
  rw [(moded_taken hc hlen hposts).unknown hmode, (begun_began hc hlen hposts).own]
  exact if_pos hf

theorem applied_fresh (hf : Fresh c m.restarted s) :
    (applyReports c m grants s).frt.plugQ = s.frt.plugQ.filter (fun e => e.cabinet ≠ c) ∧
    (modeOfCode m.mode = none → (cabAt (applyReports c m grants s) c).pool = { (cabAt s c).pool with
      state := .done, target := none, pending := none, attempts := 0, quiesce := [], quiet := [], cause := none }) ∧
    ∀ i k b, i < 4 → (postAt s (c * 4 + i)).bus = some k → busAt s k = some b → busAt (applyReports c m grants s) k =
      some { b with post := none, state := if b.state = .withdrawn then .withdrawn else .yard } := by
  refine ⟨applied_queue hc hlen hposts hf, fun hmode => ?_, fun i k b hi hk hb =>
    (applied_buses hc hlen hposts hall k).2.1 i b hi hf hk hb⟩
  have pool := moded_pool_fresh (grants := grants) hc hlen hposts hf hmode
  exact ((applied_cab hc hlen hposts hall).2.1 (.inl (by rw [pool]))).trans pool

end

/-! ### The obligation -/

/-- Settles O40, step by step of the STATUS. -/
theorem statusIsTaken : Obligations.StatusIsTaken := by
  refine ⟨?taken, fun p before occupied spoken s hlo hhi hsizes => ?compared, fun s => ⟨refuseEvent_marked, refuseEvent_first⟩⟩
  case compared => exact compareOccupancy_cases ⟨hlo, by rw [hsizes.1]; omega⟩
  case taken =>
    intro src seq payload m c waits grants s hp ⟨hposts, hlen, _⟩ hc hawaits hsrc hm v o four u fresh
    have hall := parseStatus_reports hm
    have hu : handed c m grants (yardHeard s) = u := statusHandOff_eq hsrc m grants o.2 o.1
    obtain ⟨link, misses, age, ack, configured, ratings, desired, known, unknown⟩ :=
      handed_cab (grants := grants) (s := yardHeard s) hc hlen hposts hall
    obtain ⟨-, rests, quiesces, flies⟩ := applied_cab (grants := grants) (s := yardHeard s) hc hlen hposts hall
    obtain ⟨last, x, -, pool_v, lastSeq, own⟩ := handed_record (grants := grants) (s := yardHeard s) hc hlen hposts hall
    have pool_u : (cabAt (handed c m grants (yardHeard s)) c).pool = (cabAt v c).pool := by rw [own, show (cabAt v c).pool = x from pool_v]
    obtain ⟨sbu, rdu, rsu, stp, store, op, round, fwdQ⟩ := handed_frame c m grants (yardHeard s)
    have record {i : Nat} {r : RawReport} (hi : i < 4) (hr : m.reports[i]? = some r) :=
      applied_record (grants := grants) (s := yardHeard s) hc hlen hposts hall hi hr
    have buses (k : Nat) := applied_buses (grants := grants) (s := yardHeard s) hc hlen hposts hall k
    rw [← hu]
    refine ⟨onYard_eq hp (replyStatus_awaited (s := yardHeard s) hawaits hsrc hm), link, misses, age, ack, configured, ratings, desired,
      known, unknown, fun i hi => handed_report (m := m) (grants := grants) (s := yardHeard s) hc hlen hposts hall hi,
      handed_elsewhere (m := m) (grants := grants) (s := yardHeard s) hc hlen hposts hall, sbu, rdu, rsu, stp, store, op, round, fwdQ, ?sequencer, lastSeq,
      fun hf => ?fresh, fun hroom hquiet => ?told, fun i hi => ?bus,
      fun i k b r hi hf hr hk hb alone => (handed_tables 0 k).2.trans ((buses k).2.2 i b r hi hf hr hk hb alone),
      fun k hk => (handed_tables 0 k).2.trans ((buses k).1 hk), fun i r hi hr => ?state⟩
    case sequencer =>
      rw [pool_u]
      exact ⟨rests, quiesces, flies⟩
    case fresh =>
      dsimp only [v]
      obtain ⟨queue, pool, freed⟩ := applied_fresh (grants := grants) (s := yardHeard s) hc hlen hposts hall hf
      refine ⟨queue, fun hmode => (pool hmode).trans ?_, freed⟩
      rw [show cabAt (yardHeard s) c = cabAt s c from rfl]
    case told =>
      obtain ⟨sli, tsm⟩ := applied_told (grants := grants) (s := yardHeard s) hc hlen hposts hall hroom hquiet
      obtain ⟨sli', tsm'⟩ := notices_same (Fresh c m.restarted s) ((cabAt s c).link = .offline) (.cabinetRestarted c)
        .cabinetOnline (s := yardHeard s) (t := s) rfl rfl rfl
      exact ⟨sli.trans sli', tsm.trans tsm'⟩
    case bus =>
      obtain ⟨r, hr⟩ := hall i hi
      exact (congrArg Post.bus (handed_tables (postNo c i) 0).1).trans (fields_of_lasting (record hi hr).1).1
    case state =>
      dsimp only [v]
      exact ⟨applied_settled (grants := grants) (s := yardHeard s) hc hlen hposts hall hi hr, fun hf hq hmode =>
        applied_compared (grants := grants) (s := yardHeard s) hc hlen hposts hall hi hr hf hq hmode⟩

end Sys2Proof.Machine
end

section
/-! The end of a store write (R192): the stored result, the answer, and the activation that becomes ready. -/

namespace Sys2Proof.Machine

section
variable {w : Write} {s : State}

/-- A state at the end of a write, before it is answered: the store as the write leaves it, and no write in flight. -/
def writeOver (store : SegTable StoredSeg) (s : State) : State := { s with tsm := { s.tsm with store := store, write := none } }

/-- The test of R192 for a segment that leaves VALID. -/
theorem leavingCounts_iff {g : Segment} :
    leavingCounts s g = true ↔
      (s.tsm.active.get g).isSome = true ∨ ∃ a ∈ s.tsm.waiting, a.seg = g ∧ a.content.isSome = true := by
  simp [leavingCounts]

theorem leavingCounts_answer (m : MgmtHead) (r : MgmtResult) (d : MgmtDetails) (s : State) (g : Segment) :
    leavingCounts (answer m r d s) g = leavingCounts s g := by simp [leavingCounts]

/-- Two states with the pass and the pending RESTART of one are both applied at once or both left. -/
theorem applyIfIdle_of_same {t : State} (hpass : t.ale.pass = s.ale.pass) (hrestart : t.tsm.restartPending = s.tsm.restartPending) :
    applyIfIdle t = if s.ale.pass = .idle ∧ s.tsm.restartPending = false then boundary t else t := by
  unfold applyIfIdle
  rw [hpass, hrestart]

/-- The end of a write leaves the pass and a pending RESTART for the test of R193. -/
theorem applyIfIdle_readyAfter (job : WriteJob) (written : Bool) (m : MgmtHead) (r : MgmtResult) (d : MgmtDetails) {t : State}
    (hpass : t.ale.pass = s.ale.pass) (hrestart : t.tsm.restartPending = s.tsm.restartPending) :
    applyIfIdle (readyAfter job written (answer m r d t)) =
      if s.ale.pass = .idle ∧ s.tsm.restartPending = false then boundary (readyAfter job written (answer m r d t))
      else readyAfter job written (answer m r d t) := by
  apply applyIfIdle_of_same <;> simp [hpass, hrestart]

/-- The activation ready after a RELEASE, or after a COMMIT that faults. -/
theorem readyLeaving {m : MgmtHead} {r : MgmtResult} {d : MgmtDetails} {t : State} {g : Segment}
    (hactive : t.tsm.active = s.tsm.active) (hwaiting : t.tsm.waiting = s.tsm.waiting) :
    (leavingCounts s g = true →
      (if leavingCounts (answer m r d t) g then makeReady ⟨g, none⟩ (answer m r d t) else answer m r d t) =
        makeReady ⟨g, none⟩ (answer m r d t)) ∧
    (¬ leavingCounts s g = true →
      (if leavingCounts (answer m r d t) g then makeReady ⟨g, none⟩ (answer m r d t) else answer m r d t) = answer m r d t) := by
  have same : leavingCounts (answer m r d t) g = leavingCounts s g := by
    rw [leavingCounts_answer]
    unfold leavingCounts
    rw [hactive, hwaiting]
  rw [same]
  exact ⟨fun h => if_pos h, fun h => if_neg h⟩

/-- A step that ends a write in a part under power. -/
theorem exec_writeEnd (hp : s.power = true) (hw : s.tsm.write = some w) :
    let ended (written : Bool) (stored : State) : State :=
      let a := readyAfter w.job written
        (answer ⟨w.src, w.seq, w.op⟩ (if written then .done else .storeFault) .none
          { stored with tsm := { stored.tsm with write := none } })
      if s.ale.pass = .idle ∧ s.tsm.restartPending = false then boundary a else a
    exec .storeWriteDone s = .next (finish (ended true (storeWritten w.job s))) ∧
    exec .storeWriteFault s = .next (finish (ended false (storeFaulted w.job s))) := by
  have ends (written : Bool) : endWrite written s = applyIfIdle (readyAfter w.job written
      (answer ⟨w.src, w.seq, w.op⟩ (if written then .done else .storeFault) .none
        (modTsm (fun t => { t with write := none }) (if written then storeWritten w.job s else storeFaulted w.job s)))) := by
    simp only [endWrite, hw]
  intro ended
  refine ⟨(live_on (endWrite true) s hp).trans (congrArg (fun v => Host.Outcome.next (finish v)) ((ends true).trans ?_)),
    (live_on (endWrite false) s hp).trans (congrArg (fun v => Host.Outcome.next (finish v)) ((ends false).trans ?_))⟩
  · exact applyIfIdle_readyAfter _ _ _ _ _
      (t := { storeWritten w.job s with tsm := { (storeWritten w.job s).tsm with write := none } })
      (by cases w.job <;> rfl) (by cases w.job <;> rfl)
  · exact applyIfIdle_readyAfter _ _ _ _ _
      (t := { storeFaulted w.job s with tsm := { (storeFaulted w.job s).tsm with write := none } })
      (by cases w.job <;> rfl) (by cases w.job <;> rfl)

/-- The ends of a write, job by job (first part of O36). -/
theorem writeEnds (hp : s.power = true) (hw : s.tsm.write = some w) :
    let m : MgmtHead := ⟨w.src, w.seq, w.op⟩
    let applied (u : State) : State := if s.ale.pass = .idle ∧ s.tsm.restartPending = false then boundary u else u
    let next (u : State) : Host.Outcome State Fault Refusal := .next (finish (applied u))
    (∀ g rows, w.job = .commit g rows →
      exec .storeWriteDone s = next (makeReady ⟨g, some rows⟩
        (answer m .done .none (writeOver (s.tsm.store.set g ⟨.valid, (s.tsm.store.get g).lock, rows⟩) s))) ∧
      let failed := answer m .storeFault .none (writeOver (s.tsm.store.set g ⟨.incomplete, (s.tsm.store.get g).lock, []⟩) s)
      (leavingCounts s g = true → exec .storeWriteFault s = next (makeReady ⟨g, none⟩ failed)) ∧
      (¬ leavingCounts s g = true → exec .storeWriteFault s = next failed)) ∧
    (∀ g, w.job = .release g →
      let written := answer m .done .none (writeOver (s.tsm.store.set g ⟨.empty, false, []⟩) s)
      let failed := answer m .storeFault .none (writeOver (s.tsm.store.set g ⟨.incomplete, false, []⟩) s)
      (leavingCounts s g = true →
        exec .storeWriteDone s = next (makeReady ⟨g, none⟩ written) ∧
        exec .storeWriteFault s = next (makeReady ⟨g, none⟩ failed)) ∧
      (¬ leavingCounts s g = true → exec .storeWriteDone s = next written ∧ exec .storeWriteFault s = next failed)) ∧
    (∀ g, w.job = .lock g →
      exec .storeWriteDone s = next (answer m .done .none
        (writeOver (s.tsm.store.set g ⟨(s.tsm.store.get g).content, true, (s.tsm.store.get g).rows⟩) s)) ∧
      exec .storeWriteFault s = next (answer m .storeFault .none (writeOver s.tsm.store s))) ∧
    (∀ code, w.job = .setCode code →
      exec .storeWriteDone s = next (answer m .done .none { s with tsm := { s.tsm with code := code, write := none } }) ∧
      exec .storeWriteFault s = next (answer m .storeFault .none (writeOver s.tsm.store s))) := by
  intro m applied next
  obtain ⟨done, fault⟩ := exec_writeEnd hp hw
  refine ⟨fun g rows hj => ?_, fun g hj => ?_, fun g hj => ?_, fun code hj => ?_⟩ <;> rw [hj] at done fault
  · obtain ⟨leaves, stays⟩ := readyLeaving (s := s) (m := m) (r := .storeFault) (d := .none) (g := g)
      (t := writeOver (s.tsm.store.set g ⟨.incomplete, (s.tsm.store.get g).lock, []⟩) s) rfl rfl
    exact ⟨done, fun h => fault.trans (congrArg next (leaves h)), fun h => fault.trans (congrArg next (stays h))⟩
  · obtain ⟨wleaves, wstays⟩ := readyLeaving (s := s) (m := m) (r := .done) (d := .none) (g := g)
      (t := writeOver (s.tsm.store.set g ⟨.empty, false, []⟩) s) rfl rfl
    obtain ⟨leaves, stays⟩ := readyLeaving (s := s) (m := m) (r := .storeFault) (d := .none) (g := g)
      (t := writeOver (s.tsm.store.set g ⟨.incomplete, false, []⟩) s) rfl rfl
    exact ⟨fun h => ⟨done.trans (congrArg next (wleaves h)), fault.trans (congrArg next (leaves h))⟩,
      fun h => ⟨done.trans (congrArg next (wstays h)), fault.trans (congrArg next (stays h))⟩⟩
  · exact ⟨done, fault⟩
  · exact ⟨done, fault⟩

end
end Sys2Proof.Machine
end

section
/-! What each segment's content does (R132, R173, R73, R158, R159, R100), and the boundary that applies it (R108). -/

namespace Sys2Proof.Machine

section
variable {s : State}

/-- The active segment becomes the content of an activation (R193). -/
def putActive (g : Segment) (content : Option (List Row)) (s : State) : State :=
  { s with tsm := { s.tsm with active := s.tsm.active.set g content } }

/-- Content that gives rows: the rows themselves, or a segment that leaves VALID and gives none. -/
theorem content_getD {content : Option (List Row)} {rows : List Row} (h : content = some rows ∨ content = none ∧ rows = []) :
    content.getD [] = rows := by
  rcases h with rfl | ⟨rfl, rfl⟩ <;> rfl

/-- The SETTINGS in use once their content is taken (R201). -/
theorem settingsOf_content {g : Settings} {content : Option (List Row)}
    (h : content = some [.settings g] ∨ content = none ∧ g = Settings.defaults) : settingsOf content = g := by
  rcases h with rfl | ⟨rfl, rfl⟩ <;> rfl

/-- A pass asked for behind a step that leaves the operating state. -/
theorem wantPass_of_op {t : State} (h : t.tsm.op = s.tsm.op) :
    wantPass t = if s.tsm.op = .starting then t else { t with ale := { t.ale with pending := true } } := by
  unfold wantPass
  rw [h]
  rfl

/-- An activation, with the test for STARTING read in the state before it. -/
theorem applyActivation_eq {g : Segment} {content : Option (List Row)}
    (h : (handContent g content (putActive g content s)).tsm.op = s.tsm.op) :
    applyActivation ⟨g, content⟩ s =
      if s.tsm.op = .starting then handContent g content (putActive g content s)
      else { handContent g content (putActive g content s) with
        ale := { (handContent g content (putActive g content s)).ale with pending := true } } :=
  wantPass_of_op h

/-- The boundary: the waiting activations, in their order, then the trigger (R104, R108). -/
theorem boundary_eq (s : State) :
    boundary s = runTriggers
      (s.tsm.waiting.foldl (fun u a => applyActivation a u) { s with tsm := { s.tsm with waiting := [] } }) := rfl

variable {content : Option (List Row)}

theorem activateCommitment_gives {l : List CommitRow}
    (h : content = some (l.map .commitment) ∨ content = none ∧ l.map Row.commitment = []) :
    handContent .commitment content s = { s with rsu := { s.rsu with slots := l } } := by
  show activateCommitment content s = _
  unfold activateCommitment
  rw [content_getD h, commitRows_map]
  rfl

theorem activatePassage_gives {l : List PassageRow}
    (h : content = some (l.map .passage) ∨ content = none ∧ l.map Row.passage = []) :
    handContent .passage content s = { s with sli := { s.sli with passage := l } } := by
  show activatePassage content s = _
  unfold activatePassage
  rw [content_getD h, passageRows_map]
  rfl

theorem activateTariff_gives {l : List TariffRow}
    (h : content = some (l.map .tariff) ∨ content = none ∧ l.map Row.tariff = []) :
    handContent .tariff content s = evalTariff { s with sbu := { s.sbu with windows := l.map windowOf } } := by
  show activateTariff content s = _
  unfold activateTariff
  rw [content_getD h, tariffRows_map]
  rfl

theorem activateRoute_gives {l : List RouteRow}
    (h : content = some (l.map .route) ∨ content = none ∧ l.map Row.route = []) :
    handContent .route content s = rebuildList { s with rdu := { s.rdu with legs := l.map (legOfRow s) } } := by
  show activateRoute content s = _
  unfold activateRoute
  rw [content_getD h, routeRows_map]
  rfl

/-- The SETTINGS, the band, and the storage table of the new band (R159). -/
def settingsTaken (g : Settings) (s : State) : State :=
  let band : Band := ⟨g.sFloor, g.sLo, g.sHi, g.sCeiling⟩
  { s with
    tsm := { s.tsm with settings := g }
    stp := { s.stp with band := band, table := s.frt.buses.mapIdx (fun k b =>
      storageEntryFor band b.capacity (storageAt s k).cls) } }

theorem activateSettings_gives {g : Settings}
    (h : content = some [.settings g] ∨ content = none ∧ g = Settings.defaults) :
    handContent .settings content s = changeSeason (seasonOf g.season) (settingsTaken g s) := by
  show activateSettings content s = _
  unfold activateSettings
  rw [settingsOf_content h]
  rfl

/-- A season that stays changes nothing; a new one resets today's open outcomes, and RDU, SBU and STP act (R158). -/
theorem changeSeason_same {season : Season} (h : season = s.stp.season) : changeSeason season s = s := if_pos h

theorem changeSeason_new {season : Season} (h : season ≠ s.stp.season) :
    let x := evalTariff (rebuildList (resetOpenOutcomes { s with stp := { s.stp with season := season } }))
    changeSeason season s = { x with stp := { x.stp with viewDue := true } } := if_neg h

end
end Sys2Proof.Machine
end

section
/-! The operating state at a YARD activation (R199, R40, R153), and the round that a YARD activation cuts off (R28, R45). -/

namespace Sys2Proof.Machine

section
variable {s : State}

/-- The telegrams of abandoned dispatches depend on SLI, TSM, the clock and RSU alone. -/
theorem tellAbandoned_same {c : DropCause} {t : State} (hsli : s.sli = t.sli) (htsm : s.tsm = t.tsm)
    (hclock : s.rdu.clock = t.rdu.clock) (hrsu : s.rsu = t.rsu) :
    (tellAbandoned c s).sli = (tellAbandoned c t).sli ∧ (tellAbandoned c s).tsm = (tellAbandoned c t).tsm ∧
      (tellAbandoned c s).rdu.clock = (tellAbandoned c t).rdu.clock := by
  have reading : clockReading s = clockReading t := clockReading_of_clock hclock
  unfold tellAbandoned outcomeMsg
  rw [hrsu, reading]
  cases t.rsu.active with
  | none =>
    cases t.rsu.armed with
    | none => exact ⟨hsli, htsm, hclock⟩
    | some r =>
      obtain ⟨qsli, qtsm⟩ := queueOut_same ⟨103, .notice (.armedDropped r.id c) (clockReading t)⟩ hsli htsm hclock
      exact ⟨qsli, qtsm, by simpa using hclock⟩
  | some d =>
    obtain ⟨osli, otsm⟩ := queueOut_same ⟨103, .outcome (outcomeOf d .abandoned (clockReading t))⟩ hsli htsm hclock
    cases t.rsu.armed with
    | none => exact ⟨osli, otsm, by simpa using hclock⟩
    | some r =>
      obtain ⟨qsli, qtsm⟩ := queueOut_same ⟨103, .notice (.armedDropped r.id c) (clockReading t)⟩ osli otsm (by simpa using hclock)
      exact ⟨qsli, qtsm, by simpa using hclock⟩

/-- The part in SAFE, before CURTAIL is asked for and RSU acts. -/
def safed (s : State) : State := modTsm (fun t => { t with op := .safe }) s

/-- The part in SAFE with CURTAIL asked for, before RSU acts. -/
def curtailed (s : State) : State := modYlc (fun y => { y with curtailReq := true }) (safed s)

theorem enterSafe_eq (s : State) : enterSafe s = trySend (abandonDispatches .safe (curtailed s)) := rfl

/-- The entry into SAFE, block by block. -/
theorem enterSafe_frame (s : State) :
    let told := trySend (tellAbandoned .safe (safed s))
    let u := enterSafe s
    u.sli = told.sli ∧ u.tsm = told.tsm ∧ u.tsm.op = .safe ∧ u.ylc = { s.ylc with curtailReq := true } ∧
      u.rsu = { s.rsu with active := none, armed := none } ∧
      u.ale = { s.ale with pending := s.ale.pending || s.rsu.active.isSome } ∧
      u.frt = s.frt ∧ u.sbu = s.sbu ∧ u.rdu = s.rdu ∧ u.stp = s.stp ∧ u.freeCount = s.freeCount := by
  intro told u
  obtain ⟨arsu, aylc, afrt, asbu, ardu, astp, -, aale⟩ := abandonDispatches_frame .safe (curtailed s) (by simp [curtailed, safed])
  obtain ⟨tsli, ttsm, tclock⟩ := abandonDispatches_tells .safe (curtailed s)
  obtain ⟨csli, ctsm, cclock⟩ := tellAbandoned_same (c := .safe) (s := curtailed s) (t := safed s) rfl rfl rfl rfl
  have clock : (abandonDispatches .safe (curtailed s)).rdu.clock = (tellAbandoned .safe (safed s)).rdu.clock :=
    (congrArg Rdu.clock ardu).trans (tclock.symm.trans cclock)
  obtain ⟨usli, utsm⟩ := trySend_same (tsli.trans csli) (ttsm.trans ctsm) clock
  have sent : u = trySend (abandonDispatches .safe (curtailed s)) := enterSafe_eq s
  let x := abandonDispatches .safe (curtailed s)
  have kept : (trySend x).ylc = x.ylc ∧ (trySend x).rsu = x.rsu ∧ (trySend x).ale = x.ale ∧ (trySend x).frt = x.frt ∧
      (trySend x).sbu = x.sbu ∧ (trySend x).rdu = x.rdu ∧ (trySend x).stp = x.stp := by simp
  obtain ⟨kylc, krsu, kale, kfrt, ksbu, krdu, kstp⟩ := kept
  exact ⟨usli, utsm, by simp [sent, curtailed, safed], kylc.trans aylc, krsu.trans arsu, kale.trans aale, kfrt.trans afrt,
    ksbu.trans asbu, krdu.trans ardu, kstp.trans astp, by simp [sent, curtailed, safed]⟩

/-- Outside SAFE the arrival of YARD leaves the operating state. -/
theorem yardArrived_open (h : s.tsm.op ≠ .safe) : yardArrived s = s := if_neg h

/-- In SAFE without a standing silence the part coordinates again. -/
theorem yardArrived_heard (h : s.tsm.op = .safe) (hs : s.tsm.silenceStanding = false) :
    yardArrived s = { s with tsm := { s.tsm with op := .coordinating } } :=
  (if_pos h).trans (if_neg (by simp [hs]))

/-- In SAFE with a standing silence the part enters ISLAND. -/
theorem yardArrived_silent (h : s.tsm.op = .safe) (hs : s.tsm.silenceStanding = true) : yardArrived s = enterIsland s :=
  (if_pos h).trans (if_pos hs)

/-- YARD leaves VALID outside STARTING and SAFE, and inside. -/
theorem yardLeft_open (h : s.tsm.op = .coordinating ∨ s.tsm.op = .island) : yardLeft s = enterSafe s := if_pos h

theorem yardLeft_closed (h : s.tsm.op = .starting ∨ s.tsm.op = .safe) : yardLeft s = s :=
  if_neg (by rcases h with h | h <;> simp [h])

/-- A round goes on while it is not between visits, or a configured station is left above. -/
theorem closeRound_on (h : ∀ c, s.ylc.round = .between c → ∃ d, c < d ∧ IsStation d ∧ (cabAt s d).configured = true) :
    closeRound s = s := by
  unfold closeRound
  cases hr : s.ylc.round with
  | between c =>
    obtain ⟨d, hlt, hd, hcfg⟩ := h c hr
    have isSome := nextStation_isSome hlt hd hcfg
    exact if_neg (by simpa using Option.ne_none_iff_isSome.2 isSome)
  | idle | visit => rfl

/-- A round cut off completes: its trigger, the band, and the round-due mark. -/
theorem closeRound_cut {c : Nat} (hr : s.ylc.round = .between c)
    (h : ¬ ∃ d, c < d ∧ IsStation d ∧ (cabAt s d).configured = true) :
    closeRound s = applyRoundDue (evalBand (wantPass (roundOver s))) := by
  have none_left : nextStation s c = none := nextStation_none fun d hlt hd =>
    Bool.eq_false_iff.2 fun hcfg => h ⟨d, hlt, hd, hcfg⟩
  unfold closeRound
  simp only [hr, none_left, Option.isNone_none, if_true]

/-- The trigger of a round's completion, with the pass timer restarted. -/
theorem wantPass_roundOver (s : State) : wantPass (roundOver s) = { s with
    ylc := { s.ylc with round := .idle }
    ale := { s.ale with
      timer := s.ale.timer.map (fun _ => 0), pending := s.ale.pending || decide (s.tsm.op ≠ .starting) } } := by
  by_cases h : s.tsm.op = .starting
  · refine (if_pos h).trans ?_
    simp [roundOver, h, modAle, modYlc]
  · refine (if_neg h).trans ?_
    simp [roundOver, h, modAle, modYlc]

theorem applyRoundDue_eq (s : State) : applyRoundDue s =
    if s.ylc.roundDue then { s with ylc := { s.ylc with roundDue := false, roundWanted := true } } else s := rfl

theorem roundDue_evalBand (s : State) : (evalBand s).ylc.roundDue = s.ylc.roundDue := by simp

end
end Sys2Proof.Machine
end

section
/-! A FLEET activation (R8, R101, R159): the new rows take over what their tags lead to, the posts follow their buses, and
the storage table is built. -/

namespace Sys2Proof.Machine

/-! ### Posts -/

section
variable {p : Nat} {s : State}

/-- A change of a post depends on what it makes of that post's record alone. -/
theorem updPost_congr {f g : Post → Post} (h : f (postAt s p) = g (postAt s p)) : updPost p f s = updPost p g s := by
  by_cases hp : p < 4
  · simp only [updPost, if_pos hp]
  · by_cases hlen : p - 4 < s.frt.posts.length
    · rw [updPost_eq_set (Nat.le_of_not_lt hp) hlen, updPost_eq_set (Nat.le_of_not_lt hp) hlen, h]
    · have beyond (f : Post → Post) : s.frt.posts.modify (p - 4) f = s.frt.posts :=
        List.modify_eq_self (Nat.le_of_not_lt hlen)
      simp only [updPost, if_neg hp, modFrt, beyond]

theorem updPost_updPost (p : Nat) (f g : Post → Post) (s : State) :
    updPost p g (updPost p f s) = updPost p (fun q => g (f q)) s := by
  unfold updPost
  split
  · rfl
  · simp only [modFrt, List.modify_modify_eq]
    rfl

theorem updPost_id (p : Nat) (s : State) : updPost p id s = s := by
  simp only [updPost, modFrt, List.modify_id, ite_self]

/-- The record of a post whose bus has a new slot, or none. -/
def Post.reslotted (slot : Option Nat) (q : Post) : Post :=
  match slot with
  | some j => { q with bus := some j }
  | none =>
    if q.state = .plugged then { q with bus := none, precond := false, state := .guest, mismatch := 0 }
    else { q with bus := none, precond := false }

/-- A post that loses its bus; PLUGGED becomes GUEST, which a pass takes too (R8 step 4). -/
theorem loseBus_eq (hp : 4 ≤ p) (s : State) : loseBus p s = updPost p (Post.reslotted none) s := by
  by_cases h : (postAt s p).state = .plugged
  · have hlen : p - 4 < s.frt.posts.length := by
      by_contra hlen
      have beyond : postAt s p = Post.initial := by simp [postAt, List.getD_eq_getElem?_getD, Nat.le_of_not_lt hlen]
      rw [beyond] at h
      exact absurd h (by decide)
    have plugged : (postAt (clearBusField p s) p).state = .plugged := by
      rw [clearBusField, postAt_updPost_same hp hlen]
      exact h
    have guest : setPostState p .guest (clearBusField p s) = updPost p (fun q => q.enter .guest) (clearBusField p s) :=
      setPostState_enters (by rw [plugged]; decide) (by simp [PostState.served])
    refine (if_pos h).trans (guest.trans ((updPost_updPost ..).trans (updPost_congr ?_)))
    simp [Post.reslotted, h, Post.enter, PostState.served, PostState.clearsPrev]
  · refine (if_neg h).trans (updPost_congr ?_)
    simp only [Post.reslotted, if_neg h]

/-- The record of post p once the rows stand: its bus's new slot, where it names a bus. -/
def repostedAt (old : State) (rows : List FleetRow) (p : Nat) (q : Post) : Post :=
  match (postAt old p).bus with
  | none => q
  | some k => q.reslotted (movedSlot old rows k)

/-- One post at a FLEET activation: the slot of the row that carries its bus's tag. -/
theorem repost_eq {old : State} {rows : List FleetRow} (hp : 4 ≤ p) :
    repost old rows p s = updPost p (repostedAt old rows p) s := by
  unfold repost
  cases hb : (postAt old p).bus with
  | none =>
    have same : repostedAt old rows p (postAt s p) = id (postAt s p) := by simp only [repostedAt, hb, id]
    exact (updPost_id p s).symm.trans (updPost_congr same.symm)
  | some k =>
    cases hm : movedSlot old rows k with
    | none =>
      simp only [hm]
      exact (loseBus_eq hp s).trans (updPost_congr (by simp only [repostedAt, hb, hm]))
    | some j =>
      simp only [hm]
      exact updPost_congr (by simp only [repostedAt, hb, hm, Post.reslotted])

/-- The posts of a FLEET activation. -/
theorem postAt_reposted {old : State} {rows : List FleetRow} (hp : p ∈ postNos) (hlen : p - 4 < s.frt.posts.length) :
    postAt (postNos.foldl (fun t p => repost old rows p t) s) p = repostedAt old rows p (postAt s p) := by
  have four {x : Nat} (hx : x ∈ postNos) : 4 ≤ x := (List.mem_range'_1.1 hx).1
  have steps : postNos.foldl (fun t p => repost old rows p t) s =
      postNos.foldl (fun t x => updPost x (repostedAt old rows x) t) s :=
    List.foldl_ext _ _ _ fun t x hx => repost_eq (four hx)
  have nodup : postNos.Nodup := List.nodup_range'
  rw [steps, postAt_foldl_updPost _ nodup s (four hp) hlen, if_pos hp]

end

/-! ### The activation -/

section
variable {s : State} {content : Option (List Row)} {l : List FleetRow}

/-- The rows of a FLEET activation stand, before the posts follow them. -/
def fleetStands (l : List FleetRow) (s : State) : State := { s with
  frt := { s.frt with buses := l.map (fleetSlot s), tagMap := l.mapIdx (fun k r => (r.tag, k)) }
  rdu := { s.rdu with
    lastOutcomes := l.map (fleetOutcome s), legs := s.rdu.legs.map (fun x => { x with infeasible := false }) } }

theorem activateFleet_gives (h : content = some (l.map .fleet) ∨ content = none ∧ l.map Row.fleet = []) :
    activateFleet content s = buildStorage (postNos.foldl (fun t p => repost s l p t) (fleetStands l s)) := by
  unfold activateFleet
  rw [content_getD h, fleetRows_map]
  rfl

/-- The posts alone follow the rows. -/
theorem reposted_keeps (old : State) (rows : List FleetRow) (s : State) :
    let t := postNos.foldl (fun t p => repost old rows p t) s
    t.frt.buses = s.frt.buses ∧ t.frt.tagMap = s.frt.tagMap ∧ t.frt.plugQ = s.frt.plugQ ∧ t.sli = s.sli ∧ t.ylc = s.ylc ∧
      t.sbu = s.sbu ∧ t.rdu = s.rdu ∧ t.ale = s.ale ∧ t.rsu = s.rsu ∧ t.stp = s.stp ∧ t.tsm = s.tsm := by
  have steps : postNos.foldl (fun t p => repost old rows p t) s =
      postNos.foldl (fun t x => updPost x (repostedAt old rows x) t) s :=
    List.foldl_ext _ _ _ fun t x hx => repost_eq (List.mem_range'_1.1 hx).1
  intro t
  rw [show t = _ from steps]
  simp

/-- The record of a bus whose row's tag is new, or known. -/
theorem fleetSlot_new {r : FleetRow} (h : (taggedBus s r.tag).bind (busAt s) = none) : fleetSlot s r = busOfRow r := by
  simp only [fleetSlot, h]

theorem fleetSlot_known {r : FleetRow} {j : Nat} {old : Bus} (hj : taggedBus s r.tag = some j) (hb : busAt s j = some old) :
    fleetSlot s r = { old with
      fleetNo := r.fleetNo, tag := r.tag, capacity := r.capacity, v2g := r.v2g, cls := serviceClassOf r.cls
      target := (busOfRow r).target, held := old.held.map (fun h => { h with energy := min h.energy r.capacity }) } := by
  simp only [fleetSlot, hj, Option.bind_some, hb]
  rfl

theorem movedSlot_eq (s : State) (rows : List FleetRow) (k : Nat) : movedSlot s rows k =
    (s.frt.tagMap.find? (fun e => e.2 = k)).bind (fun e => rows.findIdx? (fun r => r.tag = e.1)) := by
  unfold movedSlot
  cases s.frt.tagMap.find? (fun e => e.2 = k) <;> rfl

/-- The tags, the buses, the last outcomes and the storage table of a FLEET activation. -/
theorem activateFleet_tables (h : content = some (l.map .fleet) ∨ content = none ∧ l.map Row.fleet = []) :
    let u := activateFleet content s
    u.frt.tagMap = l.mapIdx (fun k r => (r.tag, k)) ∧ u.frt.buses = l.map (fleetSlot s) ∧
    u.rdu = { s.rdu with
      lastOutcomes := l.map (fleetOutcome s), legs := s.rdu.legs.map (fun x => { x with infeasible := false }) } ∧
    u.stp = { s.stp with table := u.frt.buses.map (fun b => storageEntryFor s.stp.band b.capacity (firstClass b)) } := by
  intro u
  have eq : u = buildStorage (postNos.foldl (fun t p => repost s l p t) (fleetStands l s)) := activateFleet_gives h
  let x := postNos.foldl (fun t p => repost s l p t) (fleetStands l s)
  obtain ⟨kbuses, ktags, -, -, -, -, krdu, -, -, kstp, -⟩ := reposted_keeps s l (fleetStands l s)
  have buses : u.frt.buses = x.frt.buses := by rw [eq]; simp [x]
  refine ⟨?_, ?_, ?_, ?_⟩
  · rw [eq]
    exact (congrArg Frt.tagMap (keeps_buildStorage x).2.2.1).trans ktags
  · exact buses.trans kbuses
  · rw [eq]
    exact (by simp : (buildStorage x).rdu = x.rdu).trans krdu
  · rw [buses, eq]
    show ({ x.stp with table := _ } : Stp) = _
    rw [show x.stp = s.stp from kstp]

/-- What a FLEET activation leaves unchanged. -/
theorem activateFleet_keeps (h : content = some (l.map .fleet) ∨ content = none ∧ l.map Row.fleet = []) :
    let u := activateFleet content s
    u.frt.plugQ = s.frt.plugQ ∧ u.sli = s.sli ∧ u.ylc = s.ylc ∧ u.sbu = s.sbu ∧ u.rsu = s.rsu ∧ u.ale = s.ale ∧
      u.tsm = s.tsm := by
  intro u
  have eq : u = buildStorage (postNos.foldl (fun t p => repost s l p t) (fleetStands l s)) := activateFleet_gives h
  let x := postNos.foldl (fun t p => repost s l p t) (fleetStands l s)
  obtain ⟨-, -, kplug, ksli, kylc, ksbu, -, kale, krsu, -, ktsm⟩ := reposted_keeps s l (fleetStands l s)
  have kept : (buildStorage x).frt.plugQ = x.frt.plugQ ∧ (buildStorage x).sli = x.sli ∧ (buildStorage x).ylc = x.ylc ∧
      (buildStorage x).sbu = x.sbu ∧ (buildStorage x).rsu = x.rsu ∧ (buildStorage x).ale = x.ale ∧
      (buildStorage x).tsm = x.tsm := by simp
  obtain ⟨bplug, bsli, bylc, bsbu, brsu, bale, btsm⟩ := kept
  rw [eq]
  exact ⟨bplug.trans kplug, bsli.trans ksli, bylc.trans kylc, bsbu.trans ksbu, brsu.trans krsu, bale.trans kale, btsm.trans ktsm⟩

/-- Each post at a FLEET activation. -/
theorem activateFleet_posts (h : content = some (l.map .fleet) ∨ content = none ∧ l.map Row.fleet = [])
    (hlen : s.frt.posts.length = 64) {p : Nat} (h4 : 4 ≤ p) (h67 : p ≤ 67) :
    postAt (activateFleet content s) p = repostedAt s l p (postAt s p) := by
  rw [activateFleet_gives h]
  have mem : p ∈ postNos := List.mem_range'_1.2 ⟨h4, by omega⟩
  have len : p - 4 < (fleetStands l s).frt.posts.length := by
    show p - 4 < s.frt.posts.length
    omega
  exact (postAt_reposted mem len : _)

end
end Sys2Proof.Machine
end

section
/-! The departure list rebuilt (R100 step 4, R93, R90): the DUE entries kept, those closed by now, and the legs taken. -/

namespace Sys2Proof.Machine

section
variable {s : State}

/-- The state with a departure list. -/
def withList (l : List DepEntry) (s : State) : State := { s with rdu := { s.rdu with list := l } }

/-- A fold whose steps agree where an invariant holds that they keep. -/
theorem foldl_ext_of_keeps {α : Type} {P : State → Prop} {f g : State → α → State} {l : List α} {s : State} (hs : P s)
    (keep : ∀ u a, P u → P (f u a)) (same : ∀ u a, P u → f u a = g u a) : l.foldl f s = l.foldl g s := by
  induction l generalizing s with
  | nil => rfl
  | cons a l ih => rw [List.foldl_cons, List.foldl_cons, ← same s a hs, ih (keep s a hs)]

/-- A list taken with no room holds the kept entries at their ROUTE places. -/
theorem takeEntries_zero (s : State) (kept : List DepEntry) (legs : List Leg) :
    takeEntries s kept 0 legs = legs.filterMap (fun l => kept.find? (fun e => e.legNo = l.row.legNo)) := by
  induction legs with
  | nil => rfl
  | cons l ls ih =>
    cases h : kept.find? (fun e => e.legNo = l.row.legNo) with
    | some e => simp only [takeEntries, List.filterMap_cons, h, ih]
    | none => simp only [takeEntries, List.filterMap_cons, h, ih, ite_self]

/-- Does a leg take a place that no kept entry holds? -/
def joinsList (s : State) (kept : List DepEntry) (l : Leg) : Bool := openToday s l && !kept.any (fun e => e.legNo = l.row.legNo)

/-- The entry at a leg's place, where `before` legs before it have joined the list. -/
def entryTaken (s : State) (kept : List DepEntry) (room before : Nat) (l : Leg) : Option DepEntry :=
  match kept.find? (fun e => e.legNo = l.row.legNo) with
  | some e => some e
  | none => if openToday s l = true ∧ before < room then some ⟨l.row.legNo, none⟩ else none

/-- The entries taken behind some legs already passed. -/
theorem takeEntries_behind (s : State) (kept : List DepEntry) (room : Nat) (before legs : List Leg) :
    takeEntries s kept (room - (before.filter (joinsList s kept)).length) legs =
      (legs.zipIdx before.length).filterMap (fun q =>
        entryTaken s kept room (((before ++ legs).take q.2).filter (joinsList s kept)).length q.1) := by
  induction legs generalizing before with
  | nil => rfl
  | cons l ls ih =>
    have next := ih (before ++ [l])
    rw [List.append_assoc, List.singleton_append, List.length_append, List.length_singleton, List.filter_append,
      List.length_append] at next
    have passed : (before ++ l :: ls).take before.length = before := List.take_left' rfl
    rw [List.zipIdx_cons, List.filterMap_cons, passed, ← next]
    cases h : kept.find? (fun e => e.legNo = l.row.legNo) with
    | some e =>
      have stays : joinsList s kept l = false := by
        have mem := List.mem_of_find?_eq_some h
        have num := List.find?_some h
        simp only [joinsList, Bool.and_eq_false_iff, Bool.not_eq_false', List.any_eq_true]
        exact .inr ⟨e, mem, num⟩
      simp [takeEntries, entryTaken, h, stays]
    | none =>
      have joins : joinsList s kept l = openToday s l := by
        have absent : kept.any (fun e => e.legNo = l.row.legNo) = false := by simpa using h
        simp [joinsList, absent]
      by_cases ho : openToday s l = true
      · have joined : ([l].filter (joinsList s kept)).length = 1 := by simp [joins, ho]
        rw [joined]
        by_cases hr : (before.filter (joinsList s kept)).length < room
        · obtain ⟨n, hn⟩ : ∃ n, room - (before.filter (joinsList s kept)).length = n + 1 :=
          ⟨room - (before.filter (joinsList s kept)).length - 1, by omega⟩
          have rest : room - ((before.filter (joinsList s kept)).length + 1) = n := by omega
          rw [hn, rest]
          simp [takeEntries, entryTaken, h, ho, hr]
        · have full : room - (before.filter (joinsList s kept)).length = 0 := by omega
          have rest : room - ((before.filter (joinsList s kept)).length + 1) = 0 := by omega
          rw [full, rest]
          simp [takeEntries, entryTaken, h, ho, hr]
      · have joined : ([l].filter (joinsList s kept)).length = 0 := by simp [joins, ho]
        rw [joined]
        simp [takeEntries, entryTaken, h, ho]

/-- The entries taken: kept entries at their places, and the first open legs without one while there is room. -/
theorem takeEntries_eq (s : State) (kept : List DepEntry) (room : Nat) (legs : List Leg) :
    takeEntries s kept room legs = legs.zipIdx.filterMap (fun q =>
      entryTaken s kept room ((legs.take q.2).filter (joinsList s kept)).length q.1) :=
  takeEntries_behind s kept room [] legs

/-! ### The kept entries (R100 step 4) -/

/-- The clock and the settings of a state, which the list's rules leave. -/
def SameMinute (s u : State) : Prop := u.rdu.clock = s.rdu.clock ∧ u.tsm.settings = s.tsm.settings

theorem sameMinute_closeKept {u : State} (h : SameMinute s u) (n : Nat) : SameMinute s (closeKept n u) := by
  obtain ⟨clock, settings⟩ := h
  exact ⟨by simpa using clock, by simpa using settings⟩

/-- A kept entry closes at the close minute of its leg. -/
theorem closeKept_eq {u : State} (h : SameMinute s u) (n : Nat) :
    closeKept n u = match findLeg u.rdu.legs n with
      | none => u
      | some l =>
        if l.row.departure + s.tsm.settings.grace ≤ s.rdu.clock.minute then
          withList ((closeLeg l u).rdu.list.filter (fun d => d.legNo ≠ n)) (closeLeg l u)
        else u := by
  obtain ⟨clock, settings⟩ := h
  unfold closeKept
  cases findLeg u.rdu.legs n with
  | none => rfl
  | some l =>
    have reached : closeReached u false l = decide (l.row.departure + s.tsm.settings.grace ≤ s.rdu.clock.minute) := by
      rw [Bool.eq_iff_iff, closeReached_iff, clock, settings, decide_eq_true_iff]
      simp
    simp only [reached, decide_eq_true_iff]
    rfl

/-- The kept entries, and those of them closed by now, in ROUTE order. -/
theorem holdDue_eq (s : State) :
    let places := s.rdu.legs.filterMap (fun l => (keptDue s).find? (fun e => e.legNo = l.row.legNo))
    holdDue s = places.foldl (fun u e => closeKept e.legNo u) (withList places s) := by
  intro places
  have listedAll : holdDue s = (places.map DepEntry.legNo).foldl (fun u n => closeKept n u) (withList places s) := by
    unfold holdDue listed
    dsimp only
    simp only [takeEntries_zero]
    rfl
  rw [listedAll, List.foldl_map]

theorem sameMinute_holdDue (s : State) : SameMinute s (holdDue s) := ⟨by simp, by simp⟩

/-- The list rebuilt under a set clock. -/
theorem rebuildList_of_set (h : s.rdu.clock.set = true) :
    let shut := holdDue s
    let taken := takeEntries shut shut.rdu.list (8 - shut.rdu.list.length) shut.rdu.legs
    rebuildList s =
      taken.foldl (fun u e => fallDue (fun l => l.row.departure ≤ s.rdu.clock.minute) e.legNo u) (withList taken shut) := by
  intro shut taken
  obtain ⟨clock, settings⟩ := sameMinute_holdDue s
  have set' : shut.rdu.clock.set = true := by rw [clock, h]
  have minute : shut.rdu.clock.minute = s.rdu.clock.minute := by rw [clock]
  refine (if_pos h).trans ((if_pos set').trans ?_)
  rw [fallDueAll_eq, minute]
  rfl

end
end Sys2Proof.Machine
end

section
/-! A station that loses its row at a YARD activation (R45, R22, R58): its record, its posts, their buses, and the visit or the
POOL under way. -/

namespace Sys2Proof.Machine

/-! ### A field of the posts that a change leaves -/

/-- A change of one post leaves what it leaves of a record, in every post. -/
theorem updPost_leaves {β : Type} {φ : Post → β} {f : Post → Post} (hf : ∀ q, φ (f q) = φ q) (p x : Nat) (s : State) :
    φ (postAt (updPost p f s) x) = φ (postAt s x) := by
  by_cases hp : p < 4
  · rw [updPost, if_pos hp]
  · rw [updPost_eq_mapIdx (not_lt.1 hp), postAt, postAt, List.getD_eq_getElem?_getD, List.getD_eq_getElem?_getD]
    dsimp only
    rw [List.getElem?_mapIdx]
    cases s.frt.posts[x - 4]? with
    | none => rfl
    | some q =>
      simp only [Option.map_some, Option.getD_some]
      split
      · exact hf q
      · rfl

theorem unlocateAll_sentGrant (c x : Nat) (s : State) : (postAt (unlocateAll c s) x).sentGrant = (postAt s x).sentGrant := by
  refine foldl_keeps (fun s => (postAt s x).sentGrant) _ (fun s p => ?_) _ s
  unfold unlocate
  split
  · rfl
  · exact updPost_leaves (φ := Post.sentGrant) (f := fun q => { q with bus := none, precond := false }) (fun _ => rfl) p x s

theorem entered_kept (q : Post) (st : PostState) :
    (q.entered st).state = st ∧ (q.entered st).bus = q.bus ∧ (q.entered st).sentGrant = q.sentGrant := by
  unfold Post.entered
  split
  · next h => exact ⟨h, rfl, rfl⟩
  · exact ⟨rfl, rfl, rfl⟩

theorem postAt_beyond {p : Nat} {s : State} (h : s.frt.posts.length ≤ p - 4) : postAt s p = Post.initial := by
  unfold postAt
  rw [List.getD_eq_default _ _ h]

/-! ### The station -/

section
variable {c : Nat} {s : State}

/-- The record of a station without a row. -/
def Cabinet.rowless (stands : Bool) (r : Cabinet) : Cabinet := { r with
  configured := false, link := if stands then .offline else .unconfigured, bidir := false, ratings := [0, 0, 0, 0]
  desired := none, reported := none, pool := Sequencer.initial none }

/-- Does the charge-back of a station stand (R44)? -/
def chargeStands (c : Nat) (s : State) : Bool := decide ((cabAt s c).age < fallbackTicks s)

/-- What a station without a row leaves: its record, its posts, their buses, the plug events, and every other station. -/
structure Rowless (c : Nat) (s t : State) : Prop where
  own   : cabAt t c = (cabAt s c).rowless (chargeStands c s)
  cabs  : ∀ d, d ≠ c → cabAt t d = cabAt s d
  other : ∀ p, 4 ≤ p → p / 4 ≠ c → postAt t p = postAt s p
  posts : ∀ p, p / 4 = c → (postAt t p).state = .offline ∧ (postAt t p).bus = none ∧ (postAt t p).rating = 0 ∧
    (postAt t p).sentGrant = if chargeStands c s then (postAt s p).sentGrant else 0
  queue : t.frt.plugQ = s.frt.plugQ.filter (fun e => e.cabinet ≠ c)
  buses : ∀ k, busAt t k = if ∃ p ∈ postsOf c, (postAt s p).bus = some k then (busAt s k).map Bus.freed else busAt s k

/-- The station's record, with the sent grants where the charge-back has ended. -/
def rowDropped (c : Nat) (s : State) : State :=
  let s1 := updCab c (Cabinet.rowless (chargeStands c s)) (abandonVisit c s)
  removeEvents c (if chargeStands c s then s1 else clearSent c s1)

theorem unconfigure_eq (c : Nat) (s : State) : unconfigure c s =
    (postsOf c).foldl (fun s p => updPost p (fun q => { q with rating := 0 }) s)
      (enterAll c .offline (unlocateAll c (rowDropped c s))) := rfl

/-- A station's row dropped: the cabinets, the buses and the plug events. -/
theorem rowDropped_keeps (c : Nat) (s : State) :
    let t := rowDropped c s
    t.ylc = (updCab c (Cabinet.rowless (chargeStands c s)) (abandonVisit c s)).ylc ∧ t.frt.buses = s.frt.buses ∧
      t.frt.plugQ = s.frt.plugQ.filter (fun e => e.cabinet ≠ c) ∧ t.frt.posts.length = s.frt.posts.length := by
  have length (u : State) : (clearSent c u).frt.posts.length = u.frt.posts.length :=
    congrArg (fun x => x.2.2.2.1) (still_clearSent c u)
  unfold rowDropped
  cases chargeStands c s <;> simp [removeEvents, length]

/-- A station's row dropped: its posts. -/
theorem rowDropped_posts {p : Nat} (hp : HasPost p s) : postAt (rowDropped c s) p =
    if p / 4 = c ∧ chargeStands c s = false then { postAt s p with sentGrant := 0 } else postAt s p := by
  have start (g : Bool) : postAt (updCab c (Cabinet.rowless g) (abandonVisit c s)) p = postAt s p := postAt_congr (by simp)
  have length (g : Bool) : (updCab c (Cabinet.rowless g) (abandonVisit c s)).frt.posts.length = s.frt.posts.length := by simp
  have events (u : State) : postAt (removeEvents c u) p = postAt u p := rfl
  unfold rowDropped
  dsimp only
  rw [events]
  cases h : chargeStands c s with
  | true => simpa using start true
  | false =>
    have cleared := postAt_clearSent (c := c) (s := updCab c (Cabinet.rowless false) (abandonVisit c s)) hp.1
      (by rw [length]; exact hp.2)
    rw [start] at cleared
    simpa using cleared

/-- A station without a row, in its parts. -/
theorem unconfigure_parts (hc : IsStation c) (hlen : s.ylc.cabinets.length = 16) (hposts : s.frt.posts.length = 64) :
    Rowless c s (unconfigure c s) := by
  let first := rowDropped c s
  let freed := unlocateAll c first
  let entered := enterAll c .offline freed
  obtain ⟨first_ylc, first_buses, first_queue, first_size⟩ := rowDropped_keeps c s
  have size : first.frt.posts.length = 64 := first_size.trans hposts
  have room {p : Nat} (hp : p ∈ postsOf c) : HasPost p first := hasPost_of_station hc size (mem_postsOf_iff.1 hp)
  have frees : Unlocated (postsOf c) first freed := unlocated_foldl (postsOf_nodup c) first fun p hp => room hp
  have enters : Entered (postsOf c) .offline freed entered := enterAll_entered hc rfl freed
  have start {p : Nat} (h4 : 4 ≤ p) (h67 : p - 4 < s.frt.posts.length) := rowDropped_posts (c := c) (s := s) ⟨h4, h67⟩
  have rated {p : Nat} (h4 : 4 ≤ p) (hroom : p - 4 < entered.frt.posts.length) :=
    postAt_foldl_updPost (fun _ q => { q with rating := 0 }) (postsOf_nodup c) entered h4 hroom
  have ylc : (unconfigure c s).ylc = (updCab c (Cabinet.rowless (chargeStands c s)) (abandonVisit c s)).ylc := by
    rw [unconfigure_eq, ← first_ylc]
    simp
  have frt : (unconfigure c s).frt.buses = freed.frt.buses ∧ (unconfigure c s).frt.plugQ = first.frt.plugQ := by
    rw [unconfigure_eq]
    simp [freed, first]
  have visited (d : Nat) : cabAt (abandonVisit c s) d = cabAt s d := by simp [cabAt]
  refine ⟨?own, fun d hd => ?cabs, fun p hp hne => ?other, fun p hpc => ?posts, frt.2.trans first_queue, fun k => ?buses⟩
  case own =>
    rw [cabAt_of_ylc ylc, cabAt_updCab_same hc (by simpa using hlen), visited]
  case cabs =>
    rw [cabAt_of_ylc ylc, cabAt_updCab_other hd, visited]
  case other =>
    have away : p ∉ postsOf c := mt mem_postsOf_iff.1 hne
    rw [unconfigure_eq]
    refine (postAt_foldl_updPost_other _ _ hp away).trans ((enters.others p hp away).trans ((frees.other p hp away).trans ?_))
    by_cases hroom : p - 4 < s.frt.posts.length
    · rw [start hp hroom, if_neg fun h => hne h.1]
    · rw [postAt_beyond (Nat.not_lt.1 hroom), postAt_beyond (by rw [first_size]; exact Nat.not_lt.1 hroom)]
  case posts =>
    have here : p ∈ postsOf c := mem_postsOf_iff.2 hpc
    have own := hasPost_of_station hc hposts hpc
    have wide : p - 4 < freed.frt.posts.length := frees.size.symm ▸ (room here).2
    obtain ⟨bus, state⟩ := frees.posts p here
    obtain ⟨estate, ebus, esent⟩ := entered_kept (postAt freed p) .offline
    have sent : (postAt freed p).sentGrant = (postAt first p).sentGrant := unlocateAll_sentGrant c p first
    rw [unconfigure_eq, rated own.1 (enters.size.symm ▸ wide), if_pos here]
    dsimp only
    rw [enters.posts p here wide, estate, ebus, esent, bus, sent, start own.1 own.2]
    refine ⟨rfl, rfl, rfl, ?_⟩
    cases chargeStands c s <;> simp [hpc]
  case buses =>
    have named : (∃ p ∈ postsOf c, (postAt first p).bus = some k) ↔ ∃ p ∈ postsOf c, (postAt s p).bus = some k :=
      exists_congr fun p => and_congr_right fun hp => by
        have own := hasPost_of_station hc hposts (mem_postsOf_iff.1 hp)
        rw [start own.1 own.2]
        split <;> rfl
    have stood : busAt first k = busAt s k := by rw [busAt, first_buses]; rfl
    rw [show busAt (unconfigure c s) k = busAt freed k by rw [busAt, frt.1]; rfl, frees.buses k, stood]
    simp only [named]

/-- The link and the round that a station without a row leaves (R45, R58). -/
theorem unconfigure_link (c : Nat) (s : State) :
    let t := unconfigure c s
    let v := abandonVisit c s
    t.ylc.link = v.ylc.link ∧ t.ylc.round = v.ylc.round ∧ t.ylc.poolClaim = v.ylc.poolClaim ∧ t.ylc.fwdClaim = v.ylc.fwdClaim := by
  intro t v
  have ylc : t.ylc = (updCab c (Cabinet.rowless (chargeStands c s)) v).ylc := by
    rw [show t = _ from unconfigure_eq c s, ← (rowDropped_keeps c s).1]
    simp
  rw [ylc]
  simp

theorem abandonVisit_visit {w : Nat} {p : VisitPhase} (h : s.ylc.round = .visit c w p) :
    (abandonVisit c s).ylc.round = .between c ∧ (abandonVisit c s).ylc.fwdClaim = true ∧
      ∀ t g, s.ylc.link = .exchange t g → (abandonVisit c s).ylc.link = .free := by
  simp only [abandonVisit, modYlc, h]
  refine ⟨by simp, by simp, fun t g hl => by simp [hl]⟩

theorem abandonVisit_round {d w : Nat} {p : VisitPhase} (h : s.ylc.round = .visit d w p) (hd : d ≠ c) :
    (abandonVisit c s).ylc.round = s.ylc.round := by
  simp [abandonVisit, modYlc, h, hd]

theorem abandonVisit_pool {d : Nat} (h : s.ylc.link = .poolAwait d) :
    (abandonVisit c s).ylc.link = if d = c then .free else .poolAwait d := by
  simp only [abandonVisit, modYlc, h]

theorem abandonVisit_claim : (abandonVisit c s).ylc.poolClaim = if s.ylc.poolClaim = some c then none else s.ylc.poolClaim := rfl

end
end Sys2Proof.Machine
end

section
/-! A station that takes a row at a YARD activation (R45, R49, R51, R57), and the station of an activation case by case. -/

namespace Sys2Proof.Machine

/-! ### What the sequencer's operations leave -/

/-- Of cabinet c's record the sequencer alone differs, of the posts those of cabinet c, and of no other cabinet anything. -/
structure Pools (c : Nat) (s t : State) : Prop where
  own   : ∃ x : Sequencer, cabAt t c = { cabAt s c with pool := x }
  cabs  : ∀ d, d ≠ c → cabAt t d = cabAt s d
  other : ∀ p, 4 ≤ p → p / 4 ≠ c → postAt t p = postAt s p
  size  : t.ylc.cabinets.length = s.ylc.cabinets.length

theorem Pools.refl (c : Nat) (s : State) : Pools c s s := ⟨⟨_, rfl⟩, fun _ _ => rfl, fun _ _ _ => rfl, rfl⟩

theorem Pools.trans {c : Nat} {s t u : State} (h : Pools c s t) (h' : Pools c t u) : Pools c s u where
  own := by
    obtain ⟨x, own⟩ := h.own
    obtain ⟨y, own'⟩ := h'.own
    rw [own] at own'
    exact ⟨y, own'⟩
  cabs d hd := (h'.cabs d hd).trans (h.cabs d hd)
  other p hp hc := (h'.other p hp hc).trans (h.other p hp hc)
  size := h'.size.trans h.size

theorem Sequences.pools {c : Nat} {s t : State} (h : Sequences c s t) : Pools c s t where
  own := by
    obtain ⟨x, -, own⟩ := h.own
    exact ⟨x, own⟩
  cabs := h.cabs
  other := h.other
  size := h.sizes.1

section
variable {c : Nat} {s : State} (hc : IsStation c)
include hc

theorem refeedAll_other {p : Nat} (hp : 4 ≤ p) (hne : p / 4 ≠ c) : postAt (refeedAll c s) p = postAt s p :=
  (refeedAll_moved hc s).others p hp (mt mem_postsOf_iff.1 hne)

omit hc in
theorem cabAt_refeedAll (d : Nat) : cabAt (refeedAll c s) d = cabAt s d := by simp [cabAt]

theorem pools_refeedAll : Pools c s (refeedAll c s) where
  own := ⟨_, cabAt_refeedAll c⟩
  cabs d _ := cabAt_refeedAll d
  other _ hp hne := refeedAll_other hc hp hne
  size := by simp

theorem pools_setModeInForce (hlen : s.ylc.cabinets.length = 16) (m : Option Mode) : Pools c s (setModeInForce c m s) := by
  unfold setModeInForce
  split
  · exact .refl c s
  · refine Pools.trans ⟨⟨_, cabAt_updCab_same hc hlen⟩, fun d hd => cabAt_updCab_other hd, fun p _ _ => postAt_congr (by simp), ?_⟩
      (pools_refeedAll hc)
    exact cabinets_length_updCab _ _ _

theorem sequences_wantMode (hlen : s.ylc.cabinets.length = 16) (d : Mode) : Sequences c s (wantMode c d s) := by
  unfold wantMode
  dsimp only
  split
  · exact sequences_compareMode hc hlen _
  · have pooled := sequences_updPool hc (f := fun q => { q with state := .done, cause := none }) (fun _ => rfl) hlen
    exact pooled.trans (sequences_compareMode hc (pooled.sizes.1.trans hlen) _)
  · split
    · exact .refl c s
    · split
      · exact sequences_updPool hc (fun _ => by rfl) hlen
      · exact sequences_reformSet hc hlen d
  · exact sequences_updPool hc (fun _ => by rfl) hlen
  · exact .refl c s

end

/-! ### A station with a row -/

section
variable {c : Nat} {r : YardRow} {s : State} (hc : IsStation c) (hlen : s.ylc.cabinets.length = 16)
include hc hlen

/-- A configured station with the static fields of its new row. -/
def rowTaken (c : Nat) (r : YardRow) (s : State) : State := updCab c (fun q => q.withRow r) s

/-- The posts of a configured station under its new row, before the desired mode is looked at. -/
def rowFollowed (c : Nat) (r : YardRow) (s : State) : State :=
  let seen := if (cabAt s c).reported = none then setModeInForce c (modeOfMap r.map) (rowTaken c r s) else rowTaken c r s
  if (cabAt s c).ratings = r.ratings then seen else refeedAll c seen

omit hc hlen in
theorem reconfigure_eq : reconfigure c r s =
    match modeOfMap r.map with
    | none => rowFollowed c r s
    | some d => wantMode c d (rowFollowed c r s) := by
  unfold reconfigure rowFollowed
  simp only [Option.isNone_iff_eq_none]
  rfl

theorem rowTaken_cabs : cabAt (rowTaken c r s) c = (cabAt s c).withRow r ∧ (∀ d, d ≠ c → cabAt (rowTaken c r s) d = cabAt s d) ∧
    (∀ p, postAt (rowTaken c r s) p = postAt s p) ∧ (rowTaken c r s).ylc.cabinets.length = 16 :=
  ⟨cabAt_updCab_same hc hlen, fun _ hd => cabAt_updCab_other hd, fun _ => postAt_congr (by simp [rowTaken]),
    (cabinets_length_updCab _ _ _).trans hlen⟩

theorem pools_reconfigure : Pools c (rowTaken c r s) (reconfigure c r s) := by
  obtain ⟨-, -, -, size⟩ := rowTaken_cabs (r := r) hc hlen
  have seen : Pools c (rowTaken c r s)
      (if (cabAt s c).reported = none then setModeInForce c (modeOfMap r.map) (rowTaken c r s) else rowTaken c r s) := by
    split
    · exact pools_setModeInForce hc size _
    · exact .refl c _
  have followed : Pools c (rowTaken c r s) (rowFollowed c r s) := by
    unfold rowFollowed
    dsimp only
    split
    · exact seen
    · exact seen.trans (pools_refeedAll hc)
  rw [reconfigure_eq]
  split
  · exact followed
  · exact followed.trans (sequences_wantMode hc (followed.size.trans size) _).pools

/-- A configured station keeps its dynamic fields and takes its row. -/
theorem reconfigure_record :
    let t := reconfigure c r s
    (∃ x : Sequencer, cabAt t c = { (cabAt s c).withRow r with pool := x }) ∧ SameElsewhere c s t := by
  obtain ⟨own, cabs, posts, -⟩ := rowTaken_cabs (r := r) hc hlen
  have pools := pools_reconfigure (r := r) hc hlen
  obtain ⟨x, record⟩ := pools.own
  rw [own] at record
  exact ⟨⟨x, record⟩, fun d _ hd => (pools.cabs d hd).trans (cabs d hd),
    fun p hp hne => (pools.other p hp hne).trans (posts p)⟩

/-- An OFFLINE station that takes a row again. -/
theorem rejoin_record :
    let t := rejoin c r s
    cabAt t c = { (cabAt s c).withRow r with pool := Sequencer.initial (modeOfMap r.map) } ∧ SameElsewhere c s t := by
  intro t
  refine ⟨(cabAt_refeedAll c).trans (cabAt_updCab_same hc hlen), fun d _ hd => (cabAt_refeedAll d).trans (cabAt_updCab_other hd),
    fun p hp hne => (refeedAll_other hc hp hne).trans (postAt_congr (by simp))⟩

/-- An UNCONFIGURED station that takes a row. -/
theorem configure_record (hposts : s.frt.posts.length = 64) :
    let t := configure c r s
    cabAt t c = Cabinet.fresh r ∧ SameElsewhere c s t ∧
      ∀ p, p / 4 = c → (postAt t p).state = .unknown ∧ (postAt t p).bus = (postAt s p).bus ∧
        (postAt t p).rating = pooledRating r.ratings (modeOfMap r.map) (p % 4) := by
  intro t
  let fresh := updCab c (fun _ => Cabinet.fresh r) s
  let entered := enterAll c .unknown fresh
  have enters : Entered (postsOf c) .unknown fresh entered := enterAll_entered hc rfl fresh
  have own : cabAt entered c = Cabinet.fresh r :=
    (show cabAt entered c = cabAt fresh c by simp [cabAt, entered]).trans (cabAt_updCab_same hc hlen)
  have posts (p : Nat) : postAt fresh p = postAt s p := postAt_congr (by simp [fresh])
  refine ⟨(cabAt_refeedAll c).trans own, ⟨fun d _ hd => ?_, fun p hp hne => ?_⟩, fun p hpc => ?_⟩
  · exact (cabAt_refeedAll d).trans ((show cabAt entered d = cabAt fresh d by simp [cabAt, entered]).trans (cabAt_updCab_other hd))
  · exact (refeedAll_other hc hp hne).trans ((enters.others p hp (mt mem_postsOf_iff.1 hne)).trans (posts p))
  · have here : p ∈ postsOf c := mem_postsOf_iff.2 hpc
    have room : HasPost p fresh := hasPost_of_station hc (by simp [fresh, hposts]) hpc
    obtain ⟨state, bus, -⟩ := entered_kept (postAt fresh p) .unknown
    have record := (refeedAll_moved hc entered).posts p here (enters.size.symm ▸ room.2)
    have arrived := enters.posts p here room.2
    have refed := (refed_cases (postAt entered p)
      (pooledRating (cabAt entered (p / 4)).ratings (cabAt entered (p / 4)).pool.inForce (p % 4)) (isFed entered p)).1
      (.inl (by rw [arrived]; exact state))
    rw [show postAt t p = _ from record.trans refed, arrived, hpc, own]
    exact ⟨state, bus.trans (congrArg Post.bus (posts p)), rfl⟩

end

/-! ### The station of an activation, case by case -/

section
variable {c : Nat} {l : List YardRow} {s : State}

theorem activateStation_none (h : l.find? (fun r => r.station = c) = none) :
    activateStation l c s = if (cabAt s c).configured = true then unconfigure c s else s := by
  unfold activateStation
  cases hcfg : (cabAt s c).configured <;> simp [h]

theorem activateStation_some {r : YardRow} (h : l.find? (fun r => r.station = c) = some r) :
    activateStation l c s =
      if (cabAt s c).configured = true then reconfigure c r s
      else if (cabAt s c).link = .offline then rejoin c r s
      else configure c r s := by
  unfold activateStation
  cases hcfg : (cabAt s c).configured with
  | true => simp [h]
  | false => cases hlink : (cabAt s c).link <;> simp [h]

end
end Sys2Proof.Machine
end

section
/-! The end of a store write and what its activation does (O36). -/

namespace Sys2Proof.Machine

theorem op_evalTariff_rebuildList (s : State) : (evalTariff (rebuildList s)).tsm.op = s.tsm.op := by simp

section
variable {s : State} {content : Option (List Row)} {l : List FleetRow}

/-- A FLEET activation: its tables, its posts, and what it leaves but for the pass asked for. -/
theorem applyFleet_parts (hposts : s.frt.posts.length = 64)
    (h : content = some (l.map .fleet) ∨ content = none ∧ l.map Row.fleet = []) :
    let u := applyActivation ⟨.fleet, content⟩ s
    u.frt.tagMap = l.mapIdx (fun k r => (r.tag, k)) ∧ u.frt.buses = l.map (fleetSlot s) ∧
    u.rdu = { s.rdu with
      lastOutcomes := l.map (fleetOutcome s), legs := s.rdu.legs.map (fun x => { x with infeasible := false }) } ∧
    u.stp = { s.stp with table := u.frt.buses.map (fun b => storageEntryFor s.stp.band b.capacity (firstClass b)) } ∧
    (∀ p, 4 ≤ p → p ≤ 67 → postAt u p = repostedAt s l p (postAt s p)) ∧
    u.frt.plugQ = s.frt.plugQ ∧ u.sli = s.sli ∧ u.ylc = s.ylc ∧ u.sbu = s.sbu ∧ u.rsu = s.rsu ∧ u.ale = (wantPass s).ale ∧
    u.tsm = (putActive .fleet content s).tsm := by
  intro u
  let x := activateFleet content (putActive .fleet content s)
  obtain ⟨tags, buses, rdu, stp⟩ := activateFleet_tables (s := putActive .fleet content s) h
  obtain ⟨plug, sli, ylc, sbu, rsu, ale, tsm⟩ := activateFleet_keeps (s := putActive .fleet content s) h
  obtain ⟨wsli, wtsm, wylc, wfrt, wsbu, wrdu, wrsu, wstp, wale⟩ := wantPass_frame x
  obtain ⟨-, -, -, -, -, -, -, -, sale⟩ := wantPass_frame s
  have op : x.tsm.op = s.tsm.op := by rw [show x.tsm = _ from tsm]; rfl
  have asks : u = wantPass x := rfl
  rw [asks, wfrt, wsli, wylc, wsbu, wrsu, wrdu, wstp, wtsm]
  refine ⟨tags, buses, rdu, stp, fun p h4 h67 => ?_, plug, sli, ylc, sbu, rsu, ?_, tsm⟩
  · exact (postAt_congr (congrArg Frt.posts wfrt)).trans
      (activateFleet_posts (s := putActive .fleet content s) h hposts h4 h67)
  · rw [wale, sale, op, ale]
    rfl

end

/-- What the entry into ISLAND tells, each notice with the reading of its moment. -/
theorem tellIsland_eq (s : State) : tellIsland s =
    if s.sbu.meter = .fresh ∨ s.sbu.meter = .stale then
      notice (.meterFallback s.tsm.settings.fallbackBudget) (tellAbandoned .island (islanded s))
    else tellAbandoned .island (islanded s) := by
  obtain ⟨-, -, clock⟩ := abandonDispatches_tells .island (islanded s)
  have reading : clockReading (tellAbandoned .island (islanded s)) = clockReading s := clockReading_of_clock clock
  unfold tellIsland notice
  rw [reading]
  rfl

theorem exists_postsOf_iff {c : Nat} {P : Nat → Prop} : (∃ p ∈ postsOf c, P p) ↔ ∃ i, i < 4 ∧ P (c * 4 + i) := by
  constructor
  · rintro ⟨p, hp, h⟩
    have hpc := mem_postsOf_iff.1 hp
    exact ⟨p % 4, by omega, by rwa [show c * 4 + p % 4 = p by omega]⟩
  · rintro ⟨i, hi, h⟩
    exact ⟨c * 4 + i, mem_postsOf_iff.2 (by omega), h⟩

/-- A station of an activation leaves every other station and its posts. -/
theorem activateStation_elsewhere {c : Nat} {l : List YardRow} {s : State} (hc : IsStation c) (hlen : s.ylc.cabinets.length = 16)
    (hposts : s.frt.posts.length = 64) : SameElsewhere c s (activateStation l c s) := by
  cases hrow : l.find? (fun r => r.station = c) with
  | none =>
    rw [activateStation_none hrow]
    split
    · obtain ⟨-, cabs, other, -⟩ := unconfigure_parts hc hlen hposts
      exact ⟨fun d _ hd => cabs d hd, other⟩
    · exact ⟨fun _ _ _ => rfl, fun _ _ _ => rfl⟩
  | some r =>
    rw [activateStation_some hrow]
    split
    · exact (reconfigure_record hc hlen).2
    · split
      · exact (rejoin_record hc hlen).2
      · exact (configure_record hc hlen hposts).2.1

/-- A configured station with its new row, written as the record it becomes. -/
theorem rowTaken_eq {c : Nat} {r : YardRow} {s : State} (hc : IsStation c) (hlen : s.ylc.cabinets.length = 16)
    (hcfg : (cabAt s c).configured = true) : rowTaken c r s = { s with ylc := { s.ylc with
      cabinets := s.ylc.cabinets.set (c - 1)
        { cabAt s c with bidir := r.bidir, ratings := r.ratings, desired := modeOfMap r.map } } } := by
  refine (updCab_eq_set hc hlen).trans ?_
  rw [Cabinet.withRow, ← hcfg]

/-- Settles O36. -/
theorem storeWriteEnds : Obligations.StoreWriteEnds := by
  refine ⟨?ends, ?activations, ?rebuilt, ?stations⟩
  case ends =>
    intro w s hp hw m ready applied idle leaves
    obtain ⟨commit, release, lock, code⟩ := writeEnds hp hw
    have counts (g : Segment) : leavingCounts s g = true ↔ leaves g := leavingCounts_iff
    refine ⟨fun g rows hj => ?_, fun g hj => ?_, lock, code⟩
    · obtain ⟨done, left, stayed⟩ := commit g rows hj
      exact ⟨done, fun h => left ((counts g).2 h), fun h => stayed (mt (counts g).1 h)⟩
    · intro written failed
      obtain ⟨left, stayed⟩ := release g hj
      exact ⟨fun h => left ((counts g).2 h), fun h => stayed (mt (counts g).1 h)⟩
  case activations =>
    intro s put asked gives today abandoned
    have same {g : Segment} {content : Option (List Row)} {t : State} (h : handContent g content (put g content) = t)
        (hop : t.tsm.op = s.tsm.op) : applyActivation ⟨g, content⟩ s = asked t := by
      subst h
      exact applyActivation_eq hop
    refine ⟨boundary_eq s, fun l content h => ?commitment, fun l content h => ?passage, fun l content h => ?tariff,
      fun g content h => ?settings, fun l content h => ?route, fun l content hsizes h => ?fleet, fun l => ?yard,
      fun h => ?left, fun h => ?closed, enterSafe_frame s, yardArrived_open, yardArrived_heard, fun hop hs => ?island, ?round⟩
    case commitment => exact same (activateCommitment_gives h) rfl
    case passage => exact same (activatePassage_gives h) rfl
    case tariff => exact same (activateTariff_gives h) (by simp [put])
    case settings =>
      intro band v x
      exact ⟨fun hs => same ((activateSettings_gives h).trans (changeSeason_same hs)) rfl,
        fun hs => same ((activateSettings_gives h).trans (changeSeason_new hs)) (op_evalTariff_rebuildList _)⟩
    case route =>
      exact same (activateRoute_gives h) (by simp [put])
    case fleet =>
      intro u slot row
      obtain ⟨hposts, -, -⟩ := hsizes
      obtain ⟨tags, buses, rdu, stp, posts, plug, sli, ylc, sbu, rsu, ale, tsm⟩ := applyFleet_parts hposts h
      have moves (k : Nat) : movedSlot s l k = row k := movedSlot_eq s l k
      have taken {k : Nat} {r : FleetRow} (hk : l[k]? = some r) : busAt u k = some (fleetSlot s r) := by
        rw [busAt, buses, List.getElem?_map, hk]
        rfl
      refine ⟨tags, by rw [buses, List.length_map], fun k r hk => ?_, fun p h4 h67 => ?_, plug, by rw [rdu], by rw [rdu],
        by rw [rdu], sli, ylc, sbu, rsu, ?_, tsm, stp⟩
      · intro new
        refine ⟨fun hn => (taken hk).trans (congrArg some (fleetSlot_new hn)),
          fun j old hj hb => (taken hk).trans (congrArg some (fleetSlot_known hj hb)), ?_⟩
        rw [rdu]
        show (l.map (fleetOutcome s))[k]? = _
        rw [List.getElem?_map, hk]
        rfl
      · intro q
        have record : postAt u p = repostedAt s l p q := posts p h4 h67
        refine ⟨fun hb => ?_, fun k j hb hj => ?_, fun k hb hj => ?_⟩ <;> rw [record, repostedAt, hb]
        · show q.reslotted (movedSlot s l k) = _
          rw [moves, hj]
          rfl
        · show q.reslotted (movedSlot s l k) = _
          rw [moves, hj]
          rfl
      · rw [ale]
        rfl
    case yard =>
      show wantPass (yardArrived (closeRound (stations.foldl
        (fun u c => activateStation (yardRows (l.map .yard)) c u) (put .yard (some (l.map .yard)))))) = _
      rw [yardRows_map]
      rfl
    case left => exact congrArg wantPass (yardLeft_open (s := put .yard none) h)
    case closed =>
      exact same (yardLeft_closed (s := put .yard none) h) rfl
    case island =>
      intro dropped metered told u
      obtain ⟨sli, tsm, op, sbu, rsu, ale, frt, ylc, rdu, stp⟩ := enterIsland_frame s
      have arrived : u = enterIsland s := yardArrived_silent hop hs
      have tells : tellIsland s = told := tellIsland_eq s
      rw [arrived]
      exact ⟨sli.trans (congrArg State.sli tells), tsm.trans (congrArg State.tsm tells), op, sbu, rsu, ale, ylc, frt, rdu, stp, by simp⟩
    case round =>
      intro stationAbove
      refine ⟨closeRound_on, fun c hr hn => ?_⟩
      intro cut
      have cut_eq : evalBand (wantPass (roundOver s)) = cut := congrArg evalBand (wantPass_roundOver s)
      rw [closeRound_cut hr hn, applyRoundDue_eq, cut_eq, show cut.ylc.roundDue = s.ylc.roundDue from roundDue_evalBand _]
  case rebuilt =>
    intro s minute withList notDeparted closed stays kept places shut stay isOpen joins taken
    have keeps : kept = keptDue s := by
      refine List.filter_congr fun e _ => ?_
      simp only [stays]
      cases findLeg s.rdu.legs e.legNo <;> simp [minute]
    have shuts : shut = holdDue s := by
      rw [holdDue_eq, ← keeps]
      exact (foldl_ext_of_keeps (P := SameMinute s) (s := withList places s) ⟨rfl, rfl⟩
        (fun u (e : DepEntry) hu => sameMinute_closeKept hu e.legNo)
        fun u (e : DepEntry) hu => closeKept_eq hu e.legNo).symm
    obtain ⟨clock, settings⟩ : SameMinute s shut := shuts ▸ sameMinute_holdDue s
    have opens : openToday shut = isOpen := by
      funext l
      unfold openToday
      rw [clock, settings]
      rfl
    have takes : taken = takeEntries shut stay (8 - stay.length) shut.rdu.legs := by
      rw [takeEntries_eq]
      unfold entryTaken joinsList
      rw [opens] <;> rfl
    refine ⟨fun h => if_neg (by rw [h]; exact Bool.false_ne_true), fun h => ?_⟩
    rw [rebuildList_of_set h, ← shuts, takes]
    rfl
  case stations =>
    intro c l s hc hsizes old u idle stands
    obtain ⟨hposts, hlen, -⟩ := hsizes
    have place (i : Nat) (hi : i < 4) : (c * 4 + i) / 4 = c ∧ (c * 4 + i) % 4 = i := by omega
    have standing : chargeStands c s = true ↔ stands := decide_eq_true_iff
    refine ⟨?elsewhere, fun h hcfg => ?_, fun h hcfg => ?rowless, fun r h => ?rowed⟩
    case elsewhere => exact activateStation_elsewhere hc hlen hposts
    case rowless =>
      have eq : u = unconfigure c s := (activateStation_none h).trans (if_pos hcfg)
      obtain ⟨own, cabs, other, posts, queue, buses⟩ := unconfigure_parts hc hlen hposts
      obtain ⟨link, round, poolClaim, fwdClaim⟩ := unconfigure_link c s
      have named (k : Nat) : (∃ p ∈ postsOf c, (postAt s p).bus = some k) ↔ ∃ i, i < 4 ∧ (postAt s (c * 4 + i)).bus = some k :=
        exists_postsOf_iff
      rw [eq, link, round, poolClaim, fwdClaim]
      refine ⟨?_, fun i hi => ?_, queue, fun k hk => ?_, fun k hk => ?_, fun hl => ?_, fun d hd hl => ?_, abandonVisit_claim,
        fun w p hr => abandonVisit_visit hr, fun d w p hr hd => abandonVisit_round hr hd⟩
      · rw [own]
        simp only [Cabinet.rowless, standing]
        rfl
      · obtain ⟨state, bus, rating, sent⟩ := posts (c * 4 + i) (place i hi).1
        simp only [standing] at sent
        exact ⟨state, bus, rating, sent⟩
      · rw [buses k, if_pos ((named k).2 hk)]
        rfl
      · rw [buses k, if_neg fun hp => by
          obtain ⟨i, hi, hb⟩ := (named k).1 hp
          exact hk i hi hb]
      · rw [abandonVisit_pool hl, if_pos rfl]
      · rw [abandonVisit_pool hl, if_neg hd]
    case rowed =>
      intro m
      refine ⟨fun hcfg => ?_, fun hcfg hlink => ?_, fun hcfg hlink => ?_⟩
      · have eq : u = reconfigure c r s := (activateStation_some h).trans (if_pos hcfg)
        obtain ⟨⟨x, own⟩, -⟩ := reconfigure_record (r := r) hc hlen
        rw [eq, own]
        refine ⟨rfl, rfl, rfl, rfl, rfl, rfl, rfl, rfl, rfl, rfl, fun d hd => ?_⟩
        intro rowed seen
        have taken : rowTaken c r s = rowed := rowTaken_eq hc hlen hcfg
        have mode : modeOfMap r.map = some d := hd
        rw [reconfigure_eq, mode, rowFollowed, taken]
      · have off : ¬ (cabAt s c).configured = true := by rw [hcfg]; exact Bool.false_ne_true
        have eq : u = rejoin c r s := (activateStation_some h).trans ((if_neg off).trans (if_pos hlink))
        obtain ⟨own, -⟩ := rejoin_record (r := r) hc hlen
        rw [eq, own]
        rfl
      · have off : ¬ (cabAt s c).configured = true := by rw [hcfg]; exact Bool.false_ne_true
        have eq : u = configure c r s := (activateStation_some h).trans ((if_neg off).trans (if_neg hlink))
        obtain ⟨own, -, posts⟩ := configure_record (r := r) hc hlen hposts
        rw [eq, own]
        refine ⟨rfl, fun i hi => ?_⟩
        obtain ⟨state, bus, rating⟩ := posts (c * 4 + i) (place i hi).1
        rw [(place i hi).2] at rating
        exact ⟨state, bus, rating⟩
    · exact (activateStation_none h).trans (if_neg (by rw [hcfg]; exact Bool.false_ne_true))

end Sys2Proof.Machine
end
